-- ==== Sys2Proof/Word.lean ====
section
/-! DEFINITION. Word types and units of time.

Registers are 32 bits wide (R13); bytes, half words and double words are the fields of the packet
layouts (R5, R6).  Time is counted as the part counts it: a counter of 25 ps units (R282), 64 of them to
one pixel-clock cycle (R125). -/

namespace Sys2Proof

abbrev Byte := BitVec 8
abbrev Half := BitVec 16
abbrev Word := BitVec 32
abbrev DWord := BitVec 64

/-- Units of 25 ps in the spec's units of time (R282). -/
abbrev tick : Nat := 1
abbrev usec : Nat := 40000
abbrev msec : Nat := 40000000
abbrev sec : Nat := 40000000000
/-- One pixel-clock cycle, 1.6 ns (Table 1.2, R125). -/
abbrev pixelCycle : Nat := 64

end Sys2Proof
end

