-- ==== Sys2Proof/Syntax.lean ====
section
/-! DEFINITION. The commands the block takes, one constructor per row of the operation table.

Every command but the frame event carries its instant `t`, in 25 ps units of the timestamp counter (R282);
the instant of a frame event is the raster's (R125).  The host's commands carry the packet (R329) as the
Kiln pops it; the row fixes the opcode. -/

namespace Sys2Proof

/-- A video format: the format block of Table 14.1.  All zero means AUTO (R349). -/
structure VideoFormat where
  width : Nat
  height : Nat
  rateNum : Nat
  rateDen : Nat
  /-- 0 progressive, 1 interlaced, 2 PsF -/
  scan : Nat
  /-- 0 YCbCr 4:2:2, 1 YCbCr 4:4:4, 2 RGB -/
  sampling : Nat
  /-- 0 10-bit, 1 12-bit -/
  depth : Nat
  deriving DecidableEq, Repr

/-- One input frame or field as it arrives: code values of the three components in raster order (Y, Cb, Cr
or R, G, B; chroma of half width for 4:2:2), with what its port reports (Table 2.8).  For a quad link, `links` holds the
pictures of the four inputs in input order instead, and `skew` the skew of the group in line periods (R36, R38). -/
structure InFrame where
  fmt : VideoFormat
  complete : Bool
  bottom : Bool
  c0 : List Nat
  c1 : List Nat
  c2 : List Nat
  rtp : Word
  packetsLost : Nat
  links : List (List Nat × List Nat × List Nat) := []
  skew : Nat := 0
  deriving DecidableEq, Repr

/-- An ST 291-1 packet as received, which may be a fence packet (R58 to R60): DID, SDID and data count, its checksum's
verdict, whether it lies otherwise than where and when R59 allows, and its user data words. -/
structure FencePkt where
  did : Byte
  sdid : Byte
  count : Nat
  checksumOk : Bool
  late : Bool
  /-- RTP timestamp of the packet; 0 on SDI -/
  rtp : Word
  udw : List Byte
  deriving DecidableEq, Repr

/-- What an ST 352 packet declares (R39). -/
structure PayloadId where
  fmt : VideoFormat
  /-- 1 BT709, 2 BT2020 -/
  colorimetry : Nat
  /-- 1 SDR, 2 PQ, 3 HLG -/
  transfer : Nat
  bytes : Word
  /-- quad link number, 1 to 4; 0 for a single link -/
  link : Nat
  /-- 1 two-sample interleave, 2 square division -/
  division : Nat
  /-- skew of the group at EAV, in line periods (R38) -/
  skewLines : Nat
  deriving DecidableEq, Repr

/-- The conditions of Table 2.11. -/
inductive LossCause where
  | signal
  | noTrs
  | formatChange
  | unsupported
  | declaredMismatch
  | limits
  | quadSkew
  | ipNoPacket
  | ipIncomplete
  | ipMisfit
  deriving DecidableEq, Repr

/-- One ST 2110-20 packet: extended RTP sequence number, timestamp, marker, and the samples it places at a
line and offset (R47, R49).  `fits` says that line and length fit the declared format (Table 2.11). -/
structure RtpPacket where
  seq : Nat
  ts : Word
  marker : Bool
  line : Nat
  offset : Nat
  c0 : List Nat
  c1 : List Nat
  c2 : List Nat
  fits : Bool
  deriving DecidableEq, Repr

/-- A request a port answers on its own addresses (R43). -/
inductive NetRequest where
  | arp (target : List Byte)
  | neighbour (target : List Byte)
  | echo (target payload : List Byte)
  deriving DecidableEq, Repr

/-- A PTP message as the port hands it on (R50); times in ns.  `rank` orders masters by the best master
clock algorithm, lower first. -/
inductive PtpMessage where
  | announce (domain : Nat) (grandmaster : DWord) (rank syncIntervalNs announceIntervalNs : Nat)
  | sync (domain : Nat) (grandmaster : DWord) (twoStep : Bool) (origin received : Int)
  | followUp (domain : Nat) (grandmaster : DWord) (origin : Int)
  | delayResp (domain : Nat) (grandmaster : DWord) (sent received : Int)
  deriving DecidableEq, Repr

/-- One 8 × 8 block of a vector field (R80): vector in quarter pixels, confidence, flag 0 normal,
1 covered, 2 uncovered. -/
structure VecBlock where
  dx : Int
  dy : Int
  conf : Nat
  flag : Nat
  deriving DecidableEq, Repr

/-- A training sequence as decoded at a head lane (R178, R198): `inverted` says that D10.2 stood in place
of D21.5 at TS offset 1. -/
structure TrainSet where
  inverted : Bool
  lane : Nat
  width : Nat
  rate : Nat
  ready : Bool
  role : Nat
  deriving DecidableEq, Repr

/-- The common header of a packet received at a head lane (Table 7.5). -/
structure UpHeader where
  endB : Bool
  hop : Byte
  hopN : Byte
  addr : Nat
  deriving DecidableEq, Repr

/-- The body of a STATUS packet (Table 7.11). -/
structure TileStatus where
  latched : Word
  temp : Half
  epoch : Half
  follow : Byte
  ports : Byte
  crcFail : Byte
  missing : Byte
  linkErr : Byte
  flags : Byte
  deriving DecidableEq, Repr

/-- The body of a CTRL_REPLY (Table 7.12), with the measured time from the departure of the request's EOP
to the arrival of the reply's SOP, in ps (R219). -/
structure CtrlReply where
  next : Half
  dwell : Nat
  rstat : Byte
  data : List Byte
  r : Nat
  deriving DecidableEq, Repr

/-- The body of an ALARM (Table 7.12, Table 8.4). -/
structure Alarm where
  aseq : Byte
  code : Byte
  arg : Word
  deriving DecidableEq, Repr

/-- A clock domain of the audio block (R237). -/
inductive AudDomain where
  | sdi (stream : Nat)
  | flow (flow : Nat)
  | i2s (port : Nat)
  deriving DecidableEq, Repr

/-- One audio sample with its AES3 bits (Table 9.3); `valid` is false outside Table 9.1. `media` is the media time of an
ST 2110-30 sample's RTP timestamp, as an instant of the part's time. -/
structure AudSample where
  value : Int
  v : Bool
  u : Bool
  c : Bool
  b : Bool
  valid : Bool
  media : Nat := 0
  deriving DecidableEq, Repr

/-- Heartbeat payload (Table 11.6), with its arrival in own counter units. -/
structure Heartbeat where
  role : Nat
  endB : Bool
  epoch : Half
  pins : Byte
  tb : Byte
  health : Byte
  jseq : Nat
  txTime : Nat
  echoTime : Nat
  echoDwell : Nat
  feCfnLow : Half
  lastFe : Nat
  witness : List Nat
  deriving DecidableEq, Repr

/-- A command packet as it stands in the command queue (Table 13.1); the opcode is the row's. -/
structure CmdPkt where
  uart : Bool
  flags : Byte
  hver : Byte
  tag : Word
  paramLen : Half
  txn : Half
  crc : Word
  params : List Byte
  deriving DecidableEq, Repr

/-- The body of a journal entry (Table 11.7): the staged command packets with their opcodes and, for a
gated seal, what the mirrored TXN_SEAL named. -/
inductive JournalBody where
  | seal (cmds : List (Nat × CmdPkt)) (gate : Option (Nat × Word × Nat))
  | withdraw (jseq : Nat)
  | gateOpen (jseq : Nat)
  | phaseStep (e : Int)
  | align (start : Nat)
  | slate (on : Bool)
  | loadSeal (package : Word)
  | switch
  deriving DecidableEq, Repr

/-- A journal entry (Table 11.7). -/
structure JournalEntry where
  jseq : Nat
  txn : Half
  cfn : Nat
  tag : Word
  body : JournalBody
  deriving DecidableEq, Repr

/-- A tag memory entry as BULK carries it (R287): the stored reply, and whether a final reply is owed: 0 none, 1 for a
commit, 2 for a load, 3 for another command. -/
structure TagBulk where
  tag : Word
  opcode : Nat
  crc : Word
  flags : Byte
  reply : Option (Half × List Byte)
  owes : Nat
  deriving DecidableEq, Repr

/-- What a BULK frame carries to a head (R287, R307, R359): configuration in force as commands with the journal
position, pending commits as their journal entries, open transactions with idle time and staged commands, tag memory,
memory, calibration and wear packages (R158), object data, bank bits and feeder gains. -/
inductive BulkData where
  | config (cmds : List (Nat × CmdPkt)) (jseq : Nat)
  | commits (entries : List JournalEntry)
  | transactions (open_ : List (Nat × Nat × List (Nat × CmdPkt)))
  | tags (entries : List TagBulk)
  /-- the calibration banks and the ledger: every byte there that does not read as at reset -/
  | image (cells : List (Nat × Byte))
  | hbm (bytes : List Byte)
  /-- a package, with the tag of its load -/
  | package (tag : Word) (bytes : List Byte)
  /-- the stills and clips allocated: number, clip, compressed, straight alpha, width, height, frames -/
  | objects (l : List (Nat × (Bool × Bool × Bool) × Nat × Nat × Nat))
  /-- the slate: shown, and since when; latched, and its trigger; frames at which it comes and leaves -/
  | slate (shown : Bool) (since : Nat) (auto : Bool) (cause : Nat) (due offDue : Option Nat)
  | object (frame : Nat) (bytes : List Byte)
  | bankBits (furrow : Nat) (bits : List (Nat × Bool))
  | gains (g : List Nat)
  deriving DecidableEq, Repr

/-- One stream's entry of a SYNC frame (Table 11.5). -/
structure SyncEntry where
  stream : Nat
  phi : Nat
  seq : Word
  deriving DecidableEq, Repr

/-- The unit kinds of the headland, coded as Table 14.16 codes them. -/
inductive UnitKind where
  | ingest
  | converter
  | scaler
  | lane
  | hbm
  deriving DecidableEq, Repr

/-- One measurement of the wear trends (Table 12.9): slowdown in 0.01 %, errors per hour, rows in %, eye
margin in mUI. -/
structure TrendSample where
  slow : List (UnitKind × Nat × Nat)
  ce : List (Nat × Nat)
  rows : List (UnitKind × Nat × Nat)
  eye : List (Nat × Nat)
  deriving DecidableEq, Repr

inductive HostRing where
  | cmd
  | rpl
  | evr
  deriving DecidableEq, Repr

/-- A phase-detector sample (R258): the error in units of 25 ps, and the instant of the reference frame start that the event
shows, if it shows one (R260). -/
structure PhaseSample where
  err : Int
  start : Option Nat
  deriving DecidableEq, Repr

/-- A master channel of the fabric (Table 16.1), and of one that serves eight furrows the furrow whose generator or light-stage
slice made the request. -/
structure Master where
  channel : Nat
  furrow : Nat
  deriving DecidableEq, Repr

/-- What the hardware found in a kindling step (Table 17.4): Kiln cores passing, whether the JESD216 parameters of the flash
report octal DTR (R442), island power-good, failed physical pseudo-channels, failed units (kind, physical), failed lanes by the
numbers of HEARTH_TREND_EYE. -/
structure KindlingReport where
  cores : Nat
  octal : Bool
  powerGood : Bool
  pcFailed : List Nat
  unitFailed : List (UnitKind × Nat)
  laneFailed : List Nat
  deriving DecidableEq, Repr

/-- What the TAP executes (R445). -/
inductive TapOp where
  | bypass
  | idcode
  | sample
  | extest
  | extestPulse
  | extestTrain
  | intest
  | clamp
  | other (ir : Byte)
  | testLogicReset
  deriving DecidableEq, Repr

/-- The rows of the operation table. -/
inductive Instr where
  /-- FRAME_EVENT (R21): At each frame event the CFN advances and every block acts in the order of Table 1.4. -/
  | frameEvent (gpio : BitVec 16)
  /-- GATE_TIMEOUT (R122): A gated commit that has not opened by the last frame of its deadline is withdrawn with final reply TIMEOUT. -/
  | gateTimeout (t jseq : Nat)
  /-- FENCE_TIMEOUT (R63): The wait count of a fence group reaches the timeout, so members holding newer tags show them and FENCE_TIMEOUT is raised. -/
  | fenceTimeout (t group : Nat)
  /-- SCAN_WINDOW_OPEN (R25): At the scan lead, each furrow generator sends its tiles' lines through its light-stage slice in canvas order. -/
  | scanWindowOpen (t : Nat) (short : List (Nat × Nat))
  /-- SCAN_WINDOW_CLOSE (R27): At the close of the scan window, unsent lines are sent as HOLD and SCAN_LATE is counted. -/
  | scanWindowClose (t : Nat)
  /-- FEEDER_ESTIMATE_DONE (R172): When the last slice finishes the frame, each feeder's power estimates are completed. -/
  | feederEstimateDone (t : Nat)
  /-- BAND_COMPOSED (R24): A compositor lane completes a line band and its plot and band checksums are taken. -/
  | bandComposed (t band : Nat) (behind : Bool)
  /-- LOWLAT_EXIT (R31): After two consecutive fall-behind frames the part leaves low-latency mode. -/
  | lowlatExit (t : Nat)
  /-- MON_OUTPUT_FRAME (R142): A monitor output begins an output frame scaled from the canvas frame. -/
  | monOutputFrame (t output : Nat)
  /-- INPUT_FRAME_START (R56): At the start of an input frame the ingest unit chooses the slot to write. -/
  | inputFrameStart (t stream : Nat) (lines : Option InFrame)
  /-- FRAME_STORED (R55): When an input frame's last active line is stored, its slot descriptor is written. -/
  | frameStored (t stream : Nat) (frame : InFrame)
  /-- FENCE_MEMBER_LOST (R64): A fenced stream storing 2 x timeout consecutive untagged frames runs unfenced. -/
  | fenceMemberLost (t stream : Nat)
  /-- FENCE_PACKET (R60): A received fence packet is checked and tags its frame or is counted in FENCE_BAD. -/
  | fencePacket (t stream : Nat) (pkt : FencePkt)
  /-- ST352_RECEIVED (R39): ST 352 payload ID sets AUTO parameters and reveals mismatches, link order or format changes. -/
  | st352Received (t input : Nat) (id : PayloadId)
  /-- FORMAT_DETECTED (R447): An AUTO SDI stream detects a format, which is checked against the ingest limits. -/
  | formatDetected (t stream : Nat) (fmt : VideoFormat)
  /-- STREAM_LOST (R65): A loss condition is met and the stream takes its loss action from the next frame event. -/
  | streamLost (t stream : Nat) (cause : LossCause)
  /-- STREAM_RESTORED (R67): A lost stream that has stored its return count of complete frames returns. -/
  | streamRestored (t stream : Nat)
  /-- HOLD_TIME_EXPIRY (R66): A lost stream under HOLD reaches its hold time and shows its fallback. -/
  | holdTimeExpiry (t stream : Nat)
  /-- RTP_PACKET_RECEIVED (R47): An ST 2110 packet is merged, placed by line and offset, and may end the frame. -/
  | rtpPacketReceived (t stream leg : Nat) (pkt : RtpPacket)
  /-- LEG_LOST (R49): A protected leg with no packets for 3 frame periods raises LEG_LOST. -/
  | legLost (t stream leg : Nat)
  /-- NETWORK_REQUEST (R43): A port answers ARP, neighbour solicitation and ICMP echo on its own addresses. -/
  | networkRequest (t port : Nat) (req : NetRequest)
  /-- MEMBERSHIP_QUERY (R45): A port answers IGMPv3 or MLDv2 queries for its committed flows. -/
  | membershipQuery (t port : Nat) (v6 : Bool)
  /-- PTP_MESSAGE (R50): A PTP message is timestamped and used by the slave clock and master selection. -/
  | ptpMessage (t port : Nat) (msg : PtpMessage)
  /-- VECTOR_ESTIMATE_DONE (R76): The converter completes the vector field of a pair. -/
  | vectorEstimateDone (t conv seqB : Nat) (blocks : List VecBlock)
  /-- TEMP_UNKNOWN (R164): A tile without a valid temperature for the timeout gets an unknown applied temperature. -/
  | tempUnknown (t furrow position : Nat)
  /-- CAL_TRANSFER_DONE (R158): A calibration or wear load completes transfer on both heads and is sealed. -/
  | calTransferDone (t : Nat) (tag : Word) (ok partnerHolds : Bool)
  /-- LOAD_DEQUEUE (R159): A queued load starts once every running load it meets has applied or failed. -/
  | loadDequeue (t : Nat) (tag : Word)
  /-- WEAR_EXPORT_DONE (R163): A ledger export completes once every band has been updated after its apply CFN. -/
  | wearExportDone (t : Nat) (tag : Word)
  /-- KLINK_SIGNAL_DETECT (R197): A head lane in QUIET detects signal for 1 us and enters ACQUIRE. -/
  | klinkSignalDetect (t furrow : Nat)
  /-- KLINK_CDR_LOCK (R197): A head lane's CDR locks and the lane enters ALIGN. -/
  | klinkCdrLock (t furrow : Nat)
  /-- KLINK_COMMA_ALIGN (R197): A head lane finds 4 commas at one alignment and enters POLARITY. -/
  | klinkCommaAlign (t furrow : Nat)
  /-- KLINK_TS_RECEIVED (R197): Received training sequences advance polarity, order and peer states. -/
  | klinkTsReceived (t furrow : Nat) (sets : List TrainSet)
  /-- KLINK_TRAIN_TIMEOUT (R197): A bring-up state timer expires and the lane falls back, counting TRAIN_FAIL. -/
  | klinkTrainTimeout (t furrow : Nat)
  /-- KLINK_LOS (R200): No signal for 1 us takes a lane out of UP. -/
  | klinkLos (t furrow : Nat)
  /-- KLINK_LOL (R200): Loss of CDR lock takes a lane out of UP. -/
  | klinkLol (t furrow : Nat)
  /-- KLINK_ALIGN_LOST (R200): Eight code errors within 1,024 symbols take a lane out of UP. -/
  | klinkAlignLost (t furrow : Nat)
  /-- BALK_OPENER_SEND (R186): A furrow generator sends a balk opener and empty slots on schedule. -/
  | balkOpenerSend (t furrow : Nat)
  /-- STATUS_RUN (R223): After TENURE and 2.5 us of idles the head sends one balk per position for tile STATUS. -/
  | statusRun (t furrow : Nat)
  /-- CTRL_SEND (R186): A queued CTRL packet is sent at the next packet boundary. -/
  | ctrlSend (t furrow : Nat)
  /-- TILE_STATUS_RECEIVED (R195): The head reads a tile's STATUS from its slot and updates temperature, tenure counts and lateness. -/
  | tileStatusReceived (t furrow : Nat) (hdr : UpHeader) (status : TileStatus)
  /-- ACK_RECEIVED (R203): An ACK retires outstanding CTRL packets, triggers replay on GAP, or is stale. -/
  | ackReceived (t furrow : Nat) (hdr : UpHeader) (next : Half)
  /-- CTRL_REPLY_RECEIVED (R203): A CTRL_REPLY retires packets and delivers the tile's answer to the waiting operation. -/
  | ctrlReplyReceived (t furrow : Nat) (hdr : UpHeader) (reply : CtrlReply)
  /-- ALARM_RECEIVED (R205): The head answers a valid ALARM with LINK_ACK and logs new alarms. -/
  | alarmReceived (t furrow : Nat) (hdr : UpHeader) (alarm : Alarm)
  /-- FOREIGN_PACKET (R181): A downstream packet received from the ring marks the furrow FOLDED or CLOSED and is counted. -/
  | foreignPacket (t furrow : Nat) (hdr : UpHeader) (isSow : Bool)
  /-- REPLAY_TIMEOUT (R204): A tile's replay timer expires and its outstanding CTRL packets are resent. -/
  | replayTimeout (t furrow key : Nat)
  /-- TILE_LOST (R218): A tile missing from 3 consecutive status runs is counted silent. -/
  | tileLost (t furrow position : Nat)
  /-- TILE_POWER_STUCK (R231): No STATUS reports the target level within 40 ms of the step. -/
  | tilePowerStuck (t furrow position : Nat)
  /-- AUD_SAMPLE_IN (R237): An audio sample arrives and is written to its router channel buffer at its input instant. -/
  | audSampleIn (t : Nat) (src : AudDomain) (channel : Nat) (sample : AudSample)
  /-- AUD_SAMPLE_OUT (R240): A router channel sample is read at the total delay, scaled and pushed to its port. -/
  | audSampleOut (t port : Nat) (right push pop : Bool)
  /-- AUD_SLIP (R247): After 1,024 samples of fill error every channel of the clock domain drops or repeats one sample. -/
  | audSlip (t : Nat) (src : AudDomain)
  /-- ZC_TIMEOUT (R245): No zero crossing within the timeout ends a step of a silent change. -/
  | zcTimeout (t channel : Nat)
  /-- AUD_SOURCE_LOST (R251): A channel's source stops for its timeout and the channel ends at a zero crossing. -/
  | audSourceLost (t : Nat) (src : AudDomain)
  /-- REF_ACTIVITY_LOSS (R261): A slot's activity monitor finds no event for 3 activity periods. -/
  | refActivityLoss (t slot : Nat)
  /-- FREQ_GATE (R261): A slot's frequency gate ends and its offset is compared with the limits. -/
  | freqGate (t slot : Nat) (offset : Int)
  /-- REF_QUALIFIED (R262): A slot within the accept limit for the whole accept time becomes QUALIFIED. -/
  | refQualified (t slot : Nat)
  /-- PHASE_DETECTOR_SAMPLE (R258): A reference event gives a phase-detector sample to the loop or the phase-hit check. -/
  | phaseDetectorSample (t slot : Nat) (sample : PhaseSample)
  /-- BAND_SEARCH_DONE (R254): The DCO band search locks the inner loop and the timebase leaves SEARCH. -/
  | bandSearchDone (t band : Nat) (fine : Int)
  /-- BAND_SEARCH_FAIL (R254): No band is found within 1.5 ms and the timebase returns to BYPASS. -/
  | bandSearchFail (t : Nat)
  /-- BYPASS_WAIT_EXPIRY (R264): The wait in BYPASS ends and a band search starts. -/
  | bypassWaitExpiry (t : Nat)
  /-- SWITCH_HOLDOFF_EXPIRY (R264): In HOLDOVER with a selectable slot, the switch hold-off ends and ACQUIRE begins. -/
  | switchHoldoffExpiry (t : Nat)
  /-- ACQUISITION_TIMEOUT (R264): The acquisition timer expires and the slot is failed. -/
  | acquisitionTimeout (t : Nat)
  /-- DWELL_COMPLETE (R266): A loop dwell ends and bandwidth narrows, or LOCKED is entered on the first. -/
  | dwellComplete (t : Nat) (within : Bool)
  /-- HOLDOVER_SECOND (R267): Each second at tracking bandwidth the mean of w is recorded for the banked value. -/
  | holdoverSecond (t : Nat) (mean : Int)
  /-- REFERENCE_WAIT_EXPIRY (R264): The kindling reference wait ends and kindling proceeds in the timebase state held. -/
  | referenceWaitExpiry (t : Nat)
  /-- ROOT_LOCK_LOST (R269): Loss of root lock gates the pixel and lane domains and moves control to the bypass root. -/
  | rootLockLost (t : Nat)
  /-- XO_FAIL (R269): No XO_IN edge for 200 ns moves control to the on-die oscillator and is handled as a fault. -/
  | xoFail (t : Nat)
  /-- HEARTBEAT_SEND (R282): Every 10 us a head sends a HEARTBEAT on every UP pair link. -/
  | heartbeatSend (t : Nat)
  /-- HEARTBEAT_RECEIVED (R282): A partner heartbeat updates link state, role view and the frame-event offset. -/
  | heartbeatReceived (t : Nat) (linkB : Bool) (cfn : Nat) (hb : Heartbeat)
  /-- PAIR_LINK_LOST (R280): A lane losing block lock or 52 us without heartbeat takes a pair link down. -/
  | pairLinkLost (t : Nat) (linkB : Bool)
  /-- MIRROR_RECEIVED (R284): The standby checks and stages a mirrored command and compares its result. -/
  | mirrorReceived (t : Nat) (linkB : Bool) (mseq opcode : Nat) (pkt : CmdPkt)
  /-- JOURNAL_RECEIVED (R286): The standby records a journal entry to apply at its CFN. -/
  | journalReceived (t : Nat) (linkB : Bool) (entry : JournalEntry)
  /-- BULK_RECEIVED (R287): Bulk data from the partner is written to the named object. -/
  | bulkReceived (t : Nat) (linkB : Bool) (object offset : Nat) (data : BulkData)
  /-- PAIR_ACK_RECEIVED (R283): An acknowledgement ends resending of a MIRROR, JOURNAL or BULK frame. -/
  | pairAckReceived (t : Nat) (linkB : Bool) (kind seq : Nat)
  /-- PAIR_RESEND (R283): A frame not acknowledged within 20 us is resent on that link. -/
  | pairResend (t : Nat) (linkB : Bool) (kind seq : Nat)
  /-- MIRROR_TIMEOUT (R284): The mirror timeout expires and the primary replies, treating the standby as UNSYNCED. -/
  | mirrorTimeout (t mseq : Nat)
  /-- SYNC_RECEIVED (R288): The standby compares its outcomes with the primary's and recomposes the frame if they differ. -/
  | syncReceived (t cfn : Nat) (shown : List SyncEntry)
  /-- SYNC_MISS (R288): SYNC not arrived 10 us after the frame event; the standby keeps its own outcomes. -/
  | syncMiss (t : Nat)
  /-- BANDSUM_RECEIVED (R291): Partner band checksums are compared and a mismatch starts recomputation. -/
  | bandsumReceived (t cfn first : Nat) (sums : List (Option DWord))
  /-- VERDICT_RECEIVED (R291): A partner verdict completes the shadow outcome of Table 11.8. -/
  | verdictReceived (t cfn band result : Nat)
  /-- VERDICT_TIMEOUT (R291): 2 ms after sending its verdict a head takes the shadow outcome without the partner's. -/
  | verdictTimeout (t cfn band : Nat)
  /-- PAIR_YIELD_LOW (R292): PAIR_YIELD_N read low from the partner makes the head PRIMARY. -/
  | pairYieldLow (t : Nat)
  /-- PAIR_TENURE_HIGH (R292): PAIR_TENURE read high leads to switchover or a wait for a heartbeat. -/
  | pairTenureHigh (t : Nat)
  /-- TENURE_WAIT_EXPIRY (R292): The 12 us wait for a heartbeat ends and the head takes the role or marks the wire faulty. -/
  | tenureWaitExpiry (t : Nat)
  /-- WIRE_UNMARK (R292): Pin readings matching reported drives for 1 s unmark a faulty wire. -/
  | wireUnmark (t : Nat)
  /-- WITNESS_CLAIM (R294): An isolated standby meeting the witness condition for 3 frames claims the primary role. -/
  | witnessClaim (t : Nat)
  /-- JOIN_WAIT_EXPIRY (R277): The join wait ends and the head takes its role at READY. -/
  | joinWaitExpiry (t : Nat)
  /-- UNIT_FAULT (R306): A unit fault makes the Hearth isolate the unit and swap in a fallow unit. -/
  | unitFault (t : Nat) (kind : UnitKind) (logical : Nat) (single : Bool)
  /-- PROGRESS_WATCHDOG (R298): A unit with queued work completing none for 20 us has a fault. -/
  | progressWatchdog (t : Nat) (kind : UnitKind) (logical : Nat)
  /-- HEARTH_SWAP (R306): A swap completes, is logged, and the next queued swap starts. -/
  | hearthSwap (t : Nat)
  /-- PLANNED_SWAP (R308): A planned swap runs at its unit's safe point or at the eleventh frame event. -/
  | plannedSwap (t : Nat) (kind : UnitKind) (logical : Nat)
  /-- FURROW_FAULT (R300): A furrow fault isolates the furrow's units and stops it at this head. -/
  | furrowFault (t furrow : Nat) (serdesOk : Bool)
  /-- KILN_LOCKSTEP_MISMATCH (R313): A lockstep mismatch starts the Kiln reset. -/
  | kilnLockstepMismatch (t : Nat) (failing : Option Nat)
  /-- KILN_WATCHDOG (R313): The Kiln watchdog expires and the Kiln is reset. -/
  | kilnWatchdog (t : Nat) (failing : Option Nat)
  /-- KILN_RESTORED (R313): The Kiln completes its rebuild, sends owed replies and resumes commands. -/
  | kilnRestored (t : Nat)
  /-- HEARTH_COPY_DISAGREE (R312): A Hearth copy differing from the others is outvoted and reloaded, or the Hearth yields. -/
  | hearthCopyDisagree (t copy : Nat) (majority : Bool)
  /-- SELF_TEST_DUTY (R303): Each fallow or retired unit runs its periodic self-test. -/
  | selfTestDuty (t : Nat) (kind : UnitKind) (physical : Nat) (pass : Bool)
  /-- WEAR_TREND_SAMPLE (R318): Every 10 s the wear trends are measured and crossings act. -/
  | wearTrendSample (t : Nat) (sample : TrendSample)
  /-- MEM_FAULT (R396): An uncorrectable HBM read returns poison and starts an urgent remap. -/
  | memFault (t logical segment : Nat)
  /-- MEM_REMAP (R399): The remap copy completes and the logical channel switches to its new physical channel. -/
  | memRemap (t : Nat)
  /-- PATROL_SCRUB (R397): The patrol scrub reads and corrects words of the pseudo-channels in service. -/
  | patrolScrub (t logical corrected : Nat)
  /-- FABRIC_DECERR (R388): A request no target decodes is answered by the default error target and counted. -/
  | fabricDecerr (t : Nat) (master : Master)
  /-- LOG_WINDOW_CLOSE (R321): A coalescing window closes after 1 ms and its entry is rewritten with COUNT and LAST. -/
  | logWindowClose (t source inst code : Nat)
  /-- LOG_WRITE (R321): The log writer writes one entry from the intake queue to both banks. -/
  | logWrite (t : Nat)
  /-- LOG_LOST_ENTRY (R322): When the intake queue drains below 32 after refusals, a LOST entry is written. -/
  | logLostEntry (t : Nat)
  /-- LOG_BANK_FAIL (R324): A failed log bank is replaced by a spare, or the survivor runs alone. -/
  | logBankFail (t : Nat) (bankB : Bool)
  /-- LOG_BANK_COPY_DONE (R324): The spare bank holds the survivor's entries and tandem writing resumes. -/
  | logBankCopyDone (t : Nat)
  /-- FW_TRIAL_END (R328): A trial without failure ends and the boot selection is written to the new slot. -/
  | fwTrialEnd (t : Nat)
  /-- TXN_EXPIRED (R116): A transaction idle for its timeout is discarded. -/
  | txnExpired (t id : Nat)
  /-- EVENT_RING_WRITE (R373): The ring writer writes a queued event entry to the event ring and advances its tail. -/
  | eventRingWrite (t : Nat)
  /-- EVQ_LOST_ENTRY (R374): When the event queue drains below 128 after refusals, one LOST entry is pushed. -/
  | evqLostEntry (t : Nat)
  /-- SLATE_AUTO_TRIGGER (R146): All used streams lost and no host packet for the input delay latch the automatic trigger. -/
  | slateAutoTrigger (t : Nat)
  /-- SLATE_PIN_RELEASE (R146): The pin trigger ends 1 s after the pin leaves its active level. -/
  | slatePinRelease (t : Nat)
  /-- CMD_DOORBELL (R337): A write to HOST_CMD_TAIL announces new command entries. -/
  | cmdDoorbell (t : Nat) (value : Word)
  /-- CMD_FETCH (R337): The part fetches a command entry into the queue and advances HOST_CMD_HEAD. -/
  | cmdFetch (t : Nat) (slot : List Byte)
  /-- REPLY_WRITE (R337): A queued reply is written to its ring slot or UART and the indices written back. -/
  | replyWrite (t : Nat)
  /-- RPL_HEAD_WRITE (R335): The host advances the reply ring consumer index. -/
  | rplHeadWrite (t : Nat) (value : Word)
  /-- EVR_HEAD_WRITE (R335): The host advances the event ring consumer index. -/
  | evrHeadWrite (t : Nat) (value : Word)
  /-- CMD_EN (R336): Setting the command ring enable checks its setup and zeroes its indices. -/
  | cmdEn (t : Nat) (on : Bool)
  /-- RPL_EN (R336): Setting the reply ring enable checks its setup and zeroes its indices. -/
  | rplEn (t : Nat) (on : Bool)
  /-- EVR_EN (R336): Setting the event ring enable checks its setup and zeroes its indices. -/
  | evrEn (t : Nat) (on : Bool)
  /-- WB_EN (R337): Enables the index write-back after each reply. -/
  | wbEn (t : Nat) (on : Bool)
  /-- RING_ERR (R336): Writing 1 clears the ring error flag. -/
  | ringErr (t : Nat)
  /-- DMA_ERR (R338): Writing 1 clears the host-memory access error flag. -/
  | dmaErr (t : Nat)
  /-- HOST_DMA_ERR (R338): A failed host-memory access disables its ring and raises HOST_DMA_ERR. -/
  | hostDmaErr (t : Nat) (ring : HostRing)
  /-- REPLY_MOD_EXPIRY (R339): The reply interrupt delay ends and vector 12 is signalled. -/
  | replyModExpiry (t : Nat)
  /-- UART_FRAME (R343): A complete UART frame is unstuffed and pushed to the command queue or discarded. -/
  | uartFrame (t : Nat) (raw : List Byte)
  /-- UART_BYTE_TIMEOUT (R343): 10 ms between bytes discards the frame being received. -/
  | uartByteTimeout (t : Nat)
  /-- UART_BREAK (R342): A break of 100 ms returns the UART rate to 115,200 baud. -/
  | uartBreak (t : Nat)
  /-- PERST_N (R404): PERST_N resets the PCI Express endpoint, the HOST block and relocks maintenance mode. -/
  | perstN (t : Nat)
  /-- RESET_N_ASSERT (R403): RESET_N low stops every clock and releases outputs and lanes. -/
  | resetNAssert (t : Nat)
  /-- PWR_OK_LOW (R402): PWR_OK low for 1 us acts as RESET_N low. -/
  | pwrOkLow (t : Nat)
  /-- RESET_N_RELEASE (R406): Release of RESET_N samples the straps and starts kindling. -/
  | resetNRelease (t : Nat) (endB host : Bool) (boot : BitVec 2)
  /-- KINDLING_STEP_DONE (R406): A kindling step completes and the next starts, or kindling stops. -/
  | kindlingStepDone (t : Nat) (report : KindlingReport)
  /-- ENERGY_TICK (R413): Every 1 ms the power manager estimates energy and sheds or releases load against the cap. -/
  | energyTick (t estimate : Nat) (tj : Int) (sensor : Nat)
  /-- POWER_CAP_EXCEEDED (R417): With all steps shed, P10 above the cap for 100 ms raises POWER_CAP_EXCEEDED. -/
  | powerCapExceeded (t : Nat)
  /-- PMBUS_POLL (R414): Every 10 ms the regulators are read and the telemetry total formed. -/
  | pmbusPoll (t : Nat) (readings : List (Option Nat))
  /-- PMBUS_ALERT (R414): PMB_ALERT_N low makes the part read and log every STATUS_WORD. -/
  | pmbusAlert (t : Nat) (low : Bool) (words : List Half)
  /-- THERM_CRIT (R419): Tj at T_max for 10 ms applies all shed steps and yields. -/
  | thermCrit (t : Nat) (tj : Int) (sensor : Nat)
  /-- DAMPED (R419): Tj 10 degrees above T_max for 100 us stops the datapath until RESET_N. -/
  | damped (t : Nat) (tj : Int) (sensor : Nat)
  /-- MAINT_UNLOCK_KEY (R425): A key write advances or disarms the maintenance unlock sequence. -/
  | maintUnlockKey (t : Nat) (key : Half)
  /-- RELOCK (R425): Writing 1 relocks maintenance mode at once. -/
  | relock (t : Nat)
  /-- MAINT_DISABLE (R427): Setting the lock field refuses unlocking until kindling. -/
  | maintDisable (t : Nat)
  /-- MAINT_TIMEOUT (R425): The maintenance timeout ends and maintenance mode relocks. -/
  | maintTimeout (t : Nat)
  /-- GPIO_LOCK (R427): Setting the GPIO lock field freezes the GPIO configuration. -/
  | gpioLock (t : Nat)
  /-- GPIO15_MAINT (R426): On a head without BAR0, GPIO15 low for 100 ms unlocks maintenance mode and high relocks it. -/
  | gpio15Maint (t : Nat) (level : Bool)
  /-- EVENT_PEND_WRITE (R370): Writing 1 clears pending bits and the bank's vector is signalled again if still pending. -/
  | eventPendWrite (t bank : Nat) (value : Word)
  /-- EVENT_MASK_WRITE (R371): A mask write changes interrupt masking and re-signals the bank's vector if pending. -/
  | eventMaskWrite (t bank : Nat) (value : Word)
  /-- REG_LO_READ (R422): A read of a _LO register latches the whole 64-bit value for the following _HI read. -/
  | regLoRead (t : Nat) (kilnPath : Bool) (offset : Nat)
  /-- GLOBAL_FREEZE (R381): Freezes or releases every performance counter on one control edge. -/
  | globalFreeze (t : Nat) (on : Bool)
  /-- SNAP (R382): Writing 1 copies every performance counter to its snapshot and records CFN and time. -/
  | snap (t : Nat)
  /-- SNAP_FE (R381): Enables or disables a snapshot at every frame event. -/
  | snapFe (t : Nat) (on : Bool)
  /-- PERF_OVF_CLEAR (R379): Writing 1 clears the overflow bit of a performance counter. -/
  | perfOvfClear (t group : Nat) (bits : Byte)
  /-- PERF_COUNTER_WRITE (R379): A host write to a performance counter sets it, losing a same-cycle increment. -/
  | perfCounterWrite (t group counter : Nat) (value : Word)
  /-- REGISTER_WRITE (R14): A write to a register without its own row acts by its access class. -/
  | registerWrite (t offset : Nat) (value : Word) (enables : BitVec 4)
  /-- IDENT (R355): Returns part number, stepping, grade, end, role, firmware and identifiers. -/
  | ident (t : Nat) (pkt : CmdPkt)
  /-- STATUS (R355): Returns kindling step, role, timebase state, CFN, log and power status. -/
  | status (t : Nat) (pkt : CmdPkt)
  /-- GLEAN (R323): Returns log entries from a given LSEQ and optionally sets GLEANED. -/
  | glean (t : Nat) (pkt : CmdPkt)
  /-- PING (R355): Echoes its parameters and counts as host presence. -/
  | ping (t : Nat) (pkt : CmdPkt)
  /-- TIME (R355): Returns the timestamp counter, CFN and last frame-event time. -/
  | time (t : Nat) (pkt : CmdPkt)
  /-- TXN_OPEN (R116): Opens a transaction with its idle timeout. -/
  | txnOpen (t : Nat) (pkt : CmdPkt)
  /-- TXN_SEAL (R117): Checks and seals a transaction as a commit with its apply CFN, optionally gated. -/
  | txnSeal (t : Nat) (pkt : CmdPkt)
  /-- TXN_ABORT (R116): Discards an open transaction's staged commands. -/
  | txnAbort (t : Nat) (pkt : CmdPkt)
  /-- TXN_LIST (R356): Lists open transactions. -/
  | txnList (t : Nat) (pkt : CmdPkt)
  /-- COMMIT_LIST (R356): Lists pending commits and loads. -/
  | commitList (t : Nat) (pkt : CmdPkt)
  /-- FENCE_SET (R61): Defines, changes or removes a fence group. -/
  | fenceSet (t : Nat) (pkt : CmdPkt)
  /-- FENCE_ANC (R58): Sets the fence packet DID and SDID. -/
  | fenceAnc (t : Nat) (pkt : CmdPkt)
  /-- FENCE_STATUS (R63): Returns a fence group's state and members. -/
  | fenceStatus (t : Nat) (pkt : CmdPkt)
  /-- STREAM_SDI (R32): Binds or rebinds a stream to SDI inputs. -/
  | streamSdi (t : Nat) (pkt : CmdPkt)
  /-- STREAM_IP (R44): Binds a stream to an ST 2110-20 flow. -/
  | streamIp (t : Nat) (pkt : CmdPkt)
  /-- STREAM_PARAMS (R34): Sets a bound stream's parameters. -/
  | streamParams (t : Nat) (pkt : CmdPkt)
  /-- INPUT_REMOVE (R357): Removes a stream, audio flow or ANC flow. -/
  | inputRemove (t : Nat) (pkt : CmdPkt)
  /-- AUD_FLOW (R48): Binds an ST 2110-30 audio flow. -/
  | audFlow (t : Nat) (pkt : CmdPkt)
  /-- ANC_FLOW (R48): Binds an ST 2110-40 flow to a stream. -/
  | ancFlow (t : Nat) (pkt : CmdPkt)
  /-- ETH_SET (R43): Sets a port's VLAN and IP addresses. -/
  | ethSet (t : Nat) (pkt : CmdPkt)
  /-- PTP_SET (R50): Sets the PTP port, backup and domain. -/
  | ptpSet (t : Nat) (pkt : CmdPkt)
  /-- STREAM_STATUS (R357): Returns a stream's state, counters and slot descriptors. -/
  | streamStatus (t : Nat) (pkt : CmdPkt)
  /-- PORT_STATUS (R357): Returns an SDI or Ethernet port's status. -/
  | portStatus (t : Nat) (pkt : CmdPkt)
  /-- STREAM_READ (R357): Returns a stream's parameters in force. -/
  | streamRead (t : Nat) (pkt : CmdPkt)
  /-- FLOW_STATUS (R357): Returns an audio or ANC flow's status and parameters. -/
  | flowStatus (t : Nat) (pkt : CmdPkt)
  /-- FRC_SET (R69): Binds a converter and sets its parameters. -/
  | frcSet (t : Nat) (pkt : CmdPkt)
  /-- FRC_STATUS (R358): Returns a converter's state, D and counters. -/
  | frcStatus (t : Nat) (pkt : CmdPkt)
  /-- FRC_READ (R358): Returns a converter's parameters in force. -/
  | frcRead (t : Nat) (pkt : CmdPkt)
  /-- REGION_SET (R91): Creates or changes a region. -/
  | regionSet (t : Nat) (pkt : CmdPkt)
  /-- REGION_REMOVE (R359): Removes a region and its layers. -/
  | regionRemove (t : Nat) (pkt : CmdPkt)
  /-- LAYER_SET (R93): Creates or changes a layer. -/
  | layerSet (t : Nat) (pkt : CmdPkt)
  /-- LAYER_REMOVE (R359): Removes a layer. -/
  | layerRemove (t : Nat) (pkt : CmdPkt)
  /-- COEF_LOAD (R107): Checks and loads a coefficient set. -/
  | coefLoad (t : Nat) (pkt : CmdPkt)
  /-- COEF_READ (R359): Returns a coefficient set. -/
  | coefRead (t : Nat) (pkt : CmdPkt)
  /-- OBJ_ALLOC (R98): Allocates a still or clip in the store. -/
  | objAlloc (t : Nat) (pkt : CmdPkt)
  /-- OBJ_LOAD (R359): Loads object data from host memory and forwards it to the standby. -/
  | objLoad (t : Nat) (pkt : CmdPkt)
  /-- OBJ_RELEASE (R100): Releases an object not in use. -/
  | objRelease (t : Nat) (pkt : CmdPkt)
  /-- OBJ_STATUS (R359): Returns an object's status or store totals. -/
  | objStatus (t : Nat) (pkt : CmdPkt)
  /-- REGION_READ (R359): Returns a region's parameters in force. -/
  | regionRead (t : Nat) (pkt : CmdPkt)
  /-- LAYER_READ (R359): Returns a layer's parameters in force. -/
  | layerRead (t : Nat) (pkt : CmdPkt)
  /-- CANVAS_SET (R123): Sets canvas geometry, rate, raster, phase, background and scan lead. -/
  | canvasSet (t : Nat) (pkt : CmdPkt)
  /-- LOWLAT_SET (R30): Sets low-latency mode, lead stream and lag. -/
  | lowlatSet (t : Nat) (pkt : CmdPkt)
  /-- HOLD_SET (R134): Sets the static hold parameters. -/
  | holdSet (t : Nat) (pkt : CmdPkt)
  /-- MON_SET (R141): Sets a monitor output's parameters. -/
  | monSet (t : Nat) (pkt : CmdPkt)
  /-- SLATE_SET (R145): Sets the slate parameters. -/
  | slateSet (t : Nat) (pkt : CmdPkt)
  /-- SLATE_SHOW (R146): Sets the slate command trigger. -/
  | slateShow (t : Nat) (pkt : CmdPkt)
  /-- SLATE_CLEAR (R148): Ends the automatic and command triggers. -/
  | slateClear (t : Nat) (pkt : CmdPkt)
  /-- CANVAS_STATUS (R360): Returns canvas state and counters. -/
  | canvasStatus (t : Nat) (pkt : CmdPkt)
  /-- BAND_SUMS (R360): Returns band checksums of the newest complete frame. -/
  | bandSums (t : Nat) (pkt : CmdPkt)
  /-- CANVAS_READ (R360): Returns the canvas parameters in force. -/
  | canvasRead (t : Nat) (pkt : CmdPkt)
  /-- MON_STATUS (R360): Returns a monitor output's status. -/
  | monStatus (t : Nat) (pkt : CmdPkt)
  /-- LIGHT_SET (R150): Sets the light-stage parameters. -/
  | lightSet (t : Nat) (pkt : CmdPkt)
  /-- TYPE_LOAD (R167): Checks and loads a tile type descriptor. -/
  | typeLoad (t : Nat) (pkt : CmdPkt)
  /-- PKG_LOAD (R158): Starts or queues a calibration or wear package load. -/
  | pkgLoad (t : Nat) (pkt : CmdPkt) (memory : List Byte)
  /-- WEAR_EXPORT (R163): Exports the wear ledger as a WEAR_SET package. -/
  | wearExport (t : Nat) (pkt : CmdPkt)
  /-- LOAD_STATUS (R361): Lists running and queued loads. -/
  | loadStatus (t : Nat) (pkt : CmdPkt)
  /-- FEEDER_SET (R171): Sets a feeder's parameters. -/
  | feederSet (t : Nat) (pkt : CmdPkt)
  /-- FEEDER_STATUS (R172): Returns feeder estimates and gains. -/
  | feederStatus (t : Nat) (pkt : CmdPkt)
  /-- CAL_READ (R361): Writes a section of live calibration records to host memory. -/
  | calRead (t : Nat) (pkt : CmdPkt)
  /-- TYPE_READ (R361): Returns a tile type descriptor. -/
  | typeRead (t : Nat) (pkt : CmdPkt)
  /-- FEEDER_READ (R361): Returns a feeder's parameters in force. -/
  | feederRead (t : Nat) (pkt : CmdPkt)
  /-- LIGHT_READ (R361): Returns the light-stage parameters in force. -/
  | lightRead (t : Nat) (pkt : CmdPkt)
  /-- FURROW_SET (R211): Sets a furrow's enable, rate and loss hold time. -/
  | furrowSet (t : Nat) (pkt : CmdPkt)
  /-- LATCH_SET (R211): Sets the part-wide latch offset L_latch. -/
  | latchSet (t : Nat) (pkt : CmdPkt)
  /-- TILEMAP_SET (R213): Replaces or merges a furrow's tile map. -/
  | tilemapSet (t : Nat) (pkt : CmdPkt)
  /-- TILE_LEVEL (R231): Changes tiles' supply level and sends POWER_STEP at seal. -/
  | tileLevel (t : Nat) (pkt : CmdPkt)
  /-- FURROW_STATUS (R362): Returns a furrow's state and per-hop report. -/
  | furrowStatus (t : Nat) (pkt : CmdPkt)
  /-- TILE_STATUS (R362): Returns a tile's state as seen by this head. -/
  | tileStatus (t : Nat) (pkt : CmdPkt)
  /-- TILE_CTRL (R214): Sends a receiver-specific opcode to a tile and returns its answer. -/
  | tileCtrl (t : Nat) (pkt : CmdPkt)
  /-- FURROW_RESCAN (R216): Enumerates a furrow again from the first hop. -/
  | furrowRescan (t : Nat) (pkt : CmdPkt)
  /-- TILEMAP_READ (R362): Returns map entries in force. -/
  | tilemapRead (t : Nat) (pkt : CmdPkt)
  /-- TILE_CLEAR (R218): Takes a tile out of service, sends CLEAR and enumerates it again. -/
  | tileClear (t : Nat) (pkt : CmdPkt)
  /-- AUD_CHAN (R238): Sets a router channel's parameters. -/
  | audChan (t : Nat) (pkt : CmdPkt)
  /-- AUD_PORT (R241): Sets an I2S port's parameters. -/
  | audPort (t : Nat) (pkt : CmdPkt)
  /-- AUD_MCLK (R241): Sets an audio master clock frequency. -/
  | audMclk (t : Nat) (pkt : CmdPkt)
  /-- AUD_ZC (R245): Sets the zero-crossing timeout. -/
  | audZc (t : Nat) (pkt : CmdPkt)
  /-- AUD_STATUS (R363): Returns a port's or router channel's status. -/
  | audStatus (t : Nat) (pkt : CmdPkt)
  /-- AUD_READ (R363): Returns audio parameters in force. -/
  | audRead (t : Nat) (pkt : CmdPkt)
  /-- TB_SLOT (R257): Sets a reference slot's parameters. -/
  | tbSlot (t : Nat) (pkt : CmdPkt)
  /-- TB_SET (R264): Sets the timebase parameters. -/
  | tbSet (t : Nat) (pkt : CmdPkt)
  /-- TB_STEER (R268): Sets the steering offset on receipt. -/
  | tbSteer (t : Nat) (pkt : CmdPkt)
  /-- COU_SET (R270): Sets a clock output unit's parameters. -/
  | couSet (t : Nat) (pkt : CmdPkt)
  /-- TB_STATUS (R364): Returns the timebase state. -/
  | tbStatus (t : Nat) (pkt : CmdPkt)
  /-- TB_SLOT_STATUS (R364): Returns a reference slot's status. -/
  | tbSlotStatus (t : Nat) (pkt : CmdPkt)
  /-- TB_READ (R364): Returns the timebase parameters in force. -/
  | tbRead (t : Nat) (pkt : CmdPkt)
  /-- PAIR_SET (R276): Sets the pair parameters. -/
  | pairSet (t : Nat) (pkt : CmdPkt)
  /-- PAIR_SWITCH (R293): Starts a planned switch by a SWITCH journal entry at the first open frame. -/
  | pairSwitch (t : Nat) (pkt : CmdPkt)
  /-- PAIR_STATUS (R365): Returns the pair state of this head. -/
  | pairStatus (t : Nat) (pkt : CmdPkt)
  /-- PAIR_READ (R365): Returns the pair parameters in force. -/
  | pairRead (t : Nat) (pkt : CmdPkt)
  /-- FW_WRITE (R327): Writes an image into a flash slot not in use. -/
  | fwWrite (t : Nat) (pkt : CmdPkt)
  /-- FW_VERIFY (R326): Checks the image in a slot. -/
  | fwVerify (t : Nat) (pkt : CmdPkt)
  /-- FW_SWITCH (R327): Switches to the staged image by a Kiln reset and starts the trial. -/
  | fwSwitch (t : Nat) (pkt : CmdPkt)
  /-- BOOT_SELECT (R409): Writes the boot selection for the next kindling. -/
  | bootSelect (t : Nat) (pkt : CmdPkt)
  /-- SPARE_SWAP (R308): Requests a planned swap of a unit in service. -/
  | spareSwap (t : Nat) (pkt : CmdPkt)
  /-- SELF_TEST (R303): Runs the self-test of a fallow unit. -/
  | selfTest (t : Nat) (pkt : CmdPkt)
  /-- POWER_CAP (R416): Sets the chip power cap. -/
  | powerCap (t : Nat) (pkt : CmdPkt)
  /-- WEAR_THRESH (R318): Sets the wear thresholds and auto swap. -/
  | wearThresh (t : Nat) (pkt : CmdPkt)
  /-- UART_RATE (R342): Sets the UART rate after the reply is sent. -/
  | uartRate (t : Nat) (pkt : CmdPkt)
  /-- WATCHDOG (R313): Sets the Kiln watchdog period. -/
  | watchdog (t : Nat) (pkt : CmdPkt)
  /-- HEADLAND_STATUS (R366): Returns fallow and retired counts and worst trends. -/
  | headlandStatus (t : Nat) (pkt : CmdPkt)
  /-- POWER_STATUS (R366): Returns power estimate, telemetry, cap and shed steps. -/
  | powerStatus (t : Nat) (pkt : CmdPkt)
  /-- HBM_STATUS (R397): Returns a pseudo-channel's state and error counts. -/
  | hbmStatus (t : Nat) (pkt : CmdPkt)
  /-- SCRUB_SET (R397): Sets the patrol scrub period. -/
  | scrubSet (t : Nat) (pkt : CmdPkt)
  /-- EV_STATUS (R367): Returns pending and mask bits. -/
  | evStatus (t : Nat) (pkt : CmdPkt)
  /-- EV_CLEAR (R370): Clears pending bits. -/
  | evClear (t : Nat) (pkt : CmdPkt)
  /-- CNT_READ (R376): Returns event counters of a block instance. -/
  | cntRead (t : Nat) (pkt : CmdPkt)
  /-- CNT_CLEAR (R376): Clears event counters of a block instance. -/
  | cntClear (t : Nat) (pkt : CmdPkt)
  /-- PERF_SNAPSHOT (R382): Takes a performance counter snapshot and returns its CFN and time. -/
  | perfSnapshot (t : Nat) (pkt : CmdPkt)
  /-- LOG_STATUS (R367): Returns log bank state, LSEQs and overflow counts. -/
  | logStatus (t : Nat) (pkt : CmdPkt)
  /-- EV_MASK (R371): Writes the event mask and ring bits. -/
  | evMask (t : Nat) (pkt : CmdPkt)
  /-- PERF_SET (R377): Programs a performance counter selector and the global control. -/
  | perfSet (t : Nat) (pkt : CmdPkt)
  /-- PERF_READ (R377): Returns a performance group's counters. -/
  | perfRead (t : Nat) (pkt : CmdPkt)
  /-- COMMAND_PACKET_REFUSED (R332): A popped command packet fails the length, CRC, header or opcode check and is discarded or answered with CRC_FAIL, BAD_PARAM or BAD_OPCODE. -/
  | commandPacketRefused (t : Nat) (uart : Bool) (bytes : List Byte)
  /-- KLINK_PACKET_DISCARDED (R189): An upstream packet or slot content with a bad CRC, reserved type, wrong start symbol or wrong length is discarded and counted in BAD_PKT or PKT_CRC. -/
  | klinkPacketDiscarded (t furrow : Nat) (crc : Bool)
  /-- KLINK_SYMBOL_ERROR (R207): A head lane receives a symbol with a code or disparity error, counts SYM_ERR and puts the furrow in error for the refresh interval. -/
  | klinkSymbolError (t furrow : Nat)
  /-- PAIR_FRAME_DISCARDED (R281): An Aedwabin frame with a bad CRC, reserved type or wrong length is discarded and counted in PAIR_FRAME_ERR. -/
  | pairFrameDiscarded (t : Nat) (linkB : Bool)
  /-- ETH_LINK_DOWN (R368): An Ethernet port loses its 100GBASE-R link and raises ETH_LINK_DOWN. -/
  | ethLinkDown (t port : Nat)
  /-- ETH_LINK_UP (R368): An Ethernet port regains its 100GBASE-R link and raises ETH_LINK_UP. -/
  | ethLinkUp (t port : Nat)
  /-- XO_RESTORED (R269): XO_IN edges return after XO_FAIL, so the control domain can leave the on-die oscillator and a band search can succeed. -/
  | xoRestored (t : Nat)
  /-- THERM_WARN (R419): The highest Tj crosses T_max - 5 C and THERM_WARN is raised while it holds. -/
  | thermWarn (t : Nat) (tj : Int) (sensor : Nat)
  /-- PERF_COUNTER_WRAP (R379): A performance counter wraps, sets its OVF bit, and carries into its chained counter or raises PERF_OVERFLOW and may set GLOBAL_FREEZE. -/
  | perfCounterWrap (t group counter : Nat)
  /-- HOST_TRANSFER_DONE (R359): A host-memory transfer of OBJ_LOAD or CAL_READ completes, and the command's final reply follows. -/
  | hostTransferDone (t : Nat) (tag : Word) (ok : Bool) (data : List Byte)
  /-- FLASH_WRITE_DONE (R366): A flash write of FW_WRITE or BOOT_SELECT completes, and its final reply or the new boot record follows. -/
  | flashWriteDone (t : Nat) (tag : Word) (ok : Bool) (data : List Byte)
  /-- JTAG_TAP_OPERATION (R445): The TAP executes an instruction, which acts or behaves as BYPASS depending on RESET_N, and ends on Test-Logic-Reset or release of RESET_N. -/
  | jtagTapOperation (t : Nat) (op : TapOp)
  deriving DecidableEq, Repr

end Sys2Proof
end

