-- ==== Sys2Proof/Decode.lean ====
section
/-! DEFINITION. The words of the table: no row of the operation table is given bits, so no word spells a command. -/

namespace Sys2Proof

/-- The command a word spells: none, since the table gives no row bits. -/
def decodeTableWord (_nbits _w : Nat) : Option Instr := none

end Sys2Proof
end

