-- ==== Sys2Proof/Config.lean ====
section
/-! DEFINITION. What an individual part fixes (fuses) and the free values: constants with no body, so that no
proof can see what they are.  A free value that must be fresh each time is applied to State's counter `free`. -/

namespace Sys2Proof

/-- The grade fused at manufacture (R3): true for X.  Log entry 3. -/
opaque Config.gradeX : Bool
/-- The fused unique identifier (Table 14.5).  Log entry 3. -/
opaque Config.uid : DWord
/-- The fuse-programmed MAC address of ETH0 (R43, Table 14.5).  Log entry 3. -/
opaque Config.mac : BitVec 48

/-- What a stream shows whose fallback names a still that has been released (R66, R100).  Log entry 63. -/
opaque Config.noStill : Nat → DWord
/-- The division of a quad link that neither ST 352 nor the host names (R36): square.  Log entry 144. -/
opaque Config.quadSquare : Bool
/-- How many packets of a frame, beyond the first, were sent before the first one that this part received, where no frame
came before it (R47).  Log entry 83. -/
opaque Config.headLost : Nat → Nat
/-- HBM address of the data of a frame slot: the part's choice (R53).  Log entry 23. -/
opaque Config.slotAddr : Nat → DWord
/-- HBM address of the data of a still or clip: the part's choice within the store (R386, R98).  Log entry 23. -/
opaque Config.objAddr : Nat → DWord
/-- HBM address of a router channel's delay buffer: the part's choice within its range (R239, R386).  Log entry 23. -/
opaque Config.audAddr : Nat → DWord
/-- The control word the reference loop's filter sets from a phase-detector sample (R266 fixes bandwidth and
peaking, not the filter).  Arguments: present w, error, bandwidth in 0.001 Hz.  Log entry 24. -/
opaque Config.loopFilter : Int → Int → Nat → Int
/-- The band whose centre lies nearest a control word at the junction temperature of a band table entry (R254).  Arguments: the
entry, the control word.  Log entry 157. -/
opaque Config.bandEntry : Nat → Int → Nat
/-- How far the free frequency of the DCO has moved, in ppt, from one junction temperature to another, in 1/8 °C (R255).
Log entry 157. -/
opaque Config.dcoDrift : Int → Int → Int
/-- Whether a low-latency layer's load exceeds the time its bands have before scan-out: R112 has the part check it and gives
no formula.  Arguments: the layer's clipped output rectangle in canvas pixels (x0, y0, x1, y1), the low-latency lag in line
periods, and the canvas: height, line periods of blanking, rate numerator and denominator, scan lead.  Log entry 100. -/
opaque Config.lowlatLate : List Int → Nat → List Nat → Bool
/-- Performance counts that no command shows (R377, R380).  Arguments: the instants between which they are counted; the group,
instance and signal.  Log entry 29. -/
opaque Config.perfShare : Nat → Nat → List Nat → Nat
/-- A fresh free word (log entry 21). -/
opaque Config.freeWord : Nat → DWord
/-- Whether recomposing a band gives the band's first result again (R291): the model composes from the
same data, so only a faulty lane makes a difference.  Log entry 25. -/
opaque Config.recomposeAgrees : Nat → Bool

end Sys2Proof
end

