-- ==== Sys2Proof/Machine/Bits.lean ====
section
/-! DEFINITION. Bytes and fields: little-endian coding (R5, R6), the rounding of R10 and the scans of packet
layouts (R347). -/

namespace Sys2Proof

/-- `n` as `k` bytes, little-endian (R5). -/
def le : Nat → Nat → List Byte
  | 0, _ => []
  | k + 1, n => BitVec.ofNat 8 n :: le k (n / 256)

/-- A signed value as `k` bytes, two's complement, little-endian. -/
def leInt (k : Nat) (i : Int) : List Byte := le k (i % (256 ^ k : Nat)).toNat

def byteAt (p : List Byte) (i : Nat) : Nat := (p.getD i 0).toNat

/-- Little-endian value of `k` bytes from offset `i`. -/
def leAt (p : List Byte) (i : Nat) : Nat → Nat
  | 0 => 0
  | k + 1 => byteAt p i + 256 * leAt p (i + 1) k

/-- Signed little-endian value. -/
def leIntAt (p : List Byte) (i k : Nat) : Int :=
  let n := leAt p i k
  if n < 256 ^ k / 2 then (n : Int) else (n : Int) - (256 ^ k : Nat)

def bytesAt (p : List Byte) (i n : Nat) : List Byte :=
  (p.drop i).take n ++ List.replicate (n - (p.drop i).length) 0

/-- Zero-pads to `n` bytes. -/
def padTo (n : Nat) (p : List Byte) : List Byte := p ++ List.replicate (n - p.length) 0

/-- Zero-pads to a multiple of `k` bytes. -/
def padMul (k : Nat) (p : List Byte) : List Byte := p ++ List.replicate ((k - p.length % k) % k) 0

def bit (n i : Nat) : Bool := (n >>> i) % 2 == 1

/-- Bits [hi:lo] of `n` (R5). -/
def bits (n hi lo : Nat) : Nat := (n >>> lo) % 2 ^ (hi + 1 - lo)

def b2n (b : Bool) : Nat := if b then 1 else 0

/-- Flags packed from bit 0 up. -/
def packBits : List Bool → Nat
  | [] => 0
  | b :: bs => b2n b + 2 * packBits bs

/-- round(num / den), halves away from zero (R10). -/
def roundDiv (num : Int) (den : Nat) : Int :=
  let q := (2 * num.natAbs + den) / (2 * den)
  if num < 0 then -(q : Int) else q

def ceilDiv (a b : Nat) : Nat := (a + b - 1) / b

def roundUp (a m : Nat) : Nat := ceilDiv a m * m

def clampInt (x lo hi : Int) : Int := max lo (min hi x)

/-- Two's complement truncation to `k` bits, as a natural number. -/
def wrapBits (k : Nat) (i : Int) : Nat := (i % (2 ^ k : Nat)).toNat

/-- `p` newer than `q` as serial numbers of `k` bits (R61, R226). -/
def serialNewer (k : Nat) (p q : Nat) : Bool :=
  let d := (p + 2 ^ k - q % 2 ^ k) % 2 ^ k
  decide (1 ≤ d) && decide (d ≤ 2 ^ (k - 1) - 1)

/-- Saturating 32-bit addition (R376). -/
def satAdd32 (a : Word) (n : Nat) : Word :=
  if a.toNat + n < 2 ^ 32 then BitVec.ofNat 32 (a.toNat + n) else BitVec.allOnes 32

end Sys2Proof
end

