-- ==== Sys2Proof/Machine/Names.lean ====
section
/-! DEFINITION. The numbers of the event sources (Table 15.1) and of the blocks (Table 18.1). -/

namespace Sys2Proof.Machine

abbrev evKindlingReady : Nat := 0
abbrev evHostRingFault : Nat := 1
abbrev evHostDmaErr : Nat := 2
abbrev evCmdqOverflow : Nat := 3
abbrev evTxnExpired : Nat := 4
abbrev evGateTimeout : Nat := 5
abbrev evMaintUnlocked : Nat := 6
abbrev evPowerCapNear : Nat := 7
abbrev evPowerShed : Nat := 8
abbrev evPowerCapExceeded : Nat := 9
abbrev evThermWarn : Nat := 10
abbrev evThermCrit : Nat := 11
abbrev evPmbusAlert : Nat := 12
abbrev evPmbusMismatch : Nat := 13
abbrev evTbRefQualified : Nat := 32
abbrev evTbRefLost : Nat := 33
abbrev evTbRefSwitch : Nat := 34
abbrev evTbLocked : Nat := 35
abbrev evTbHoldover : Nat := 36
abbrev evTbFreerun : Nat := 37
abbrev evTbHoldoverWeak : Nat := 38
abbrev evTbBwClamp : Nat := 39
abbrev evTbBandMargin : Nat := 40
abbrev evTbBandFail : Nat := 41
abbrev evRootLockLost : Nat := 42
abbrev evRootLockGained : Nat := 43
abbrev evXoFail : Nat := 44
abbrev evPtpGmChange : Nat := 45
abbrev evStepFrame : Nat := 46
abbrev evStreamLost : Nat := 64
abbrev evStreamRestored : Nat := 65
abbrev evFormatUnsupported : Nat := 66
abbrev evFormatChanged : Nat := 67
abbrev evPayloadMismatch : Nat := 68
abbrev evQuadReordered : Nat := 69
abbrev evQuadSkew : Nat := 70
abbrev evLegLost : Nat := 71
abbrev evFenceTimeout : Nat := 72
abbrev evFenceMemberLost : Nat := 73
abbrev evFrcCadenceChange : Nat := 74
abbrev evFrcShed : Nat := 75
abbrev evEthLinkDown : Nat := 76
abbrev evEthLinkUp : Nat := 77
abbrev evLowlatBehind : Nat := 96
abbrev evLowlatExit : Nat := 97
abbrev evSlateOn : Nat := 98
abbrev evSlateOff : Nat := 99
abbrev evMonShed : Nat := 100
abbrev evCalPartnerStale : Nat := 101
abbrev evWearSaturated : Nat := 102
abbrev evTempUnknown : Nat := 103
abbrev evFeederLimiting : Nat := 104
abbrev evFeederReleased : Nat := 105
abbrev evFeederFloor : Nat := 106
abbrev evKlinkUp : Nat := 128
abbrev evKlinkDown : Nat := 129
abbrev evKlinkLos : Nat := 130
abbrev evKlinkLol : Nat := 131
abbrev evKlinkAlignLost : Nat := 132
abbrev evKlinkTrainFail : Nat := 133
abbrev evCtrlUnreachable : Nat := 134
abbrev evCtrlqOverflow : Nat := 135
abbrev evHopCorrection : Nat := 136
abbrev evFurrowEnumerated : Nat := 137
abbrev evTileUnknown : Nat := 138
abbrev evTileMisplaced : Nat := 139
abbrev evTileGeometryMismatch : Nat := 140
abbrev evTileLost : Nat := 141
abbrev evTileAlarm : Nat := 142
abbrev evLatchRange : Nat := 143
abbrev evTilePowerStuck : Nat := 144
abbrev evTilePowerReconciled : Nat := 145
abbrev evPowerUncertain : Nat := 146
abbrev evFurrowFault : Nat := 147
abbrev evAudXrun : Nat := 288
abbrev evAudRestart : Nat := 289
abbrev evAudRecentre : Nat := 290
abbrev evAudDelayClamp : Nat := 291
abbrev evAudSourceLost : Nat := 292
abbrev evAudSourceRestored : Nat := 293
abbrev evPairLinkUp : Nat := 294
abbrev evPairLinkLost : Nat := 295
abbrev evPairIsolated : Nat := 296
abbrev evPairMirrorStale : Nat := 297
abbrev evPairUnsynced : Nat := 298
abbrev evPairFeStep : Nat := 299
abbrev evPairRefMismatch : Nat := 300
abbrev evInputDivergence : Nat := 301
abbrev evPairWireFault : Nat := 302
abbrev evPairSwitchover : Nat := 303
abbrev evPairSplitClaim : Nat := 304
abbrev evPairDemoted : Nat := 305
abbrev evUnitFault : Nat := 320
abbrev evShadowSelfFault : Nat := 321
abbrev evMemFault : Nat := 322
abbrev evMemRemap : Nat := 323
abbrev evDataLost : Nat := 324
abbrev evHearthSwap : Nat := 325
abbrev evHeadlandShrink : Nat := 326
abbrev evUnitRestored : Nat := 327
abbrev evWearTrend : Nat := 328
abbrev evHearthSplit : Nat := 329
abbrev evHearthNoYield : Nat := 330
abbrev evKilnReset : Nat := 331
abbrev evKilnCoreSwap : Nat := 332
abbrev evKilnRestored : Nat := 333
abbrev evKilnNoSpare : Nat := 334
abbrev evFwSwitched : Nat := 335
abbrev evFwReverted : Nat := 336
abbrev evFwCommitted : Nat := 337
abbrev evYielding : Nat := 338
abbrev evLogOverflow : Nat := 352
abbrev evLogFull : Nat := 353
abbrev evLogBankFail : Nat := 354
abbrev evEmberActive : Nat := 355
abbrev evEvqOverflow : Nat := 356
abbrev evEvringFull : Nat := 357
abbrev evPerfOverflow : Nat := 358
abbrev evPerfSnapshot : Nat := 359

abbrev blkGlobal : Nat := 0
abbrev blkTimebase : Nat := 1
abbrev blkSdi : Nat := 2
abbrev blkIpin : Nat := 3
abbrev blkIngest : Nat := 4
abbrev blkFrc : Nat := 5
abbrev blkScale : Nat := 6
abbrev blkComp : Nat := 7
abbrev blkCanvas : Nat := 8
abbrev blkLight : Nat := 9
abbrev blkKlink : Nat := 10
abbrev blkAudio : Nat := 11
abbrev blkPair : Nat := 12
abbrev blkHearth : Nat := 13
abbrev blkKiln : Nat := 14
abbrev blkEvent : Nat := 15
abbrev blkPerf : Nat := 16
abbrev blkFabric : Nat := 17
abbrev blkHbm : Nat := 18
abbrev blkPower : Nat := 19
abbrev blkLog : Nat := 20
abbrev blkMonitor : Nat := 21
abbrev blkHost : Nat := 22

end Sys2Proof.Machine
end

