-- ==== Sys2Proof/Machine/Tab.lean ====
section
/-! DEFINITION. Finite tables keyed by numbers, kept in rising key order: instance arrays of the register
map, sparse object stores, and the byte memories. -/

namespace Sys2Proof

/-- A table from instance numbers to values.  An instance array of the register map (R13) holds an entry
for each instance that differs from its reset value. -/
abbrev Tab (α : Type) := List (Nat × α)

namespace Tab

def get? {α : Type} : Tab α → Nat → Option α
  | [], _ => none
  | (k, v) :: rest, n => if k = n then some v else get? rest n

def getD {α : Type} (m : Tab α) (n : Nat) (d : α) : α := (m.get? n).getD d

def has {α : Type} (m : Tab α) (n : Nat) : Bool := (m.get? n).isSome

/-- Writes entry `n`, keeping the keys in rising order. -/
def set {α : Type} : Tab α → Nat → α → Tab α
  | [], n, v => [(n, v)]
  | (k, w) :: rest, n, v =>
    if n < k then (n, v) :: (k, w) :: rest
    else if n = k then (n, v) :: rest
    else (k, w) :: set rest n v

def erase {α : Type} : Tab α → Nat → Tab α
  | [], _ => []
  | (k, v) :: rest, n => if k = n then erase rest n else (k, v) :: erase rest n

/-- Changes entry `n`, taking `d` where the table holds none. -/
def upd {α : Type} (m : Tab α) (n : Nat) (d : α) (f : α → α) : Tab α := m.set n (f (m.getD n d))

def keys {α : Type} (m : Tab α) : List Nat := m.map (·.1)

def vals {α : Type} (m : Tab α) : List α := m.map (·.2)

def mapVals {α : Type} (m : Tab α) (f : Nat → α → α) : Tab α := m.map fun e => (e.1, f e.1 e.2)

end Tab

end Sys2Proof
end

