-- ==== Sys2Proof/Machine/Cfg.lean ====
section
/-! DEFINITION. The configuration in force: what the commands of class C set, with the defaults of their
defining tables (R348). -/

namespace Sys2Proof.Machine

open Sys2Proof

/-- FP16 RGBA (R11, R348). -/
structure Rgba where
  r : Half
  g : Half
  b : Half
  a : Half
  deriving DecidableEq, Repr

def Rgba.black : Rgba := ⟨0, 0, 0, 0x3C00⟩
def Rgba.clear : Rgba := ⟨0, 0, 0, 0⟩

def VideoFormat.auto : VideoFormat := ⟨0, 0, 0, 0, 0, 0, 0⟩

/-- One leg of an IP flow: the address block of Table 14.2. -/
structure Leg where
  family : Nat := 0
  payloadType : Nat := 0
  udpPort : Nat := 0
  vlan : Nat := 0
  dst : List Byte := []
  src : List Byte := []
  deriving DecidableEq, Repr

/-- STREAM_IP parameters (Table 14.7). -/
structure IpBind where
  port : Nat
  protect : Bool
  leg1 : Leg
  leg2 : Leg
  fmt : VideoFormat
  packing : Nat
  bandwidth : Nat
  deriving DecidableEq, Repr

inductive Binding where
  | unbound
  | sdi (input links division : Nat)
  | ip (b : IpBind)
  deriving DecidableEq, Repr

/-- Stream parameters (Table 2.1), coded as R348 codes them. -/
structure StreamParams where
  colorimetry : Nat := 0
  transfer : Nat := 0
  sdrDecode : Nat := 0
  range : Nat := 0
  compressed : Bool := true
  lossAction : Nat := 0
  fallback : Nat := 0
  lref : Nat := 203
  lw : Nat := 1000
  holdMs : Nat := 1000
  returnCount : Nat := 2
  lossStill : Option Nat := none
  fenceGroup : Nat := 0
  seamless : Nat := 20
  fmt : VideoFormat := VideoFormat.auto
  deriving DecidableEq, Repr

structure StreamCfg where
  bind : Binding := .unbound
  par : StreamParams := {}
  deriving DecidableEq, Repr

structure AudFlow where
  port : Nat
  protect : Bool
  channels : Nat
  depth24 : Bool
  fast : Bool
  linkOffset : Nat
  leg1 : Leg
  leg2 : Leg
  deriving DecidableEq, Repr

structure AncFlow where
  port : Nat
  protect : Bool
  leg1 : Leg
  leg2 : Leg
  deriving DecidableEq, Repr

structure EthCfg where
  vlan : Nat := 0
  ipv4 : List Byte := [0, 0, 0, 0]
  plen4 : Nat := 0
  plen6 : Nat := 0
  ipv6 : List Byte := List.replicate 16 0
  deriving DecidableEq, Repr

structure PtpCfg where
  port : Nat := 0
  backup : Option Nat := none
  domain : Nat := 127
  deriving DecidableEq, Repr

/-- Converter parameters (Table 3.1). -/
structure FrcCfg where
  stream : Option Nat := none
  mode : Nat := 1
  cadence : Nat := 1
  guard : Nat := 4000
  repeatThr : Nat := 8
  confThr : Nat := 96
  cutThr : Nat := 1920
  lowConf : Nat := 1
  fallbackPct : Nat := 40
  deriving DecidableEq, Repr

/-- Region parameters (Table 4.1). -/
structure Region where
  enable : Bool := true
  x : Nat := 0
  y : Nat := 0
  width : Nat := 16
  height : Nat := 4
  background : Rgba := Rgba.black
  deriving DecidableEq, Repr

/-- Layer sources (Table 4.3). -/
inductive LayerSource where
  | stream (n : Nat)
  | converter (n port : Nat)
  | still (n : Nat)
  | clip (n : Nat)
  | solid (c : Rgba)
  | region (n : Nat)
  deriving DecidableEq, Repr

/-- Layer parameters (Table 4.2) with the clip's start CFN N0 (R101). -/
structure Layer where
  region : Nat
  slot : Nat
  source : LayerSource
  enable : Bool := true
  lowLatency : Bool := false
  mirror : Nat := 0
  alphaMode : Nat := 0
  edgeSource : Bool := false
  cx : Nat := 0
  cy : Nat := 0
  cw : Nat := 0
  ch : Nat := 0
  px : Int := 0
  py : Int := 0
  pw : Nat := 1
  ph : Nat := 1
  hset : Nat := 2
  vset : Nat := 6
  alpha : Nat := 0x8000
  phaseH : Int := 0
  phaseV : Int := 0
  clipStep : Nat := 65536
  clipLoop : Bool := true
  clipRestart : Bool := false
  n0 : Nat := 0
  deriving DecidableEq, Repr

/-- Canvas parameters (Table 5.1) and the scan lead (R25). -/
structure CanvasCfg where
  w : Nat := 3840
  h : Nat := 2160
  rateNum : Nat := 60000
  rateDen : Nat := 1000
  vb : Nat := 90
  va : Nat := 45
  phase : Nat := 13107
  background : Rgba := Rgba.black
  scanLead : Nat := 250
  deriving DecidableEq, Repr

structure LowLatCfg where
  enable : Bool := false
  lead : Nat := 0
  lag : Nat := 32
  deriving DecidableEq, Repr

/-- Static hold parameters (Table 5.3). -/
structure HoldCfg where
  enable : Bool := true
  still : Nat := 4
  errorRefresh : Nat := 16
  refreshMs : Nat := 1000
  deriving DecidableEq, Repr

/-- Monitor output parameters (Table 5.6). -/
structure MonCfg where
  enable : Bool := false
  region : Option Nat := none
  format : Nat := 0
  divisor : Nat := 1
  hset : Nat := 3
  vset : Nat := 7
  ox : Nat := 0
  oy : Nat := 0
  ow : Nat := 1920
  oh : Nat := 1080
  colorimetry : Nat := 0
  transfer : Nat := 0
  lref : Nat := 203
  delayUs : Nat := 0
  deriving DecidableEq, Repr

/-- Slate parameters (Table 5.7). -/
structure SlateCfg where
  still : Option Nat := none
  sx : Nat := 0
  sy : Nat := 0
  background : Rgba := Rgba.black
  blinkMs : Nat := 0
  automatic : Bool := false
  pin : Option (Nat × Bool) := none
  hostTimeout : Nat := 10
  inputDelayMs : Nat := 5000
  deriving DecidableEq, Repr

/-- Light-stage parameters (Table 6.1). -/
structure LightCfg where
  sIn : Nat := 0x100000
  seed : Word := 0
  hysteresis : Nat := 8
  timeout : Nat := 60
  ledger : Bool := true
  deriving DecidableEq, Repr

/-- Feeder parameters (Table 6.10). -/
structure FeederCfg where
  floor : Nat := 0x1000
  limit : Nat := 0
  fixedW : Nat := 0
  eta : Nat := 0x7333
  releaseMs : Nat := 5000
  deriving DecidableEq, Repr

/-- A tile map entry (Table 8.2, R362); the position is its key. -/
structure TileEntry where
  type : Nat
  feeder : Nat
  level : Nat
  id : DWord
  x : Nat
  y : Nat
  width : Nat
  height : Nat
  deriving DecidableEq, Repr

/-- Furrow parameters (Table 8.1) and map (R212). -/
structure FurrowCfg where
  enable : Bool := false
  rate : Nat := 2
  lossHoldMs : Nat := 10000
  map : Tab TileEntry := []
  deriving DecidableEq, Repr

inductive ChanSource where
  | silence
  | sdi (stream channel : Nat)
  | flow (flow channel : Nat)
  | i2s (port : Nat) (right : Bool)
  deriving DecidableEq, Repr

/-- Router channel parameters (Table 9.2). -/
structure ChanCfg where
  source : ChanSource := .silence
  gain : Nat := 0x1000
  invert : Bool := false
  host : Bool := true
  delay : Int := 0
  follow : Option Nat := none
  status : List Byte := 1 :: List.replicate 23 0
  deriving DecidableEq, Repr

/-- I²S port parameters (Table 9.4), coded as R348 codes them. -/
structure PortCfg where
  direction : Nat := 0
  slave : Bool := false
  rate : Nat := 2
  mclk : Nat := 0
  slotWidth : Nat := 2
  sampleWidth : Nat := 2
  sideBits : Bool := false
  left : Option Nat := none
  right : Option Nat := none
  autoRestart : Bool := true
  deriving DecidableEq, Repr

/-- Reference slot parameters (Table 10.1), source coded as R364. -/
structure SlotCfg where
  source : Nat := 0
  frequency : Bool := false
  priority : Nat := 0
  fmt : VideoFormat := VideoFormat.auto
  num : Nat := 60000
  den : Nat := 1000
  hz : Nat := 10000000
  falling : Bool := false
  delayNs : Int := 0
  accept : Nat := 200
  reject : Nat := 500
  acceptTime : Nat := 10
  phaseHit : Nat := 20
  deriving DecidableEq, Repr

/-- Timebase parameters (Table 10.6). -/
structure TbCfg where
  steered : Bool := false
  selection : Nat := 0
  revertive : Bool := false
  allowance : Nat := 50
  holdoffMs : Nat := 50
  bandwidth : Nat := 10
  refWait : Nat := 15
  slew : Nat := 1000000
  seed : Word := 1
  deriving DecidableEq, Repr

/-- Clock output unit parameters (Table 10.10). -/
structure CouCfg where
  enable : Bool := false
  free : Bool := false
  n : Nat := 250
  f : Nat := 0
  m : Nat := 1
  delay : Nat := 0
  seed : Word := 1
  deriving DecidableEq, Repr

/-- Pair parameters (Table 11.2). -/
structure PairCfg where
  joinWaitMs : Nat := 5000
  mirrorTimeout : Nat := 100
  witnessClaim : Bool := true
  deriving DecidableEq, Repr

/-- The configuration in force. -/
structure Cfg where
  streams : Tab StreamCfg := []
  audFlows : Tab AudFlow := []
  ancFlows : Tab AncFlow := []
  eth : Tab EthCfg := []
  ptp : PtpCfg := {}
  groups : Tab Nat := []
  did : Byte := 0x50
  sdid : Byte := 0x4E
  frc : Tab FrcCfg := []
  regions : Tab Region := []
  layers : Tab Layer := []
  coefs : Tab (List Byte) := []
  canvas : CanvasCfg := {}
  lowlat : LowLatCfg := {}
  hold : HoldCfg := {}
  mon : Tab MonCfg := []
  slate : SlateCfg := {}
  slateShow : Bool := false
  light : LightCfg := {}
  types : Tab (List Byte) := []
  feeders : Tab FeederCfg := []
  latchUs : Nat := 30
  furrows : Tab FurrowCfg := []
  chans : Tab ChanCfg := []
  ports : Tab PortCfg := []
  mclk : Tab Nat := []
  zcMs : Nat := 10
  slots : Tab SlotCfg := []
  tb : TbCfg := {}
  cou : Tab CouCfg := []
  deriving DecidableEq, Repr

/-- A command of class C as staged: what it changes, decoded from its layout. -/
inductive ConfigCmd where
  | fenceSet (group timeout : Nat) (remove : Bool)
  | fenceAnc (did sdid : Byte)
  | streamSdi (stream input links division : Nat)
  | streamIp (stream : Nat) (b : IpBind)
  | streamParams (stream : Nat) (p : StreamParams)
  | inputRemove (kind number : Nat)
  | audFlow (flow : Nat) (f : AudFlow)
  | ancFlow (stream : Nat) (f : AncFlow)
  | ethSet (port : Nat) (e : EthCfg)
  | ptpSet (p : PtpCfg)
  | frcSet (conv : Nat) (f : FrcCfg)
  | regionSet (region : Nat) (r : Region)
  | regionRemove (region : Nat)
  | layerSet (layer : Nat) (l : Layer)
  | layerRemove (layer : Nat)
  | coefLoad (set : Nat) (bytes : List Byte)
  | canvasSet (c : CanvasCfg)
  | lowlatSet (l : LowLatCfg)
  | holdSet (h : HoldCfg)
  | monSet (output : Nat) (m : MonCfg)
  | slateSet (s : SlateCfg)
  | slateShow
  | slateClear
  | lightSet (l : LightCfg)
  | typeLoad (type : Nat) (bytes : List Byte)
  | feederSet (feeder : Nat) (f : FeederCfg)
  | furrowSet (furrow : Nat) (enable : Bool) (rate lossHoldMs : Nat)
  | latchSet (us : Nat)
  | tilemapSet (furrow : Nat) (merge : Bool) (entries : List (Nat × TileEntry))
  | tileLevel (furrow level : Nat) (positions : List Nat)
  | audChan (chan : Nat) (c : ChanCfg)
  | audPort (port : Nat) (p : PortCfg)
  | audMclk (mclk hz : Nat)
  | audZc (ms : Nat)
  | tbSlot (slot : Nat) (s : SlotCfg)
  | tbSet (t : TbCfg)
  | couSet (unit : Nat) (c : CouCfg)
  deriving DecidableEq, Repr

end Sys2Proof.Machine
end

