-- ==== Sys2Proof/Machine/Mem.lean ====
section
/-! DEFINITION. Byte memory in one canonical form: addresses strictly rising, no entry equal to what an
unlisted address reads as.  Used for the HBM in service (Table 16.3) and for the boot flash (R409). -/

namespace Sys2Proof

abbrev Memory := List Host.Cell

namespace Memory

/-- Bytes of the identity calibration record (R154). -/
def identityRecord : List Byte := [0x00, 0x08, 0x80, 0x00, 0x08, 0, 0, 0, 0, 0, 0, 0, 0, 0, 0, 0]

/-- What an unlisted HBM address reads as: the identity record throughout both calibration banks and 0 in
the wear ledger, as the end of kindling leaves them (R155, R161); 0 elsewhere, where the spec gives no
contents (DESIGN CHOICE, log entry 13). -/
def hbmDefault (a : Nat) : Byte :=
  if 0x80000000 ≤ a ∧ a < 0x180000000 then identityRecord.getD (a % 16) 0 else 0

/-- What an unlisted flash address reads as (PRESUMED, log entry 18: an erased flash byte). -/
def flashDefault (_ : Nat) : Byte := 0xFF

def read (dflt : Nat → Byte) : Memory → Nat → Byte
  | [], a => dflt a
  | (k, v) :: rest, a => if k = a then v else read dflt rest a

/-- Writes one byte; writing the default removes the entry. -/
def write (dflt : Nat → Byte) : Memory → Nat → Byte → Memory
  | [], a, v => if v = dflt a then [] else [(a, v)]
  | (k, w) :: rest, a, v =>
    if a < k then (if v = dflt a then (k, w) :: rest else (a, v) :: (k, w) :: rest)
    else if a = k then (if v = dflt a then rest else (a, v) :: rest)
    else (k, w) :: write dflt rest a v

def writeBytes (dflt : Nat → Byte) (m : Memory) (a : Nat) : List Byte → Memory
  | [] => m
  | b :: bs => writeBytes dflt (write dflt m a b) (a + 1) bs

def readBytes (dflt : Nat → Byte) (m : Memory) (a : Nat) : Nat → List Byte
  | 0 => []
  | n + 1 => read dflt m a :: readBytes dflt m (a + 1) n

/-- Returns every byte of `lo` up to `hi` to what an unlisted address reads as. -/
def clearRange (m : Memory) (lo hi : Nat) : Memory := m.filter fun c => ¬(lo ≤ c.1 ∧ c.1 < hi)

/-- The canonical form. -/
def wfFrom (dflt : Nat → Byte) : Nat → Memory → Bool
  | _, [] => true
  | lo, (k, v) :: rest => decide (lo ≤ k) && decide (v ≠ dflt k) && wfFrom dflt (k + 1) rest

def wf (dflt : Nat → Byte) (m : Memory) : Bool := wfFrom dflt 0 m

end Memory

end Sys2Proof
end

