-- ==== Sys2Proof/Machine/State.lean ====
section
/-! DEFINITION. The state of the part: every register, memory, queue, counter, mode and pin the spec gives it,
as plain data, block by block.  INVENTORY.md lists each field with its rule and reset value. -/

namespace Sys2Proof.Machine

open Sys2Proof

/-- A PMBus regulator entry of the boot configuration (Table 17.7), with VOUT_MODE read once (R414). -/
structure Regulator where
  addr : Nat
  page : Nat
  rail : Nat
  pout : Bool
  answered : Option Nat := none
  mw : Nat := 0
  deriving DecidableEq, Repr

/-- How the xSPI master talks to the boot flash: 1S-1S-1S at 25 MHz, or 8D-8D-8D at up to 200 MHz (R442). -/
inductive XspiMode where
  | s1
  | d8
  deriving DecidableEq, Repr

/-- Time, reset, kindling, straps, pins and temperature. -/
structure Sys where
  now : Nat := 0
  resetN : Bool := false
  pwrOk : Bool := true
  damped : Bool := false
  step : Nat := 1
  /-- when the present kindling step began -/
  stepAt : Nat := 0
  stopped : Bool := false
  ready : Bool := false
  faults : Nat := 0
  endB : Bool := false
  boot : BitVec 2 := 0
  strapHost : Bool := true
  gpioIn : BitVec 16 := 0
  gpioFunc : Tab Nat := []
  gpioOd : Tab Bool := []
  gpioLock : Bool := false
  gpio15Low : Option Nat := none
  tj : Int := 0
  tjSensor : Nat := 0
  tjWarn : Bool := false
  tjCrit : Bool := false
  tjHot : Option Nat := none
  tjCool : Option Nat := none
  bootSlot : Nat := 0xFF
  fw : Word := 0
  fwJournal : Nat := 0
  bootCmds : List (Nat × CmdPkt) := []
  regulators : List Regulator := []
  /-- lanes that failed calibration in step 6, by the numbers of HEARTH_TREND_EYE (R406) -/
  lanesFailed : List Nat := []
  /-- the instruction the TAP holds, and whether a test instruction acts (R445) -/
  jtag : TapOp := .idcode
  jtagTest : Bool := false
  /-- the mode of the xSPI port, and whether the part drives its pins (R410, R442) -/
  xspi : XspiMode := .s1
  xspiDriven : Bool := false
  deriving DecidableEq, Repr

/-- Maintenance mode (R425, R426). -/
structure Maint where
  unlocked : Bool := false
  armed : Option Nat := none
  unlockedAt : Nat := 0
  disable : Bool := false
  timeout : Nat := 600
  byGpio : Bool := false
  deriving DecidableEq, Repr

/-- An entry of the event queue (Table 15.3). -/
structure EvEntry where
  event : Nat
  lost : Bool
  time : Nat
  cfn : Nat
  inst : Nat
  arg : Nat
  count : Nat
  deriving DecidableEq, Repr

/-- Events (R368 to R375). -/
structure Ev where
  pend : BitVec 384 := 0
  mask : BitVec 384 := BitVec.allOnes 384
  ring : BitVec 384 := BitVec.allOnes 384
  irqEn : BitVec 12 := 0
  queue : List EvEntry := []
  lostCount : Nat := 0
  lostTime : Nat := 0
  lostCfn : Nat := 0
  eseq : Nat := 1
  level : List Nat := []
  msixTable : Tab Word := []
  msixPba : BitVec 16 := 0
  msixFnMask : Bool := false
  deriving DecidableEq, Repr

/-- A log entry (Table 12.10); `sev` holds severity and fault class. -/
structure LogEntry where
  lseq : Nat
  time : Nat
  cfn : Nat
  severity : Nat
  faultClass : Nat
  gleaned : Bool
  toA : Bool
  toB : Bool
  coalesced : Bool
  source : Nat
  inst : Nat
  code : Nat
  count : Nat
  last : Nat
  arg : Nat
  deriving DecidableEq, Repr

/-- An open coalescing window (R321). -/
structure LogWindow where
  source : Nat
  inst : Nat
  code : Nat
  opened : Nat
  count : Nat
  last : Nat
  deriving DecidableEq, Repr

/-- The log, its banks and the ember log (R320 to R325, R429). -/
structure Log where
  bankA : Tab LogEntry := []
  bankB : Tab LogEntry := []
  failA : Bool := false
  failB : Bool := false
  full : Bool := false
  spares : Nat := 2
  emberOn : Bool := false
  ember : Tab LogEntry := []
  emberNext : Nat := 0
  nextSeq : Nat := 1
  windows : List LogWindow := []
  intake : List LogEntry := []
  rewrites : List LogWindow := []
  lostCount : Nat := 0
  lostTime : Nat := 0
  lostCfn : Nat := 0
  lostLast : Nat := 0
  lostBlocks : List Nat := []
  copying : Option Bool := none
  page : Nat := 0
  deriving DecidableEq, Repr

/-- A reply waiting to be written (R331, R340). -/
structure Reply where
  uart : Bool
  opcode : Nat
  flags : Byte
  tag : Word
  status : Half
  params : List Byte
  deriving DecidableEq, Repr

/-- Why a command owes a final reply (R341). -/
inductive OwedKind where
  | commit
  | load
  | other
  deriving DecidableEq, Repr

/-- A tag memory entry (R341). -/
structure TagEntry where
  tag : Word
  opcode : Nat
  crc : Word
  uart : Bool
  flags : Byte
  reply : Option (Half × List Byte)
  owes : Option OwedKind
  /-- a final reply computed while the Kiln was in reset and not yet sent (R120) -/
  held : Bool := false
  deriving DecidableEq, Repr

/-- Host interface: rings, queues, tag memory, UART (chapter 13). -/
structure HostIf where
  cmdBase : DWord := 0
  cmdSize : Nat := 0
  cmdTail : Word := 0
  cmdHead : Word := 0
  rplBase : DWord := 0
  rplSize : Nat := 0
  rplHead : Word := 0
  rplTail : Word := 0
  evrBase : DWord := 0
  evrSize : Nat := 0
  evrHead : Word := 0
  evrTail : Word := 0
  cmdEn : Bool := false
  rplEn : Bool := false
  evrEn : Bool := false
  wbEn : Bool := false
  ringErr : Bool := false
  dmaErr : Bool := false
  wbAddr : DWord := 0
  rplMod : Word := 0
  rplModDue : Option Nat := none
  cmdQueue : List (Bool × List Byte) := []
  replyQueue : List Reply := []
  tags : List TagEntry := []
  baud : Nat := 115200
  newBaud : Option (Word × Nat) := none
  uartRx : List Byte := []
  lastPacket : Nat := 0
  shadowHost : DWord := 0
  shadowKiln : DWord := 0
  deriving DecidableEq, Repr

/-- A command staged in a transaction or commit. -/
structure Staged where
  tag : Word
  opcode : Nat
  pkt : CmdPkt
  cmd : ConfigCmd
  deriving DecidableEq, Repr

/-- An open transaction (Table 4.9). -/
structure Txn where
  idle : Nat
  lastUse : Nat
  staged : List Staged := []
  deriving DecidableEq, Repr

/-- A gate (R122): group, tag, deadline in frames. -/
structure Gate where
  group : Nat
  tag : Word
  deadline : Nat
  deriving DecidableEq, Repr

/-- A sealed commit waiting for its apply CFN or gate (R117 to R122). -/
structure Commit where
  jseq : Nat
  txn : Half
  tag : Word
  cmds : List Staged
  apply : Nat
  gate : Option Gate := none
  withdraw : Option Nat := none
  owes : Bool := true
  /-- objects it touches (R119), as kind and number -/
  touches : List (Nat × Nat) := []
  deriving DecidableEq, Repr

/-- A calibration or wear load (R158 to R160). State: 0 queued, 1 transfer, 2 sealed. -/
structure Load where
  tag : Word
  package : Word
  kind : Nat
  bytes : List Byte
  reqCfn : Option Nat
  footprint : List (Nat × Nat)
  state : Nat
  apply : Nat := 0
  deriving DecidableEq, Repr

/-- A sealed WEAR package or an export being worked off band by band (R163). -/
structure WearJob where
  tag : Word
  kind : Nat
  bytes : List Byte
  apply : Nat
  done : List Nat := []
  hostAddr : DWord := 0
  /-- ledger values taken, keyed by 16384 y + x (R163) -/
  vals : Tab Nat := []
  deriving DecidableEq, Repr

/-- A host-memory transfer in progress: OBJ_LOAD, CAL_READ, FW_WRITE, BOOT_SELECT. -/
structure Transfer where
  tag : Word
  opcode : Nat
  params : List Byte
  deriving DecidableEq, Repr

/-- Transactions, commits, journal and loads. -/
structure TxnSt where
  open_ : Tab Txn := []
  commits : List Commit := []
  journal : List JournalEntry := []
  jseq : Nat := 0
  expect : List (Word × Half × Nat) := []
  gates : List (Word × Nat × Word × Nat) := []
  loads : List Load := []
  /-- loads sealed without the partner, to be forwarded when a pair link returns (R158) -/
  stale : List Load := []
  wear : List WearJob := []
  exports : List WearJob := []
  transfers : List Transfer := []
  deriving DecidableEq, Repr

/-- A frame slot: its descriptor (Table 2.8) and its pixel data in the layout of R54. -/
structure Slot where
  seq : Word := 0
  tag : Word := 0
  group : Nat := 0
  complete : Bool := false
  incomplete : Bool := false
  tagged : Bool := false
  field : Bool := false
  bottom : Bool := false
  compressed : Bool := false
  cfn : Nat := 0
  cycles : Nat := 0
  rtp : Word := 0
  lost : Nat := 0
  w : Nat := 0
  h : Nat := 0
  pitch : Nat := 0
  addr : DWord := 0
  storedAt : Nat := 0
  /-- COMPLETE frames, and tagged COMPLETE frames, stored before this one -/
  cidx : Nat := 0
  tidx : Nat := 0
  data : List Byte := []
  deriving DecidableEq, Repr

/-- A video frame being received as packets (R47, R49): timestamp, sequence numbers received and what they place, the
marker's number, the legs that have gone past its end and when the first did, and whether a packet did not fit. -/
structure RtpFrame where
  ts : Word
  got : List Nat := []
  pix : List (Nat × Nat × List Nat × List Nat × List Nat) := []
  last : Option Nat := none
  ended : List Nat := []
  endedAt : Option Nat := none
  misfit : Bool := false
  deriving DecidableEq, Repr

/-- A stream at run time (R32 to R68). -/
structure StreamRt where
  running : Bool := false
  lost : Bool := false
  lossDue : Option LossCause := none
  cause : Option LossCause := none
  /-- when the condition of a loss ended (R67) -/
  condEnd : Option Nat := none
  lostSince : Nat := 0
  lostCfn : Nat := 0
  fallbackOn : Bool := false
  choice : Option Nat := none
  choiceSeq : Word := 0
  fresh : Bool := true
  det : Option VideoFormat := none
  lastFmt : VideoFormat := VideoFormat.auto
  id : Option PayloadId := none
  mismatch : Bool := false
  order : List Nat := []
  reordered : Bool := false
  legLost : List Bool := [false, false]
  legLast : List Nat := [0, 0]
  member : Nat := 0
  memberCount : Nat := 0
  slots : Tab Slot := []
  writing : Option Nat := none
  writeStart : Nat := 0
  nextSeq : Word := 1
  /-- fence packets waiting for their frame: RTP timestamp, tag and group (R59) -/
  fences : List (Word × Word × Nat) := []
  /-- the frame whose lines arrive, as its slot will hold it (R30) -/
  arriving : Option Slot := none
  untagged : Nat := 0
  incompleteRun : Nat := 0
  misfitRun : Nat := 0
  unfenced : Bool := false
  /-- SEQ of the tagged COMPLETE frame with which an unfenced member rejoins its group (R64) -/
  rejoin : Option Word := none
  curM : Word := 0
  hasTag : Bool := false
  returnRun : Nat := 0
  /-- the stream returns at the next frame event (R67) -/
  returnDue : Bool := false
  returned : Bool := false
  incNew : Nat := 0
  cidx : Nat := 0
  tidx : Nat := 0
  /-- COMPLETE frames, and tagged COMPLETE frames, stored up to the choice -/
  choiceC : Nat := 0
  choiceT : Nat := 0
  rtpSeen : List (Nat × Nat × Nat) := []
  /-- frames being received, oldest first; timestamp and last sequence number of the one that ended last -/
  rtp : List RtpFrame := []
  rtpDone : Option (Word × Nat) := none
  rtpLost : Nat := 0
  lastPkt : Nat := 0
  deriving DecidableEq, Repr

/-- A fence group at run time (R63). -/
structure GroupRt where
  curG : Word := 0
  seen : Bool := false
  wait : Nat := 0
  timeouts : Nat := 0
  due : Bool := false
  deriving DecidableEq, Repr

/-- An SDI or Ethernet port (Table 14.7). -/
structure PortRt where
  signal : Bool := false
  cdr : Bool := false
  trs : Bool := false
  st352 : Option Word := none
  /-- the format last found on it -/
  fmt : Option VideoFormat := none
  link : Bool := false
  fecCorr : Nat := 0
  fecBad : Nat := 0
  joined : List Nat := []
  deriving DecidableEq, Repr

/-- The PTP slave clock (R50). -/
structure PtpRt where
  gm : DWord := 0
  rank : Option Nat := none
  intervalNs : Nat := 0
  offset : Int := 0
  lastSync : Option (Int × Int) := none
  waiting : Option Int := none
  delay : Int := 0
  lastAt : Nat := 0
  /-- until when the master's last Announce holds -/
  heardTo : Nat := 0
  deriving DecidableEq, Repr

structure Inputs where
  streams : Tab StreamRt := []
  groups : Tab GroupRt := []
  sdi : Tab PortRt := []
  eth : Tab PortRt := []
  ptp : PtpRt := {}
  deriving DecidableEq, Repr

/-- A unique frame as the converter knows it: SEQ, smoothed time, difference, vectors from the previous
unique frame, whether it was A or B or has been counted as skipped. -/
structure Unique where
  seq : Word
  that : Int
  diff : Nat
  cut : Bool
  vecs : Option (List VecBlock) := none
  shed : Bool := false
  fellBack : Bool := false
  used : Bool := false
  deriving DecidableEq, Repr

/-- A converter at run time (R73 to R89). -/
structure FrcRt where
  started : Bool := false
  th : Int := 0
  ph : Int := 0
  uniq : List Unique := []
  prevLuma : List Nat := []
  runLen : Nat := 0
  runs : List Nat := []
  lock : Option Nat := none
  runIdx : Nat := 0
  a : Option Word := none
  b : Option Word := none
  phi : Nat := 0
  /-- the output time of the last frame event (R74) -/
  tout : Int := 0
  whole : Bool := true
  nearest : Bool := false
  deriving DecidableEq, Repr

/-- A still or clip (R98, R99). -/
structure Obj where
  clip : Bool
  compressed : Bool
  straight : Bool
  w : Nat
  h : Nat
  frames : Nat
  data : Tab (List Byte) := []
  deriving DecidableEq, Repr

/-- A canvas frame scaled for a monitor output, and when its output frame begins (R142). -/
structure MonPicture where
  cfn : Nat
  picture : List Rgba
  due : Option Nat
  deriving DecidableEq, Repr

/-- One monitor output at run time (R142, R144). -/
structure MonRt where
  waiting : List MonPicture := []
  frames : Nat := 0
  cfn : Nat := 0
  picture : List Rgba := []
  deriving DecidableEq, Repr

/-- Emergency slate (R146 to R149). -/
structure SlateRt where
  autoOn : Bool := false
  pinOn : Bool := false
  pinLeft : Option Nat := none
  lostSince : Option Nat := none
  shown : Bool := false
  shownFrom : Nat := 0
  due : Option Nat := none
  offDue : Option Nat := none
  /-- trigger that brings it on: 0 automatic, 1 pin, 2 command (R148) -/
  cause : Nat := 0
  deriving DecidableEq, Repr

/-- Composition, canvas and objects (chapters 4 and 5). -/
structure Comp where
  /-- the frame before the present one was a step frame (R142) -/
  prevStep : Bool := false
  objs : Tab Obj := []
  done : List Nat := []
  plots : Tab (List DWord) := []
  prevPlots : Tab (List DWord) := []
  noSum : List Nat := []
  prevNoSum : List Nat := []
  stills : Tab (List Nat) := []
  sums : Tab DWord := []
  fullCfn : Nat := 0
  fullSums : Tab DWord := []
  fullNoSum : List Nat := []
  skipped : List Nat := []
  /-- compositor lanes whose next scaled pass goes to the second of their scalers (R102) -/
  turn : List Nat := []
  /-- bands of this frame that a generator came to before they were composed (R26) -/
  late : List Nat := []
  load : Nat := 0
  prevCanvas : Option (Nat × Nat × Rgba) := none
  lowlat : Bool := false
  /-- how far low-latency mode has moved the canvas phase (R30) -/
  lowlatBy : Int := 0
  behind : Bool := false
  behindRun : Nat := 0
  slate : SlateRt := {}
  mon : Tab MonRt := []
  monShed : Bool := false
  deriving DecidableEq, Repr

/-- Frame count and raster (R18 to R20, R125 to R131). -/
structure Frames where
  cfn : Nat := 0
  started : Bool := false
  lastFe : Nat := 0
  origin : Int := 0
  originCfn : Nat := 0
  step : Option (Int × Nat) := none
  stepFrame : Bool := false
  moved : Bool := false
  lastStep : Int := 0
  first : Bool := true
  deriving DecidableEq, Repr

/-- A feeder at run time (R172 to R174). -/
structure FeederRt where
  g : Nat := 0x8000
  greq : Nat := 0x8000
  pu : Nat := 0
  pa : Nat := 0
  st : Nat := 0
  du : Nat := 0
  floor : Bool := false
  deriving DecidableEq, Repr

structure Light where
  feeders : Tab FeederRt := []
  /-- per tile of the frame being scanned: sums of tt and of l for the three emitters -/
  sums : Tab (List Nat) := []
  /-- per tile, as fixed at the last frame event: the FULL drive curve, the FULL power coefficients (R153, R169) -/
  supply : Tab (Bool × Bool) := []
  scanned : Bool := false
  /-- the scan window of this frame has opened (R25) -/
  opened : Bool := false
  /-- the light stage has taken the pixels of this frame -/
  taken : Bool := false
  /-- bands whose ledger update is due, with the period it counts for (R161) -/
  due : Tab Nat := []
  deriving DecidableEq, Repr

/-- What a CTRL packet is for (R216, R231, R234, R214). -/
inductive Purpose where
  | identify
  | geometry
  | position
  | echo
  | latch
  | loss
  | enumPower
  | powerStep
  | powerQuery
  | clear
  | resetLatch
  | resetLoss
  | host (tag : Word)
  deriving DecidableEq, Repr

/-- A CTRL packet queued or outstanding (Table 7.10). `key` names the tile whose sequence space it takes: the position, or
256 + hop before it has one (R201); `hop` is the TARGET_HOP of a packet sent with ADDR 0. -/
structure Ctrl where
  key : Nat
  op : Nat
  reply : Bool
  payload : List Byte
  why : Purpose
  hop : Option Nat := none
  resync : Bool := false
  seq : Nat := 0
  deriving DecidableEq, Repr

/-- Sequence state of a head towards one tile (R201 to R205). -/
structure LinkSt where
  nextSeq : Nat := 0
  resync : Bool := true
  outst : List Ctrl := []
  expiries : Nat := 0
  timer : Option Nat := none
  /-- ASEQs of the alarms acknowledged, newest first (R205) -/
  acked : List Byte := []
  r : Nat := 0
  deriving DecidableEq, Repr

/-- A segment that waits to be sent in this window (R27, R136): its band, tile position, first line of the tile, count. -/
structure ScanItem where
  band : Nat
  position : Nat
  first : Nat
  count : Nat
  deriving DecidableEq, Repr

/-- Enumeration in progress (R216): hop, the tile's mapped position once known, echo results. -/
structure Enum where
  hop : Nat
  found : Nat := 0
  entry : Option Nat := none
  asym : Int := 0
  asymSum : Int := 0
  echoes : List Int := []
  last : Bool := false
  deriving DecidableEq, Repr

/-- A head lane and its furrow generator. Lane state: 0 OFF, 1 QUIET, 2 ACQUIRE, 3 ALIGN, 4 POLARITY,
5 ORDER, 6 PEER, 7 UP (Table 18.5). -/
structure Lane where
  state : Nat := 0
  since : Nat := 0
  fails : Nat := 0
  failRaised : Bool := false
  rxInv : Bool := false
  foldedCfn : Option Nat := none
  closedCfn : Option Nat := none
  faulted : Bool := false
  serdesOk : Bool := true
  pwrUnc : Bool := false
  queried : List Nat := []
  errAt : Option Nat := none
  found : Nat := 0
  enum : Option Enum := none
  /-- ASYM of the tiles found, by hop (R219) -/
  asym : List Int := []
  queue : List Ctrl := []
  /-- packets of the part's own operations that wait for room in the queue (log entry 36) -/
  backlog : List Ctrl := []
  ackSlot : Bool := true
  /-- packets to be sent again, ahead of the queue (R186, R204) -/
  resend : List Ctrl := []
  /-- packets of a tile that was found elsewhere, to be given up -/
  dropped : List Ctrl := []
  /-- the SOW has gone out and the status run has not begun: no balk falls due (R186) -/
  runDue : Bool := false
  /-- segments of this window not yet sent, those among the last that wait for its close (R27), when the generator comes to the
  next one, and the tiles it scans out: those of which it has sent every segment in full so far -/
  scan : List ScanItem := []
  left : List ScanItem := []
  scanAt : Nat := 0
  allFull : List Nat := []
  hops : Tab Nat := []
  statusRun : Bool := false
  errNow : Bool := false
  deriving DecidableEq, Repr

/-- A tile as this head knows it. Supply: 0 ECONOMY, 1 FULL, 2 stepping up, 3 stepping down. -/
structure TileRt where
  ta : Option Int := none
  lastTemp : Nat := 0
  unkRaised : Bool := false
  gt : List Nat := [16384, 16384, 16384]
  mark : Bool := true
  bank : Bool := false
  supply : Nat := 0
  target : Option (Nat × Nat) := none
  targetSeen : Bool := false
  supplyDue : Option Nat := none
  /-- supply state that POWER_QUERY reported, set at the next frame event (R234) -/
  reported : Option Nat := none
  /-- hop from this head at which the tile was found (R216) -/
  hop : Option Nat := none
  inService : Bool := false
  serveFrom : Nat := 0
  silent : Bool := false
  late : Bool := false
  missed : Nat := 0
  got : Bool := false
  status : Option TileStatus := none
  /-- header of the last STATUS -/
  hdr : Option UpHeader := none
  followed : Option Bool := none
  latchPs : Nat := 0
  p : Nat := 0
  /-- frames sent in full since the mark was set, newest first (R137) -/
  fulls : List Nat := []
  wearSat : Bool := false
  deriving DecidableEq, Repr

structure Klink where
  lanes : Tab Lane := []
  /-- keyed by furrow × 1024 + key -/
  links : Tab LinkSt := []
  /-- keyed by furrow × 256 + position -/
  tiles : Tab TileRt := []
  deriving DecidableEq, Repr

/-- What a router channel plays: its source with the buffer of R239, keyed by a running position that starts at 384,000,
and where a lost source ends and comes back (R251). -/
structure Content where
  source : ChanSource := .silence
  buf : Tab (Int × Nat) := []
  wr : Nat := 384000
  /-- frame of the channel status block that the last sample had, none before a block start (R239) -/
  frame : Option Nat := none
  /-- bit 1 of channel status byte 0 in the block that runs, and in the last complete one (Table 9.3) -/
  c1 : Bool := false
  nonPcm : Bool := false
  lost : Bool := false
  /-- last position played before the silence of a loss, and whether it is a zero crossing -/
  endAt : Option (Nat × Bool) := none
  backAt : Option Nat := none
  deriving DecidableEq, Repr

/-- A silent change in progress (R245): its change point, the end of step 1, and the new content; `next` is none where
the new content is the same source at another position. -/
structure Silent where
  start : Nat
  mid : Option Nat := none
  next : Option Content := none
  pos : Int
  delay : Nat
  invert : Bool
  deriving DecidableEq, Repr

/-- A router channel (R238 to R251). -/
structure Chan where
  cur : Content := {}
  pos : Int := 383992
  delay : Nat := 8
  invert : Bool := false
  lv : Nat := 0
  followOn : Bool := false
  g0 : Nat := 0x1000
  g1 : Nat := 0x1000
  rampK : Nat := 64
  prev : Int := 0
  last : Int × Nat := (0, 0)
  muted : Bool := false
  silent : Option Silent := none
  clamped : Bool := false
  /-- the total delay before its clamp, as last computed (R249) -/
  raw : Option Int := none
  fill : Int := 0
  errRun : Int := 0
  deriving DecidableEq, Repr

/-- A silent change of an output slot (R245). -/
structure SlotChange where
  start : Nat
  mid : Option Nat := none
  next : Option Nat
  /-- the sample of the new channel before the present one -/
  prev : Option Int := none
  deriving DecidableEq, Repr

structure AudSlot where
  cur : Option Nat := none
  change : Option SlotChange := none
  prev : Int := 0
  deriving DecidableEq, Repr

/-- An I²S port (R242 to R244): the FIFO of each direction, SWAP_RISK, and its two slots. `needLeft` and `refill`: the first word
pushed, and the first popped, since a start is to be a left one; `inRight`: the router takes the next word of an IN port as right;
`stopping`: the port is OFF but its slots still change to silence. -/
structure AudPort where
  out : List (Int × Nat) := []
  inn : List AudSample := []
  running : Bool := false
  swap : Bool := false
  needLeft : Bool := true
  refill : Bool := true
  inRight : Bool := false
  stopping : Bool := false
  left : AudSlot := {}
  right : AudSlot := {}
  deriving DecidableEq, Repr

/-- An audio clock domain (R237): `lost` from AUD_SOURCE_LOST to AUD_SOURCE_RESTORED, when its last sample came, and that of
each ST 299 group (R251); `early` holds flow samples whose input instant is yet to come, with it and their channel. -/
structure AudDom where
  lost : Bool := false
  last : Nat := 0
  groups : Tab Nat := []
  early : List (Nat × Nat × AudSample) := []
  slipFrom : Option Nat := none
  deriving DecidableEq, Repr

structure Audio where
  chans : Tab Chan := []
  ports : Tab AudPort := []
  /-- keyed by stream, 64 + flow, 128 + port -/
  doms : Tab AudDom := []
  /-- FE(N) − t_in of the frames first shown at the last 64 frame events, with N, by stream (Table 9.6) -/
  means : Tab (List (Nat × Nat)) := []
  deriving DecidableEq, Repr

/-- Timebase states (Table 10.5). -/
inductive TbState where
  | bypass
  | search
  | freerun
  | acquire
  | locked
  | holdover
  | steered
  deriving DecidableEq, Repr

/-- A reference slot at run time: state of Table 10.3. -/
structure SlotRt where
  state : Nat := 0
  since : Nat := 0
  accept : Nat := 0
  lastGate : Int := 0
  lastErr : Int := 0
  samples : List Int := []
  cause : Nat := 0
  /-- format taken for an AUTO slot on entering CHECKING (R257) -/
  fmt : Option VideoFormat := none
  deriving DecidableEq, Repr

structure CouRt where
  running : Bool := false
  alignDue : Bool := false
  alignedAt : Option Nat := none
  /-- the instant of that frame event (R271, R272) -/
  alignedFe : Nat := 0
  /-- the modulator's dither register as loaded at the last alignment (R273; log entry 75) -/
  dither : Word := 0
  deriving DecidableEq, Repr

/-- The timebase (chapter 10). `w` is the control word at instant `wAt`, moving to `wTarget` at the steering slew;
`bw` is the loop bandwidth in µHz; `steerNew` is the offset stored while it has no effect (R268). -/
structure Tb where
  state : TbState := .bypass
  since : Nat := 0
  wait : Nat := 0
  slot : Option Nat := none
  lastSlot : Option Nat := none
  rootLock : Bool := false
  banked : Option Int := none
  weak : Bool := false
  band : Nat := 0
  /-- the band table (R254), empty until the first search -/
  bandTable : List Nat := []
  planW : Int := 0
  /-- fine setting of the band at the end of the search, in ppt from its centre, with w and Tj then (R254, R255) -/
  fine : Int := 0
  fineW : Int := 0
  fineTj : Int := 0
  marginRaised : Bool := false
  /-- the search's band is yet to be compared with the band table -/
  bandNew : Bool := false
  w : Int := 0
  wTarget : Int := 0
  wAt : Nat := 0
  bw : Nat := 0
  dwellFrom : Nat := 0
  trackSince : Option Nat := none
  fails : Nat := 0
  xoFail : Bool := false
  everLocked : Bool := false
  clampRaised : Bool := false
  slots : Tab SlotRt := []
  secs : List (Nat × Nat × Int) := []
  steer : Int := 0
  steerNew : Option Int := none
  /-- w at entry of STEERED less the offset then (R268) -/
  steerBase : Int := 0
  align : Option Nat := none
  cou : Tab CouRt := []
  /-- the DCO modulator's dither register as loaded at the last restart (R273; log entry 75) -/
  dither : Word := 0
  deriving DecidableEq, Repr

/-- Head roles (Table 11.1). -/
inductive Role where
  | kindling
  | primary
  | standby
  | unsynced
  | yielding
  deriving DecidableEq, Repr

/-- What the ST 352 payload ID of a monitor output names (R140): the row of Table 5.5, the frame rate, colorimetry, transfer.
The bytes of ST 352 are that standard's, not the spec's (log entry 20). -/
structure MonId where
  format : Nat
  rateNum : Nat
  rateDen : Nat
  colorimetry : Nat
  transfer : Nat
  deriving DecidableEq, Repr

/-- What a pair frame carries (Table 11.5). -/
inductive PairBody where
  | heartbeat (hb : Heartbeat)
  | mirror (mseq opcode : Nat) (pkt : CmdPkt)
  | journal (e : JournalEntry)
  | bandsum (band : Nat) (sum : Option DWord)
  | verdict (band result : Nat)
  | sync (shown : List SyncEntry)
  | bulk (object offset : Nat) (data : BulkData)
  | ack (kind seq : Nat)
  deriving DecidableEq, Repr

/-- What the part puts on its ports; nothing in the model reads it back (log entry 20). -/
inductive Out where
  | videoLine (furrow position line x0 : Nat) (cfnLow : Half) (px : List (List Nat))
  | hold (furrow position first count : Nat) (cfnLow : Half)
  | sow (furrow cfn : Nat)
  | tenure (furrow : Nat) (epoch cfnLow : Half)
  | balk (furrow : Nat)
  | ctrl (furrow : Nat) (c : Ctrl)
  | linkAck (furrow addr : Nat) (hop : Option Nat) (aseq : Byte)
  /-- the training sequence a lane sends from now on (Table 7.3), and electrical idle (R197) -/
  | training (furrow : Nat) (set : TrainSet)
  | laneIdle (furrow : Nat)
  /-- a frame on PAIRA or PAIRB: FSEQ of the link, CFN of the header, and what it carries (Table 11.4) -/
  | pairFrame (linkB : Bool) (fseq cfn : Nat) (body : PairBody)
  | bulkRequest (object : Nat)
  | msix (vector : Nat)
  | hostWrite (addr : DWord) (bytes : List Byte)
  | uartTx (bytes : List Byte)
  | netReply (port : Nat) (req : NetRequest)
  | membership (port flow : Nat) (v6 join : Bool) (group source : List Byte)
  | delayReq (port : Nat)
  | i2s (port : Nat) (right : Bool) (word : Int) (side : Nat)
  | monFrame (output cfn : Nat) (id : MonId) (words : List (Nat × Nat × Nat))
  | pmbusPage (addr page : Nat)
  | pmbusRead (addr command : Nat)
  | couRestart (unit cfn : Nat) (omitted : Bool)
  /-- XSPI_RST_N low for 10 µs or more, the read of the JESD216 parameters in 1S-1S-1S mode, and the switch of the device to
  octal DTR (R442) -/
  | xspiReset
  | xspiParameters
  | xspiOctal
  | flashWrite (mode : XspiMode) (addr : Nat) (bytes : List Byte)
  | tdo (value : Word)
  deriving DecidableEq, Repr

/-- A frame sent on a pair link and not yet acknowledged (R283). -/
structure PairFrame where
  kind : Nat
  seq : Nat
  sentAt : Nat
  what : PairBody
  deriving DecidableEq, Repr

structure PairLink where
  up : Bool := false
  hbRun : Nat := 0
  fseq : Nat := 0
  lastHb : Nat := 0
  lastTx : Nat := 0
  arrived : Nat := 0
  unacked : List PairFrame := []
  deriving DecidableEq, Repr

/-- A reply held until the mirror is acknowledged (R284). -/
structure MirrorWait where
  mseq : Nat
  deadline : Nat
  reply : Reply
  deriving DecidableEq, Repr

/-- A shadow mismatch waiting for its verdicts (R291). -/
structure Shadow where
  cfn : Nat
  band : Nat
  own : Nat
  sentAt : Nat
  deriving DecidableEq, Repr

/-- Pair operation (chapter 11). -/
structure Pair where
  role : Role := .kindling
  epoch : Half := 0
  cfg : PairCfg := {}
  links : Tab PairLink := []
  partner : Option Heartbeat := none
  partnerCfn : Nat := 0
  synced : Bool := false
  staleRaised : Bool := false
  split : Bool := false
  wireFault : Bool := false
  driveTenure : Bool := false
  driveYield : Bool := false
  readTenureLow : Bool := false
  readYieldLow : Bool := false
  tenureWait : Option Nat := none
  pinsOkSince : Option Nat := none
  witness : Nat := 0
  witnessCfn : Nat := 0
  /-- the partner's counter minus this head's (R289) -/
  theta : Int := 0
  dfe : Int := 0
  dfeSum : Int := 0
  dfeCount : Nat := 0
  dfeSent : Int := 0
  mseq : Nat := 0
  seen : List (Nat × Nat) := []
  waits : List MirrorWait := []
  joining : Bool := false
  joinCfg : Bool := false
  /-- objects of the join data received (R287) -/
  joinGot : List Nat := []
  syncSeen : Option Nat := none
  recomposed : Option Nat := none
  gatesOpened : List (Nat × Nat) := []
  peerGates : List (Nat × Nat) := []
  /-- partner band checksums that came before the band was composed here: CFN, band, checksum (R291) -/
  peerSums : List (Nat × Nat × Option DWord) := []
  shadows : List Shadow := []
  verdicts : List (Nat × Nat × Nat) := []
  divergeAt : Option Nat := none
  divergeBand : Nat := 0
  divergeCount : Nat := 0
  switchAt : Option Nat := none
  switchTag : Option Word := none
  tenureSkip : Option Nat := none
  /-- a SYNC that came after its frame was missed (R288) -/
  lateSync : List SyncEntry := []
  missed : Option Nat := none
  /-- configuration and commits before the gates of a frame opened here (R288) -/
  undo : Option (Nat × Cfg × List Commit) := none
  /-- JSEQ up to which entries were missed while no link was UP (R295) -/
  replayTo : Nat := 0
  /-- the join data for the present partner has been sent (R287) -/
  joinSent : Bool := false
  /-- configuration replies held while a join transfer ends (R287) -/
  joinHeld : List Reply := []
  /-- final replies that wait for the standby's last BULK acknowledgement (R359) -/
  bulkWaits : List (Word × Nat) := []
  deriving DecidableEq, Repr

/-- Where a physical unit stands (R302 to R304). -/
inductive UnitState where
  | service (logical : Nat)
  | fallow
  | retired
  deriving DecidableEq, Repr

structure Unit where
  kind : UnitKind
  phys : Nat
  state : UnitState
  testedAt : Nat := 0
  passes : Nat := 0
  passFrom : Nat := 0
  single : Bool := false
  deriving DecidableEq, Repr

/-- The units as shipped: kind, in service, fallow (Tables 1.1, 12.2). -/
def shipped (kind : UnitKind) (service fallow : Nat) : List Unit :=
  (List.range (service + fallow)).map fun n =>
    { kind := kind, phys := n, state := if n < service then .service n else .fallow }

/-- A swap, running, queued or planned (R306, R308, R310). -/
structure Swap where
  kind : UnitKind
  logical : Nat
  spare : Nat
  single : Bool
  wear : Bool
  tag : Option Word
  frames : Nat := 0
  deriving DecidableEq, Repr

/-- Wear thresholds (Table 12.9). -/
structure Thresholds where
  slow : Nat := 30
  rows : Nat := 75
  ce : Nat := 100
  eye : Nat := 150
  autoSwap : Bool := true
  deriving DecidableEq, Repr

/-- Hearth, headland and Kiln (chapter 12). -/
structure Hearth where
  units : List Unit := shipped .ingest 48 4 ++ shipped .converter 8 1 ++ shipped .scaler 32 2 ++ shipped .lane 16 1
  running : Option Swap := none
  queue : List Swap := []
  planned : List Swap := []
  tableSet : Bool := false
  copies : Nat := 3
  reloads : List (Nat × Nat) := []
  split : Bool := false
  noYield : Bool := false
  /-- SELF_TEST commands that wait for their unit's result -/
  tests : List (UnitKind × Nat × Word) := []
  degradedUnits : List (UnitKind × Nat) := []
  thr : Thresholds := {}
  crossings : List (Nat × Nat × Nat × Nat) := []
  crossed : List (Nat × Nat × Nat) := []
  slowWorst : Nat := 0
  slowUnit : Nat := 0
  ceWorst : Nat := 0
  cePc : Nat := 0
  rowsWorst : Nat := 0
  eyeWorst : Nat := 0xFFFF
  eyeLane : Nat := 0
  swaps : Nat := 0
  kilnReset : Bool := false
  kilnResetAt : Nat := 0
  coresUp : List Nat := [0, 1]
  coresFallow : List Nat := [2]
  lastMismatch : Option Nat := none
  watchdogMs : Nat := 100
  trial : Option (Nat × Nat) := none
  trialPrev : Nat := 0
  switchTo : Option (Nat × Nat) := none
  pendingTrial : Option (Nat × Nat) := none
  reverted : Bool := false
  lostLoads : List Word := []
  deriving DecidableEq, Repr

/-- A pseudo-channel remap (R398 to R400). -/
structure Remap where
  logical : Nat
  target : Nat
  urgent : Bool
  tag : Option Word
  deriving DecidableEq, Repr

/-- A physical pseudo-channel (Table 16.5). -/
structure PcRt where
  state : Nat := 0
  /-- correctable errors of the last hour, with their instants -/
  recent : List (Nat × Nat) := []
  ce : Nat := 0
  ue : Nat := 0
  tests : Nat := 0
  deriving DecidableEq, Repr

/-- Fabric and HBM controllers (chapter 16). -/
structure Fabric where
  prio : Tab Word := []
  cfg : Tab Word := []
  remap : Tab Nat := []
  pcs : Tab PcRt := []
  running : Option Remap := none
  queue : List Remap := []
  scrubHours : Nat := 24
  scrubDone : Nat := 0
  deriving DecidableEq, Repr

/-- Power manager (R413 to R419). -/
structure Power where
  chip : Nat := 0
  telem : Nat := 0
  telemAt : Option Nat := none
  samples : List Nat := []
  chipSamples : List Nat := []
  telemSamples : List Nat := []
  shed : Nat := 0
  savings : List Int := [0, 0, 0]
  before : Nat := 0
  shedAt : List Nat := [0, 0, 0]
  lastChange : Option Nat := none
  cap : Nat := 188
  near : Bool := false
  exceeded : Bool := false
  overSince : Option Nat := none
  thermal : Bool := false
  mismatch : Bool := false
  alertLow : Bool := false
  /-- interpolation is shed since the last frame event (R89) -/
  frcShed : Bool := false
  deriving DecidableEq, Repr

/-- One performance counter group (R377). -/
structure PerfGroup where
  cycles : DWord := 0
  cnt : Tab Word := []
  sel : Tab Word := []
  ovf : Byte := 0
  snapCycles : DWord := 0
  snapCnt : Tab Word := []
  deriving DecidableEq, Repr

structure Perf where
  groups : Tab PerfGroup := []
  /-- the instant up to which the cycle counters have counted -/
  since : Nat := 0
  freeze : Bool := false
  snapFe : Bool := false
  snapCfn : Nat := 0
  snapTime : Nat := 0
  deriving DecidableEq, Repr

/-- Reasons a step can stop with a fault.  The spec describes an effect for every row of the table, so no
meaning raises one; the type is kept for the interface. -/
inductive Fault where
  /-- Raised by no meaning (safe). -/
  | unreachable
  deriving DecidableEq, Repr

/-- Reasons a command has no meaning. -/
inductive Refusal where
  /-- Answered by the dispatcher for a row that has no meaning yet (safe). -/
  | notModelled (mnemonic : String)
  deriving DecidableEq, Repr

/-- Everything the part holds but its byte memories: registers, queues, counters, modes and pins. -/
structure Part where
  sys : Sys := {}
  maint : Maint := {}
  ev : Ev := {}
  log : Log := {}
  host : HostIf := {}
  txn : TxnSt := {}
  cfg : Cfg := {}
  inp : Inputs := {}
  frc : Tab FrcRt := []
  comp : Comp := {}
  fr : Frames := {}
  light : Light := {}
  kl : Klink := {}
  aud : Audio := {}
  tb : Tb := {}
  pair : Pair := {}
  hrt : Hearth := {}
  fab : Fabric := {}
  pwr : Power := {}
  perf : Perf := {}
  /-- event counters (Table 15.4), keyed by block × 2^24 + instance × 2^8 + index -/
  cnt : Tab Word := []
  out : List Out := []
  free : Nat := 0
  deriving DecidableEq, Repr

/-- The state: the part, the HBM in service (Table 16.3), the boot flash (R409), and the commands that wait. -/
structure State where
  m : Part := {}
  hbm : Memory := []
  flash : Memory := []
  pending : List Instr := []
  deriving DecidableEq, Repr

/-- The part held in reset, every register at its reset value (R403, R424). -/
def State.reset : State := {}

end Sys2Proof.Machine
end

