-- ==== Sys2Proof/Machine/Ops.lean ====
section
/-! DEFINITION. The operations every meaning shares: updating one group of the part, the passing of time, raising
events (R368 to R375), reporting to the log (R321), counting (R376, R379), and messages to the host (R371). -/

namespace Sys2Proof.Machine

open Sys2Proof

def Part.updSys (p : Part) (g : Sys → Sys) : Part := { p with sys := g p.sys }
def Part.updMaint (p : Part) (g : Maint → Maint) : Part := { p with maint := g p.maint }
def Part.updEv (p : Part) (g : Ev → Ev) : Part := { p with ev := g p.ev }
def Part.updLog (p : Part) (g : Log → Log) : Part := { p with log := g p.log }
def Part.updHost (p : Part) (g : HostIf → HostIf) : Part := { p with host := g p.host }
def Part.updTxn (p : Part) (g : TxnSt → TxnSt) : Part := { p with txn := g p.txn }
def Part.updCfg (p : Part) (g : Cfg → Cfg) : Part := { p with cfg := g p.cfg }
def Part.updInp (p : Part) (g : Inputs → Inputs) : Part := { p with inp := g p.inp }
def Part.updFrc (p : Part) (g : Tab FrcRt → Tab FrcRt) : Part := { p with frc := g p.frc }
def Part.updComp (p : Part) (g : Comp → Comp) : Part := { p with comp := g p.comp }
def Part.updFr (p : Part) (g : Frames → Frames) : Part := { p with fr := g p.fr }
def Part.updLight (p : Part) (g : Light → Light) : Part := { p with light := g p.light }
def Part.updKl (p : Part) (g : Klink → Klink) : Part := { p with kl := g p.kl }
def Part.updAud (p : Part) (g : Audio → Audio) : Part := { p with aud := g p.aud }
def Part.updTb (p : Part) (g : Tb → Tb) : Part := { p with tb := g p.tb }
def Part.updPair (p : Part) (g : Pair → Pair) : Part := { p with pair := g p.pair }
def Part.updHrt (p : Part) (g : Hearth → Hearth) : Part := { p with hrt := g p.hrt }
def Part.updFab (p : Part) (g : Fabric → Fabric) : Part := { p with fab := g p.fab }
def Part.updPwr (p : Part) (g : Power → Power) : Part := { p with pwr := g p.pwr }
def Part.updPerf (p : Part) (g : Perf → Perf) : Part := { p with perf := g p.perf }
def Part.updCnt (p : Part) (g : Tab Word → Tab Word) : Part := { p with cnt := g p.cnt }
def Part.updOut (p : Part) (g : List Out → List Out) : Part := { p with out := g p.out }
def Part.updFree (p : Part) (g : Nat → Nat) : Part := { p with free := g p.free }

/-- The part is out of reset and not damped: its clocks run (R403, Table 17.9). -/
def Part.alive (p : Part) : Bool := p.sys.resetN && p.sys.pwrOk && !p.sys.damped

/-- Time comes to instant `t`; it never runs back (log entry 27). -/
def advance (t : Nat) (p : Part) : Part := p.updSys fun y => { y with now := max y.now t }

/-- A happening at instant `t`: nothing happens while the part is in reset or damped. -/
def timed (t : Nat) (f : Part → Part) (p : Part) : Part := if p.alive then f (advance t p) else p

/-- A meaning that touches no byte memory. -/
def onPart (f : Part → Part) (s : State) : Host.Outcome State Fault Refusal := .next { s with m := f s.m }

/-- A meaning that also reads the byte memories. -/
def onPartMem (f : Memory → Memory → Part → Part) (s : State) : Host.Outcome State Fault Refusal :=
  .next { s with m := f s.hbm s.flash s.m }

/-- Acts only where the condition of the row holds (log entry 26). -/
def guarded (c : Part → Bool) (f : Part → Part) (p : Part) : Part := if c p then f p else p

/-- What the part puts on a port (log entry 20). -/
def emit (o : Out) (p : Part) : Part := p.updOut (· ++ [o])

/-- A fresh free value (log entry 21). -/
def freshFree (p : Part) : DWord × Part := (Config.freeWord p.free, p.updFree (· + 1))

/-! ### Messages and pending bits -/

/-- MSI-X vector `v` is masked: by the function, or by its table entry (R371). -/
def vectorMasked (v : Nat) (p : Part) : Bool :=
  p.ev.msixFnMask || (p.ev.msixTable.getD (4 * v + 3) 1).getLsbD 0

/-- Signals MSI-X vector `v`, or holds it in the pending-bit array while it is masked (R371). -/
def signalVector (v : Nat) (p : Part) : Part :=
  if vectorMasked v p then p.updEv fun e => { e with msixPba := e.msixPba ||| BitVec.ofNat 16 (2 ^ v) }
  else emit (.msix v) p

/-- The unmasked pending bits of bank `b` (R371). -/
def unmaskedBank (b : Nat) (e : Ev) : Word := ((e.pend &&& ~~~e.mask) >>> (32 * b)).setWidth 32

/-- Signals the bank's vector again after a write, if something unmasked is pending (R371). -/
def resignalBank (b : Nat) (p : Part) : Part := if unmaskedBank b p.ev = 0 then p else signalVector b p

def oneHot384 (n : Nat) : BitVec 384 := 1#384 <<< n

/-- Sets a pending bit; the vector is signalled when the bank's unmasked set leaves empty (R370, R371). -/
def setPend (n : Nat) (p : Part) : Part :=
  let was := unmaskedBank (n / 32) p.ev
  let q := p.updEv fun e => { e with pend := e.pend ||| oneHot384 n }
  if was = 0 && unmaskedBank (n / 32) q.ev ≠ 0 then signalVector (n / 32) q else q

/-! ### Event counters -/

def cntKey (block inst idx : Nat) : Nat := block * 2 ^ 24 + inst * 2 ^ 8 + idx

/-- Adds to a saturating event counter (R376). -/
def countBy (block inst idx n : Nat) (p : Part) : Part :=
  p.updCnt fun m => m.upd (cntKey block inst idx) 0 (satAdd32 · n)

def count (block inst idx : Nat) (p : Part) : Part := countBy block inst idx 1 p

/-- Takes back one count of a counter that is not at its maximum or 0. -/
def countBack (block inst idx : Nat) (p : Part) : Part :=
  p.updCnt fun m => m.upd (cntKey block inst idx) 0 fun v => if v = 0 ∨ v = BitVec.allOnes 32 then v else v - 1

def counter (block inst idx : Nat) (p : Part) : Word := p.cnt.getD (cntKey block inst idx) 0

/-! ### The event queue -/

/-- Pushes an entry; at 256 it is refused, counted in EVQ_OVF, and EVQ_OVERFLOW is raised without an entry (R374). -/
def pushEvent (x : EvEntry) (p : Part) : Part :=
  if p.ev.queue.length < 256 then p.updEv fun e => { e with queue := e.queue ++ [x] }
  else
    setPend evEvqOverflow <| count blkEvent 0 0 <| p.updEv fun e => { e with
      lostCount := min (e.lostCount + 1) (2 ^ 32 - 1)
      lostTime := if e.lostCount = 0 then x.time else e.lostTime
      lostCfn := if e.lostCount = 0 then x.cfn else e.lostCfn }

/-- Raises one event: its pending bit, and an entry if its ring bit is set (R370, R373). -/
def raiseEvent (n inst arg : Nat) (p : Part) : Part :=
  let q := setPend n p
  if q.ev.ring.getLsbD n then
    pushEvent { event := n, lost := false, time := q.sys.now, cfn := q.fr.cfn, inst := inst, arg := arg, count := 1 } q
  else q

/-! ### Reports to the log -/

/-- A window leaves the cache; with COUNT above 1 its entry is due for a rewrite (R321). -/
def closeWindow (w : LogWindow) (p : Part) : Part :=
  p.updLog fun l => { l with
    windows := l.windows.filter fun x => !(x.source == w.source && x.inst == w.inst && x.code == w.code)
    rewrites := if w.count > 1 then l.rewrites ++ [w] else l.rewrites }

/-- Pushes a new entry on the intake queue; at 64 it is refused, counted and LOG_OVERFLOW raised (R321, R322). -/
def pushIntake (x : LogEntry) (p : Part) : Part :=
  if p.log.intake.length < 64 then p.updLog fun l => { l with intake := l.intake ++ [x] }
  else
    raiseEvent evLogOverflow 0 0 <| count blkLog 0 x.source <| p.updLog fun l => { l with
      lostCount := min (l.lostCount + 1) 65535
      lostTime := if l.lostCount = 0 then x.time else l.lostTime
      lostCfn := if l.lostCount = 0 then x.cfn else l.lostCfn
      lostLast := x.time
      lostBlocks := if l.lostBlocks.contains x.source then l.lostBlocks else l.lostBlocks ++ [x.source] }

/-- A report: it joins its open window, or opens one and enters the intake queue (R321). -/
def report (source inst code sev cls arg : Nat) (p : Part) : Part :=
  let same := fun w : LogWindow => w.source == source && w.inst == inst && w.code == code
  match p.log.windows.find? fun w => same w && decide (p.sys.now < w.opened + msec) with
  | some w =>
    p.updLog fun l => { l with
      windows := l.windows.map fun x =>
        if same x then { x with count := min (w.count + 1) 65535, last := min ((p.sys.now - w.opened) / usec) 1000 }
        else x }
  | none =>
    let p1 := match p.log.windows.find? same with
      | some w => closeWindow w p
      | none => p
    let p2 := match p1.log.windows with
      | w :: _ => if p1.log.windows.length ≥ 16 then closeWindow w p1 else p1
      | [] => p1
    let p3 := p2.updLog fun l => { l with
      windows := l.windows ++ [{ source := source, inst := inst, code := code, opened := p.sys.now, count := 1, last := 0 }] }
    pushIntake { lseq := 0, time := p.sys.now, cfn := p.fr.cfn, severity := sev, faultClass := cls, gleaned := false,
                 toA := false, toB := false, coalesced := false, source := source, inst := inst, code := code,
                 count := 1, last := 0, arg := arg % 65536 } p3

/-- The block that raises an event (DEDUCED, log entry 28). -/
def evSource (n : Nat) : Nat :=
  if n = 0 then blkGlobal else if n ≤ 3 then blkHost else if n ≤ 5 then blkKiln else if n = 6 then blkGlobal
  else if n ≤ 13 then blkPower
  else if n = evPtpGmChange then blkIpin else if n = evStepFrame then blkCanvas else if n ≤ 46 then blkTimebase
  else if n ≤ 73 then blkIngest else if n ≤ 75 then blkFrc else if n ≤ 77 then blkIpin
  else if n ≤ 99 then blkCanvas else if n = evMonShed then blkMonitor else if n ≤ 106 then blkLight
  else if n < 288 then blkKlink else if n ≤ 293 then blkAudio else if n ≤ 305 then blkPair
  else if n ≤ 330 then blkHearth else if n ≤ 337 then blkKiln else if n = evYielding then blkPair
  else if n ≤ 355 then blkLog else if n ≤ 357 then blkEvent else blkPerf

/-- Severity and fault class of an event's report: FAULT for the events of Table 12.1 (R299), WARN for the
conditions of R298, else INFO (log entry 28). -/
def evSeverity (n : Nat) : Nat × Nat :=
  if n = evUnitFault || n = evShadowSelfFault then (2, 1)
  else if n = evWearTrend then (2, 2)
  else if n = evMemFault then (2, 3)
  else if n = evFurrowFault then (2, 4)
  else if n = evKilnReset then (2, 5)
  else if n = evHearthSplit then (2, 6)
  else if n = evXoFail then (2, 7)
  else if n = evLogBankFail then (2, 8)
  else if n = evRootLockLost || n = evStreamLost || n = evKlinkDown || n = evKlinkLos || n = evKlinkLol ||
    n = evKlinkAlignLost || n = evPairLinkLost then (1, 0)
  else (0, 0)

/-- Raises an event with the severity of its report given; an event of EVB4 also raises FURROW_ATTN (R369). -/
def raiseAs (sev cls n inst arg : Nat) (p : Part) : Part :=
  let q := raiseEvent n inst arg p
  let q := if 128 ≤ n ∧ n ≤ 147 then raiseEvent (160 + inst) inst arg q else q
  report (evSource n) inst n sev cls arg q

/-- Raises an event and reports it to the log. -/
def raise (n inst arg : Nat) (p : Part) : Part := raiseAs (evSeverity n).1 (evSeverity n).2 n inst arg p

/-- A level event's condition for one source `inst`: raised when it begins to hold (R368). -/
def setLevel (n inst : Nat) (on : Bool) (p : Part) : Part :=
  let k := n + 384 * inst
  if on then
    if p.ev.level.contains k then p else raise n inst 0 (p.updEv fun e => { e with level := e.level ++ [k] })
  else p.updEv fun e => { e with level := e.level.filter (· != k) }

/-- Clears pending bits and signals again what is left (R371); then a level event whose condition holds is raised again
(R370). -/
def clearPend (bitsToClear : BitVec 384) (again : Part → Part) (p : Part) : Part :=
  (p.ev.level.filter fun k => bitsToClear.getLsbD (k % 384) && p.ev.pend.getLsbD (k % 384)).foldl
    (fun r k => raise (k % 384) (k / 384) 0 r) (again (p.updEv fun e => { e with pend := e.pend &&& ~~~bitsToClear }))

/-! ### Performance counters -/

/-- Clock period of a group's domain in 25 ps units (Table 15.5, Table 1.2). -/
def perfPeriod (g : Nat) : Nat := if g ≤ 4 then 64 else if g ≤ 6 then 32 else 128

def selCode (w : Word) : Nat := (w.setWidth 8).toNat
def selEdge (w : Word) : Bool := w.getLsbD 8
def selChain (w : Word) : Bool := w.getLsbD 9
def selFreeze (w : Word) : Bool := w.getLsbD 10
def selEnable (w : Word) : Bool := w.getLsbD 11
def selAll (w : Word) : Bool := w.getLsbD 12
def selInst (w : Word) : Nat := ((w >>> 16).setWidth 8).toNat

/-- The spared units that a group measures (Table 15.5). -/
def perfKind (g : Nat) : Option UnitKind := [some .ingest, some .converter, some .scaler, some .lane].getD g none

/-- The instance is one of the group's units in service, its fabric master channels or its pseudo-channels (R377). -/
def perfHas (g i : Nat) (p : Part) : Bool :=
  match perfKind g with
  | some k => (p.hrt.units.any fun u => u.kind == k && u.state == .service i) && !p.hrt.degradedUnits.contains (k, i)
  | none => decide (i < [0, 0, 0, 0, 128, 177, 120, 1, 1, 1].getD g 0)

/-- The instances that a selector counts: every one of the group, or INSTANCE (Table 15.6). -/
def perfCounted (g : Nat) (w : Word) (p : Part) : List Nat :=
  (if selAll w then List.range 177 else [selInst w]).filter fun i => perfHas g i p

def perfSel (g c : Nat) (p : Part) : Word := (p.perf.groups.getD g ⟨0, [], [], 0, 0, []⟩).sel.getD c 0
def perfVal (g c : Nat) (p : Part) : Word := (p.perf.groups.getD g ⟨0, [], [], 0, 0, []⟩).cnt.getD c 0

def updGroup (g : Nat) (f : PerfGroup → PerfGroup) (p : Part) : Part :=
  p.updPerf fun q => { q with groups := q.groups.upd g ⟨0, [], [], 0, 0, []⟩ f }

/-- Slots per cycle and instance (Table 15.5). -/
def slotsPerCycle (g : Nat) : Nat := if g ≤ 3 then 4 else if g = 4 then 1 else 0

/-- How many of an instance's slots in an interval fall into the class of a code: each slot into exactly one of RETIRED,
WASTED, BACK_STARVED and FRONT_STARVED, FRONT_IDLE a subset of the last (R380).  Which class a slot falls into is a free
value (log entry 29). -/
def slotClass (since now slots g inst code : Nat) : Nat :=
  let part := fun c room => Config.perfShare since now [g, inst, c] % (room + 1)
  let retired := part 3 slots
  let wasted := part 4 (slots - retired)
  let back := part 6 (slots - retired - wasted)
  let front := slots - retired - wasted - back
  if code = 2 then slots else if code = 3 then retired else if code = 4 then wasted else if code = 5 then front
  else if code = 6 then back else part 7 front

/-- Signals whose occurrences the model counts itself, at their instants (log entry 29). -/
def pulsed (g code : Nat) : Bool :=
  ([[0x10, 0x11, 0x12], [0x10, 0x12], [0x10, 0x11], [0x10, 0x11], [0x10, 0x11, 0x12], [], [], [0x10, 0x11], [0x11],
    [0x12]].getD g []).contains code

/-- The signal is one of its group's (Table 15.5). -/
def perfDefined (g code : Nat) : Bool :=
  code == 1 || decide (2 ≤ code ∧ code ≤ 7 ∧ g ≤ 4) ||
  decide (0x10 ≤ code ∧ code < 0x10 + [3, 3, 3, 3, 3, 4, 4, 2, 3, 3].getD g 0)

/-- What an instance adds to a counter over `n` cycles (R377, R378): its cycles, its slots of a class, or the cycles or rises
of a signal that the commands do not show, a free value within what the interval has room for (log entry 29). -/
def perfOver (since now n g : Nat) (w : Word) (inst : Nat) : Nat :=
  let code := selCode w
  if !perfDefined g code || pulsed g code then 0
  else if code = 1 then (if selEdge w then 0 else n)
  else if code ≤ 7 then slotClass since now (n * slotsPerCycle g) g inst code
  else
    let level := Config.perfShare since now [g, inst, code] % (n + 1)
    if selEdge w then Config.perfShare since now [g, inst, code, 1] % (min level (n + 1 - level) + 1) else level

/-- One group counts up to now: its cycle counter, and the counters whose signals last over cycles (R377, R378). -/
def perfSyncGroup (p : Part) (g : Nat) : Part :=
  let n := p.sys.now / perfPeriod g - p.perf.since / perfPeriod g
  if p.perf.freeze || n == 0 || (decide (g ≤ 4) && !p.tb.rootLock) then p
  else updGroup g (fun q =>
    { q with
      cycles := q.cycles + BitVec.ofNat 64 n
      cnt := (List.range 8).foldl (fun m c =>
        let w := q.sel.getD c 0
        if selEnable w && !(selChain w && c % 2 == 1) then
          m.upd c 0 (· + BitVec.ofNat 32 ((perfCounted g w p).map (perfOver p.perf.since p.sys.now n g w)).sum)
        else m) q.cnt }) p

/-- Counts the cycles of every group up to now. -/
def perfSync (p : Part) : Part :=
  ((List.range 10).foldl perfSyncGroup p).updPerf fun q => { q with since := p.sys.now }

/-- What a wrap of counter `c` does besides carrying (R379). -/
def perfWrapped (g c : Nat) (p : Part) : Part :=
  let q := updGroup g (fun x => { x with ovf := x.ovf ||| BitVec.ofNat 8 (2 ^ c) }) p
  if selFreeze (perfSel g c p) then (perfSync q).updPerf fun x => { x with freeze := true } else q

/-- The carry of a wrap into a chained counter, or PERF_OVERFLOW (R379). -/
def perfCarry (g c : Nat) (p : Part) : Part :=
  let w := perfSel g (c + 1) p
  if c % 2 = 0 && selEnable w && selChain w then
    let v := perfVal g (c + 1) p
    let q := updGroup g (fun x => { x with cnt := x.cnt.set (c + 1) (v + 1) }) p
    if v + 1 = 0 then raise evPerfOverflow g (c + 1) (perfWrapped g (c + 1) q) else q
  else raise evPerfOverflow g c p

/-- Adds to a programmable counter, with the effects of a wrap. -/
def perfAdd (g n : Nat) (p : Part) (c : Nat) : Part :=
  let v := perfVal g c p
  let q := updGroup g (fun x => { x with cnt := x.cnt.set c (v + BitVec.ofNat 32 n) }) p
  if v.toNat + n < 2 ^ 32 then q else perfCarry g c (perfWrapped g c q)

/-- `n` occurrences of a signal of Table 15.5 at an instance, each one cycle long (log entry 29). -/
def perfSignal (g code inst n : Nat) (p : Part) : Part :=
  if p.perf.freeze then p
  else ((List.range 8).filter fun c =>
    let w := perfSel g c p
    selEnable w && selCode w == code && !(selChain w && c % 2 == 1) && (selAll w || selInst w == inst)).foldl
      (perfAdd g n) p

/-- Copies every counter to its snapshot and raises PERF_SNAPSHOT (R382). -/
def takeSnapshot (p : Part) : Part :=
  let q := perfSync p
  raise evPerfSnapshot 0 0 <| q.updPerf fun x => { x with
    groups := x.groups.mapVals fun _ y => { y with snapCycles := y.cycles, snapCnt := y.cnt }
    snapCfn := q.fr.cfn
    snapTime := q.sys.now }

/-! ### Faults -/

/-- A fault begins: FAULT_N low while any is unrecovered (R299). -/
def faultOn (p : Part) : Part := p.updSys fun y => { y with faults := y.faults + 1 }

/-- A fault is recovered, or isolated with its work taken over (R299). -/
def faultOff (p : Part) : Part := p.updSys fun y => { y with faults := y.faults - 1 }

end Sys2Proof.Machine
end

