-- ==== Sys2Proof/Machine/Journal.lean ====
section
/-! DEFINITION. What a head sends its partner (R281 to R283), the journal (R120, R286), and phase steps (R128), which the
journal carries. -/

namespace Sys2Proof.Machine

open Sys2Proof

def updPairLink (b : Bool) (f : PairLink → PairLink) (p : Part) : Part :=
  p.updPair fun x => { x with links := x.links.upd (b2n b) {} f }

/-- Pair links that are up: A is 0, B is 1. -/
def upLinks (p : Part) : List Nat := [0, 1].filter fun k => (p.pair.links.getD k {}).up

/-- Sends a frame on a link: FSEQ counts every frame sent on it (R281). -/
def sendPair (b : Bool) (cfn : Nat) (x : PairBody) (p : Part) : Part :=
  emit (.pairFrame b ((p.pair.links.getD (b2n b) {}).fseq + 1) cfn x) (updPairLink b (fun l => { l with fseq := l.fseq + 1 }) p)

/-- Sends a frame on every UP pair link. -/
def toPartner (cfn : Nat) (x : PairBody) (p : Part) : Part := (upLinks p).foldl (fun q k => sendPair (k == 1) cfn x q) p

/-- Sends a frame that must be acknowledged on every UP pair link (R283). -/
def sendAcked (kind seq : Nat) (x : PairBody) (p : Part) : Part :=
  (upLinks p).foldl (fun q k => sendPair (k == 1) p.fr.cfn x (updPairLink (k == 1) (fun l => { l with
    unacked := l.unacked ++ [{ kind := kind, seq := seq, sentAt := p.sys.now, what := x }] }) q)) p

/-- The primary writes a journal entry; a head keeps its last 4,096 (R283, R286). -/
def writeJournal (cfn : Nat) (txn : Half) (tag : Word) (body : JournalBody) (p : Part) : Part :=
  if p.pair.role = .primary then
    let e : JournalEntry := { jseq := p.txn.jseq + 1, txn := txn, cfn := cfn, tag := tag, body := body }
    let q := p.updTxn fun x => { x with
      jseq := e.jseq, journal := (x.journal ++ [e]).drop (x.journal.length + 1 - 4096) }
    sendAcked 3 e.jseq (.journal e) q
  else p

/-! ### Phase steps -/

/-- T_f in units of 25 ps, truncated (R10). -/
def framePeriod (c : CanvasCfg) : Nat := sec * c.rateDen / c.rateNum

/-- Canvas phase in units of 25 ps, truncated (R10, R127). -/
def phaseUnits (c : CanvasCfg) : Int := (sec * c.rateDen * c.phase / (c.rateNum * 65536) : Nat)

/-- The low-latency lag in units of 25 ps, truncated (R10, R30). -/
def lagUnits (c : Cfg) : Nat := c.lowlat.lag * sec * c.canvas.rateDen / (c.canvas.rateNum * (c.canvas.h + c.canvas.vb))

/-- A shift reduced modulo P into (−P/2, +P/2] (R128): P is exact here, and the result truncated to 25 ps (R10). -/
def reduceStep (c : CanvasCfg) (e : Int) : Int :=
  let per : Int := (sec * c.rateDen : Nat)
  let r := e * c.rateNum % per
  (if 2 * r ≤ per then r else r - per).tdiv c.rateNum

/-- CFN of the next frame event (R18, R19). -/
def nextCfn (p : Part) : Nat := if p.fr.first then p.fr.cfn else p.fr.cfn + 1

/-- The instant of frame event `m`, on the pixel-clock cycle nearest its exact instant (R125). -/
def feInstant (p : Part) (m : Nat) : Nat :=
  let c := p.cfg.canvas
  let num : Int := p.fr.origin * c.rateNum + ((m : Int) - p.fr.originCfn) * (sec * c.rateDen : Nat)
  64 * (roundDiv num (64 * c.rateNum)).toNat

/-- The first frame event at or after `t`, by the raster in force: its CFN (R125). A step that waits for its frame moves no
frame event up to that frame's own (R128). -/
def firstFrameFrom (p : Part) (t : Nat) : Nat :=
  let c := p.cfg.canvas
  let n := nextCfn p
  let k := (t - feInstant p n) * c.rateNum / (sec * c.rateDen)
  (([n + k, n + k + 1].find? fun m => decide (t ≤ feInstant p m)).getD (n + k + 2))

/-- A phase step of this head's own raster, absorbed in the first frame 200 µs or more after the report (R128). -/
def ownStep (e : Int) (p : Part) : Part :=
  let m := firstFrameFrom p (p.sys.now + 200 * usec)
  p.updFr fun f => { f with step := some (reduceStep p.cfg.canvas (e + (f.step.map (·.1)).getD 0), m) }

/-- A standby with a link UP takes phase steps and alignment choices only from the journal; with both links lost it runs its
timebase alone (R290). -/
def followsTimebase (p : Part) : Bool := p.pair.role == .standby && (upLinks p) != []

/-- A phase step is reported (R128): the primary journals it (R131, R290). -/
def reportStep (e : Int) (p : Part) : Part :=
  if followsTimebase p then p
  else
    let q := ownStep e p
    match q.fr.step with
    | some (x, m) => writeJournal m 0 0 (.phaseStep x) q
    | none => q

end Sys2Proof.Machine
end

