-- ==== Sys2Proof/Machine/Crc.lean ====
section
/-! DEFINITION. The three checksums: CRC-32C of packets and images (R330), CRC-32 of the Kralys link (R183)
and CRC-64 of line bands (R132); all reflected, preset and inverted. -/

namespace Sys2Proof

/-- One bit of a reflected CRC on the register `r`. -/
def crcBit (poly r : Nat) : Nat := if r % 2 = 1 then (r / 2) ^^^ poly else r / 2

def crcByte (poly r : Nat) (b : Byte) : Nat :=
  crcBit poly (crcBit poly (crcBit poly (crcBit poly (crcBit poly (crcBit poly (crcBit poly
    (crcBit poly (r ^^^ b.toNat))))))))

/-- A reflected CRC of width `w` with preset and final inversion. -/
def crcBytes (w poly : Nat) (p : List Byte) : Nat :=
  p.foldl (crcByte poly) (2 ^ w - 1) ^^^ (2 ^ w - 1)

/-- CRC-32C (R330): 0x1EDC6F41 reflected. -/
def crc32c (p : List Byte) : Word := BitVec.ofNat 32 (crcBytes 32 0x82F63B78 p)

/-- CRC-32 of the Kralys link (R183): 0x04C11DB7 reflected. -/
def crc32 (p : List Byte) : Word := BitVec.ofNat 32 (crcBytes 32 0xEDB88320 p)

/-- CRC-64 (R132): 0x42F0E1EBA9EA3693 reflected. -/
def crc64 (p : List Byte) : DWord := BitVec.ofNat 64 (crcBytes 64 0xC96C5795D7870F42 p)

/-- The CRC-32C of a block whose own CRC field stands at `off` and is taken as zero. -/
def crc32cAround (p : List Byte) (off : Nat) : Word :=
  crc32c (p.take off ++ [0, 0, 0, 0] ++ p.drop (off + 4))

end Sys2Proof
end

