-- ==== Sys2Proof/Machine/Float.lean ====
section
/-! DEFINITION. IEEE 754 binary16 and binary32 arithmetic (R11, R51): exact operations on decoded numbers,
then one rounding to nearest, ties to even; the power, exponential and logarithm of R51 likewise. -/

namespace Sys2Proof

/-- A decoded number: not a number, an infinity, or (−1)^neg · m · 2^e. -/
inductive Fl where
  | nan
  | inf (neg : Bool)
  | fin (neg : Bool) (m : Nat) (e : Int)
  deriving DecidableEq, Repr

namespace Fl

/-- Decodes a code with `eb` exponent and `mb` fraction bits. -/
def decode (eb mb c : Nat) : Fl :=
  let neg := bit c (eb + mb)
  let ex := bits c (eb + mb - 1) mb
  let fr := c % 2 ^ mb
  let bias : Int := 2 ^ (eb - 1) - 1
  if ex = 2 ^ eb - 1 then (if fr = 0 then .inf neg else .nan)
  else if ex = 0 then .fin neg fr (1 - bias - mb)
  else .fin neg (fr + 2 ^ mb) (ex - bias - mb)

/-- m · 2^(−s) rounded to an integer, ties to even. -/
def shiftRne (m s : Nat) : Nat :=
  let q := m >>> s
  let r := m % 2 ^ s
  if 2 * r < 2 ^ s then q else if 2 * r > 2 ^ s then q + 1 else q + q % 2

/-- Encodes with one rounding to nearest, ties to even. -/
def encode (eb mb : Nat) : Fl → Nat
  | .nan => (2 ^ eb - 1) * 2 ^ mb + 2 ^ (mb - 1)
  | .inf neg => b2n neg * 2 ^ (eb + mb) + (2 ^ eb - 1) * 2 ^ mb
  | .fin neg m e =>
    let s := b2n neg * 2 ^ (eb + mb)
    if m = 0 then s else
    let bias : Int := 2 ^ (eb - 1) - 1
    let e1 : Int := max (e + (m.log2 : Int) - mb) (1 - bias - mb)
    let m1 := if e1 ≤ e then m <<< (e - e1).toNat else shiftRne m (e1 - e).toNat
    let m2 := if m1 = 2 ^ (mb + 1) then 2 ^ mb else m1
    let e2 := if m1 = 2 ^ (mb + 1) then e1 + 1 else e1
    if m2 < 2 ^ mb then s + m2 else
    let ex := e2 + bias + mb
    if ex ≥ 2 ^ eb - 1 then s + (2 ^ eb - 1) * 2 ^ mb
    else s + ex.toNat * 2 ^ mb + (m2 - 2 ^ mb)

def neg : Fl → Fl
  | .nan => .nan
  | .inf n => .inf !n
  | .fin n m e => .fin (!n) m e

def mul : Fl → Fl → Fl
  | .nan, _ => .nan
  | _, .nan => .nan
  | .inf a, .inf b => .inf (a != b)
  | .inf a, .fin b m _ => if m = 0 then .nan else .inf (a != b)
  | .fin a m _, .inf b => if m = 0 then .nan else .inf (a != b)
  | .fin a m e, .fin b n f => .fin (a != b) (m * n) (e + f)

def signedMant (neg : Bool) (m : Nat) : Int := if neg then -(m : Int) else m

def add : Fl → Fl → Fl
  | .nan, _ => .nan
  | _, .nan => .nan
  | .inf a, .inf b => if a = b then .inf a else .nan
  | .inf a, .fin _ _ _ => .inf a
  | .fin _ _ _, .inf b => .inf b
  | .fin a m e, .fin b n f =>
    let g := min e f
    let x := signedMant a (m <<< (e - g).toNat) + signedMant b (n <<< (f - g).toNat)
    if x = 0 then .fin (a && b) 0 g else .fin (decide (x < 0)) x.natAbs g

/-- Exact comparison; false where either is not a number. -/
def lt (x y : Fl) : Bool :=
  match add x (neg y) with
  | .nan => (match x, y with | .inf true, .inf false => true | _, _ => false)
  | .inf n => n
  | .fin n m _ => n && decide (m ≠ 0)

end Fl

/-- binary32 from its code, and back. -/
def f32 (c : Word) : Fl := Fl.decode 8 23 c.toNat
def toF32 (x : Fl) : Word := BitVec.ofNat 32 (Fl.encode 8 23 x)
/-- FP16 from its code, and back, rounding to nearest, ties to even. -/
def f16 (c : Half) : Fl := Fl.decode 5 10 c.toNat
def toF16 (x : Fl) : Half := BitVec.ofNat 16 (Fl.encode 5 10 x)

def f32mul (a b : Word) : Word := toF32 (Fl.mul (f32 a) (f32 b))
def f32add (a b : Word) : Word := toF32 (Fl.add (f32 a) (f32 b))
def f32sub (a b : Word) : Word := toF32 (Fl.add (f32 a) (Fl.neg (f32 b)))
def f32lt (a b : Word) : Bool := Fl.lt (f32 a) (f32 b)
def f32max (a b : Word) : Word := if f32lt a b then b else a
def f32min (a b : Word) : Word := if f32lt b a then b else a
def f32clamp (x lo hi : Word) : Word := f32min (f32max x lo) hi
def f32ofF16 (c : Half) : Word := toF32 (f16 c)
def f16ofF32 (c : Word) : Half := toF16 (f32 c)
def f32ofInt (i : Int) : Word := toF32 (.fin (decide (i < 0)) i.natAbs 0)
/-- m · 2^e as binary32. -/
def f32ofScaled (i : Int) (e : Int) : Word := toF32 (.fin (decide (i < 0)) i.natAbs e)

/-- Quotient of two numbers, exact but for a last bit that says whether more follows. -/
def Fl.div : Fl → Fl → Fl
  | .nan, _ => .nan
  | _, .nan => .nan
  | .inf _, .inf _ => .nan
  | .inf a, .fin b _ _ => .inf (a != b)
  | .fin a _ _, .inf b => .fin (a != b) 0 0
  | .fin s m e, .fin u n f =>
    if n = 0 then (if m = 0 then .nan else .inf (s != u))
    else
      let q := (m <<< 80) / n
      let r := (m <<< 80) % n
      .fin (s != u) (2 * q + (if r = 0 then 0 else 1)) (e - f - 81)

/-- Quotient rounded to binary32. -/
def f32div (a b : Word) : Word := toF32 (Fl.div (f32 a) (f32 b))

/-- A decimal constant num / den as binary32. -/
def f32const (num : Int) (den : Nat) : Word := f32div (f32ofInt num) (f32ofInt den)

/-- round(x) of a finite binary32 value, halves away from zero (R10); 0 for others. -/
def f32round (c : Word) : Int :=
  match f32 c with
  | .fin n m e =>
    let k := if 0 ≤ e then m <<< e.toNat else (2 * m + 2 ^ (-e).toNat) / 2 ^ ((-e).toNat + 1)
    if n then -(k : Int) else k
  | _ => 0

/-! ### Power, exponential and logarithm

The functions of R51, R77 and R143, as IEEE 754 recommends them: one rounding of the exact value (log entry 22).  The value
is computed to `fixBits` bits after the binary point. -/

def fixBits : Nat := 192
def fixOne : Int := 2 ^ fixBits

/-- Product in fixed point. -/
def fixMul (a b : Int) : Int := a * b / fixOne

/-- z + z³/3 + z⁵/5 + …, `k` terms, where `t` is the next odd power of z and `n` its exponent. -/
def atanhSum (zz : Int) : Nat → Int → Int → Int
  | 0, _, _ => 0
  | k + 1, t, n => t / n + atanhSum zz k (fixMul t zz) (n + 2)

/-- 2 artanh(num / den) for num / den ≤ 1/3. -/
def twoAtanh (num den : Int) : Int :=
  let z := num * fixOne / den
  2 * atanhSum (fixMul z z) 64 z 1

/-- ln 2 and ln 10. -/
def lnTwo : Int := twoAtanh 1 3
def lnTen : Int := 3 * lnTwo + twoAtanh 1 9

/-- ln(m · 2^e) for m > 0. -/
def lnOf (m : Nat) (e : Int) : Int :=
  let k := m.log2
  let one : Int := 2 ^ k
  (e + k) * lnTwo + twoAtanh (m - one) (m + one)

/-- 1 + r (1 + r/2 (1 + r/3 (…))), `k` terms from the one divided by `n` on. -/
def expSum (r : Int) : Nat → Int → Int
  | 0, _ => fixOne
  | k + 1, n => fixOne + fixMul r (expSum r k (n + 1)) / n

/-- e^x, of a sign; beyond any binary32 it is infinite or zero. -/
def expOf (neg : Bool) (x : Int) : Fl :=
  let n := x / lnTwo
  if 200 < n then .inf neg
  else if n < -200 then .fin neg 0 0
  else .fin neg (expSum (x - n * lnTwo) 64 1).toNat (n - fixBits)

/-- The integer that a number is, if it is one. -/
def Fl.toInt? : Fl → Option Int
  | .fin s m e =>
    let k := if 0 ≤ e then m <<< e.toNat else m >>> (-e).toNat
    if 0 ≤ e ∨ m % 2 ^ (-e).toNat = 0 then some (if s then -(k : Int) else k) else none
  | _ => none

def Fl.isZero : Fl → Bool
  | .fin _ m _ => m == 0
  | _ => false

/-- x^y with the special cases of IEEE 754. -/
def Fl.pow (x y : Fl) : Fl :=
  let one := Fl.fin false 1 0
  let odd := (y.toInt?.map fun k => decide (k % 2 = 1)).getD false
  if y.isZero || x == one || x.toInt? == some 1 then one
  else match x, y with
  | .nan, _ => .nan
  | _, .nan => .nan
  | .fin s m e, .inf n =>
    let big := Fl.lt one (.fin false m e)
    if (Fl.fin s m e).toInt? == some (-1) then one else if big != n then .inf false else .fin false 0 0
  | .inf s, .inf n => if n then .fin false 0 0 else .inf (s && odd)
  | .inf s, .fin n _ _ => if n then .fin (s && odd) 0 0 else .inf (s && odd)
  | .fin s m e, .fin n k f =>
    if m = 0 then (if n then .inf (s && odd) else .fin (s && odd) 0 0)
    else if s && y.toInt?.isNone then .nan
    else
      let l := lnOf m e * signedMant n k
      -- |y| ≥ 2^64 takes any x but 1 out of range
      if 64 ≤ f + (k.log2 : Int) then (if decide (0 < l) then .inf (s && odd) else .fin (s && odd) 0 0)
      else expOf (s && odd) (if 0 ≤ f then l * 2 ^ f.toNat else l / 2 ^ (-f).toNat)

/-- e^x. -/
def Fl.exp : Fl → Fl
  | .nan => .nan
  | .inf n => if n then .fin false 0 0 else .inf false
  | .fin s m e =>
    if m = 0 then .fin false 1 0
    else if 64 ≤ e + (m.log2 : Int) then (if s then .fin false 0 0 else .inf false)
    else
      let v := signedMant s m
      expOf false (if 0 ≤ e + fixBits then v * 2 ^ (e + fixBits).toNat else v / 2 ^ (-(e + fixBits)).toNat)

/-- The decimal logarithm. -/
def Fl.log10 : Fl → Fl
  | .nan => .nan
  | .inf n => if n then .nan else .inf false
  | .fin s m e =>
    if m = 0 then .inf true else if s then .nan
    else
      let q := lnOf m e * fixOne / lnTen
      .fin (decide (q < 0)) q.natAbs (-fixBits)

def f32pow (a b : Word) : Word := toF32 (Fl.pow (f32 a) (f32 b))
def f32exp (a : Word) : Word := toF32 (Fl.exp (f32 a))
def f32log10 (a : Word) : Word := toF32 (Fl.log10 (f32 a))

def f32one : Word := 0x3F800000

end Sys2Proof
end

