-- ==== Sys2Proof/Machine/Operands.lean ====
section
/-! DEFINITION. The operand forms of command packets: range checks with the offset of the first field at fault
(R347, R353), format blocks (R349), address blocks (R350), colours, frame prefix and commit block (R352). -/

namespace Sys2Proof.Machine

open Sys2Proof

/-- What checking a layout gives: the value, or a status with OFFSET. -/
abbrev Parse (α : Type) := Except (Nat × Nat) α

/-- Status codes (Table 14.4). -/
abbrev stOk : Nat := 0x0000
abbrev stPending : Nat := 0x0001
abbrev stSuperseded : Nat := 0x0002
abbrev stDuplicate : Nat := 0x0003
abbrev stBusyKindling : Nat := 0x0100
abbrev stBadOpcode : Nat := 0x0101
abbrev stBadParam : Nat := 0x0102
abbrev stNoResource : Nat := 0x0103
abbrev stConflict : Nat := 0x0104
abbrev stNotPrimary : Nat := 0x0105
abbrev stCrcFail : Nat := 0x0106
abbrev stTimeout : Nat := 0x0107
abbrev stLocked : Nat := 0x0108
abbrev stFaulted : Nat := 0x0200
abbrev stDegradedOk : Nat := 0x0201

/-- What a staged command touches or sets, as FAIL_TAG names it (R119, R353; log entry 40). -/
inductive Topic where
  | streams
  | flows
  | groups
  | converters
  | regions
  | layers
  | coefs
  | canvas
  | lowlat
  | monitors
  | slate
  | tileMap
  | furrows
  | latch
  | audio
  | timebase
  deriving DecidableEq, Repr

/-- A limit of a commit's result: whether it is broken, the status it gives, and what it concerns. -/
abbrev Limit := Bool × Nat × List Topic

/-- The first limit that is broken (R117). -/
def firstBroken : List Limit → Option (Nat × List Topic)
  | [] => none
  | (bad, st, on) :: rest => if bad then some (st, on) else firstBroken rest

/-- No single field is at fault (R353). -/
abbrev noOffset : Nat := 0xFFFF

def badParam {α : Type} (off : Nat) : Parse α := .error (stBadParam, off)

/-- The offset of the first check that fails. -/
def firstBad : List (Bool × Nat) → Option Nat
  | [] => none
  | (ok, off) :: rest => if ok then firstBad rest else some off

/-- A layout of `len` bytes whose fields pass their checks (R347). -/
def layout {α : Type} (p : List Byte) (len : Nat) (checks : List (Bool × Nat)) (v : α) : Parse α :=
  if p.length ≠ len then badParam noOffset
  else match firstBad checks with
    | some off => badParam off
    | none => .ok v

/-- `n` reserved bytes from `off` are zero (R7). -/
def zeros (p : List Byte) (off n : Nat) : Bool × Nat := ((bytesAt p off n).all (· == 0), off)

/-- A 1-byte field below `n`. -/
def below (p : List Byte) (off n : Nat) : Bool × Nat := (decide (byteAt p off < n), off)

/-- A field of `k` bytes within its range. -/
def within (p : List Byte) (off k lo hi : Nat) : Bool × Nat :=
  (decide (lo ≤ leAt p off k) && decide (leAt p off k ≤ hi), off)

/-- A signed field of `k` bytes within its range. -/
def withinInt (p : List Byte) (off k : Nat) (lo hi : Int) : Bool × Nat :=
  (decide (lo ≤ leIntAt p off k) && decide (leIntAt p off k ≤ hi), off)

def noneByte (n : Nat) : Option Nat := if n = 0xFF then none else some n
def noneHalf (n : Nat) : Option Nat := if n = 0xFFFF then none else some n
def encNoneByte (o : Option Nat) : List Byte := le 1 (o.getD 0xFF)
def encNoneHalf (o : Option Nat) : List Byte := le 2 (o.getD 0xFFFF)

/-- A colour: FP16 RGBA (R348). -/
def rgbaAt (p : List Byte) (off : Nat) : Rgba :=
  ⟨BitVec.ofNat 16 (leAt p off 2), BitVec.ofNat 16 (leAt p (off + 2) 2), BitVec.ofNat 16 (leAt p (off + 4) 2),
   BitVec.ofNat 16 (leAt p (off + 6) 2)⟩

def encRgba (c : Rgba) : List Byte := le 2 c.r.toNat ++ le 2 c.g.toNat ++ le 2 c.b.toNat ++ le 2 c.a.toNat

/-- The format block of Table 14.1. -/
def formatAt (p : List Byte) (off : Nat) : VideoFormat :=
  { width := leAt p off 2, height := leAt p (off + 2) 2, rateNum := leAt p (off + 4) 4, rateDen := leAt p (off + 8) 2,
    scan := byteAt p (off + 10), sampling := byteAt p (off + 11) % 16, depth := byteAt p (off + 11) / 16 }

def encFormat (f : VideoFormat) : List Byte :=
  le 2 f.width ++ le 2 f.height ++ le 4 f.rateNum ++ le 2 f.rateDen ++ le 1 f.scan ++ le 1 (f.sampling + 16 * f.depth)

/-- The address block of Table 14.2. -/
def legAt (p : List Byte) (off : Nat) : Leg :=
  { family := byteAt p off, payloadType := byteAt p (off + 1), udpPort := leAt p (off + 2) 2, vlan := leAt p (off + 4) 2,
    dst := bytesAt p (off + 8) 16, src := bytesAt p (off + 24) 16 }

/-- Range checks of an address block (R350, R7). -/
def legChecks (p : List Byte) (off : Nat) : List (Bool × Nat) :=
  [below p off 2, (decide (96 ≤ byteAt p (off + 1)) && decide (byteAt p (off + 1) ≤ 127), off + 1),
   within p (off + 4) 2 0 4094, zeros p (off + 6) 2,
   (byteAt p off != 0 || (bytesAt p (off + 12) 12).all (· == 0), off + 8),
   (byteAt p off != 0 || (bytesAt p (off + 28) 12).all (· == 0), off + 24)]

/-- Checks of both legs of a flow: a second leg given only with ST 2022-7 (Table 14.7). -/
def legsChecks (p : List Byte) (protect : Bool) (off1 off2 : Nat) : List (Bool × Nat) :=
  legChecks p off1 ++ if protect then legChecks p off2 else [((bytesAt p off2 40).all (· == 0), off2)]

def encLeg (l : Leg) : List Byte :=
  le 1 l.family ++ le 1 l.payloadType ++ le 2 l.udpPort ++ le 2 l.vlan ++ [0, 0] ++ padTo 16 l.dst ++ padTo 16 l.src

/-- The commit block (R352). -/
def commitBlock (cfn : Nat) : List Byte := le 6 cfn ++ [0, 0]

/-- The error block (R353). -/
def errorBlock (off : Nat) (failTag : Word) : List Byte := le 2 off ++ [0, 0] ++ le 4 failTag.toNat

/-- A reply with status 0x0100 or above carries the error block, but CRC_FAIL to a packet and DEGRADED_OK (R353). -/
def carriesError (st : Nat) : Bool := decide (0x0100 ≤ st) && st != stDegradedOk

end Sys2Proof.Machine
end

