-- ==== Sys2Proof/Machine/Inputs.lean ====
section
/-! DEFINITION. Streams and flows: the formats of Tables 2.2 and 2.3, the limits of chapter 2, and the layouts of
groups 0x01xx (fences) and 0x02xx. -/

namespace Sys2Proof.Machine

open Sys2Proof

/-- Frame rates of Table 2.2 from 23.98 to 30 Hz, and from 47.95 to 60 Hz. -/
def slowRates : List (Nat × Nat) := [(24000, 1001), (24000, 1000), (25000, 1000), (30000, 1001), (30000, 1000)]
def fastRates : List (Nat × Nat) := [(48000, 1001), (48000, 1000), (50000, 1000), (60000, 1001), (60000, 1000)]
def fieldRates : List (Nat × Nat) := [(50000, 1000), (60000, 1001)]
def topRates : List (Nat × Nat) := [(50000, 1000), (60000, 1001), (60000, 1000)]

/-- A single-link format of Table 2.2. -/
def sdiSingle (f : VideoFormat) : Bool :=
  let r := (f.rateNum, f.rateDen)
  let plain := f.sampling == 0 && f.depth == 0
  let rich := (f.sampling == 1 || f.sampling == 2) && decide (f.depth ≤ 1)
  let uhd := (f.width == 3840 || f.width == 4096) && f.height == 2160
  (f.width == 1920 && f.height == 1080 && plain &&
    ((f.scan == 0 || f.scan == 2) && slowRates.contains r || f.scan == 1 && fieldRates.contains r)) ||
  (f.width == 1280 && f.height == 720 && f.scan == 0 && topRates.contains r && plain) ||
  (f.width == 1920 && f.height == 1080 && f.scan == 0 && topRates.contains r && plain) ||
  (f.width == 1920 && f.height == 1080 && f.scan == 0 && slowRates.contains r && rich) ||
  (uhd && f.scan == 0 && slowRates.contains r && (plain || rich)) ||
  (uhd && f.scan == 0 && fastRates.contains r && plain)

/-- A quad-link format of Table 2.2. -/
def sdiQuad (f : VideoFormat) : Bool :=
  let r := (f.rateNum, f.rateDen)
  f.scan == 0 && f.sampling == 0 && f.depth == 0 &&
  ((f.width == 3840 && f.height == 2160 && topRates.contains r) ||
   ((f.width == 7680 || f.width == 8192) && f.height == 4320 && (slowRates.contains r || fastRates.contains r)))

/-- A format of Table 2.2 on `links` links. -/
def sdiFormatOk (links : Nat) (f : VideoFormat) : Bool := if links = 4 then sdiQuad f else sdiSingle f

/-- A format of Table 2.3. -/
def ipFormatOk (f : VideoFormat) : Bool :=
  f.scan == 0 && decide (f.sampling ≤ 2) && decide (f.depth ≤ 1) && decide (640 ≤ f.width) && decide (f.width ≤ 8192) &&
  f.width % 2 == 0 && decide (360 ≤ f.height) && decide (f.height ≤ 4320) && (f.rateDen == 1000 || f.rateDen == 1001) &&
  decide (24000 * f.rateDen ≤ f.rateNum * 1001) && decide (f.rateNum ≤ 240 * f.rateDen)

/-- Active pixel rate times 1,001,000 (R33). -/
def pixelRate (f : VideoFormat) : Nat := f.width * f.height * f.rateNum * (1001000 / f.rateDen)

/-- Period of a frame, or of a field where interlaced, in 25 ps units. -/
def formatPeriod (f : VideoFormat) : Nat := if f.rateNum = 0 then 0 else sec * f.rateDen / f.rateNum

/-- Line or block-row pitch of a slot (R54). -/
def slotPitch (compressed : Bool) (w : Nat) : Nat :=
  if compressed then roundUp (ceilDiv w 8 * 80) 256 else roundUp (w * 6) 256

/-- Bytes of a slot (R54). -/
def slotBytes (compressed : Bool) (w h : Nat) : Nat :=
  slotPitch compressed w * if compressed then ceilDiv h 4 else h

/-- A stream is bound. -/
def StreamCfg.bound (c : StreamCfg) : Bool := c.bind != .unbound

def Cfg.stream (c : Cfg) (n : Nat) : StreamCfg := c.streams.getD n {}

def Cfg.boundStreams (c : Cfg) : List Nat := (c.streams.filter fun e => e.2.bound).map (·.1)

/-- The format a stream counts with: declared, or detected, or none (R447). -/
def effectiveFormat (det : Nat → Option VideoFormat) (n : Nat) (c : StreamCfg) : Option VideoFormat :=
  match c.bind with
  | .unbound => none
  | .sdi _ _ _ => if c.par.fmt = VideoFormat.auto then det n else some c.par.fmt
  | .ip b => some b.fmt

/-- SDI inputs a stream uses. -/
def Binding.inputs : Binding → List Nat
  | .sdi input links _ => if links = 4 then [input, input + 1, input + 2, input + 3] else [input]
  | _ => []

/-- Ethernet ports a flow uses: both ports of a pair where protected (R49). -/
def flowPorts (port : Nat) (protect : Bool) : List Nat := if protect then [port, port ^^^ 1] else [port]

/-- Every flow leg as (port, bandwidth). -/
def Cfg.flowLegs (c : Cfg) : List (Nat × Nat) :=
  (c.streams.flatMap fun e => match e.2.bind with
    | .ip b => (flowPorts b.port b.protect).map (·, b.bandwidth)
    | _ => []) ++
  (c.audFlows.flatMap fun e => (flowPorts e.2.port e.2.protect).map (·, 0)) ++
  (c.ancFlows.flatMap fun e => (flowPorts e.2.port e.2.protect).map (·, 0))

/-- The limits of R33 and R53 over formats `det` detected. -/
def rateLimits (det : Nat → Option VideoFormat) (c : Cfg) : Bool :=
  let fs := c.streams.filterMap fun e => (effectiveFormat det e.1 e.2).map fun f => (e.2.par.compressed, f)
  fs.all (fun x => decide (pixelRate x.2 ≤ 2500000000 * 1001000)) &&
  decide ((fs.map fun x => pixelRate x.2).sum ≤ 24000000000 * 1001000) &&
  decide ((fs.map fun x => 4 * roundUp (slotBytes x.1 x.2.width x.2.height) 65536).sum ≤ 4000000000)

/-- Both lists of a pair share nothing twice. -/
def noRepeats (l : List Nat) : Bool := decide l.Nodup

/-- The input limits of a commit's result: R32 to R34, R42, R44, R53, R61 and the notes of Table 14.7.  A declared format that
the binding's links cannot carry is refused with CONFLICT (log entry 149). -/
def inputLimits (det : Nat → Option VideoFormat) (still : Nat → Bool) (c : Cfg) : List Limit :=
  let on := fun (ok : StreamCfg → Nat → Bool) => c.streams.any fun e => ok e.2 e.1
  [(!rateLimits det c, stNoResource, [.streams]),
   (!noRepeats (c.streams.flatMap fun e => e.2.bind.inputs), stConflict, [.streams]),
   ((List.range 4).any (fun p => decide (64 < ((c.flowLegs.filter (·.1 == p)).length)) ||
      decide (90000 < ((c.flowLegs.filter (·.1 == p)).map (·.2)).sum)), stNoResource, [.streams, .flows]),
   (decide (64 < c.audFlows.length), stNoResource, [.flows]),
   (decide (32 < c.groups.length), stNoResource, [.groups]),
   (on fun s _ => s.bound && s.par.fenceGroup != 0 && !c.groups.has s.par.fenceGroup, stConflict, [.streams, .groups]),
   (on fun s n => s.bound && s.par.fenceGroup != 0 && (((effectiveFormat det n s).map fun f => f.scan == 1).getD false),
     stConflict, [.streams]),
   (on fun s _ => s.bound && (s.par.lossAction == 3 || s.par.fallback == 2) && !((s.par.lossStill.map still).getD false),
     stConflict, [.streams]),
   (on fun s _ => match s.bind with | .ip _ => s.par.fmt != VideoFormat.auto | _ => false, stBadParam, [.streams]),
   (on fun s _ => match s.bind with
      | .sdi _ l _ => s.par.fmt != VideoFormat.auto && !sdiFormatOk l s.par.fmt
      | _ => false, stConflict, [.streams]),
   (c.ancFlows.any (fun e => match (c.stream e.1).bind with | .ip _ => false | _ => true), stConflict, [.streams, .flows])]

/-! ### Layouts -/

def parseFenceSet (p : List Byte) : Parse ConfigCmd :=
  layout p 4 [within p 0 2 1 65535, within p 2 1 1 30, below p 3 2] (.fenceSet (leAt p 0 2) (byteAt p 2) (byteAt p 3 == 1))

def parseFenceAnc (p : List Byte) : Parse ConfigCmd :=
  layout p 4 [within p 0 1 0x50 0x51, within p 1 1 1 255, zeros p 2 2]
    (.fenceAnc (BitVec.ofNat 8 (byteAt p 0)) (BitVec.ofNat 8 (byteAt p 1)))

def parseStreamSdi (p : List Byte) : Parse ConfigCmd :=
  layout p 4 [below p 0 48, (decide (byteAt p 1 < 16) && (byteAt p 2 != 4 || byteAt p 1 % 4 == 0), 1),
    (byteAt p 2 == 1 || byteAt p 2 == 4, 2), below p 3 3]
    (.streamSdi (byteAt p 0) (byteAt p 1) (byteAt p 2) (byteAt p 3))

def ipBindAt (p : List Byte) : IpBind :=
  { port := byteAt p 1 % 4, protect := bit (byteAt p 1) 2, leg1 := legAt p 4, leg2 := legAt p 44, fmt := formatAt p 84,
    packing := byteAt p 96, bandwidth := leAt p 100 4 }

def encIpBind (stream : Nat) (b : IpBind) : List Byte :=
  le 1 stream ++ le 1 (b.port + 4 * b2n b.protect) ++ [0, 0] ++ encLeg b.leg1 ++
  (if b.protect then encLeg b.leg2 else List.replicate 40 0) ++ encFormat b.fmt ++ le 1 b.packing ++ [0, 0, 0] ++
  le 4 b.bandwidth

def parseStreamIp (p : List Byte) : Parse ConfigCmd :=
  layout p 104 ([below p 0 48, below p 1 8, zeros p 2 2] ++ legsChecks p (bit (byteAt p 1) 2) 4 44 ++
    [(ipFormatOk (formatAt p 84), 84), below p 96 2, zeros p 97 3]) (.streamIp (byteAt p 0) (ipBindAt p))

def streamParamsAt (p : List Byte) : StreamParams :=
  { colorimetry := byteAt p 1, transfer := byteAt p 2, sdrDecode := byteAt p 3, range := byteAt p 4,
    compressed := byteAt p 5 == 1, lossAction := byteAt p 6, fallback := byteAt p 7, lref := leAt p 8 2, lw := leAt p 10 2,
    holdMs := leAt p 12 4, returnCount := byteAt p 16, lossStill := noneHalf (leAt p 18 2), fenceGroup := leAt p 20 2,
    seamless := leAt p 22 2, fmt := formatAt p 24 }

def encStreamParams (stream : Nat) (q : StreamParams) : List Byte :=
  [stream, q.colorimetry, q.transfer, q.sdrDecode, q.range, b2n q.compressed, q.lossAction, q.fallback].flatMap (le 1) ++
  le 2 q.lref ++ le 2 q.lw ++ le 4 q.holdMs ++ le 1 q.returnCount ++ [0] ++ encNoneHalf q.lossStill ++ le 2 q.fenceGroup ++
  le 2 q.seamless ++ encFormat q.fmt

def parseStreamParams (p : List Byte) : Parse ConfigCmd :=
  layout p 36 [below p 0 48, below p 1 3, below p 2 4, below p 3 2, below p 4 3, below p 5 2, below p 6 4, below p 7 3,
    within p 8 2 80 1000, within p 10 2 400 4000, within p 12 4 0 600000, within p 16 1 1 60, zeros p 17 1,
    (decide (leAt p 18 2 < 4096) || leAt p 18 2 == 0xFFFF, 18), within p 22 2 5 100,
    (formatAt p 24 == VideoFormat.auto || sdiSingle (formatAt p 24) || sdiQuad (formatAt p 24), 24)]
    (.streamParams (byteAt p 0) (streamParamsAt p))

def parseInputRemove (p : List Byte) : Parse ConfigCmd :=
  layout p 4 [below p 0 3, below p 1 (if byteAt p 0 = 1 then 64 else 48), zeros p 2 2] (.inputRemove (byteAt p 0) (byteAt p 1))

def audFlowAt (p : List Byte) : AudFlow :=
  { port := byteAt p 1 % 4, protect := bit (byteAt p 1) 2, channels := byteAt p 2, depth24 := byteAt p 3 == 1,
    fast := byteAt p 4 == 1, linkOffset := leAt p 8 4, leg1 := legAt p 12, leg2 := legAt p 52 }

def encAudFlow (flow : Nat) (f : AudFlow) : List Byte :=
  [flow, f.port + 4 * b2n f.protect, f.channels, b2n f.depth24, b2n f.fast, 0, 0, 0].flatMap (le 1) ++ le 4 f.linkOffset ++
  encLeg f.leg1 ++ if f.protect then encLeg f.leg2 else List.replicate 40 0

def parseAudFlow (p : List Byte) : Parse ConfigCmd :=
  layout p 92 ([below p 0 64, below p 1 8, within p 2 1 1 8, below p 3 2, below p 4 2, zeros p 5 3, within p 8 4 125 20000] ++
    legsChecks p (bit (byteAt p 1) 2) 12 52) (.audFlow (byteAt p 0) (audFlowAt p))

def ancFlowAt (p : List Byte) : AncFlow :=
  { port := byteAt p 1 % 4, protect := bit (byteAt p 1) 2, leg1 := legAt p 4, leg2 := legAt p 44 }

def encAncFlow (stream : Nat) (f : AncFlow) : List Byte :=
  [stream, f.port + 4 * b2n f.protect, 0, 0].flatMap (le 1) ++ encLeg f.leg1 ++
  if f.protect then encLeg f.leg2 else List.replicate 40 0

def parseAncFlow (p : List Byte) : Parse ConfigCmd :=
  layout p 84 ([below p 0 48, below p 1 8, zeros p 2 2] ++ legsChecks p (bit (byteAt p 1) 2) 4 44)
    (.ancFlow (byteAt p 0) (ancFlowAt p))

def parseEthSet (p : List Byte) : Parse ConfigCmd :=
  layout p 28 [below p 0 4, zeros p 1 1, within p 2 2 0 4094, within p 8 1 0 32, within p 9 1 0 128, zeros p 10 2]
    (.ethSet (byteAt p 0) { vlan := leAt p 2 2, ipv4 := bytesAt p 4 4, plen4 := byteAt p 8, plen6 := byteAt p 9,
                            ipv6 := bytesAt p 12 16 })

def parsePtpSet (p : List Byte) : Parse ConfigCmd :=
  layout p 4 [below p 0 4, (byteAt p 1 == 0xFF || byteAt p 1 == byteAt p 0 ^^^ 1, 1), below p 2 128, zeros p 3 1]
    (.ptpSet { port := byteAt p 0, backup := noneByte (byteAt p 1), domain := byteAt p 2 })

end Sys2Proof.Machine
end

