-- ==== Sys2Proof/Machine/Working.lean ====
section
/-! DEFINITION. From code values to the working form and into a slot: normalisation, matrices, transfer decodes
(R51), interlaced fields (R42), store compression (R113 to R115) and the slot layouts (R54). -/

namespace Sys2Proof.Machine

open Sys2Proof

/-- How a stream's code values are read once AUTO is resolved (R39, R40). -/
structure PixelRule where
  bt2020 : Bool
  /-- 1 SDR, 2 PQ, 3 HLG -/
  transfer : Nat
  pwr22 : Bool
  full : Bool
  lref : Nat
  lw : Nat
  deriving DecidableEq, Repr

/-- Normalised code value (Table 2.5). -/
def normalise (full chroma : Bool) (depth d : Nat) : Word :=
  let n := if depth = 0 then 10 else 12
  let s := if depth = 0 then 1 else 4
  if full then f32div (f32ofInt (if chroma then (d : Int) - 2 ^ (n - 1) else d)) (f32ofInt (2 ^ n - 1))
  else if chroma then f32div (f32ofInt ((d : Int) - 512 * s)) (f32ofInt (896 * s))
  else f32div (f32ofInt ((d : Int) - 64 * s)) (f32ofInt (876 * s))

/-- Coefficients a, b, c, d of Table 2.6. -/
def matrixOf (bt2020 : Bool) : Word × Word × Word × Word :=
  if bt2020 then (f32const 14746 10000, f32const 164553 1000000, f32const 571353 1000000, f32const 18814 10000)
  else (f32const 15748 10000, f32const 187324 1000000, f32const 468124 1000000, f32const 18556 10000)

/-- The ST 2084 EOTF (R51). -/
def decodePq (e : Word) : Word :=
  let m1 := f32const 1593017578125 10000000000000
  let m2 := f32const 7884375 100000
  let c1 := f32const 8359375 10000000
  let c2 := f32const 188515625 10000000
  let c3 := f32const 186875 10000
  let x := f32pow e (f32div f32one m2)
  f32pow (f32div (f32max (f32sub x c1) 0) (f32sub c2 (f32mul c3 x))) (f32div f32one m1)

/-- The BT.2100 inverse OETF (R51). -/
def decodeHlg (e : Word) : Word :=
  let a := f32const 17883277 100000000
  let b := f32const 28466892 100000000
  let c := f32const 55991073 100000000
  if f32lt (f32const 1 2) e then f32div (f32add (f32exp (f32div (f32sub e c) a)) b) (f32ofInt 12)
  else f32div (f32mul e e) (f32ofInt 3)

/-- Transfer decode of one component (R51). -/
def decodeTransfer (k : PixelRule) (e : Word) : Word :=
  if k.transfer = 2 then decodePq e
  else if k.transfer = 3 then decodeHlg e
  else f32pow e (if k.pwr22 then f32const 22 10 else f32const 24 10)

def dot3 (a b c : Int) (r g bl : Word) : Word :=
  f32add (f32add (f32mul (f32const a 10000) r) (f32mul (f32const b 10000) g)) (f32mul (f32const c 10000) bl)

/-- One pixel from normalised components to FP16 RGB (pseudocode of R51); `rgb`: no matrix for RGB sources. -/
def workingPixel (k : PixelRule) (rgb : Bool) (y cb cr : Word) : Rgba :=
  let (a, b, c, d) := matrixOf k.bt2020
  let rp := if rgb then y else f32add y (f32mul a cr)
  let gp := if rgb then cb else f32sub (f32sub y (f32mul b cb)) (f32mul c cr)
  let bp := if rgb then cr else f32add y (f32mul d cb)
  let emax := if k.transfer = 1 then f32const 109 100 else f32one
  let r := decodeTransfer k (f32clamp rp 0 emax)
  let g := decodeTransfer k (f32clamp gp 0 emax)
  let bl := decodeTransfer k (f32clamp bp 0 emax)
  let (r, g, bl) := if k.bt2020 then (r, g, bl)
    else (dot3 6274 3293 433 r g bl, dot3 691 9195 114 r g bl, dot3 164 880 8956 r g bl)
  let lref := f32ofInt k.lref
  let gain := if k.transfer = 3 then
      let lw := f32ofInt k.lw
      let gamma := f32add (f32const 12 10) (f32mul (f32const 42 100) (f32log10 (f32div lw (f32ofInt 1000))))
      let ys := dot3 2627 6780 593 r g bl
      if f32lt 0 ys then f32div (f32mul lw (f32pow ys (f32sub gamma f32one))) lref else 0
    else f32div (f32ofInt 10000) lref
  let out := fun x => f16ofF32 (if k.transfer = 1 then x else f32mul x gain)
  ⟨out r, out g, out bl, 0x3C00⟩

/-- Chroma at pixel `x` of a line of half-width samples (R51). -/
def upsample (c : List Word) (x : Nat) : Word :=
  let at' := fun i : Int => c.getD (min i.toNat (c.length - 1)) 0
  let j : Int := x / 2
  if x % 2 = 0 then at' j
  else
    let nine := f32ofInt 9
    f32div (f32sub (f32add (f32add (f32sub 0 (at' (max (j - 1) 0))) (f32mul nine (at' j))) (f32mul nine (at' (j + 1))))
      (at' (j + 2))) (f32ofInt 16)

def lineOf {α : Type} (l : List α) (w y : Nat) : List α := (l.drop (w * y)).take w

/-- One plane of a quad-link picture of `w` × `h` samples, from the planes of links 1 to 4 (R36).  Square division: the links
hold the quadrants, left to right, top first.  Two-sample interleave: links 1 and 2 hold the even lines and 3 and 4 the odd
ones, `g` samples by turns (PRESUMED, log entry 144). -/
def quadPlane (square : Bool) (g w h : Nat) (links : List (List Nat)) : List Nat :=
  (List.range (w * h)).map fun i =>
    let x := i % w
    let y := i / w
    let at' := fun k u v => (links.getD k []).getD (v * (w / 2) + u) 0
    if square then at' (2 * (y / (h / 2)) + x / (w / 2)) (x % (w / 2)) (y % (h / 2))
    else at' (2 * (y % 2) + x / g % 2) (x / (2 * g) * g + x % g) (y / 2)

/-- The picture of a quad-link frame; `order` names the place, among the four inputs, of each link (R36, R37). -/
def quadFrame (square : Bool) (order : List Nat) (f : InFrame) : InFrame :=
  if f.links = [] then f
  else
    let link := fun k => f.links.getD k ([], [], [])
    let (cw, g) := if f.fmt.sampling = 0 then (f.fmt.width / 2, 1) else (f.fmt.width, 2)
    { f with
      links := []
      c0 := quadPlane square 2 f.fmt.width f.fmt.height (order.map fun k => (link k).1)
      c1 := quadPlane square g cw f.fmt.height (order.map fun k => (link k).2.1)
      c2 := quadPlane square g cw f.fmt.height (order.map fun k => (link k).2.2) }

/-- One line of pixels in the working form. -/
def workingLine (k : PixelRule) (f : InFrame) (y : Nat) : List Rgba :=
  let w := f.fmt.width
  let rgb := f.fmt.sampling == 2
  let cw := if f.fmt.sampling = 0 then w / 2 else w
  let norm := fun (chroma : Bool) (l : List Nat) => l.map (normalise k.full chroma f.fmt.depth)
  let l0 := norm false (lineOf f.c0 w y)
  let l1 := norm (!rgb) (lineOf f.c1 cw y)
  let l2 := norm (!rgb) (lineOf f.c2 cw y)
  (List.range w).map fun x =>
    if f.fmt.sampling = 0 then workingPixel k rgb (l0.getD x 0) (upsample l1 x) (upsample l2 x)
    else workingPixel k rgb (l0.getD x 0) (l1.getD x 0) (l2.getD x 0)

/-- Mean of two FP16 values in binary32, rounded to FP16 (R42; DEDUCED, log entry 31). -/
def meanHalf (a b : Half) : Half := f16ofF32 (f32div (f32add (f32ofF16 a) (f32ofF16 b)) (f32ofInt 2))

def meanPixel (a b : Rgba) : Rgba := ⟨meanHalf a.r b.r, meanHalf a.g b.g, meanHalf a.b b.b, 0x3C00⟩

/-- The picture of an input frame, in raster order; a field becomes a full frame (R42). -/
def workingFrame (k : PixelRule) (f : InFrame) : List Rgba :=
  if f.fmt.scan = 1 then
    let n := f.fmt.height / 2
    let lines := (List.range n).map (workingLine k f)
    let own := if f.bottom then 1 else 0
    (List.range f.fmt.height).flatMap fun y =>
      if y % 2 = own then lines.getD (y / 2) []
      else
        let above := (y + 1 - own) / 2
        let up := lines.getD (above - 1) []
        let down := lines.getD above []
        if above = 0 then down else if n ≤ above then up else List.zipWith meanPixel up down
  else (List.range f.fmt.height).flatMap (workingLine k f)

/-! ### Store compression -/

/-- The encoder's FP16 code of a component (R115). -/
def encCode (h : Half) : Nat :=
  let c := h.toNat
  if bit c 15 then 0 else if 0x7C00 < c then 0 else min c 0x7BFF

/-- Residual shift for a span (R115). -/
def spanShift (span : Nat) : Nat := ((List.range 10).find? fun s => decide (span >>> s ≤ 63)).getD 9

/-- Bits from 6-bit residuals, little-endian. -/
def packSix (q : List Nat) : Nat := q.foldr (fun x acc => x + 64 * acc) 0

/-- One 8 × 4 block of 32 pixels in 80 bytes (R113, R115). -/
def encodeBlock (px : List Rgba) : List Byte :=
  let chan := fun (f : Rgba → Half) =>
    let u := px.map fun p => encCode (f p)
    let base := u.foldl min 0x7BFF
    let span := u.foldl max 0 - base
    let s := spanShift span
    (base, s, span, u.map fun v => min 63 ((v - base + if s = 0 then 0 else 2 ^ (s - 1)) >>> s))
  let (b0, s0, n0, q0) := chan (·.r)
  let (b1, s1, n1, q1) := chan (·.g)
  let (b2, s2, n2, q2) := chan (·.b)
  let mode := if n0 = 0 && n1 = 0 && n2 = 0 then 1 else 0
  let q := (List.range 32).flatMap fun i => [q0.getD i 0, q1.getD i 0, q2.getD i 0]
  le 2 b0 ++ le 2 b1 ++ le 2 b2 ++ le 1 (s0 + 16 * s1) ++ le 1 (s2 + 16 * mode) ++ le 72 (packSix q)

/-- The 80 bytes of block are valid (R114). -/
def blockValid (blk : List Byte) : Bool :=
  decide (byteAt blk 7 / 16 ≤ 1) && decide (leAt blk 0 2 ≤ 0x7BFF) && decide (leAt blk 2 2 ≤ 0x7BFF) &&
  decide (leAt blk 4 2 ≤ 0x7BFF)

/-- Channel `c` of pixel `i` of a block (R114). -/
def blockChannel (blk : List Byte) (i c : Nat) : Half :=
  if !blockValid blk then 0 else
  let base := leAt blk (2 * c) 2
  let shift := if c = 0 then byteAt blk 6 % 16 else if c = 1 then byteAt blk 6 / 16 else byteAt blk 7 % 16
  let n := 64 + 6 * (3 * i + c)
  let q := (leAt blk (n / 8) 2 >>> (n % 8)) % 64
  BitVec.ofNat 16 (min 0x7BFF (if byteAt blk 7 / 16 = 1 then base else base + (q <<< shift)))

/-- Pixel of a raster held in line order. -/
def rasterAt (px : List Rgba) (w x y : Nat) : Rgba := px.getD (y * w + x) Rgba.black

/-- A picture in the NATIVE slot layout (R54). -/
def packNative (px : List Rgba) (w h : Nat) : List Byte :=
  (List.range h).flatMap fun y => padTo (slotPitch false w)
    ((lineOf px w y).flatMap fun p => le 2 p.r.toNat ++ le 2 p.g.toNat ++ le 2 p.b.toNat)

/-- A picture in the COMPRESSED slot layout, padded as R115 says. -/
def packCompressed (px : List Rgba) (w h : Nat) : List Byte :=
  (List.range (ceilDiv h 4)).flatMap fun by' => padTo (slotPitch true w)
    ((List.range (ceilDiv w 8)).flatMap fun bx => encodeBlock ((List.range 32).map fun i =>
      rasterAt px w (min (8 * bx + i % 8) (w - 1)) (min (4 * by' + i / 8) (h - 1))))

/-- A picture as a slot holds it. -/
def packSlot (compressed : Bool) (px : List Rgba) (w h : Nat) : List Byte :=
  if compressed then packCompressed px w h else packNative px w h

/-- One pixel of a slot (R54, R114); alpha is 1.0. -/
def slotPixel (d : List Byte) (compressed : Bool) (w x y : Nat) : Rgba :=
  if compressed then
    let blk := bytesAt d (y / 4 * slotPitch true w + x / 8 * 80) 80
    let i := 8 * (y % 4) + x % 8
    ⟨blockChannel blk i 0, blockChannel blk i 1, blockChannel blk i 2, 0x3C00⟩
  else
    let a := y * slotPitch false w + 6 * x
    ⟨BitVec.ofNat 16 (leAt d a 2), BitVec.ofNat 16 (leAt d (a + 2) 2), BitVec.ofNat 16 (leAt d (a + 4) 2), 0x3C00⟩

/-- Pitch of an object's lines or block rows (Table 4.4). -/
def objPitch (compressed : Bool) (w : Nat) : Nat :=
  if compressed then roundUp (ceilDiv w 8 * 112) 256 else roundUp (w * 8) 256

/-- Bytes of one frame of an object, before rounding to 64 KiB. -/
def objFrameBytes (o : Obj) : Nat := objPitch o.compressed o.w * if o.compressed then ceilDiv o.h 4 else o.h

/-- One pixel of a frame of a still or clip (Table 4.4). -/
def objPixel (o : Obj) (frame x y : Nat) : Rgba :=
  let d := o.data.getD frame []
  if o.compressed then
    let blk := bytesAt d (y / 4 * objPitch true o.w + x / 8 * 112) 112
    let i := 8 * (y % 4) + x % 8
    ⟨blockChannel blk i 0, blockChannel blk i 1, blockChannel blk i 2,
     f16ofF32 (f32div (f32ofInt (byteAt blk (80 + i))) (f32ofInt 255))⟩
  else
    let a := y * objPitch false o.w + 8 * x
    ⟨BitVec.ofNat 16 (leAt d a 2), BitVec.ofNat 16 (leAt d (a + 2) 2), BitVec.ofNat 16 (leAt d (a + 4) 2),
     BitVec.ofNat 16 (leAt d (a + 6) 2)⟩

end Sys2Proof.Machine
end

