-- ==== Sys2Proof/Machine/Convert.lean ====
section
/-! DEFINITION. Rate converters: parameters and limits (R69 to R72), smoothed times and cadence (R75 to R79), the pair
and phase of a frame (R74, R76), and synthesis (R80 to R83, R89). Times in pixel-clock cycles. -/

namespace Sys2Proof.Machine

open Sys2Proof

def parseFrcSet (p : List Byte) : Parse ConfigCmd :=
  layout p 12 [below p 0 8, (decide (byteAt p 1 < 48) || byteAt p 1 == 0xFF, 1), below p 2 2, below p 3 6,
    within p 4 2 250 8000, within p 6 1 0 64, within p 8 2 160 16383, below p 10 2, within p 11 1 1 100]
    (.frcSet (byteAt p 0)
      { stream := noneByte (byteAt p 1), mode := byteAt p 2, cadence := byteAt p 3, guard := leAt p 4 2,
        repeatThr := byteAt p 6, confThr := byteAt p 7, cutThr := leAt p 8 2, lowConf := byteAt p 10,
        fallbackPct := byteAt p 11 })

def encFrcSet (n : Nat) (f : FrcCfg) : List Byte :=
  le 1 n ++ encNoneByte f.stream ++ le 1 f.mode ++ le 1 f.cadence ++ le 2 f.guard ++ le 1 f.repeatThr ++ le 1 f.confThr ++
  le 2 f.cutThr ++ le 1 f.lowConf ++ le 1 f.fallbackPct

def Cfg.conv (c : Cfg) (n : Nat) : FrcCfg := c.frc.getD n {}

/-- The converter of a stream. -/
def Cfg.convOf (c : Cfg) (stream : Nat) : Option Nat := (c.frc.find? fun e => e.2.stream == some stream).map (·.1)

/-- A converter that failed with no spare left and no partner: its stream goes through its synchroniser (Table 12.7). -/
def convDown (p : Part) (conv : Nat) : Bool := p.hrt.degradedUnits.contains (.converter, conv)

/-- The converter that a stream goes through. -/
def Part.activeConv (p : Part) (stream : Nat) : Option Nat := (p.cfg.convOf stream).filter fun k => !convDown p k

/-- A swap costs what a fault swap does: one for a fault, or a planned one that found no safe point (R308). -/
def swapCosts (s : Swap) : Bool := !s.wear || decide (11 ≤ s.frames)

/-- A fault swap of a converter runs: frames are shown whole until the takeover (Table 12.2). -/
def convSwapping (p : Part) (conv : Nat) : Bool :=
  (p.hrt.running.map fun s => s.kind == .converter && s.logical == conv && swapCosts s).getD false

/-- A format a converter takes (R70). -/
def convFormatOk (f : VideoFormat) : Bool :=
  decide (f.width ≤ 4096) && decide (f.height ≤ 2160) && decide (24000 * f.rateDen ≤ f.rateNum * 1001) &&
  decide (f.rateNum ≤ 60 * f.rateDen)

/-- Limits of a commit's result on converters: R69, R70, R72. -/
def frcLimits (det : Nat → Option VideoFormat) (c : Cfg) : List Limit :=
  let bound := c.frc.filterMap fun e => e.2.stream
  [(!noRepeats bound, stNoResource, [.converters]),
   (c.frc.any (fun e => e.2.mode == 1 && decide (e.2.guard < 3000)), stConflict, [.converters]),
   (bound.any (fun n =>
      !(c.stream n).bound || (c.stream n).par.fenceGroup != 0 ||
      !((effectiveFormat det n (c.stream n)).map convFormatOk |>.getD true) ||
      c.layers.any fun e => e.2.lowLatency && match e.2.source with
        | .stream k => k == n
        | .converter k _ => (c.conv k).stream == some n
        | _ => false), stConflict, [.converters, .streams, .layers])]

/-! ### Cadence -/

/-- Run lengths of a cadence setting (Table 3.2). -/
def cadenceRuns (c : Nat) : List Nat :=
  if c = 2 then [2] else if c = 3 then [3, 2] else if c = 4 then [2, 3, 3, 2] else if c = 5 then [5] else [1]

/-- K of Table 3.2; an interlaced source runs as NONE (R79). -/
def cadenceK (interlaced : Bool) (c : Nat) : Nat :=
  if interlaced || c = 0 then 1 else if c = 2 then 2 else if c = 5 then 5 else 3

/-- `k` nominal carrier periods of a format in pixel-clock cycles, over `n`. -/
def carrierCycles (f : VideoFormat) (k n : Nat) : Nat :=
  if f.rateNum = 0 then 0 else sec * f.rateDen * k / (f.rateNum * pixelCycle * n)

/-- The converter delay D in pixel-clock cycles (R73). -/
def frcDelay (f : VideoFormat) (c : FrcCfg) : Nat := carrierCycles f (cadenceK (f.scan == 1) c.cadence) 1 + c.guard * 625

/-- The cadence that fixes ph_nom: forced, locked, or none (R75). -/
def runningCadence (f : VideoFormat) (c : FrcCfg) (r : FrcRt) : Nat :=
  if f.scan = 1 then 0 else if c.cadence = 1 then r.lock.getD 0 else c.cadence

/-- Nominal unique period (R75). -/
def phNominal (f : VideoFormat) (c : FrcCfg) (r : FrcRt) : Int :=
  let runs := cadenceRuns (runningCadence f c r)
  carrierCycles f runs.sum runs.length

/-- The rotation of `runs` that two whole cycles of the newest completed runs match, newest first (R78). -/
def matchRotation (runs done : List Nat) : Option Nat :=
  let n := runs.length
  let newest := (done.take (2 * n)).reverse
  if newest.length < 2 * n then none
  else (List.range n).find? fun k => decide (newest = (List.range (2 * n)).map fun i => runs.getD ((k + i) % n) 0)

/-- The cadence AUTO finds in the completed runs, with the position of the next run (R78).  Where several match, the one with
the longest cycle is taken, at any rotation (log entry 150). -/
def findLock (done : List Nat) : Option (Nat × Nat) :=
  match matchRotation (cadenceRuns 4) done with
  | some k => some (4, k)
  | none => match matchRotation (cadenceRuns 3) done with
    | some k => some (3, k)
    | none => (matchRotation (cadenceRuns 2) done).map fun k => (2, k)

/-- What storing a carrier frame does to the cadence: is the frame unique, did the lock change, was the phase lost. -/
def cadenceStep (f : VideoFormat) (c : FrcCfg) (rep : Bool) (r : FrcRt) : FrcRt × Bool × Bool × Bool :=
  if f.scan = 1 || c.cadence = 0 then ({ r with lock := none }, true, false, false)
  else
    let runs := if rep then r.runs else if r.runLen = 0 then r.runs else (r.runLen :: r.runs).take 8
    let r1 := { r with runs := runs, runLen := if rep then r.runLen + 1 else 1 }
    if c.cadence = 1 then
      match r.lock with
      | none =>
        match (if rep then none else findLock runs) with
        | some (k, i) => ({ r1 with lock := some k, runIdx := i }, true, true, false)
        | none => (r1, true, false, false)
      | some k =>
        let want := (cadenceRuns k).getD r.runIdx 0
        let broken := if rep then decide (want < r.runLen + 1) else r.runLen != want
        if broken then ({ r1 with lock := none }, true, true, false)
        else ({ r1 with runIdx := if rep then r.runIdx else (r.runIdx + 1) % (cadenceRuns k).length }, !rep, false, false)
    else
      let r1 := { r1 with lock := none }
      let pat := cadenceRuns c.cadence
      let want := pat.getD r.runIdx 0
      if r.runLen = 0 then ({ r1 with runLen := if rep then 2 else 0, runIdx := 0 }, !rep, false, false)
      else
        let broken := if rep then decide (want < r.runLen + 1) else r.runLen != want
        if broken then ({ r1 with runLen := 0 }, !rep, false, true)
        else ({ r1 with runIdx := if rep then r.runIdx else (r.runIdx + 1) % pat.length }, !rep, false, false)

/-! ### Storing a frame -/

/-- Analysis luma of a pixel (R77). -/
def analysisLuma (p : Rgba) : Nat :=
  let y := dot3 2627 6780 593 (f32ofF16 p.r) (f32ofF16 p.g) (f32ofF16 p.b)
  (f32round (f32mul (f32ofInt 1023) (f32pow (f32min y f32one) (f32div f32one (f32const 24 10))))).toNat

/-- Mean absolute difference in 1/16 code (R77). -/
def lumaDiff (a b : List Nat) : Nat :=
  16 * (List.zipWith (fun x y => max x y - min x y) a b).sum / max 1 b.length

/-- A smoothed period within 500 ppm of the nominal one (R75). -/
def holdPeriod (nom ph : Int) : Int := clampInt ph (nom - nom * 500 / 1000000) (nom + nom * 500 / 1000000)

/-- Smoothed time and period on a unique frame stored at `t` (R75): the new values, and whether it resynchronised. -/
def smooth (nom th ph t : Int) : Int × Int × Bool :=
  let pred := th + ph
  let e := t - pred
  if (e.natAbs : Int) > ph.tdiv 4 then (t, ph, true)
  else (pred + e.tdiv 16, holdPeriod nom (ph + e.tdiv 256), false)

/-- Shedding of interpolation is in force (R89, Table 17.8). -/
def frcShed (p : Part) : Bool := p.pwr.frcShed

def updConv (n : Nat) (f : FrcRt → FrcRt) (p : Part) : Part := p.updFrc fun m => m.upd n {} f

def Part.conv (p : Part) (n : Nat) : FrcRt := p.frc.getD n {}

/-- A stored carrier frame reaches its converter: cadence, smoothed time, cut (R75, R77 to R79, R83).  `held` tells the
frames the slots still hold, which are the history it keeps (R88). -/
def frcStore (conv : Nat) (f : VideoFormat) (seq : Word) (t : Int) (luma : List Nat) (held : Word → Bool) (p : Part) : Part :=
  let c := p.cfg.conv conv
  let r := p.conv conv
  let d := if r.prevLuma = [] then 16383 else lumaDiff r.prevLuma luma
  let rep := r.prevLuma != [] && decide (d ≤ c.repeatThr)
  let (r1, unique, changed, lost) := cadenceStep f c rep r
  let nom := phNominal f c r1
  let r2 := { r1 with
    prevLuma := luma, ph := if changed then nom else holdPeriod nom r1.ph, uniq := r1.uniq.filter fun u => held u.seq }
  let p1 := if changed then raise evFrcCadenceChange conv 0 p else p
  let p2 := if lost then count blkFrc conv 1 p1 else p1
  if !unique then updConv conv (fun _ => r2) p2
  else
    let first := r.uniq.isEmpty
    let (th, ph, resync) := if first then (t, nom, false) else smooth nom r2.th r2.ph t
    let cut := !first && decide (c.cutThr < d)
    let u : Unique := { seq := seq, that := th, diff := d, cut := cut, vecs := none, shed := frcShed p, fellBack := false, used := false }
    let r3 := { r2 with th := th, ph := ph, uniq := r2.uniq ++ [u] }
    let p3 := if resync then count blkFrc conv 1 p2 else p2
    let p4 := if cut then count blkFrc conv 3 p3 else p3
    updConv conv (fun _ => r3) p4

/-- One block's entry of a vector field: ±256 pixels and ±128 lines in quarter steps, confidence, flag (R80). -/
def VecBlock.inRange (v : VecBlock) : Bool :=
  decide (v.dx.natAbs ≤ 1024) && decide (v.dy.natAbs ≤ 512) && decide (v.conf ≤ 255) && decide (v.flag ≤ 2)

/-- A vector field of a converter: one entry for each 8 × 8 block of B (R80). -/
def vectorsFit (f : Option VideoFormat) (blocks : List VecBlock) : Bool :=
  blocks.all VecBlock.inRange && (f.map fun g => blocks.length == ceilDiv g.width 8 * ceilDiv g.height 8).getD false

/-- The vector field of the pair that ends at `seqB` is complete (R76, R82).  Whether the pair falls back is judged here, with
the thresholds in force now; each block's own confidence at composition (log entry 151). -/
def frcVectors (conv : Nat) (seqB : Word) (blocks : List VecBlock) (p : Part) : Part :=
  let c := p.cfg.conv conv
  let r := p.conv conv
  match r.uniq.find? (fun u => u.seq == seqB && u.vecs.isNone && !u.shed) with
  | none => p
  | some u =>
    if c.mode = 0 || frcShed p then p
    else
      let low := (blocks.filter fun b => decide (b.conf < c.confThr)).length
      let fell := decide (c.fallbackPct * blocks.length < 100 * low)
      let p1 := updConv conv (fun x => { x with
        started := true
        uniq := x.uniq.map fun v => if v.seq == u.seq then { v with vecs := some blocks, fellBack := fell } else v }) p
      perfSignal 1 0x10 conv blocks.length (if fell then count blkFrc conv 2 p1 else p1)

/-! ### The frame event -/

/-- The pair of consecutive unique frames that brackets `tout` (R75). -/
def findPair (tout : Int) : List Unique → Option (Unique × Unique)
  | a :: b :: rest => if a.that ≤ tout ∧ tout < b.that then some (a, b) else findPair tout (b :: rest)
  | _ => none

/-- The converter shows pairs: two unique frames exist, and their vector field, or none will come (R81, R86, R89). -/
def frcRuns (c : FrcCfg) (shed : Bool) (r : FrcRt) : Bool :=
  r.started || decide (2 ≤ r.uniq.length) && (c.mode == 0 || shed)

/-- Step 5 of the frame event for one converter (R74, R76, R84, R89).  A cut pair, and a pair without vectors because of a
shed, count no FRC_LATE (log entry 152). -/
def frcFrameEvent (fe : Nat) (f : VideoFormat) (p : Part) (conv : Nat) : Part :=
  let c := p.cfg.conv conv
  let r := p.conv conv
  let shed := frcShed p
  let started := frcRuns c shed r
  let p0 := if shed && started then count blkFrc conv 5 p else p
  let tout : Int := (fe / pixelCycle : Nat) - (frcDelay f c : Int)
  match r.uniq.getLast? with
  | none => p0
  | some newest =>
    match (if started then findPair tout r.uniq else none) with
    | none =>
      let p1 := updConv conv (fun x => { x with
        started := started, tout := tout, a := some newest.seq, b := none, phi := 0, whole := true, nearest := true }) p0
      if started then count blkFrc conv 0 p1 else p1
    | some (a, b) =>
      let phi := (1024 * (tout - a.that) / (b.that - a.that)).toNat
      let noVec := c.mode == 1 && b.vecs.isNone && !b.cut
      let late := noVec && !shed && !b.shed
      let passed := fun u : Unique => decide (u.that < a.that)
      let p1 := updConv conv (fun x => { x with
        started := true, tout := tout, a := some a.seq, b := some b.seq, phi := phi, whole := b.cut || convSwapping p conv
        nearest := shed || c.mode == 1 && (noVec || b.fellBack)
        uniq := x.uniq.map fun u => if passed u || u.seq == a.seq || u.seq == b.seq then { u with used := true } else u }) p0
      let p2 := countBy blkFrc conv 4 (r.uniq.filter fun u => passed u && !u.used).length p1
      if late then count blkFrc conv 0 p2 else p2

/-- A converter starts: binding, return of its stream, relock (R86). -/
def frcRestart (conv : Nat) (p : Part) : Part := updConv conv (fun _ => {}) p

/-! ### Synthesis -/

def mixHalf (f : Word) (a b : Half) : Half :=
  f16ofF32 (f32add (f32mul (f32sub f32one f) (f32ofF16 a)) (f32mul f (f32ofF16 b)))

def mixPixel (f : Word) (a b : Rgba) : Rgba := ⟨mixHalf f a.r b.r, mixHalf f a.g b.g, mixHalf f a.b b.b, 0x3C00⟩

/-- Bilinear sample in binary32 at a position in units of 2^-12 pixel (R80): along the line first, then across, each as
(1 − t) a + t b; beyond the raster the nearest sample of its border stands (log entry 153). -/
def bilinear (src : Int → Int → Rgba) (w h : Nat) (x y : Int) : Word × Word × Word :=
  let cx := fun i : Int => clampInt i 0 ((w : Int) - 1)
  let cy := fun i : Int => clampInt i 0 ((h : Int) - 1)
  let x0 := x / 4096
  let y0 := y / 4096
  let fx := f32ofScaled (x % 4096) (-12)
  let fy := f32ofScaled (y % 4096) (-12)
  let lerp := fun (t a b : Word) => f32add (f32mul (f32sub f32one t) a) (f32mul t b)
  let chan := fun (g : Rgba → Half) =>
    let at' := fun i j => f32ofF16 (g (src (cx i) (cy j)))
    lerp fy (lerp fx (at' x0 y0) (at' (x0 + 1) y0)) (lerp fx (at' x0 (y0 + 1)) (at' (x0 + 1) (y0 + 1)))
  (chan (·.r), chan (·.g), chan (·.b))

/-- One output pixel of a converter at frame N (pseudocode of R80).  A cut pair is A whole in both modes, as R83 says (log
entry 154). -/
def synthPixel (c : FrcCfg) (r : FrcRt) (w h : Nat) (a b : Int → Int → Rgba) (x y : Nat) : Rgba :=
  let f := f32ofScaled r.phi (-10)
  let pair := r.uniq.find? fun u => some u.seq == r.b
  let blk := (pair.bind fun u => u.vecs).bind fun v => v[(y / 8) * ceilDiv w 8 + x / 8]?
  let nearestPx := if r.phi < 512 then a x y else b x y
  if r.whole then a x y
  else if r.nearest then nearestPx
  else if c.mode = 0 then mixPixel f (a x y) (b x y)
  else match blk with
    | none => nearestPx
    | some v =>
      if v.conf < c.confThr then (if c.lowConf = 0 then mixPixel f (a x y) (b x y) else nearestPx)
      else
        let (ar, ag, ab) := bilinear a w h ((x : Int) * 4096 - r.phi * v.dx) ((y : Int) * 4096 - r.phi * v.dy)
        let (br, bg, bb) := bilinear b w h ((x : Int) * 4096 + (1024 - r.phi) * v.dx) ((y : Int) * 4096 + (1024 - r.phi) * v.dy)
        let out := fun (p q : Word) =>
          if v.flag = 1 then f16ofF32 p else if v.flag = 2 then f16ofF32 q
          else f16ofF32 (f32add (f32mul (f32sub f32one f) p) (f32mul f q))
        ⟨out ar br, out ag bg, out ab bb, 0x3C00⟩

end Sys2Proof.Machine
end

