-- ==== Sys2Proof/Machine/Ingest.lean ====
section
/-! DEFINITION. Ingest at run time: slots and synchroniser (R53 to R57), fences (R58 to R64), loss and return (R65 to
R68), SDI identification (R35 to R40, R447), ST 2110 flows (R43 to R50), and the commands of these. -/

namespace Sys2Proof.Machine

open Sys2Proof

/-- The lane passed its calibration (R406); numbers of HEARTH_TREND_EYE. -/
def laneWorks (p : Part) (n : Nat) : Bool := !p.sys.lanesFailed.contains n

/-- What the SDI and Ethernet ports receive is taken; while root lock is lost it is discarded (Table 10.8). -/
def receives (p : Part) : Bool := p.tb.rootLock

def Part.stream (p : Part) (n : Nat) : StreamRt := p.inp.streams.getD n {}

def updStream (n : Nat) (f : StreamRt → StreamRt) (p : Part) : Part :=
  p.updInp fun i => { i with streams := i.streams.upd n {} f }

def updPort (eth : Bool) (n : Nat) (f : PortRt → PortRt) (p : Part) : Part :=
  p.updInp fun i => if eth then { i with eth := i.eth.upd n {} f } else { i with sdi := i.sdi.upd n {} f }

/-- The formats the AUTO streams have detected (R447). -/
def Part.det (p : Part) (n : Nat) : Option VideoFormat := (p.stream n).det

/-- The format of a stream in force. -/
def Part.format (p : Part) (n : Nat) : Option VideoFormat := effectiveFormat p.det n (p.cfg.stream n)

/-- Slots of a stream: four, or eight where it is converted (R53). -/
def slotCount (p : Part) (n : Nat) : Nat := if (p.cfg.convOf n).isSome then 8 else 4

/-- How the stream's code values are read (R39, R40).  A parameter at AUTO that ST 352 does not name is BT709, SDR and narrow;
so is one of an ST 2110 stream, for which STREAM_IP has no field (log entry 145). -/
def pixelRule (p : Part) (n : Nat) : PixelRule :=
  let q := (p.cfg.stream n).par
  let id := (p.stream n).id
  let col := if q.colorimetry = 0 then (id.map (·.colorimetry)).getD 1 else q.colorimetry
  let tf := if q.transfer = 0 then (id.map (·.transfer)).getD 1 else q.transfer
  { bt2020 := col == 2, transfer := tf, pwr22 := q.sdrDecode == 1, full := q.range == 2, lref := q.lref, lw := q.lw }

/-- A declared sampling and depth override ST 352, and ST 352 the port's own finding (R39). -/
def declaredSampling (p : Part) (n : Nat) (f : VideoFormat) : VideoFormat :=
  let c := p.cfg.stream n
  let g := match c.bind with
    | .ip b => b.fmt
    | _ => if c.par.fmt = VideoFormat.auto then (((p.stream n).id).map PayloadId.fmt).getD f else c.par.fmt
  { f with sampling := g.sampling, depth := g.depth }

/-- Square division: forced by the host, else as ST 352 names it (R36). -/
def quadSquare (c : StreamCfg) (st : StreamRt) : Bool :=
  let named := match c.bind with
    | .sdi _ _ d => if d = 0 then (st.id.map (·.division)).getD 0 else d
    | _ => 0
  if named = 0 then Config.quadSquare else named == 2

/-- The order of a group's links, as places among its four inputs (R37). -/
def linkPlaces (c : StreamCfg) (st : StreamRt) : List Nat :=
  let first := c.bind.inputs.headD 0
  if st.order.length = 4 then st.order.map (· - first) else [0, 1, 2, 3]

/-- An input frame as the ingest unit takes it: assembled from its links, in the sampling and depth that hold. -/
def decoded (p : Part) (n : Nat) (f : InFrame) : InFrame :=
  let g := { f with fmt := declaredSampling p n f.fmt }
  quadFrame (quadSquare (p.cfg.stream n) (p.stream n)) (linkPlaces (p.cfg.stream n) (p.stream n)) g

/-- The picture of an input frame in the working form. -/
def decodedPixels (p : Part) (n : Nat) (f : InFrame) : List Rgba := workingFrame (pixelRule p n) (decoded p n f)

/-! ### Slots -/

/-- A frame that may be chosen at the frame event at `fe` (R57). -/
def eligible (fe : Nat) (st : StreamRt) (e : Nat × Slot) : Bool :=
  e.2.complete && !e.2.incomplete && st.writing != some e.1 && decide (e.2.storedAt / pixelCycle < fe / pixelCycle)

/-- Newer than the previous choice. -/
def newerThanChoice (st : StreamRt) (e : Nat × Slot) : Bool :=
  st.choice.isNone || serialNewer 32 e.2.seq.toNat st.choiceSeq.toNat

/-- The newest of some slots by SEQ. -/
def newestSlot : List (Nat × Slot) → Option (Nat × Slot)
  | [] => none
  | e :: rest => match newestSlot rest with
    | none => some e
    | some x => if serialNewer 32 x.2.seq.toNat e.2.seq.toNat then some x else some e

/-- A tag newer than the member's own (R61, R63). -/
def tagNewer (st : StreamRt) (t : Word) : Bool := !st.hasTag || serialNewer 32 t.toNat st.curM.toNat

/-- A slot pinned by fence logic, or by the stream's converter: a unique frame after t_out, that is B or a later one (R56, R63,
R74). -/
def isPinned (p : Part) (n : Nat) (e : Nat × Slot) : Bool :=
  let st := p.stream n
  match p.activeConv n with
  | some c =>
    !st.lost && (p.conv c).uniq.any fun u => u.seq == e.2.seq && decide ((p.conv c).tout < u.that)
  | none =>
    let tagged := st.slots.filter fun x => x.2.complete && x.2.tagged && st.writing != some x.1 && tagNewer st x.2.tag
    decide ((p.cfg.stream n).par.fenceGroup ≠ 0) && !st.unfenced && ((newestSlot tagged).map (·.1)) == some e.1

/-- The slot the next input frame is written into (R56): an unwritten one, else the oldest that is spared by nothing. -/
def pickSlot (p : Part) (n : Nat) : Option Nat :=
  let st := p.stream n
  let idx := List.range (slotCount p n)
  match idx.find? fun k => !st.slots.has k && st.writing != some k with
  | some k => some k
  | none =>
    let newest := (newestSlot (st.slots.filter fun e => e.2.complete)).map (·.1)
    let free := st.slots.filter fun e => st.choice != some e.1 && newest != some e.1 && !isPinned p n e &&
      decide (e.1 < slotCount p n)
    free.foldl (fun best e => match best with
      | none => some e.1
      | some k => if serialNewer 32 (st.slots.getD k {}).seq.toNat e.2.seq.toNat then some e.1 else some k) none

def isIp : Binding → Bool
  | .ip _ => true
  | _ => false

/-- The fence packet that belongs to the frame being stored: on ST 2110 the one with its RTP timestamp (R59). -/
def frameFence (c : StreamCfg) (st : StreamRt) (rtp : Word) : Option (Word × Nat) :=
  if c.par.fenceGroup = 0 then none
  else (st.fences.find? fun e => !isIp c.bind || e.1 == rtp).map (·.2)

/-- Raster, rate and scanning agree: the picture can be stored as the stream's format says (R39). -/
def samePicture (f g : VideoFormat) : Bool :=
  f.width == g.width && f.height == g.height && f.rateNum == g.rateNum && f.rateDen == g.rateDen && f.scan == g.scan

/-- The slot that an input frame fills: picture and descriptor (R55, Table 2.8). -/
def filledSlot (p : Part) (n k : Nat) (f : InFrame) : Slot :=
  let st := p.stream n
  let c := p.cfg.stream n
  let fence := frameFence c st f.rtp
  { seq := st.nextSeq
    tag := (fence.map (·.1)).getD 0
    group := (fence.map (·.2)).getD 0
    complete := f.complete, incomplete := !f.complete, tagged := fence.isSome
    field := f.fmt.scan == 1, bottom := f.fmt.scan == 1 && f.bottom, compressed := c.par.compressed
    cfn := p.fr.cfn, cycles := (p.sys.now - p.fr.lastFe) / pixelCycle
    rtp := if isIp c.bind then f.rtp else 0, lost := if isIp c.bind then f.packetsLost else 0, w := f.fmt.width, h := f.fmt.height
    pitch := slotPitch c.par.compressed f.fmt.width, addr := Config.slotAddr (n * 8 + k), storedAt := p.sys.now
    cidx := st.cidx, tidx := st.tidx
    data := packSlot c.par.compressed (decodedPixels p n f) f.fmt.width f.fmt.height }

/-- A loss condition that a later frame start shows to have ended (R67); the others end with what ends them. -/
def endsAtFrame (cause : Option LossCause) : Bool :=
  cause.isSome && cause != some .quadSkew && cause != some .limits && cause != some .unsupported

/-- An input frame starts: its slot is chosen (R56); only storing begun after a loss condition ended counts for the return
(R67).  The
operand `lines` is the picture whose lines now arrive, which low-latency composition reads (R30; log entry 82). -/
def frameStart (n : Nat) (lines : Option InFrame) (p : Part) : Part :=
  let slot := pickSlot p n
  let ok := fun (f : InFrame) => ((p.format n).map (samePicture f.fmt)).getD false
  updStream n (fun x => { x with
    writing := slot
    writeStart := p.sys.now
    arriving := (lines.filter ok).map (filledSlot p n (slot.getD 0))
    fences := if isIp (p.cfg.stream n).bind then x.fences else []
    condEnd := if x.condEnd.isNone && endsAtFrame x.cause then some p.sys.now else x.condEnd }) p

/-- The group's links are within the bound of R38 for a frame. -/
def skewOk (c : StreamCfg) (f : InFrame) : Bool := c.bind.inputs.length != 4 || decide (f.skew ≤ 4)

/-- A stored frame counts for the return: COMPLETE, links within bound, begun after the condition ended (R38, R67). -/
def countsForReturn (c : StreamCfg) (st : StreamRt) (f : InFrame) : Bool :=
  f.complete && skewOk c f && st.cause.isSome &&
    ((st.condEnd.map fun x => decide (x ≤ st.writeStart)).getD (st.cause == some .quadSkew))

/-- An input frame's last active line is stored (R55): picture, descriptor, fence, counts, converter. -/
def frameStored (n : Nat) (f : InFrame) (p : Part) : Part :=
  let p0 := if (p.stream n).writing.isNone then frameStart n none p else p
  let st := p0.stream n
  let c := p0.cfg.stream n
  match st.writing with
  | none => p0
  | some k =>
    let px := decodedPixels p0 n f
    let seq := st.nextSeq
    let fenced := decide (c.par.fenceGroup ≠ 0)
    let tagged := (frameFence c st f.rtp).isSome
    let w := f.fmt.width
    let h := f.fmt.height
    let good := f.complete
    let p1 := updStream n (fun x => { x with
      slots := x.slots.set k (filledSlot p0 n k f), writing := none, arriving := none, nextSeq := seq + 1
      fences := x.fences.filter fun e => isIp c.bind && serialNewer 32 e.1.toNat f.rtp.toNat
      cidx := if good then x.cidx + 1 else x.cidx
      tidx := if good && tagged then x.tidx + 1 else x.tidx
      incNew := if good then x.incNew else x.incNew + 1
      incompleteRun := if good then 0 else x.incompleteRun + 1
      untagged := if tagged then 0 else x.untagged + 1
      rejoin := if good && tagged && x.unfenced then some seq else x.rejoin
      returnRun := if countsForReturn c x f then x.returnRun + 1 else 0
      lastFmt := if x.cause.isSome then x.lastFmt else (decoded p0 n f).fmt }) p0
    let p2 := if fenced && !tagged then count blkIngest n 4 p1 else p1
    let p3 := match p2.activeConv n with
      | some v => if good then frcStore v f.fmt seq (p2.sys.now / pixelCycle : Nat) (px.map analysisLuma)
          (fun w => (p2.stream n).slots.any fun e => e.2.seq == w) p2 else p2
      | none => p2
    let p4 := perfSignal 0 0x11 n 1 (perfSignal 0 0x10 n h p3)
    if c.par.compressed then perfSignal 0 0x12 n (ceilDiv w 8 * ceilDiv h 4) p4 else p4

def execInputFrameStart (t stream : Nat) (lines : Option InFrame) (s : State) : Host.Outcome State Fault Refusal :=
  onPart (timed t (guarded (fun p => receives p && (p.cfg.stream stream).bound) (frameStart stream lines))) s

/-! ### Fence packets -/

/-- The packet is a fence packet of the part: DID, SDID and data count (R58; log entry 146). -/
def isFence (c : Cfg) (k : FencePkt) : Bool := k.did == c.did && k.sdid == c.sdid && k.count == 12

/-- The user data words are valid for the group (Table 2.10, R60). -/
def fenceValid (group : Nat) (k : FencePkt) : Bool :=
  k.checksumOk && !k.late && byteAt k.udw 0 == 1 && byteAt k.udw 1 == 0 && leAt k.udw 2 2 == group &&
  leAt k.udw 4 4 != 0 && leAt k.udw 10 2 == 0

/-- The frame stored last. -/
def lastStored (st : StreamRt) : Option (Nat × Slot) := newestSlot (st.slots.filter fun e => st.writing != some e.1)

/-- The ST 2110 frame just stored that a fence packet names by its RTP timestamp (R59). -/
def frameBehind (c : StreamCfg) (st : StreamRt) (k : FencePkt) : Option (Nat × Slot) :=
  if isIp c.bind then (lastStored st).filter fun e => e.2.rtp == k.rtp else none

/-- The fence packet comes after its frame's time, or another one stands for that frame (R59, R60). -/
def fenceSpare (c : StreamCfg) (st : StreamRt) (k : FencePkt) : Bool :=
  (frameFence c st k.rtp).isSome ||
    isIp c.bind && ((lastStored st).map fun e => !serialNewer 32 k.rtp.toNat e.2.rtp.toNat).getD false

/-- A fence packet tags its frame: the one being stored, or on ST 2110 one with its RTP timestamp, stored at most 2 ms ago; any
other is counted (R59, R60).  On ST 2110 it comes in the -40 flow bound to the stream. -/
def fencePacket (n : Nat) (k : FencePkt) (p : Part) : Part :=
  let c := p.cfg.stream n
  let st := p.stream n
  let tag : Word := BitVec.ofNat 32 (leAt k.udw 4 4)
  let bad := count blkIngest n 3 p
  let q := updStream n (fun x => { x with member := byteAt k.udw 8, memberCount := byteAt k.udw 9 }) p
  if c.par.fenceGroup = 0 || !isFence p.cfg k || isIp c.bind && !p.cfg.ancFlows.has n then p
  else if !fenceValid c.par.fenceGroup k then bad
  else match frameBehind c st k with
    | some e =>
      if e.2.tagged || decide (e.2.storedAt + 2 * msec < p.sys.now) then bad
      else countBack blkIngest n 4 (updStream n (fun x => { x with
        untagged := 0
        tidx := if e.2.complete then x.tidx + 1 else x.tidx
        rejoin := if e.2.complete && x.unfenced then some e.2.seq else x.rejoin
        slots := x.slots.set e.1 { e.2 with tag := tag, group := c.par.fenceGroup, tagged := true } }) q)
    | none =>
      if fenceSpare c st k then bad
      else updStream n (fun x => { x with fences := x.fences ++ [(k.rtp, tag, c.par.fenceGroup)] }) q

def execFencePacket (t stream : Nat) (pkt : FencePkt) (s : State) : Host.Outcome State Fault Refusal :=
  onPart (timed t (guarded (fun p => receives p && (p.cfg.stream stream).bound) (fencePacket stream pkt))) s

/-- 2 × timeout untagged frames in a row: the member runs unfenced (R64). -/
def execFenceMemberLost (t stream : Nat) (s : State) : Host.Outcome State Fault Refusal :=
  onPart (timed t (guarded
    (fun p => let g := (p.cfg.stream stream).par.fenceGroup
      decide (g ≠ 0) && !(p.stream stream).unfenced && decide (2 * p.cfg.groups.getD g 3 ≤ (p.stream stream).untagged))
    (fun p => raise evFenceMemberLost stream 0 (updStream stream (fun x => { x with unfenced := true, rejoin := none }) p)))) s

/-! ### Identification and loss -/

/-- The picture of a format that ST 352 or the raster shows differs from the one declared (R39). -/
def declaredDiffers (c : StreamCfg) (f : VideoFormat) : Bool :=
  c.par.fmt != VideoFormat.auto && !samePicture f c.par.fmt

/-- A loss condition is met; the loss takes effect at the next frame event (R65). -/
def lossMet (n : Nat) (cause : LossCause) (p : Part) : Part :=
  let noSignal := decide (cause = .signal ∨ cause = .noTrs ∨ cause = .unsupported)
  updStream n (fun x => { x with
    lossDue := if x.lost then x.lossDue else some cause
    cause := some cause
    condEnd := none
    returnRun := 0
    returnDue := false
    order := []
    reordered := false
    id := if noSignal then none else x.id
    rtp := []
    rtpDone := none
    det := if noSignal || cause = .limits then none else x.det }) p

/-- The stream of an SDI input. -/
def streamOfInput (p : Part) (input : Nat) : Option Nat :=
  (p.cfg.streams.find? fun e => e.2.bind.inputs.contains input).map (·.1)

/-- A picture format, colorimetry, transfer, or division declared otherwise than ST 352 says (R36, R39). -/
def payloadDiffers (c : StreamCfg) (id : PayloadId) : Bool :=
  (c.par.colorimetry != 0 && c.par.colorimetry != id.colorimetry) || (c.par.transfer != 0 && c.par.transfer != id.transfer) ||
  (c.par.fmt != VideoFormat.auto && (c.par.fmt.sampling != id.fmt.sampling || c.par.fmt.depth != id.fmt.depth ||
    !samePicture c.par.fmt id.fmt)) ||
  (match c.bind with
   | .sdi _ 4 d => d != 0 && id.division != 0 && d != id.division
   | _ => false)

/-- What ST 352 says of the stream, the same on each link of a group. -/
def streamId (id : PayloadId) : PayloadId := { id with bytes := 0, link := 0, skewLines := 0 }

/-- The link order of a quad group once the link of `input` is known (R37). -/
def linkOrder (first : Nat) (order : List Nat) (input link : Nat) : List Nat :=
  let base := if order = [] then [first, first + 1, first + 2, first + 3] else order
  if 1 ≤ link ∧ link ≤ 4 then base.set (link - 1) input else base

/-- The links of a group are found past the bound of R38, or within it again. -/
def skewSeen (n : Nat) (ok : Bool) (p : Part) : Part :=
  let st := p.stream n
  if !ok then (if st.cause == some .quadSkew && st.condEnd.isNone then p else lossMet n .quadSkew (raise evQuadSkew n 0 p))
  else updStream n (fun x => { x with
    condEnd := if x.condEnd.isNone && x.cause == some .quadSkew then some p.sys.now else x.condEnd }) p

/-- A frame whose links lie past the bound is stored, and the group is lost (R38). -/
def execFrameStored (t stream : Nat) (frame : InFrame) (s : State) : Host.Outcome State Fault Refusal :=
  onPart (timed t (guarded (fun p => receives p && ((p.format stream).map (samePicture frame.fmt)).getD false)
    fun p => if skewOk (p.cfg.stream stream) frame then frameStored stream frame p
      else skewSeen stream false (frameStored stream frame p))) s

/-- An ST 352 packet (R36 to R39). -/
def st352Received (input : Nat) (id : PayloadId) (p : Part) : Part :=
  let p := updPort false input (fun x => { x with st352 := some id.bytes, fmt := some id.fmt, signal := true, cdr := true, trs := true }) p
  match streamOfInput p input with
  | none => p
  | some n =>
    let c := p.cfg.stream n
    let st := p.stream n
    let quad := decide (c.bind.inputs.length = 4)
    let first := c.bind.inputs.headD input
    let order := if quad then linkOrder first st.order input id.link else [input]
    let swapped := quad && noRepeats order && decide (order ≠ [first, first + 1, first + 2, first + 3])
    let changed := st.id != some (streamId id)
    let fmtChange := ((st.id.map fun o => !samePicture o.fmt id.fmt || o.fmt.sampling != id.fmt.sampling).getD false) &&
      c.par.fmt == VideoFormat.auto
    let p1 := updStream n (fun x => { x with
      id := some (streamId id), order := order, mismatch := payloadDiffers c id, reordered := x.reordered || swapped }) p
    let p2 := if swapped && !st.reordered then raise evQuadReordered n 0 p1 else p1
    let p3 := if changed && payloadDiffers c id then raise evPayloadMismatch n 0 p2 else p2
    let p4 := if fmtChange then lossMet n .formatChange p3 else p3
    if quad then skewSeen n (decide (id.skewLines ≤ 4)) p4 else p4

def execSt352Received (t input : Nat) (id : PayloadId) (s : State) : Host.Outcome State Fault Refusal :=
  onPart (timed t (guarded (fun p => receives p && laneWorks p (148 + input)) (st352Received input id))) s

/-- An SDI stream detects a format (R35, R39, R40, R447). -/
def formatDetected (n : Nat) (f : VideoFormat) (p : Part) : Part :=
  let c := p.cfg.stream n
  match c.bind with
  | .sdi _ links _ =>
    let st := p.stream n
    let auto := decide (c.par.fmt = VideoFormat.auto)
    let p := c.bind.inputs.foldl (fun q i => updPort false i (fun x => { x with signal := true, cdr := true, trs := true, fmt := some f }) q) p
    if !sdiFormatOk links f then lossMet n .unsupported (raise evFormatUnsupported n 0 p)
    else if auto && !rateLimits (fun k => if k = n then some f else p.det k) p.cfg then
      lossMet n .limits (raise evFormatUnsupported n 1 p)
    else
      let p1 := updStream n (fun x => { x with
        det := some f
        id := x.id.filter fun y => samePicture y.fmt f
        mismatch := ((x.id.filter fun y => samePicture y.fmt f).map (payloadDiffers c)).getD false
        condEnd := if x.condEnd.isNone && (x.cause == some .limits || x.cause == some .unsupported) then some p.sys.now
          else x.condEnd }) p
      if declaredDiffers c f then
        let p2 := if st.det != some f then raise evPayloadMismatch n 0 p1 else p1
        updStream n (fun x => { x with mismatch := true }) (lossMet n .declaredMismatch p2)
      else if auto && !st.lost && st.det.isSome && st.det != some f then
        updStream n (fun x => { x with det := some f }) (lossMet n .formatChange p1)
      else p1
  | _ => p

def execFormatDetected (t stream : Nat) (fmt : VideoFormat) (s : State) : Host.Outcome State Fault Refusal :=
  onPart (timed t (guarded (fun p => receives p && (p.cfg.stream stream).bind.inputs.all fun i => laneWorks p (148 + i))
    (formatDetected stream fmt))) s

/-- The conditions of Table 2.11 that the state itself shows. -/
def lossHolds (n : Nat) (cause : LossCause) (p : Part) : Bool :=
  let st := p.stream n
  let period := ((p.format n).map formatPeriod).getD 0
  match cause with
  | .ipNoPacket => decide (st.lastPkt + 3 * period ≤ p.sys.now)
  | .ipIncomplete => decide (10 ≤ st.incompleteRun)
  | .ipMisfit => decide (2 ≤ st.misfitRun)
  | _ => true

/-- Raises what names the cause, unless the row that found it did so (R35, R38, R39). -/
def lossNamed (n : Nat) (cause : LossCause) (p : Part) : Part :=
  if (p.stream n).lossDue == some cause then p
  else match cause with
    | .unsupported => raise evFormatUnsupported n 0 p
    | .limits => raise evFormatUnsupported n 1 p
    | .declaredMismatch => raise evPayloadMismatch n 0 p
    | .quadSkew => raise evQuadSkew n 0 p
    | .signal => (p.cfg.stream n).bind.inputs.foldl
        (fun q i => updPort false i (fun x => { x with signal := false, cdr := false, trs := false, st352 := none, fmt := none }) q) p
    | .noTrs => (p.cfg.stream n).bind.inputs.foldl (fun q i => updPort false i (fun x => { x with trs := false }) q) p
    | _ => p

def execStreamLost (t stream : Nat) (cause : LossCause) (s : State) : Host.Outcome State Fault Refusal :=
  onPart (timed t (guarded (fun p => (p.cfg.stream stream).bound && lossHolds stream cause p)
    (fun p => lossMet stream cause (lossNamed stream cause p)))) s

/-- A lost stream under HOLD reaches its hold time (R66). -/
def execHoldTimeExpiry (t stream : Nat) (s : State) : Host.Outcome State Fault Refusal :=
  onPart (timed t (guarded
    (fun p => let st := p.stream stream
      st.lost && (p.cfg.stream stream).par.lossAction == 0 &&
      decide (st.lostSince + (p.cfg.stream stream).par.holdMs * msec ≤ p.sys.now))
    (updStream stream fun x => { x with fallbackOn := true }))) s

/-- A lost stream returns, at a frame event (R67, R68, R86). -/
def streamRestored (n : Nat) (p : Part) : Part :=
  let st := p.stream n
  let now := ((newestSlot st.slots).map fun e => (e.2.w, e.2.h)).getD (0, 0)
  let fmt := (p.format n).getD VideoFormat.auto
  let changed := decide (st.lastFmt ≠ VideoFormat.auto) &&
    (decide (now ≠ (st.lastFmt.width, st.lastFmt.height)) || fmt != st.lastFmt)
  let p1 := updStream n (fun x => { x with
    lost := false, cause := none, condEnd := none, fallbackOn := false, fresh := true, returned := true, returnDue := false,
    choice := none, hasTag := false, returnRun := 0, lastFmt := fmt }) p
  let p2 := match p1.cfg.convOf n with
    | some v => frcRestart v p1
    | none => p1
  let p3 := raise evStreamRestored n 0 p2
  if changed then raise evFormatChanged n 0 p3 else p3

/-- A lost stream has stored its return count of complete frames: it returns at the next frame event (R67). -/
def execStreamRestored (t stream : Nat) (s : State) : Host.Outcome State Fault Refusal :=
  onPart (timed t (guarded
    (fun p => (p.stream stream).lost && decide ((p.cfg.stream stream).par.returnCount ≤ (p.stream stream).returnRun))
    (updStream stream fun x => { x with returnDue := true }))) s

/-- The returns of a frame event (R67). -/
def returnStep (p : Part) (n : Nat) : Part :=
  if (p.stream n).lost && (p.stream n).returnDue then streamRestored n p else p

/-! ### The frame event: fences and synchronisers -/

/-- The stream's choice is a slot. -/
def chosen (e : Nat × Slot) (x : StreamRt) : StreamRt :=
  { x with
    choice := some e.1, choiceSeq := e.2.seq, fresh := false, returned := false
    choiceC := e.2.cidx + b2n e.2.complete, choiceT := e.2.tidx + b2n (e.2.complete && e.2.tagged) }

/-- A stream shows a slot, with DROP counted over COMPLETE or over tagged COMPLETE frames (R57, R63). -/
def showSlot (n : Nat) (fenced first : Bool) (e : Nat × Slot) (p : Part) : Part :=
  let st := p.stream n
  let dropped := if first || st.choice.isNone then 0 else if fenced then e.2.tidx - st.choiceT else e.2.cidx - st.choiceC
  updStream n (fun x => { chosen e x with curM := if fenced then e.2.tag else x.curM, hasTag := x.hasTag || fenced })
    (countBy blkIngest n 1 dropped p)

/-- Members of a group that take part in its decisions (R63, R64). -/
def fenceMembers (g : Nat) (p : Part) : List Nat :=
  p.cfg.boundStreams.filter fun n => (p.cfg.stream n).par.fenceGroup == g && !(p.stream n).lost && !(p.stream n).unfenced

/-- Tagged frames of a member that may be shown at `fe`. -/
def taggedFrames (fe n : Nat) (p : Part) : List (Nat × Slot) :=
  let st := p.stream n
  st.slots.filter fun e => eligible fe st e && e.2.tagged && e.2.group == (p.cfg.stream n).par.fenceGroup

/-- The newest tag of a list. -/
def newestTag : List Word → Option Word
  | [] => none
  | t :: rest => match newestTag rest with
    | none => some t
    | some u => if serialNewer 32 u.toNat t.toNat then some u else some t

def groupNewer (g : GroupRt) (t : Word) : Bool := !g.seen || serialNewer 32 t.toNat g.curG.toNat

def updGroupRt (g : Nat) (f : GroupRt → GroupRt) (p : Part) : Part :=
  p.updInp fun i => { i with groups := i.groups.upd g {} f }

def Part.groupRt (p : Part) (g : Nat) : GroupRt := p.inp.groups.getD g {}

/-- Of some tagged slots, the one with the newest tag, and of those the newest by SEQ (R61, R63). -/
def newestByTag (l : List (Nat × Slot)) : Option (Nat × Slot) :=
  (newestTag (l.map fun e => e.2.tag)).bind fun t => newestSlot (l.filter fun e => e.2.tag == t)

/-- The member shows its frame of the newest tag that satisfies `ok`. -/
def showNewestTag (fe : Nat) (ok : Word → Bool) (p : Part) (n : Nat) : Part :=
  match newestByTag ((taggedFrames fe n p).filter fun e => ok e.2.tag) with
  | some e => showSlot n true false e p
  | none => p

/-- A member that returns takes the tag of the frame it returns with, or runs unfenced (R63); one that stored a tagged
frame rejoins with that frame's tag (R64). -/
def fenceRejoin (fe : Nat) (p : Part) (n : Nat) : Part :=
  let st := p.stream n
  if st.lost || (p.cfg.stream n).par.fenceGroup = 0 then p
  else if st.returned then
    match newestSlot (st.slots.filter (eligible fe st)) with
    | some e => if e.2.tagged then showSlot n true true e p
        else updStream n (fun x => { x with unfenced := true, rejoin := none }) p
    | none => p
  else if st.unfenced then
    match (taggedFrames fe n p).find? fun e => some e.2.seq == st.rejoin with
    | some e => updStream n (fun x => { x with unfenced := false, rejoin := none }) (showSlot n true false e p)
    | none => p
  else p

/-- REPEAT for the members whose frame did not change (R63). -/
def fenceRepeats (before after : Part) (ms : List Nat) : Part :=
  ms.foldl (fun q n => if (before.stream n).choice.isSome && (before.stream n).choiceSeq != (after.stream n).choiceSeq ||
      (before.stream n).choice.isNone && (after.stream n).choice.isSome then q else count blkIngest n 0 q) after

/-- The decision of one group at a frame event, but the timeout itself, which marks the group due (R63). -/
def fenceDecide (fe : Nat) (p : Part) (g : Nat) : Part :=
  let ms := fenceMembers g p
  let top := newestTag ((ms.filter fun n => (p.stream n).hasTag).map fun n => (p.stream n).curM)
  let p0 := match top with
    | some t => if groupNewer (p.groupRt g) t then updGroupRt g (fun x => { x with curG := t, seen := true }) p else p
    | none => p
  let gr := p0.groupRt g
  let p1 := if gr.seen then
      ms.foldl (fun q n => showNewestTag fe
        (fun t => tagNewer (q.stream n) t && !groupNewer gr t) q n) p0
    else p0
  let tags := fun n => ((taggedFrames fe n p1).map fun e => e.2.tag).filter (groupNewer gr)
  let held := ms.flatMap tags
  let common := newestTag (held.filter fun t => ms.all fun n => (tags n).contains t)
  match common with
  | some t =>
    let p2 := ms.foldl (fun q n => showNewestTag fe (· == t) q n) p1
    fenceRepeats p (updGroupRt g (fun x => { x with curG := t, seen := true, wait := 0 }) p2) ms
  | none =>
    if held = [] then fenceRepeats p (updGroupRt g (fun x => { x with wait := 0 }) p1) ms
    else
      let w := gr.wait + 1
      let due := decide (p.cfg.groups.getD g 3 ≤ w)
      let p2 := updGroupRt g (fun x => { x with wait := w, due := due }) p1
      if due then p2 else fenceRepeats p p2 ms

/-- The timeout of a group that is due: members holding a newer tag show it (R63); `before` is the frame event's start. -/
def fenceTimeout (fe : Nat) (g : Nat) (before p : Part) : Part :=
  let ms := fenceMembers g p
  let gr := p.groupRt g
  let p1 := ms.foldl (fun q n => showNewestTag fe (groupNewer gr) q n) p
  let shown := (ms.filter fun n => (p1.stream n).hasTag && groupNewer gr (p1.stream n).curM).map fun n => (p1.stream n).curM
  let cur := (newestTag shown).getD gr.curG
  let behind := (ms.filter fun n => !((p1.stream n).hasTag && (p1.stream n).curM == cur)).length
  let p2 := updGroupRt g (fun x => { x with curG := cur, seen := true, wait := 0, due := false, timeouts := x.timeouts + 1 }) p1
  raise evFenceTimeout g behind (fenceRepeats before p2 ms)

/-- The synchroniser of a stream that is not lost and not fenced (Table 2.9). -/
def syncDecide (fe n : Nat) (p : Part) : Part :=
  let st := p.stream n
  match newestSlot (st.slots.filter fun e => eligible fe st e && newerThanChoice st e) with
  | some e => showSlot n false st.fresh e p
  | none => if st.fresh then p else count blkIngest n 0 p

/-- A loss that is due takes effect at step 4 (R65, R66, R68). -/
def lossDecide (n : Nat) (p : Part) : Part :=
  let st := p.stream n
  if st.lossDue.isNone then p
  else raise evStreamLost n 0 (updStream n (fun x => { x with
    lossDue := none, lost := true, lostSince := p.sys.now, lostCfn := p.fr.cfn
    fallbackOn := (p.cfg.stream n).par.lossAction == 0 && x.choice.isNone }) p)

/-- INCOMPLETE frames are counted once, at the first frame event after they are stored (R57). -/
def incompleteCount (n : Nat) (p : Part) : Part :=
  let k := (p.stream n).incNew
  let q := updStream n (fun x => { x with incNew := 0 }) p
  if (p.activeConv n).isSome then q else countBy blkIngest n 2 k q

/-- Step 4 for one stream. -/
def streamFrameEvent (fe : Nat) (p : Part) (n : Nat) : Part :=
  let p1 := incompleteCount n (lossDecide n p)
  let st := p1.stream n
  if st.lost || (p1.activeConv n).isSome then p1
  else if (p1.cfg.stream n).par.fenceGroup = 0 || st.unfenced then syncDecide fe n p1
  else p1

/-- Step 5: the converters set their pair, and the synchroniser's choice of a converted stream is A (R74). -/
def convFrameEvent (fe : Nat) (p : Part) (e : Nat × FrcCfg) : Part :=
  match e.2.stream with
  | none => p
  | some n =>
    match p.format n with
    | none => p
    | some f =>
      if (p.stream n).lost || convDown p e.1 then p
      else
        let q := frcFrameEvent fe f p e.1
        match (q.conv e.1).a with
        | none => q
        | some a => match (q.stream n).slots.find? fun x => x.2.seq == a with
          | some x => updStream n (chosen x) q
          | none => q

/-! ### ST 2110 -/

/-- Samples placed in a plane. -/
def placeSamples (plane : List Nat) (at' : Nat) (v : List Nat) : List Nat :=
  plane.take at' ++ v ++ plane.drop (at' + v.length)

/-- The frame assembled from the packets placed so far (R47). -/
def assemble (f : VideoFormat) (r : RtpFrame) (missing : Nat) : InFrame :=
  let cw := if f.sampling = 0 then f.width / 2 else f.width
  let blank := List.replicate (f.width * f.height) 0
  let blankC := List.replicate (cw * f.height) 0
  let div := fun x => if f.sampling = 0 then x / 2 else x
  let put := fun (acc : List Nat × List Nat × List Nat) (e : Nat × Nat × List Nat × List Nat × List Nat) =>
    (placeSamples acc.1 (e.1 * f.width + e.2.1) e.2.2.1,
     placeSamples acc.2.1 (e.1 * cw + div e.2.1) e.2.2.2.1,
     placeSamples acc.2.2 (e.1 * cw + div e.2.1) e.2.2.2.2)
  let (a, b, c) := r.pix.foldl put (blank, blankC, blankC)
  { fmt := f, complete := missing == 0 && !r.misfit, bottom := false, c0 := a, c1 := b, c2 := c, rtp := r.ts,
    packetsLost := missing }

/-- The packets placed cover the raster. -/
def rtpCovers (f : VideoFormat) (r : RtpFrame) : Bool :=
  decide (f.width * f.height ≤ (r.pix.map fun e => e.2.2.1.length).sum)

/-- Least of the sequence numbers received, and the greatest. -/
def rtpFirst (r : RtpFrame) : Nat := r.got.foldl min (r.got.headD 0)
def rtpTop (r : RtpFrame) : Nat := r.got.foldl max 0

/-- The frame begins with its picture's first sample. -/
def rtpFromStart (r : RtpFrame) : Bool := r.pix.any fun e => e.1 == 0 && e.2.1 == 0

/-- Last sequence number of a frame: its marker's; without it, the one before a next frame that begins with its first sample,
else that of the lost marker alone (log entry 83). -/
def rtpLast (r : RtpFrame) (next : Option RtpFrame) : Nat :=
  r.last.getD (match next with
    | some x => if rtpFromStart x then rtpFirst x - 1 else rtpTop r + 1
    | none => rtpTop r + 1)

/-- Packets lost in a frame (R47, Table 2.8): of its numbers, and, where the numbers show none, of a head that the part did
not receive (log entry 83). -/
def rtpMissing (f : VideoFormat) (done : Option (Word × Nat)) (r : RtpFrame) (next : Option RtpFrame) : Nat :=
  let low := (done.map (·.2 + 1)).getD (rtpFirst r)
  let gap := rtpLast r next + 1 - low - r.got.length
  if gap = 0 && !r.misfit && !rtpCovers f r then 1 + Config.headLost (rtpFirst r) else gap

/-- The legs that a stream receives on. -/
def liveLegs (b : IpBind) (st : StreamRt) : List Nat :=
  if b.protect then [0, 1].filter fun l => !st.legLost.getD l false else [0]

/-- A frame ends: whole, or with nothing more to come: every leg has gone past its end, or the first did longer ago than the
seamless window (R47, R49; log entry 83). -/
def rtpEnds (f : VideoFormat) (b : IpBind) (window now : Nat) (st : StreamRt) (r : RtpFrame) (next : Option RtpFrame) : Bool :=
  r.last.isSome && !r.misfit && rtpMissing f st.rtpDone r next == 0 ||
  !r.ended.isEmpty && (liveLegs b st).all r.ended.contains || (r.endedAt.map fun x => decide (x + window < now)).getD false

/-- The oldest frame being received is stored with what it has (R47, Table 2.11). -/
def rtpFrameEnd (n : Nat) (f : VideoFormat) (r : RtpFrame) (rest : List RtpFrame) (p : Part) : Part :=
  let missing := rtpMissing f (p.stream n).rtpDone r rest.head?
  let q := updStream n (fun x => { x with
    rtp := rest, rtpDone := some (r.ts, rtpLast r rest.head?), rtpLost := x.rtpLost + missing
    misfitRun := if r.misfit then x.misfitRun + 1 else 0 }) p
  let q1 := frameStored n (assemble f r missing) q
  if rest.isEmpty then q1 else frameStart n none q1

/-- Frames that end now are stored, the oldest first. -/
def rtpClose (n : Nat) (f : VideoFormat) (b : IpBind) : List RtpFrame → Part → Part
  | [], p => p
  | r :: rest, p =>
    if rtpEnds f b ((p.cfg.stream n).par.seamless * (msec / 10)) p.sys.now (p.stream n) r rest.head? then
      rtpClose n f b rest (rtpFrameEnd n f r rest p)
    else p

/-- A packet of a frame that has ended. -/
def rtpOver (st : StreamRt) (k : RtpPacket) : Bool :=
  (st.rtpDone.map fun e => !serialNewer 32 k.ts.toNat e.1.toNat).getD false

/-- What the arrival of a packet on a leg says of a frame: that leg has gone past its end (R47). -/
def rtpPassed (leg now : Nat) (k : RtpPacket) (r : RtpFrame) : RtpFrame :=
  let past := r.ts == k.ts && k.marker || serialNewer 32 k.ts.toNat r.ts.toNat
  if past && !r.ended.contains leg then { r with ended := r.ended ++ [leg], endedAt := some (r.endedAt.getD now) } else r

/-- A packet's place in its frame (R47). -/
def rtpPut (k : RtpPacket) (r : RtpFrame) : RtpFrame :=
  if r.ts ≠ k.ts then r
  else { r with
    got := r.got ++ [k.seq], last := if k.marker then some k.seq else r.last, misfit := r.misfit || !k.fits
    pix := if k.fits then r.pix ++ [(k.line, k.offset, k.c0, k.c1, k.c2)] else r.pix }

/-- A new frame in its place among those being received. -/
def rtpInsert (r : RtpFrame) : List RtpFrame → List RtpFrame
  | [] => [r]
  | x :: rest => if serialNewer 32 x.ts.toNat r.ts.toNat then r :: x :: rest else x :: rtpInsert r rest

/-- Places one packet that is the first copy of its sequence number (R47). -/
def rtpPlace (n : Nat) (k : RtpPacket) (p : Part) : Part :=
  if rtpOver (p.stream n) k then p
  else
    let q := updStream n (fun x => { x with
      rtp := (if x.rtp.any (fun r => r.ts == k.ts) then x.rtp else rtpInsert { ts := k.ts } x.rtp).map (rtpPut k) }) p
    if (q.stream n).writing.isNone then frameStart n none q else q

/-- A packet of an ST 2110-20 flow on one leg, merged packet by packet (R47, R49).  A sequence number is remembered for 1 s to
know its late twin by (log entry 147). -/
def rtpReceived (n leg : Nat) (b : IpBind) (k : RtpPacket) (p : Part) : Part :=
  let st := p.stream n
  let window := (p.cfg.stream n).par.seamless * (msec / 10)
  let twin := st.rtpSeen.find? fun e => e.1 == k.seq
  let p1 := updStream n (fun x => { x with
    legLast := x.legLast.set leg p.sys.now, legLost := x.legLost.set leg false, lastPkt := p.sys.now
    rtpSeen := (x.rtpSeen.filter fun e => decide (p.sys.now < e.2.2 + sec)) ++
      if twin.isSome then [] else [(k.seq, leg, p.sys.now)] }) p
  let p2 := match twin with
    | some e => if e.2.2 + window < p.sys.now then count blkIpin (if leg = 0 then b.port else b.port ^^^ 1) 0 p1 else p1
    | none => rtpPlace n k p1
  let p3 := updStream n (fun x => { x with rtp := x.rtp.map (rtpPassed leg p.sys.now k) }) p2
  rtpClose n b.fmt b (p3.stream n).rtp p3

def execRtpPacketReceived (t stream leg : Nat) (pkt : RtpPacket) (s : State) : Host.Outcome State Fault Refusal :=
  onPart (timed t (guarded receives fun p => match (p.cfg.stream stream).bind with
    | .ip b => if leg = 0 ∨ (leg = 1 ∧ b.protect = true) then rtpReceived stream leg b pkt p else p
    | _ => p)) s

/-- A leg without packets for 3 frame periods (R49). -/
def execLegLost (t stream leg : Nat) (s : State) : Host.Outcome State Fault Refusal :=
  onPart (timed t (guarded
    (fun p => match (p.cfg.stream stream).bind with
      | .ip b => b.protect && !(p.stream stream).legLost.getD leg true &&
          decide ((p.stream stream).legLast.getD leg 0 + 3 * formatPeriod b.fmt ≤ p.sys.now)
      | _ => false)
    (fun p => raise evLegLost stream 0 (updStream stream (fun x => { x with legLost := x.legLost.set leg true }) p)))) s

/-- The port's own addresses (R43). -/
def ownAddress (e : EthCfg) (a : List Byte) : Bool :=
  a.any (· != 0) && (a == e.ipv4 || a == e.ipv6)

def execNetworkRequest (t port : Nat) (req : NetRequest) (s : State) : Host.Outcome State Fault Refusal :=
  onPart (timed t (guarded
    (fun p => let e := p.cfg.eth.getD port {}
      receives p && (p.inp.eth.getD port {}).link &&
      match req with
      | .arp a => ownAddress e a && a.length == 4
      | .neighbour a => ownAddress e a && a.length == 16
      | .echo a _ => ownAddress e a)
    (emit (.netReply port req)))) s

/-- A committed leg of a flow: flow number (streams, audio flows from 64, ANC flows from 128), port, and its addresses. -/
def Cfg.legs (c : Cfg) : List (Nat × Nat × Nat × List Byte × List Byte) :=
  let one := fun (n port : Nat) (l : Leg) => (n, port, l.family, l.dst, l.src)
  let two := fun (n port : Nat) (prot : Bool) (l1 l2 : Leg) => one n port l1 :: if prot then [one n (port ^^^ 1) l2] else []
  (c.streams.flatMap fun e => match e.2.bind with
    | .ip b => two e.1 b.port b.protect b.leg1 b.leg2
    | _ => []) ++
  (c.audFlows.flatMap fun e => two (64 + e.1) e.2.port e.2.protect e.2.leg1 e.2.leg2) ++
  (c.ancFlows.flatMap fun e => two (128 + e.1) e.2.port e.2.protect e.2.leg1 e.2.leg2)

/-- The report that joins or leaves a leg's group and source (R45). -/
def membershipReport (join : Bool) (l : Nat × Nat × Nat × List Byte × List Byte) : Out :=
  .membership l.2.1 l.1 (l.2.2.1 == 1) join l.2.2.2.1 l.2.2.2.2

/-- Reports for every committed flow of the port and family (R45). -/
def execMembershipQuery (t port : Nat) (v6 : Bool) (s : State) : Host.Outcome State Fault Refusal :=
  onPart (timed t (guarded receives fun p =>
    (p.cfg.legs.filter fun l => l.2.1 == port && l.2.2.1 == b2n v6).foldl (fun q l => emit (membershipReport true l) q) p)) s

/-- Joins and leaves when the committed flows change (R45). -/
def membershipChange (old new : Cfg) (p : Part) : Part :=
  let p1 := (old.legs.filter fun l => !new.legs.contains l).foldl (fun q l => emit (membershipReport false l) q) p
  (new.legs.filter fun l => !old.legs.contains l).foldl (fun q l => emit (membershipReport true l) q) p1

/-! ### PTP and Ethernet links -/

/-- The port PTP uses: the chosen one, or its backup while the chosen one is down (R50). -/
def ptpPort (p : Part) : Nat :=
  let c := p.cfg.ptp
  if (p.inp.eth.getD c.port {}).link then c.port else c.backup.getD c.port

def updPtp (f : PtpRt → PtpRt) (p : Part) : Part := p.updInp fun i => { i with ptp := f i.ptp }

/-- Offset from master with the measured path delay (R50). -/
def ptpOffset (x : PtpRt) (origin received : Int) : PtpRt :=
  { x with lastSync := some (origin, received), waiting := none, offset := received - origin - x.delay }

/-- Timestamps at the port have 4 ns resolution (R50). -/
def stamp4 (t : Int) : Int := t / 4 * 4

/-- The master is heard of: its Announce has not run out, three of its intervals after the last (R50; log entry 148). -/
def ptpHeard (p : Part) : Bool := p.inp.ptp.rank.isSome && decide (p.sys.now ≤ p.inp.ptp.heardTo)

/-- How long an Announce holds, in 25 ps units. -/
def announceHolds (ns : Nat) : Nat := 3 * ns * 40

def ptpMessage (m : PtpMessage) (p : Part) : Part :=
  let x := p.inp.ptp
  let seen := updPtp (fun y => { y with lastAt := p.sys.now })
  match m with
  | .announce d gm rank interval ann =>
    let upto := p.sys.now + announceHolds ann
    if d ≠ p.cfg.ptp.domain then p
    else if x.gm != gm && (!ptpHeard p || decide (rank < x.rank.getD 0)) || x.rank.isNone then
      let q := updPtp (fun y => { y with
        gm := gm, rank := some rank, intervalNs := interval, heardTo := upto, lastSync := none, waiting := none }) p
      if x.gm = gm && x.rank.isSome then q else raise evPtpGmChange 0 0 q
    else if x.gm = gm then updPtp (fun y => { y with rank := some rank, intervalNs := interval, heardTo := upto }) p
    else p
  | .sync d gm two origin received =>
    if d ≠ p.cfg.ptp.domain ∨ gm ≠ x.gm ∨ !ptpHeard p then p
    else if two then seen (updPtp (fun y => { y with waiting := some (stamp4 received) }) p)
    else emit (.delayReq (ptpPort p)) (seen (updPtp (fun y => ptpOffset y origin (stamp4 received)) p))
  | .followUp d gm origin =>
    if d ≠ p.cfg.ptp.domain ∨ gm ≠ x.gm then p
    else match x.waiting with
      | some r => emit (.delayReq (ptpPort p)) (seen (updPtp (fun y => ptpOffset y origin r) p))
      | none => p
  | .delayResp d gm sent received =>
    if d ≠ p.cfg.ptp.domain ∨ gm ≠ x.gm then p
    else match x.lastSync with
      | some (t1, t2) =>
        let delay := ((t2 - t1) + (received - stamp4 sent)).tdiv 2
        seen (updPtp (fun y => { y with delay := delay, offset := t2 - t1 - delay }) p)
      | none => p

def execEthLinkDown (t port : Nat) (s : State) : Host.Outcome State Fault Refusal :=
  onPart (timed t (guarded (fun p => (p.inp.eth.getD port {}).link)
    (fun p => raise evEthLinkDown port 0 (updPort true port (fun x => { x with link := false }) p)))) s

def execEthLinkUp (t port : Nat) (s : State) : Host.Outcome State Fault Refusal :=
  onPart (timed t (guarded (fun p => !(p.inp.eth.getD port {}).link && (List.range 4).all fun i => laneWorks p (128 + 4 * port + i))
    (fun p => raise evEthLinkUp port 0 (updPort true port (fun x => { x with link := true }) p)))) s

/-- A converter completes the vector field of a pair (R76, R82). -/
def execVectorEstimateDone (t conv seqB : Nat) (blocks : List VecBlock) (s : State) : Host.Outcome State Fault Refusal :=
  onPart (timed t (guarded (fun p => vectorsFit ((p.cfg.conv conv).stream.bind p.format) blocks)
    (frcVectors conv (BitVec.ofNat 32 seqB) blocks))) s

end Sys2Proof.Machine
end

