-- ==== Sys2Proof/Machine/Layers.lean ====
section
/-! DEFINITION. Regions, layers, coefficient sets, canvas, slate and monitor parameters: layouts of groups 0x04xx and
0x05xx, their limits (R90 to R112, R124, R141, R145), and the coefficient sets of R106. -/

namespace Sys2Proof.Machine

open Sys2Proof

/-! ### Coefficient sets -/

def lanczos0 : List (List Int) :=
  [[0, 0, 16384, 0, 0, 0],
   [52, -207, 16377, 216, -54, 0],
   [100, -405, 16356, 442, -111, 2],
   [147, -593, 16320, 676, -170, 4],
   [190, -772, 16272, 919, -232, 7],
   [230, -941, 16208, 1171, -296, 12],
   [268, -1101, 16131, 1431, -362, 17],
   [303, -1251, 16041, 1699, -431, 23]]

def lanczos1 : List (List Int) :=
  [[335, -1391, 15936, 1975, -501, 30],
   [364, -1522, 15819, 2258, -573, 38],
   [390, -1643, 15687, 2549, -646, 47],
   [414, -1755, 15542, 2847, -721, 57],
   [435, -1858, 15386, 3151, -798, 68],
   [453, -1951, 15215, 3462, -875, 80],
   [468, -2035, 15033, 3778, -953, 93],
   [481, -2111, 14840, 4100, -1032, 106]]

def lanczos2 : List (List Int) :=
  [[492, -2177, 14632, 4427, -1111, 121],
   [500, -2235, 14415, 4758, -1190, 136],
   [506, -2284, 14186, 5094, -1269, 151],
   [509, -2325, 13947, 5434, -1348, 167],
   [511, -2358, 13697, 5776, -1426, 184],
   [510, -2383, 13437, 6122, -1504, 202],
   [507, -2400, 13168, 6470, -1580, 219],
   [503, -2410, 12889, 6819, -1654, 237]]

def lanczos3 : List (List Int) :=
  [[497, -2413, 12602, 7170, -1728, 256],
   [489, -2409, 12307, 7522, -1799, 274],
   [479, -2398, 12004, 7874, -1867, 292],
   [469, -2381, 11692, 8226, -1933, 311],
   [457, -2359, 11377, 8576, -1996, 329],
   [444, -2330, 11053, 8926, -2056, 347],
   [429, -2296, 10726, 9273, -2113, 365],
   [414, -2257, 10392, 9618, -2165, 382]]

def lanczos4 : List (List Int) :=
  [[398, -2213, 10054, 9960, -2213, 398],
   [382, -2165, 9618, 10392, -2257, 414],
   [365, -2113, 9273, 10726, -2296, 429],
   [347, -2056, 8926, 11053, -2330, 444],
   [329, -1996, 8576, 11377, -2359, 457],
   [311, -1933, 8226, 11692, -2381, 469],
   [292, -1867, 7874, 12004, -2398, 479],
   [274, -1799, 7522, 12307, -2409, 489]]

def lanczos5 : List (List Int) :=
  [[256, -1728, 7170, 12602, -2413, 497],
   [237, -1654, 6819, 12889, -2410, 503],
   [219, -1580, 6470, 13168, -2400, 507],
   [202, -1504, 6122, 13437, -2383, 510],
   [184, -1426, 5776, 13697, -2358, 511],
   [167, -1348, 5434, 13947, -2325, 509],
   [151, -1269, 5094, 14186, -2284, 506],
   [136, -1190, 4758, 14415, -2235, 500]]

def lanczos6 : List (List Int) :=
  [[121, -1111, 4427, 14632, -2177, 492],
   [106, -1032, 4100, 14840, -2111, 481],
   [93, -953, 3778, 15033, -2035, 468],
   [80, -875, 3462, 15215, -1951, 453],
   [68, -798, 3151, 15386, -1858, 435],
   [57, -721, 2847, 15542, -1755, 414],
   [47, -646, 2549, 15687, -1643, 390],
   [38, -573, 2258, 15819, -1522, 364]]

def lanczos7 : List (List Int) :=
  [[30, -501, 1975, 15936, -1391, 335],
   [23, -431, 1699, 16041, -1251, 303],
   [17, -362, 1431, 16131, -1101, 268],
   [12, -296, 1171, 16208, -941, 230],
   [7, -232, 919, 16272, -772, 190],
   [4, -170, 676, 16320, -593, 147],
   [2, -111, 442, 16356, -405, 100],
   [0, -54, 216, 16377, -207, 52]]

def lanczosRows : List (List Int) :=
  lanczos0 ++ lanczos1 ++ lanczos2 ++ lanczos3 ++ lanczos4 ++ lanczos5 ++ lanczos6 ++ lanczos7

/-- A Catmull-Rom weight at phase `p` on offset `o`, times 16,384 and rounded (R106). -/
def cubicWeight (p : Int) (o : Int) : Int :=
  if o = -1 then roundDiv (-(p ^ 3) + 128 * p ^ 2 - 4096 * p) 32
  else if o = 0 then roundDiv (3 * p ^ 3 - 320 * p ^ 2 + 524288) 32
  else if o = 1 then roundDiv (-3 * p ^ 3 + 256 * p ^ 2 + 4096 * p) 32
  else if o = 2 then roundDiv (p ^ 3 - 64 * p ^ 2) 32
  else 0

/-- The cubic's weight with the rounding rest moved onto the largest tap (R106). -/
def cubicTap (p : Int) (o : Int) : Int :=
  let big : Int := if cubicWeight p 0 ≥ cubicWeight p 1 then 0 else 1
  let rest := 16384 - (cubicWeight p (-1) + cubicWeight p 0 + cubicWeight p 1 + cubicWeight p 2)
  cubicWeight p o + if o = big then rest else 0

/-- Coefficient of a built-in kernel at phase `p` on the source offset `o` (Table 4.6). -/
def builtinTap (kernel p : Nat) (o : Int) : Int :=
  match kernel with
  | 0 => if o = 0 then (if p < 32 then 16384 else 0) else if o = 1 then (if p < 32 then 0 else 16384) else 0
  | 1 => if o = 0 then 16384 - 256 * p else if o = 1 then 256 * p else 0
  | 2 => cubicTap p o
  | _ => if -2 ≤ o ∧ o ≤ 3 then (lanczosRows.getD p []).getD (o + 2).toNat 0 else 0

/-- Bytes of a coefficient set from its taps (Table 4.5). -/
def packCoefs (vertical : Bool) (tap : Nat → Nat → Int) : List Byte :=
  let taps := if vertical then 6 else 8
  let body := (List.range 64).flatMap fun p => (List.range taps).flatMap fun k => leInt 2 (tap p k)
  let raw : List Byte := [0x43, 0x51, 0x43, 0x53, 0x01] ++ le 1 (b2n vertical) ++ [64, 0] ++ [0, 0, 0, 0] ++ [0, 0, 0, 0] ++ body
  raw.take 8 ++ le 4 (crc32cAround raw 8).toNat ++ raw.drop 12

def builtinSet (n : Nat) : List Byte :=
  packCoefs (decide (4 ≤ n)) fun p k => builtinTap (n % 4) p ((k : Int) - if n < 4 then 3 else 2)

/-- A set in force: built in, or loaded (R106). -/
def coefSet (c : Cfg) (n : Nat) : Option (List Byte) := if n < 8 then some (builtinSet n) else c.coefs.get? n

/-- A set is loaded and of the direction wanted. -/
def coefIs (c : Cfg) (vertical : Bool) (n : Nat) : Bool :=
  if n < 8 then decide (4 ≤ n) == vertical
  else match c.coefs.get? n with
    | some b => (byteAt b 5 == 1) == vertical
    | none => false

/-- Tap `k` of phase `p` of a set. -/
def coefTap (c : Cfg) (n p k : Nat) : Int :=
  if n < 4 then builtinTap n p ((k : Int) - 3)
  else if n < 8 then builtinTap (n - 4) p ((k : Int) - 2)
  else match c.coefs.get? n with
    | some b => leIntAt b (16 + (p * (if byteAt b 5 = 1 then 6 else 8) + k) * 2) 2
    | none => 0

/-- The checks of R107 on a set's bytes. -/
def coefCheck (b : List Byte) : Parse PUnit :=
  let taps := if byteAt b 5 = 1 then 6 else 8
  if (crc32cAround b 8).toNat ≠ leAt b 8 4 then .error (stCrcFail, 12)
  else match firstBad [(bytesAt b 0 4 == [0x43, 0x51, 0x43, 0x53], 4), (byteAt b 4 == 1, 8), ((below b 5 2).1, 9),
      (byteAt b 6 == 64, 10), (byteAt b 7 == 0, 11), ((bytesAt b 12 4).all (· == 0), 16),
      (decide (b.length = 16 + 64 * taps * 2), noOffset),
      ((List.range 64).all (fun p => ((List.range taps).map fun k => leIntAt b (16 + (p * taps + k) * 2) 2).sum == 16384), 20)] with
    | some off => badParam off
    | none => .ok ()

/-! ### Layouts -/

def parseRegionSet (p : List Byte) : Parse ConfigCmd :=
  layout p 20 [below p 1 2,
    (decide (leAt p 2 2 ≤ 16384) && leAt p 2 2 % 4 == 0, 2), (decide (leAt p 4 2 ≤ 8192), 4),
    (decide (16 ≤ leAt p 6 2) && decide (leAt p 6 2 ≤ 16384) && leAt p 6 2 % 4 == 0, 6), within p 8 2 4 8192, zeros p 10 2]
    (.regionSet (byteAt p 0) { enable := byteAt p 1 == 1, x := leAt p 2 2, y := leAt p 4 2, width := leAt p 6 2,
                               height := leAt p 8 2, background := rgbaAt p 12 })

def encRegion (n : Nat) (r : Region) : List Byte :=
  le 1 n ++ le 1 (b2n r.enable) ++ le 2 r.x ++ le 2 r.y ++ le 2 r.width ++ le 2 r.height ++ [0, 0] ++ encRgba r.background

def parseRegionRemove (p : List Byte) : Parse ConfigCmd := layout p 4 [zeros p 1 3] (.regionRemove (byteAt p 0))

def sourceAt (p : List Byte) : LayerSource :=
  let v := leAt p 6 2
  match byteAt p 4 with
  | 0 => .stream v
  | 1 => .converter (v % 8) (v / 256)
  | 2 => .still v
  | 3 => .clip v
  | 4 => .solid (rgbaAt p 8)
  | _ => .region v

def sourceFieldOk (p : List Byte) : Bool :=
  let v := leAt p 6 2
  match byteAt p 4 with
  | 0 => decide (v < 48)
  | 1 => v % 256 == v % 8 && decide (v / 256 ≤ 1)
  | 2 => decide (v < 4096)
  | 3 => decide (v < 4096)
  | 4 => v == 0
  | _ => decide (v < 256)

def parseLayerSet (p : List Byte) : Parse ConfigCmd :=
  let fl := byteAt p 5
  let clip := byteAt p 4 == 3
  let solid := byteAt p 4 == 4
  let cw := leAt p 20 2
  let ch := leAt p 22 2
  let pw := leAt p 28 2
  let ph := leAt p 30 2
  layout p 48 [within p 0 2 0 1023, below p 3 8, below p 4 6, (fl < 128 && fl / 16 % 4 != 3, 5), (sourceFieldOk p, 6),
    (solid || (bytesAt p 8 8).all (· == 0), 8),
    (decide (1 ≤ pw) && decide (pw ≤ 16384) && (solid || cw == 0 || decide (cw ≤ 16 * pw) && decide (pw ≤ 64 * cw)), 28),
    (decide (1 ≤ ph) && decide (ph ≤ 8192) && (solid || ch == 0 || decide (ch ≤ 16 * ph) && decide (ph ≤ 64 * ch)), 30),
    below p 32 64, below p 33 64, within p 34 2 0 0x8000,
    (if clip then decide (1 ≤ leAt p 40 4) && decide (leAt p 40 4 ≤ 262144) else leAt p 40 4 == 0, 40),
    (if clip then decide (byteAt p 44 ≤ 1) else byteAt p 44 == 0, 44),
    (if clip then decide (byteAt p 45 ≤ 1) else byteAt p 45 == 0, 45), zeros p 46 2]
    (.layerSet (leAt p 0 2)
      { region := byteAt p 2, slot := byteAt p 3, source := sourceAt p, enable := bit fl 0, lowLatency := bit fl 1,
        mirror := fl / 4 % 4, alphaMode := fl / 16 % 4, edgeSource := bit fl 6, cx := leAt p 16 2, cy := leAt p 18 2, cw := cw,
        ch := ch, px := leIntAt p 24 2, py := leIntAt p 26 2, pw := pw, ph := ph, hset := byteAt p 32, vset := byteAt p 33,
        alpha := leAt p 34 2, phaseH := leIntAt p 36 2, phaseV := leIntAt p 38 2, clipStep := leAt p 40 4,
        clipLoop := byteAt p 44 == 1, clipRestart := byteAt p 45 == 1 })

def encSource : LayerSource → Nat × Nat × List Byte
  | .stream n => (0, n, List.replicate 8 0)
  | .converter n port => (1, n + 256 * port, List.replicate 8 0)
  | .still n => (2, n, List.replicate 8 0)
  | .clip n => (3, n, List.replicate 8 0)
  | .solid c => (4, 0, encRgba c)
  | .region n => (5, n, List.replicate 8 0)

def encLayer (n : Nat) (l : Layer) : List Byte :=
  let (k, v, col) := encSource l.source
  let clip := k == 3
  le 2 n ++ le 1 l.region ++ le 1 l.slot ++ le 1 k ++
  le 1 (b2n l.enable + 2 * b2n l.lowLatency + 4 * l.mirror + 16 * l.alphaMode + 64 * b2n l.edgeSource) ++ le 2 v ++ col ++
  le 2 l.cx ++ le 2 l.cy ++ le 2 l.cw ++ le 2 l.ch ++ leInt 2 l.px ++ leInt 2 l.py ++ le 2 l.pw ++ le 2 l.ph ++
  le 1 l.hset ++ le 1 l.vset ++ le 2 l.alpha ++ leInt 2 l.phaseH ++ leInt 2 l.phaseV ++
  le 4 (if clip then l.clipStep else 0) ++ le 1 (if clip then b2n l.clipLoop else 0) ++
  le 1 (if clip then b2n l.clipRestart else 0) ++ [0, 0]

def parseLayerRemove (p : List Byte) : Parse ConfigCmd :=
  layout p 4 [within p 0 2 0 1023, zeros p 2 2] (.layerRemove (leAt p 0 2))

def parseCoefLoad (p : List Byte) : Parse ConfigCmd :=
  if p.length ≠ 1044 ∧ p.length ≠ 788 then badParam noOffset
  else match firstBad [within p 0 1 8 63, zeros p 1 3] with
    | some off => badParam off
    | none => match coefCheck (p.drop 4) with
      | .error e => .error e
      | .ok _ => .ok (.coefLoad (byteAt p 0) (p.drop 4))

def parseCanvasSet (p : List Byte) : Parse ConfigCmd :=
  layout p 28 [(decide (256 ≤ leAt p 0 2) && decide (leAt p 0 2 ≤ 16384) && leAt p 0 2 % 16 == 0, 0),
    (decide (64 ≤ leAt p 2 2) && decide (leAt p 2 2 ≤ 8192) && leAt p 2 2 % 4 == 0, 2),
    within p 4 4 24000 240000, (leAt p 8 2 == 1000 || leAt p 8 2 == 1001, 8), within p 10 2 16 4096,
    (decide (leAt p 12 2 + 8 ≤ leAt p 10 2), 12), within p 24 4 100 2000]
    (.canvasSet { w := leAt p 0 2, h := leAt p 2 2, rateNum := leAt p 4 4, rateDen := leAt p 8 2, vb := leAt p 10 2,
                  va := leAt p 12 2, phase := leAt p 14 2, background := rgbaAt p 16, scanLead := leAt p 24 4 })

def encCanvas (c : CanvasCfg) : List Byte :=
  le 2 c.w ++ le 2 c.h ++ le 4 c.rateNum ++ le 2 c.rateDen ++ le 2 c.vb ++ le 2 c.va ++ le 2 c.phase ++
  encRgba c.background ++ le 4 c.scanLead

def parseLowlatSet (p : List Byte) : Parse ConfigCmd :=
  layout p 4 [below p 0 2, below p 1 48, within p 2 2 8 64]
    (.lowlatSet { enable := byteAt p 0 == 1, lead := byteAt p 1, lag := leAt p 2 2 })

def parseHoldSet (p : List Byte) : Parse ConfigCmd :=
  layout p 8 [below p 0 2, within p 1 1 2 60, within p 2 1 2 60, zeros p 3 1, within p 4 4 100 10000]
    (.holdSet { enable := byteAt p 0 == 1, still := byteAt p 1, errorRefresh := byteAt p 2, refreshMs := leAt p 4 4 })

/-- Raster of a row of Table 5.5. -/
def monRaster (format : Nat) : Nat × Nat := if format < 2 then (1920, 1080) else (3840, 2160)

/-- MON_SET (R141, Table 14.10); with the source CANVAS the region byte says nothing (log entry 136). -/
def parseMonSet (p : List Byte) : Parse ConfigCmd :=
  let (rw, rh) := monRaster (byteAt p 4)
  layout p 24 [below p 0 4, below p 1 2, below p 2 2, below p 4 4, within p 5 1 1 10,
    below p 6 64, below p 7 64, (decide (leAt p 8 2 < rw), 8), (decide (leAt p 10 2 < rh), 10),
    (decide (1 ≤ leAt p 12 2) && decide (leAt p 8 2 + leAt p 12 2 ≤ rw), 12),
    (decide (1 ≤ leAt p 14 2) && decide (leAt p 10 2 + leAt p 14 2 ≤ rh), 14), below p 16 2, below p 17 2,
    within p 18 2 80 1000, within p 20 4 0 10000]
    (.monSet (byteAt p 0)
      { enable := byteAt p 1 == 1, region := if byteAt p 2 = 1 then some (byteAt p 3) else none, format := byteAt p 4,
        divisor := byteAt p 5, hset := byteAt p 6, vset := byteAt p 7, ox := leAt p 8 2, oy := leAt p 10 2, ow := leAt p 12 2,
        oh := leAt p 14 2, colorimetry := byteAt p 16, transfer := byteAt p 17, lref := leAt p 18 2, delayUs := leAt p 20 4 })

def encMon (n : Nat) (m : MonCfg) : List Byte :=
  [n, b2n m.enable, b2n m.region.isSome, m.region.getD 0, m.format, m.divisor, m.hset, m.vset].flatMap (le 1) ++
  le 2 m.ox ++ le 2 m.oy ++ le 2 m.ow ++ le 2 m.oh ++ le 1 m.colorimetry ++ le 1 m.transfer ++ le 2 m.lref ++ le 4 m.delayUs

def parseSlateSet (p : List Byte) : Parse ConfigCmd :=
  let pin := byteAt p 19
  layout p 28 [(decide (leAt p 0 2 < 4096) || leAt p 0 2 == 0xFFFF, 0), zeros p 6 2, within p 16 2 0 5000, below p 18 2,
    (pin / 32 % 4 == 0, 19), within p 20 2 1 600, zeros p 22 2, within p 24 4 0 60000]
    (.slateSet { still := noneHalf (leAt p 0 2), sx := leAt p 2 2, sy := leAt p 4 2, background := rgbaAt p 8,
                 blinkMs := leAt p 16 2, automatic := byteAt p 18 == 1,
                 pin := if bit pin 7 then some (pin % 16, bit pin 4) else none, hostTimeout := leAt p 20 2,
                 inputDelayMs := leAt p 24 4 })

/-! ### Sources and limits -/

/-- Raster of a layer's source as far as it is known (R95). -/
def sourceRaster (c : Cfg) (det : Nat → Option VideoFormat) (objs : Tab Obj) (l : Layer) : Option (Nat × Nat) :=
  let ofStream := fun n => (effectiveFormat det n (c.stream n)).map fun f => (f.width, f.height)
  match l.source with
  | .stream n => ofStream n
  | .converter n _ => (c.conv n).stream.bind ofStream
  | .still n => (objs.get? n).map fun o => (o.w, o.h)
  | .clip n => (objs.get? n).map fun o => (o.w, o.h)
  | .solid _ => some (l.pw, l.ph)
  | .region n => (c.regions.get? n).map fun r => (r.width, r.height)

/-- Crop width and height; 0 means the whole source from the crop's corner on (DEDUCED, log entry 32). -/
def cropOf (l : Layer) (w h : Nat) : Nat × Nat × Nat × Nat :=
  match l.source with
  | .solid _ => (0, 0, l.pw, l.ph)
  | _ =>
    let cx := min l.cx (w - 1)
    let cy := min l.cy (h - 1)
    (cx, cy, if l.cw = 0 then w - cx else min l.cw (w - cx), if l.ch = 0 then h - cy else min l.ch (h - cy))

/-- The crop fits its source and the scale factors lie in range (R93, R95). -/
def cropFits (l : Layer) (w h : Nat) : Bool :=
  match l.source with
  | .solid _ => true
  | _ =>
    let (_, _, cw, ch) := cropOf l w h
    decide (l.cx < w) && decide (l.cy < h) && (l.cw == 0 || decide (l.cx + l.cw ≤ w)) && (l.ch == 0 || decide (l.cy + l.ch ≤ h)) &&
    decide (cw ≤ 16 * l.pw) && decide (l.pw ≤ 64 * cw) && decide (ch ≤ 16 * l.ph) && decide (l.ph ≤ 64 * ch)

/-- The layer's output rectangle clipped to its region, in canvas pixels: x0, y0, x1, y1 (R94). -/
def clippedRect (r : Region) (l : Layer) : Int × Int × Int × Int :=
  let x : Int := r.x + l.px
  let y : Int := r.y + l.py
  (max x r.x, max y r.y, min (x + l.pw) (r.x + r.width), min (y + l.ph) (r.y + r.height))

/-- A layer that composition skips (R94); one in a disabled region is not composed. -/
def layerSkipped (c : Cfg) (l : Layer) : Bool :=
  match c.regions.get? l.region with
  | none => true
  | some r =>
    let (x0, y0, x1, y1) := clippedRect r l
    !r.enable || !l.enable || l.alpha == 0 || decide (x1 ≤ x0) || decide (y1 ≤ y0)

/-- The composition load W in pixels (R112). -/
def compLoad (c : Cfg) : Nat :=
  (c.layers.map fun e => if layerSkipped c e.2 then 0 else match c.regions.get? e.2.region with
    | some r => let (x0, y0, x1, y1) := clippedRect r e.2; ((x1 - x0) * (y1 - y0)).toNat
    | none => 0).sum

/-- The load exceeds 0.8 of the time left: W counts units of 25 ps at 40 Gpixel/s (R112). -/
def overloaded (c : Cfg) : Bool :=
  let v := c.canvas
  decide ((10 * compLoad c * v.rateNum : Int) > 8 * ((sec * v.rateDen : Int) - ((v.scanLead + 50) * usec * v.rateNum : Int)))

/-- A low-latency layer's load exceeds the time its bands have before scan-out (R112; log entry 100). -/
def lowlatOverloaded (c : Cfg) : Bool :=
  let v := c.canvas
  c.lowlat.enable && c.layers.any fun e => e.2.lowLatency && !layerSkipped c e.2 && match c.regions.get? e.2.region with
    | some r =>
      let (x0, y0, x1, y1) := clippedRect r e.2
      Config.lowlatLate [x0, y0, x1, y1] c.lowlat.lag [v.h, v.vb, v.rateNum, v.rateDen, v.scanLead]
    | none => false

def regionsOverlap (a b : Region) : Bool :=
  decide (a.x < b.x + b.width) && decide (b.x < a.x + a.width) && decide (a.y < b.y + b.height) && decide (b.y < a.y + a.height)

def regionInside (v : CanvasCfg) (r : Region) : Bool := decide (r.x + r.width ≤ v.w) && decide (r.y + r.height ≤ v.h)

/-- Every enabled region lies inside the canvas and overlaps none after it in the list (R91). -/
def regionsOk (v : CanvasCfg) : List Region → Bool
  | [] => true
  | r :: rest => regionInside v r && !rest.any (regionsOverlap r) && regionsOk v rest

/-- A stream or stream pair that a layer takes. -/
def Layer.takesStream (c : Cfg) (l : Layer) (n : Nat) : Bool :=
  match l.source with
  | .stream k => k == n
  | .converter k _ => (c.conv k).stream == some n
  | _ => false

/-- The low-latency conditions (R30). -/
def lowlatOk (det : Nat → Option VideoFormat) (c : Cfg) : Bool :=
  if !c.lowlat.enable then true
  else
    let lead := c.stream c.lowlat.lead
    let rate := fun (f : VideoFormat) => (f.rateNum * c.canvas.rateDen == c.canvas.rateNum * f.rateDen : Bool)
    lead.bound && !lead.par.compressed && (((effectiveFormat det c.lowlat.lead lead).map rate).getD true) &&
    c.layers.all fun e => !e.2.lowLatency || match e.2.source with
      | .stream n =>
        let s := c.stream n
        s.bound && s.par.fenceGroup == 0 && (((effectiveFormat det n s).map rate).getD true) &&
        (match sourceRaster c det [] e.2 with
         | some (w, h) => decide ((cropOf e.2 w h).2.2.2 ≤ e.2.ph)
         | none => e.2.ch == 0 || decide (e.2.ch ≤ e.2.ph))
      | _ => false

/-- A layer's object is of the kind and colour it needs (R96, R99). -/
def objectOk (objs : Tab Obj) (l : Layer) : Bool :=
  let ok := fun (clip : Bool) n => match objs.get? n with
    | some o => o.clip == clip && (l.alphaMode == 2 || (l.alphaMode == 1) == o.straight)
    | none => false
  match l.source with
  | .still n => ok false n
  | .clip n => ok true n
  | _ => true

/-- Monitor rates and rectangles against canvas and source (R141). -/
def monOk (c : Cfg) (m : MonCfg) : Option Nat :=
  let rates := if m.format = 0 ∨ m.format = 2 then slowRates else if m.format = 1 then topRates else fastRates
  let (sw, sh) := match m.region with
    | none => (c.canvas.w, c.canvas.h)
    | some r => ((c.regions.getD r {}).width, (c.regions.getD r {}).height)
  if !rates.any (fun r => r.1 * c.canvas.rateDen * m.divisor == c.canvas.rateNum * r.2) then some stConflict
  else if m.region.any (fun r => !c.regions.has r) then some stConflict
  else if sw > 16 * m.ow ∨ sh > 16 * m.oh then some stBadParam
  else if !coefIs c false m.hset || !coefIs c true m.vset then some stConflict
  else none

/-- The slate names an allocated still that lies inside the canvas where a trigger needs one (R145, R426). -/
def slateOk (objs : Tab Obj) (hostStrap : Bool) (c : Cfg) : Bool :=
  let s := c.slate
  (match s.still with
   | none => !(s.automatic || s.pin.isSome || c.slateShow)
   | some n => match objs.get? n with
     | some o => !o.clip && decide (s.sx + o.w ≤ c.canvas.w) && decide (s.sy + o.h ≤ c.canvas.h)
     | none => false) &&
  (hostStrap || s.pin.all fun g => g.1 != 15)

/-- Limits of a commit's result on regions, layers, canvas, monitors and slate; `old` is the state before it. -/
def layerLimits (det : Nat → Option VideoFormat) (objs : Tab Obj) (hostStrap : Bool) (old c : Cfg) : List Limit :=
  let en := (c.regions.filter fun e => e.2.enable).map (·.2)
  let slots := c.layers.map fun e => 8 * e.2.region + e.2.slot
  let ports := c.layers.filterMap fun e => match e.2.source with | .converter n k => some (2 * n + k) | _ => none
  let cloned := c.layers.filterMap fun e => match e.2.source with
    | .region n => if e.2.enable && ((c.regions.get? e.2.region).map (·.enable)).getD false then some n else none
    | _ => none
  let sourced := c.layers.any fun e => match e.2.source with
    | .stream n => !(c.stream n).bound
    | .converter n _ => (c.conv n).stream.isNone
    | .region n => !c.regions.has n && decide (old.layers.get? e.1 ≠ some e.2)
    | _ => false
  let misfit := c.layers.any fun e => match e.2.source with
    | .solid _ => false
    | _ => match sourceRaster c det objs e.2 with
      | some (w, h) => !cropFits e.2 w h && decide (old.layers.get? e.1 ≠ some e.2)
      | none => false
  let mon := c.mon.filterMap fun e => monOk c e.2
  [(decide (c.canvas.w * c.canvas.h * c.canvas.rateNum > 16106127360 * c.canvas.rateDen), stConflict, [.canvas]),
   (decide (1024 < c.layers.length), stNoResource, [.layers]),
   (!regionsOk c.canvas en, stConflict, [.regions, .canvas]),
   (!noRepeats slots, stConflict, [.layers]),
   (c.layers.any (fun e => !c.regions.has e.2.region), stConflict, [.layers, .regions]),
   (!noRepeats ports, stNoResource, [.layers]),
   (sourced, stConflict, [.layers, .streams, .converters, .regions]),
   (cloned.any (fun n => old.regions.has n && !c.regions.has n || ((old.regions.get? n).map (·.enable)).getD false &&
      !(((c.regions.get? n).map (·.enable)).getD false)), stConflict, [.regions, .layers]),
   (c.layers.any (fun e => !objectOk objs e.2), stConflict, [.layers]),
   (misfit, stBadParam, [.layers]),
   (c.layers.any (fun e => !coefIs c false e.2.hset || !coefIs c true e.2.vset), stConflict, [.layers, .coefs]),
   (!lowlatOk det c, stConflict, [.lowlat, .layers, .streams, .canvas]),
   (overloaded c, stConflict, [.layers, .regions, .canvas]),
   (lowlatOverloaded c, stConflict, [.lowlat, .layers, .regions, .canvas]),
   (!slateOk objs hostStrap c, stConflict, [.slate, .canvas]),
   (!mon.isEmpty, mon.headD stConflict, [.monitors, .canvas, .regions, .coefs])]

end Sys2Proof.Machine
end

