-- ==== Sys2Proof/Machine/Compose.lean ====
section
/-! DEFINITION. Composition (R94 to R111, R447, R448): what a layer shows, the scaler, blending, line bands with their
checksums and still counts (R132 to R135), low-latency bands (R30, R31), the slate's picture (R147) and monitor
outputs (R140 to R144). -/

namespace Sys2Proof.Machine

open Sys2Proof

/-! ### HBM addresses of Table 16.3 -/

/-- Address of pixel (x, y) of a range with entry size `size` (R386). -/
def pixelAddr (base size x y : Nat) : Nat := base + (16384 * y + x) * size

def canvasBase (buf : Nat) : Nat := buf % 2 * 0x40000000
def calBase (bank : Nat) : Nat := 0x80000000 + bank % 2 * 0x80000000
def ledgerBase : Nat := 0x180000000

/-- Four FP16 codes at an address. -/
def hbmPixel (hbm : Memory) (a : Nat) : Rgba := rgbaAt (Memory.readBytes Memory.hbmDefault hbm a 8) 0

/-- A pixel of canvas buffer `buf`. -/
def canvasPixel (hbm : Memory) (buf x y : Nat) : Rgba := hbmPixel hbm (pixelAddr (canvasBase buf) 8 x y)

/-! ### What a layer shows -/

/-- The picture behind a layer at one frame. -/
inductive View where
  | absent
  | colour (c : Rgba)
  | slot (s : Slot)
  | synth (conv : Nat) (a b : Slot)
  | object (o : Obj) (frame : Nat)
  | mapped (o : Obj) (wr hr : Nat)
  | clone (x y w h : Nat)
  deriving DecidableEq, Repr

/-- Clip frame shown at frame `n` (R101). -/
def clipFrame (l : Layer) (count n : Nat) : Nat :=
  let k := (n - l.n0) * l.clipStep / 65536
  if k < count then k else if l.clipLoop then k % max 1 count else count - 1

/-- Loss action or fallback in force: 0 HOLD, 1 BLACK, 2 TRANSPARENT, 3 STILL (R66). -/
def lossKind (p : Part) (n : Nat) : Nat :=
  let q := (p.cfg.stream n).par
  if q.lossAction = 0 then (if (p.stream n).fallbackOn || (p.stream n).choice.isNone then q.fallback + 1 else 0)
  else q.lossAction

/-- Four FP16 codes from 64 bits. -/
def rgbaOfWord (w : DWord) : Rgba :=
  ⟨w.setWidth 16, (w >>> 16).setWidth 16, (w >>> 32).setWidth 16, (w >>> 48).setWidth 16⟩

/-- What a stream shows by its loss action, HOLD apart (R66, R448).  What shows where the still of a fallback has been released
since is a free value (log entry 63). -/
def lossView (p : Part) (n : Nat) : View :=
  let q := (p.cfg.stream n).par
  match lossKind p n with
  | 2 => .absent
  | 3 => match q.lossStill.bind fun k => p.comp.objs.get? k with
    | some o =>
      let f := if (p.stream n).lastFmt = VideoFormat.auto then (p.format n).getD VideoFormat.auto else (p.stream n).lastFmt
      if f.width = 0 ∨ f.height = 0 then .mapped o o.w o.h else .mapped o f.width f.height
    | none => .colour (rgbaOfWord (Config.noStill n))
  | _ => .colour Rgba.black

/-- The frame of a stream whose lines arrive now (R30). -/
def arrivingSlot (p : Part) (n : Nat) : Option Slot :=
  let st := p.stream n
  match p.format n with
  | some f => match st.rtp.getLast? with
    | some r => some (filledSlot p n 0 (assemble f r 0))
    | none => st.arriving
  | none => none

/-- The slot a stream shows now: its choice; in a low-latency layer, until the lead falls behind, the frame stored since this
frame event, else the one that arrives, else the newest stored (R30, R31). -/
def shownSlot (p : Part) (n : Nat) (newest : Bool) : Option Slot :=
  let st := p.stream n
  let chosen := st.choice.bind fun k => st.slots.get? k
  if newest then
    match (newestSlot (st.slots.filter fun e => e.2.complete && !e.2.incomplete)).map (·.2), arrivingSlot p n with
    | some e, some a => some (if p.fr.lastFe < e.storedAt then e else a)
    | some e, none => some e
    | none, some a => some a
    | none, none => chosen
  else chosen

/-- What a stream shows (R57, R66, Table 4.3); of a converted stream that is A, the synchroniser's choice by R74, though R71
would have it D apart from the converter's output (log entry 155). -/
def streamView (p : Part) (n : Nat) (newest : Bool) : View :=
  let lost := (p.stream n).lost
  if lost && lossKind p n != 0 then lossView p n
  else match shownSlot p n (newest && !lost) with
    | some s => .slot s
    | none => lossView p n

/-- What a converter shows (R76, R86, R87). -/
def convView (p : Part) (conv : Nat) : View :=
  match (p.cfg.conv conv).stream with
  | none => .absent
  | some n =>
    let r := p.conv conv
    let held := fun (q : Option Word) => q.bind fun w => ((p.stream n).slots.find? fun e => e.2.seq == w).map (·.2)
    if (p.stream n).lost || convDown p conv then streamView p n false
    else match held r.a with
      | some a => .synth conv a ((held r.b).getD a)
      | none => lossView p n

/-- What a layer takes at frame `n` (Table 4.3). -/
def layerView (p : Part) (n : Nat) (l : Layer) : View :=
  match l.source with
  | .stream k => streamView p k (p.comp.lowlat && l.lowLatency && !p.comp.behind)
  | .converter k _ => convView p k
  | .still k => match p.comp.objs.get? k with
    | some o => .object o 0
    | none => .absent
  | .clip k => match p.comp.objs.get? k with
    | some o => .object o (clipFrame l o.frames n)
    | none => .absent
  | .solid c => .colour c
  | .region k => match p.cfg.regions.get? k with
    | some r => .clone r.x r.y r.width r.height
    | none => .absent

def View.size : View → Nat × Nat
  | .slot s => (s.w, s.h)
  | .synth _ a _ => (a.w, a.h)
  | .object o _ => (o.w, o.h)
  | .mapped o _ _ => (o.w, o.h)
  | .clone _ _ w h => (w, h)
  | _ => (1, 1)

def slotAt (s : Slot) (x y : Int) : Rgba := slotPixel s.data s.compressed s.w x.toNat y.toNat

/-- A pixel of the previous canvas frame; outside it, and in the first frame, the background in force then (R97). -/
def clonePixel (p : Part) (hbm : Memory) (n x y : Nat) : Rgba :=
  match p.comp.prevCanvas with
  | none => p.cfg.canvas.background
  | some (w, h, bg) => if x < w ∧ y < h then canvasPixel hbm (n + 1) x y else bg

/-- A source pixel of a view. -/
def viewPixel (p : Part) (hbm : Memory) (n : Nat) (v : View) (x y : Nat) : Rgba :=
  match v with
  | .absent => Rgba.clear
  | .colour c => c
  | .slot s => slotAt s x y
  | .synth k a b => synthPixel (p.cfg.conv k) (p.conv k) a.w a.h (slotAt a) (slotAt b) x y
  | .object o f => objPixel o f x y
  | .mapped o _ _ => objPixel o 0 x y
  | .clone rx ry _ _ => clonePixel p hbm n (rx + x) (ry + y)

/-! ### The scaler -/

/-- Source geometry of one pass: start position and step in units of 2^-24, and the clamp of its taps. -/
structure Pass where
  start : Int
  step : Nat
  lo : Int
  hi : Int
  deriving DecidableEq, Repr

/-- A pass over a crop (R103). -/
def cropPass (edgeSource : Bool) (c cw pw src : Nat) (off : Int) : Pass :=
  let d := (cw * 2 ^ 24 + pw / 2) / pw
  { start := (c * 2 ^ 24 + d / 2 : Nat) - 2 ^ 23 + off * 256, step := d
    lo := if edgeSource then 0 else c, hi := if edgeSource then (src : Int) - 1 else (c + cw : Nat) - 1 }

/-- A pass that maps the crop of a raster of `wr` onto a still of `ws` (R448). -/
def mappedPass (edgeSource : Bool) (c cw pw ws wr : Nat) (off : Int) : Pass :=
  let d := (cw * ws * 2 ^ 24 + pw * wr / 2) / (pw * wr)
  { start := ((c * ws * 2 ^ 24 + wr / 2) / wr + d / 2 : Nat) - 2 ^ 23 + off * 256, step := d
    lo := if edgeSource then 0 else (c * ws / wr : Nat)
    hi := if edgeSource then (ws : Int) - 1 else (((c + cw) * ws + wr - 1) / wr : Nat) - 1 }

/-- The horizontal and vertical passes of a layer over its view. -/
def layerPasses (l : Layer) (v : View) : Pass × Pass :=
  match v with
  | .mapped o wr hr =>
    let (cx, cy, cw, ch) := cropOf l wr hr
    (mappedPass l.edgeSource cx cw l.pw o.w wr l.phaseH, mappedPass l.edgeSource cy ch l.ph o.h hr l.phaseV)
  | .colour _ => (cropPass false 0 l.pw l.pw l.pw 0, cropPass false 0 l.ph l.ph l.ph 0)
  | _ =>
    let (w, h) := v.size
    let (cx, cy, cw, ch) := cropOf l w h
    (cropPass l.edgeSource cx cw l.pw w l.phaseH, cropPass l.edgeSource cy ch l.ph h l.phaseV)

/-- Integer position and phase of output pixel `j` (R103). -/
def Pass.at (s : Pass) (j : Nat) : Int × Nat :=
  let pos := s.start + (j * s.step : Nat)
  let ph := ((pos % 2 ^ 24).toNat + 2 ^ 17) / 2 ^ 18
  if ph = 64 then (pos / 2 ^ 24 + 1, 0) else (pos / 2 ^ 24, ph)

/-- A weighted sum of `taps` source values in binary32, rounded to FP16 (R103). -/
def tapSum (coef : Nat → Int) (taps : Nat) (src : Nat → Half) : Half :=
  f16ofF32 ((List.range taps).foldl
    (fun acc k => f32add acc (f32mul (f32ofScaled (coef k) (-14)) (f32ofF16 (src k)))) 0)

/-- One filtered pixel: `first` is the offset of tap 0. -/
def filterPixel (coef : Nat → Int) (taps : Nat) (first : Int) (s : Pass) (i : Int) (src : Int → Rgba) : Rgba :=
  let px := fun k : Nat => src (clampInt (i + k - first) s.lo s.hi)
  ⟨tapSum coef taps fun k => (px k).r, tapSum coef taps fun k => (px k).g, tapSum coef taps fun k => (px k).b,
   tapSum coef taps fun k => (px k).a⟩

/-- Premultiplied form of a source pixel (R104): 0 PREMULT, 1 STRAIGHT, 2 OPAQUE. -/
def premultiply (mode : Nat) (c : Rgba) : Rgba :=
  if mode = 1 then
    let m := fun h => f16ofF32 (f32mul (f32ofF16 h) (f32ofF16 c.a))
    ⟨m c.r, m c.g, m c.b, c.a⟩
  else if mode = 2 then { c with a := 0x3C00 } else c

/-- The clamp after the vertical pass (R104). -/
def clampPixel (c : Rgba) : Rgba :=
  let k := fun (hi : Word) h => f16ofF32 (f32clamp (f32ofF16 h) 0 hi)
  ⟨k (f32ofInt 65504) c.r, k (f32ofInt 65504) c.g, k (f32ofInt 65504) c.b, k f32one c.a⟩

/-- Output pixel (j, i) of the scaler (R103, R104). -/
def scalePixel (c : Cfg) (hset vset : Nat) (hp vp : Pass) (src : Nat → Nat → Rgba) (j i : Nat) : Rgba :=
  let (x, px) := hp.at j
  let (y, py) := vp.at i
  let line := fun yy : Int => filterPixel (coefTap c hset px) 8 3 hp x fun xx => src xx.toNat yy.toNat
  clampPixel (filterPixel (coefTap c vset py) 6 2 vp y line)

/-- The alpha mode that holds for a view (R99, R448). -/
def viewMode (l : Layer) : View → Nat
  | .mapped o _ _ => b2n o.straight
  | _ => l.alphaMode

/-- The layer's pixel at an offset within its output rectangle, mirrored (R95). -/
def layerPixel (p : Part) (hbm : Memory) (n : Nat) (l : Layer) (v : View) (j i : Nat) : Rgba :=
  let (hp, vp) := layerPasses l v
  let jj := if bit l.mirror 0 then l.pw - 1 - j else j
  let ii := if bit l.mirror 1 then l.ph - 1 - i else i
  scalePixel p.cfg l.hset l.vset hp vp (fun x y => premultiply (viewMode l v) (viewPixel p hbm n v x y)) jj ii

/-! ### Blending -/

/-- Four binary32 channels of the accumulator. -/
structure Acc where
  r : Word
  g : Word
  b : Word
  a : Word
  deriving DecidableEq, Repr

def Acc.ofPixel (c : Rgba) : Acc := ⟨f32ofF16 c.r, f32ofF16 c.g, f32ofF16 c.b, f32ofF16 c.a⟩
def Acc.toPixel (x : Acc) : Rgba := ⟨f16ofF32 x.r, f16ofF32 x.g, f16ofF32 x.b, f16ofF32 x.a⟩

/-- R109, products and sums in the order written (R110). -/
def blend (alpha : Nat) (x : Acc) (s : Rgba) : Acc :=
  let al := f32ofScaled alpha (-15)
  let k := f32sub f32one (f32mul al (f32ofF16 s.a))
  let mix := fun (h : Half) (d : Word) => f32add (f32mul al (f32ofF16 h)) (f32mul k d)
  ⟨mix s.r x.r, mix s.g x.g, mix s.b x.b, mix s.a x.a⟩

/-- The layers of a region, bottom first. -/
def regionLayers (c : Cfg) (k : Nat) : List Layer :=
  (List.range 8).flatMap fun slot => (c.layers.filter fun e => e.2.region == k && e.2.slot == slot).map (·.2)

/-- The enabled region that holds a canvas pixel. -/
def regionAt (c : Cfg) (x y : Nat) : Option (Nat × Region) :=
  c.regions.find? fun e => e.2.enable && decide (e.2.x ≤ x ∧ x < e.2.x + e.2.width ∧ e.2.y ≤ y ∧ y < e.2.y + e.2.height)

/-- One canvas pixel from regions and layers (R92, R94, R109 to R111). -/
def composedPixel (p : Part) (hbm : Memory) (n x y : Nat) : Rgba :=
  match regionAt p.cfg x y with
  | none => p.cfg.canvas.background
  | some (k, r) =>
    ((regionLayers p.cfg k).foldl (fun acc l =>
      let ox : Int := (x : Int) - (r.x + l.px)
      let oy : Int := (y : Int) - (r.y + l.py)
      let v := layerView p n l
      if layerSkipped p.cfg l || decide (ox < 0) || decide (oy < 0) || decide ((l.pw : Int) ≤ ox) || decide ((l.ph : Int) ≤ oy) ||
        v == .absent then acc
      else blend l.alpha acc (layerPixel p hbm n l v ox.toNat oy.toNat)) (Acc.ofPixel r.background)).toPixel

/-- Frames of a time given in ms: max(1, round(ms × rate / 1000)). -/
def framesOf (c : CanvasCfg) (ms : Nat) : Nat := max 1 (roundDiv (ms * c.rateNum : Nat) (1000 * c.rateDen)).toNat

/-- The slate's still is lit in frame `n` (R147). -/
def slateLit (p : Part) (n : Nat) : Bool :=
  let s := p.cfg.slate
  s.blinkMs == 0 || (n - p.comp.slate.shownFrom) / framesOf p.cfg.canvas s.blinkMs % 2 == 0

/-- One canvas pixel while the slate is shown (R147). -/
def slatePixel (p : Part) (n x y : Nat) : Rgba :=
  let s := p.cfg.slate
  match s.still.bind fun k => p.comp.objs.get? k with
  | some o =>
    if slateLit p n && decide (s.sx ≤ x ∧ x < s.sx + o.w ∧ s.sy ≤ y ∧ y < s.sy + o.h) then
      (blend 0x8000 (Acc.ofPixel s.background)
        (premultiply (b2n o.straight) (objPixel o 0 (x - s.sx) (y - s.sy)))).toPixel
    else s.background
  | none => s.background

/-- One pixel of canvas frame `n`. -/
def framePixel (p : Part) (hbm : Memory) (n x y : Nat) : Rgba :=
  if p.comp.slate.shown then slatePixel p n x y else composedPixel p hbm n x y

/-! ### Line bands -/

/-- Line bands of the canvas: 16 lines each, the last one shorter where H is no multiple of 16 (R132). -/
def bandCount (c : CanvasCfg) : Nat := ceilDiv c.h 16
def bandLines (c : CanvasCfg) (b : Nat) : Nat := min 16 (c.h - 16 * b)
def plotCount (c : CanvasCfg) : Nat := ceilDiv c.w 512

/-- The composed pixels of a band, line by line. -/
def bandPixels (p : Part) (hbm : Memory) (n b : Nat) : List (List Rgba) :=
  (List.range (bandLines p.cfg.canvas b)).map fun i =>
    (List.range p.cfg.canvas.w).map fun x => framePixel p hbm n x (16 * b + i)

/-- The checksum of each plot of a band (R132). -/
def plotSums (c : CanvasCfg) (lines : List (List Rgba)) : List DWord :=
  (List.range (plotCount c)).map fun k => crc64 (lines.flatMap fun l => ((l.drop (512 * k)).take 512).flatMap encRgba)

/-- The band checksum (R133). -/
def bandSum (plots : List DWord) : DWord := crc64 (plots.flatMap fun q => le 8 q.toNat)

/-- Writes the lines of band `b` into canvas buffer `buf`. -/
def writeBand (buf b : Nat) : Nat → List (List Rgba) → Memory → Memory
  | _, [], m => m
  | i, l :: rest, m => writeBand buf b (i + 1) rest
      (Memory.writeBytes Memory.hbmDefault m (pixelAddr (canvasBase buf) 8 0 (16 * b + i)) (l.flatMap encRgba))

/-- A layer in service whose clipped rectangle meets band `b`. -/
def meetsBand (c : Cfg) (b : Nat) (l : Layer) : Bool :=
  !layerSkipped c l && match c.regions.get? l.region with
    | some r =>
      let (_, y0, _, y1) := clippedRect r l
      decide (y0 < 16 * b + bandLines c.canvas b) && decide ((16 * b : Int) < y1)
    | none => false

def bandLayers (c : Cfg) (b : Nat) : List Layer := (c.layers.map (·.2)).filter (meetsBand c b)

/-- A converter-sourced layer meets the band while interpolation is shed (R418). -/
def shedBand (p : Part) (b : Nat) : Bool :=
  (p.pwr.frcShed || decide (2 ≤ p.pwr.shed)) && (bandLayers p.cfg b).any fun l => match l.source with | .converter _ _ => true | _ => false

/-- Source lines that a layer's pass over band `b` needs: first and last. -/
def passLines (c : Cfg) (b : Nat) (l : Layer) (v : View) : Nat × Nat :=
  match c.regions.get? l.region with
  | none => (0, 0)
  | some r =>
    let (_, vp) := layerPasses l v
    let (_, y0, _, y1) := clippedRect r l
    let top := (max y0 (16 * b : Nat) - (r.y + l.py)).toNat
    let bot := (min y1 (16 * b + bandLines c.canvas b : Nat) - (r.y + l.py)).toNat - 1
    let (t, u) := if bit l.mirror 1 then (l.ph - 1 - bot, l.ph - 1 - top) else (top, bot)
    ((clampInt ((vp.at t).1 - 2) vp.lo vp.hi).toNat, (clampInt ((vp.at u).1 + 3) vp.lo vp.hi).toNat)

/-- Source columns that a layer's pass over its view fetches: first and last. -/
def passColumns (l : Layer) (v : View) : Nat × Nat :=
  let (hp, _) := layerPasses l v
  ((clampInt ((hp.at 0).1 - 3) hp.lo hp.hi).toNat, (clampInt ((hp.at (l.pw - 1)).1 + 4) hp.lo hp.hi).toNat)

/-- Blocks of a compressed object that cannot be decoded, over the lines and columns read (R114). -/
def badBlocks (o : Obj) (frame : Nat) (cols lines : Nat × Nat) : Nat :=
  if !o.compressed then 0
  else
    let d := o.data.getD frame (List.replicate (objFrameBytes o) 0)
    let blocks := fun (r : Nat × Nat) => (List.range (r.2 / 8 + 1 - r.1 / 8)).map (r.1 / 8 + ·)
    ((List.range (lines.2 / 4 + 1 - lines.1 / 4)).flatMap fun i => (blocks cols).filter fun j =>
      !blockValid (bytesAt d ((lines.1 / 4 + i) * objPitch true o.w + j * 112) 80)).length

/-- The still that a layer's source shows by a loss action or fallback. -/
def lossStillOf (p : Part) : LayerSource → Option Nat
  | .stream k => (p.cfg.stream k).par.lossStill
  | .converter k _ => (p.cfg.conv k).stream.bind fun n => (p.cfg.stream n).par.lossStill
  | _ => none

/-- What one layer pass counts: bad blocks of objects (R114) and the signals of Table 15.5; a lane uses its two scalers in
turn (R102). -/
def passCounts (n b : Nat) (p : Part) (l : Layer) : Part :=
  let v := layerView p n l
  let (lo, hi) := passLines p.cfg b l v
  let cols := passColumns l v
  let lane := b % 16
  let second := p.comp.turn.contains lane
  let scaler := 2 * lane + b2n second
  let p1 := match l.source, v with
    | .still k, .object o f => countBy blkScale k 0 (badBlocks o f cols (lo, hi)) p
    | .clip k, .object o f => countBy blkScale k 0 (badBlocks o f cols (lo, hi)) p
    | src, .mapped o _ _ => countBy blkScale ((lossStillOf p src).getD 0) 0 (badBlocks o 0 cols (lo, hi)) p
    | _, _ => p
  let p2 := match l.source with
    | .converter k _ => perfSignal 1 0x12 k (hi + 1 - lo) p1
    | _ => p1
  let p3 := perfSignal 3 0x11 lane 1 (perfSignal 2 0x11 scaler (hi + 1 - lo) (perfSignal 2 0x10 scaler 1 p2))
  p3.updComp fun c => { c with turn := if second then c.turn.filter (· != lane) else lane :: c.turn }

/-- Bad blocks of the slate's still over the lines that band `b` shows of it (R114, R147). -/
def slateCounts (n b : Nat) (p : Part) : Part :=
  let s := p.cfg.slate
  match s.still with
  | none => p
  | some k => match p.comp.objs.get? k with
    | none => p
    | some o =>
      let lo := max s.sy (16 * b)
      let hi := min (s.sy + o.h) (16 * b + bandLines p.cfg.canvas b)
      if lo < hi ∧ slateLit p n then countBy blkScale k 0 (badBlocks o 0 (0, o.w - 1) (lo - s.sy, hi - 1 - s.sy)) p else p

/-- Still counts of a band at this frame (R135). -/
def stillCounts (p : Part) (b : Nat) (plots : List DWord) (ok : Bool) : List Nat :=
  let prev := p.comp.prevPlots.getD b []
  let old := p.comp.stills.getD b []
  if !ok || p.comp.prevNoSum.contains b then plots.map fun _ => 0
  else (List.range plots.length).map fun i =>
    if i < prev.length ∧ plots.getD i 0 = prev.getD i 0 then old.getD i 0 + 1 else 1

/-- The lead stream's lines fall behind in this band (R31). -/
def fallBehind (p : Part) : Part :=
  if p.comp.lowlat && !p.comp.behind then
    raise evLowlatBehind 0 0 (count blkCanvas 0 2 (p.updComp fun c => { c with behind := true }))
  else p

/-- A composed band: its checksums, still counts and what it counts (R24, R132 to R135, R291). -/
def bandDone (n b : Nat) (lines : List (List Rgba)) (p : Part) : Part :=
  let plots := plotSums p.cfg.canvas lines
  let ok := !p.comp.noSum.contains b && !shedBand p b
  let sum := bandSum plots
  let p1 := p.updComp fun c => { c with
    done := b :: c.done
    plots := c.plots.set b plots
    noSum := if ok then c.noSum else if c.noSum.contains b then c.noSum else b :: c.noSum
    stills := c.stills.set b (stillCounts p b plots ok)
    sums := if ok then c.sums.set b sum else c.sums }
  let p2 := if p1.comp.done.length = bandCount p.cfg.canvas then
      p1.updComp fun c => { c with fullCfn := n, fullSums := c.sums, fullNoSum := c.noSum }
    else p1
  let p3 := if p.comp.slate.shown then slateCounts n b p2 else (bandLayers p.cfg b).foldl (passCounts n b) p2
  toPartner n (.bandsum b (if ok then some sum else none)) (perfSignal 3 0x10 (b % 16) 1 p3)

/-- Input lines of the present frame are stored or arrive for every low-latency layer that meets the band (R30). -/
def linesThere (p : Part) (b : Nat) : Bool :=
  (bandLayers p.cfg b).all fun l => !l.lowLatency || match l.source with
    | .stream k => (p.stream k).lost || (arrivingSlot p k).isSome ||
        (p.stream k).slots.any fun e => e.2.complete && decide (p.fr.lastFe < e.2.storedAt)
    | _ => true

/-- A band may be composed now: a frame runs, the band is not done yet, and in low-latency mode its input lines are there or
the lead has fallen behind (R30, R31; log entry 33). -/
def bandOpen (b : Nat) (behind : Bool) (p : Part) : Bool :=
  p.alive && p.fr.started && !p.fr.first && p.tb.rootLock && decide (b < bandCount p.cfg.canvas) && !p.comp.done.contains b &&
    (!p.comp.lowlat || behind || p.comp.behind || linesThere p b)

/-- A compositor lane completes band `b` of the present frame into buffer N mod 2 (R21 step 7, R24, R26). -/
def bandComposed (b : Nat) (behind : Bool) (s : State) : State :=
  let p := if behind then fallBehind s.m else s.m
  let n := p.fr.cfn
  let lines := bandPixels p s.hbm n b
  { s with m := bandDone n b lines p, hbm := writeBand n b 0 lines s.hbm }

/-! ### Low-latency mode -/

/-- The shift that lets a frame event follow the lead stream's last active line by the low-latency lag: from the newest
frame the lead has stored, else from the alignment point (R30, R127; log entry 33). -/
def lowlatShift (p : Part) : Int :=
  let v := p.cfg.canvas
  let lag : Int := lagUnits p.cfg
  match newestSlot ((p.stream p.cfg.lowlat.lead).slots.filter fun e => e.2.complete) with
  | some e => reduceStep v (e.2.storedAt + lag - p.fr.lastFe)
  | none => reduceStep v (lag - phaseUnits v - p.comp.lowlatBy)

/-- Enters low-latency mode: the canvas phase moves (R30). -/
def enterLowlat (p : Part) : Part :=
  let e := lowlatShift p
  reportStep e (p.updComp fun c => { c with lowlat := true, lowlatBy := e, behind := false, behindRun := 0 })

/-- Moves the phase while the mode stands (R30). -/
def moveLowlat (p : Part) : Part :=
  let e := lowlatShift p
  reportStep e (p.updComp fun c => { c with lowlatBy := c.lowlatBy + e })

/-- Leaves low-latency mode: the phase returns to its normal setting (R31). -/
def leaveLowlat (p : Part) : Part :=
  reportStep (-p.comp.lowlatBy)
    (p.updComp fun c => { c with lowlat := false, lowlatBy := 0, behind := false, behindRun := 0 })

/-- After two consecutive fall-behind frames the part leaves the mode (R31). -/
def execLowlatExit (t : Nat) (s : State) : Host.Outcome State Fault Refusal :=
  onPart (timed t (guarded
    (fun p => p.comp.lowlat && decide (2 ≤ p.comp.behindRun + b2n p.comp.behind))
    (fun p => raise evLowlatExit 0 0 (leaveLowlat p)))) s

/-! ### Monitor outputs -/

/-- ST 2084 inverse of R143. -/
def encodePq (y : Word) : Word :=
  let m1 := f32const 1593017578125 10000000000000
  let m2 := f32const 7884375 100000
  let c1 := f32const 8359375 10000000
  let c2 := f32const 188515625 10000000
  let c3 := f32const 186875 10000
  let x := f32pow y m1
  f32pow (f32div (f32add c1 (f32mul c2 x)) (f32add f32one (f32mul c3 x))) m2

/-- Luma and colour differences of a scaled pixel (R143). -/
def monitorPixel (m : MonCfg) (c : Rgba) : Word × Word × Word :=
  let r := f32ofF16 c.r
  let g := f32ofF16 c.g
  let b := f32ofF16 c.b
  let row := fun (x y z : Int) => f32add (f32add (f32mul (f32const x 10000) r) (f32mul (f32const y 10000) g))
    (f32mul (f32const z 10000) b)
  let (r, g, b) := if m.colorimetry = 0 then (row 16605 (-5876) (-728), row (-1246) 11329 (-83), row (-182) (-1006) 11187)
    else (r, g, b)
  let tf := fun x => if m.transfer = 0 then f32pow (f32clamp x 0 f32one) (f32div f32one (f32const 24 10))
    else encodePq (f32clamp (f32div (f32mul x (f32ofInt m.lref)) (f32ofInt 10000)) 0 f32one)
  let rp := tf r
  let gp := tf g
  let bp := tf b
  let kr := if m.colorimetry = 0 then f32const 2126 10000 else f32const 2627 10000
  let kb := if m.colorimetry = 0 then f32const 722 10000 else f32const 593 10000
  let (a, _, _, d) := matrixOf (m.colorimetry == 1)
  let yp := f32add (f32add (f32mul kr rp) (f32mul (f32sub (f32sub f32one kr) kb) gp)) (f32mul kb bp)
  (yp, f32div (f32sub bp yp) d, f32div (f32sub rp yp) a)

/-- One raster line of 4:2:2 codes: luma with the pair's chroma (R140, R143). -/
def monitorLine (m : MonCfg) (px : List Rgba) : List (Nat × Nat × Nat) :=
  let v := px.map (monitorPixel m)
  let n := v.length
  let get := fun i : Int => v.getD (clampInt i 0 ((n : Int) - 1)).toNat (0, 0, 0)
  let code := fun (base scale : Int) (x : Word) =>
    (clampInt (f32round (f32add (f32ofInt base) (f32mul (f32ofInt scale) x))) 4 1019).toNat
  let chroma := fun (f : Word × Word × Word → Word) (j : Int) =>
    f32div (f32add (f32add (f (get (2 * j - 1))) (f32mul (f32ofInt 2) (f (get (2 * j))))) (f (get (2 * j + 1)))) (f32ofInt 4)
  (List.range n).map fun (i : Nat) =>
    (code 64 876 (get i).1, code 512 896 (chroma (·.2.1) ((i / 2 : Nat) : Int)), code 512 896 (chroma (·.2.2) ((i / 2 : Nat) : Int)))

/-- The scaled picture of an output from canvas buffer `n` mod 2, over its whole raster; `old` is the configuration of
canvas frame `n` (R141, R142). -/
def monitorPicture (old : Cfg) (p : Part) (hbm : Memory) (m : MonCfg) (n : Nat) : List Rgba :=
  let (rw, rh) := monRaster m.format
  let rect := match m.region with
    | none => some (0, 0, old.canvas.w, old.canvas.h)
    | some k => (old.regions.get? k).bind fun r => if r.enable then some (r.x, r.y, r.width, r.height) else none
  match rect with
  | none => List.replicate (rw * rh) Rgba.black
  | some (x, y, w, h) =>
    let hp := cropPass false x w m.ow old.canvas.w 0
    let vp := cropPass false y h m.oh old.canvas.h 0
    (List.range rh).flatMap fun i => (List.range rw).map fun j =>
      if m.ox ≤ j ∧ j < m.ox + m.ow ∧ m.oy ≤ i ∧ i < m.oy + m.oh then
        scalePixel p.cfg m.hset m.vset hp vp (canvasPixel hbm n) (j - m.ox) (i - m.oy)
      else Rgba.black

def updMon (n : Nat) (f : MonRt → MonRt) (p : Part) : Part := p.updComp fun c => { c with mon := c.mon.upd n {} f }

/-- The payload ID that an output sends on its link (R140). -/
def monitorId (c : Cfg) (m : MonCfg) : MonId :=
  { format := m.format, rateNum := c.canvas.rateNum, rateDen := c.canvas.rateDen * m.divisor
    colorimetry := m.colorimetry, transfer := m.transfer }

/-- During frame m + 1 an output scales canvas frame m, for every m that is a multiple of k; a step frame repeats the
previous picture (R142), and a shed output reads nothing and is black (R144).  Taken at FE(m + 1), when canvas buffer m mod 2
is complete. -/
def monitorCapture (hbm : Memory) (old : Cfg) (first : Bool) (p : Part) : Part :=
  p.cfg.mon.foldl (fun q e =>
    let m := q.fr.cfn - 1
    if e.2.enable && !first && decide (1 ≤ q.fr.cfn) && m % max 1 e.2.divisor == 0 then
      updMon e.1 (fun r => { r with waiting := r.waiting ++
        [{ cfn := m, picture := if q.comp.monShed then List.replicate ((monRaster e.2.format).1 * (monRaster e.2.format).2) Rgba.black
                                else if q.comp.prevStep then ((r.waiting.getLast?.map (·.picture)).getD r.picture)
                                else monitorPicture old q hbm e.2 m, due := none }] }) q
    else q) p

/-- At FE(m + 2) the start of the output frame is fixed: the frame event plus the output delay (R142). -/
def monitorDue (fe : Nat) (p : Part) : Part :=
  p.updComp fun c => { c with mon := c.mon.mapVals fun k r => { r with
    waiting := r.waiting.map fun w => if w.due.isNone && w.cfn + 2 == p.fr.cfn then
      { w with due := some (fe + (p.cfg.mon.getD k {}).delayUs * usec) } else w } }

/-- A monitor output begins an output frame (R142 to R144). -/
def monitorBegin (k : Nat) (p : Part) : Part :=
  let m := p.cfg.mon.getD k {}
  let r := p.comp.mon.getD k {}
  match r.waiting with
  | w :: rest =>
    let (rw, _) := monRaster m.format
    let px := if p.comp.monShed then w.picture.map fun _ => Rgba.black else w.picture
    let lines := (List.range (px.length / rw)).map fun i => (px.drop (rw * i)).take rw
    let p1 := updMon k (fun x => { x with waiting := rest, picture := w.picture, frames := x.frames + 1, cfn := w.cfn }) p
    emit (.monFrame k w.cfn (monitorId p.cfg m) (lines.flatMap (monitorLine m))) p1
  | [] => p

def execMonOutputFrame (t output : Nat) (s : State) : Host.Outcome State Fault Refusal :=
  onPart (timed t (guarded
    (fun p => (p.cfg.mon.getD output {}).enable && p.tb.rootLock &&
      match (p.comp.mon.getD output {}).waiting with
      | w :: _ => ((w.due.map fun d => decide (d ≤ p.sys.now)).getD false)
      | [] => false)
    (monitorBegin output))) s

end Sys2Proof.Machine
end

