-- ==== Sys2Proof/Machine/Light.lean ====
section
/-! DEFINITION. The light stage (chapter 6): parameters, the pixel pipeline of R152, tile types (R166 to R170), wear
ledger (R161 to R163), temperature derate (R164, R165), feeders (R171 to R174), and packages (R156, R157). -/

namespace Sys2Proof.Machine

open Sys2Proof

/-! ### Layouts -/

def parseLightSet (p : List Byte) : Parse ConfigCmd :=
  layout p 12 [within p 0 4 0x400 0xFFFFFF, within p 8 1 0 64, below p 9 2, within p 10 2 1 1000]
    (.lightSet { sIn := leAt p 0 4, seed := BitVec.ofNat 32 (leAt p 4 4), hysteresis := byteAt p 8,
                 timeout := leAt p 10 2, ledger := byteAt p 9 == 1 })

def encLight (l : LightCfg) : List Byte :=
  le 4 l.sIn ++ le 4 l.seed.toNat ++ le 1 l.hysteresis ++ le 1 (b2n l.ledger) ++ le 2 l.timeout

/-- Point `j` of emitter `e` of a drive curve at `base` of a descriptor (Table 6.8). -/
def curvePoint (d : List Byte) (base e j : Nat) : Nat := leAt d (base + (65 * e + j) * 2) 2

/-- Checks of a drive curve: it starts at 0 and never falls (R167). -/
def curveChecks (d : List Byte) (base : Nat) : List (Bool × Nat) :=
  (List.range 3).flatMap fun e => (List.range 65).map fun j =>
    (if j = 0 then curvePoint d base e 0 == 0 else decide (curvePoint d base e (j - 1) ≤ curvePoint d base e j),
     4 + base + (65 * e + j) * 2)

/-- The checks of R167 on a descriptor; its CRC first. -/
def typeCheck (d : List Byte) : Parse PUnit :=
  if (crc32cAround d 8).toNat ≠ leAt d 8 4 then .error (stCrcFail, 12)
  else match firstBad ([(bytesAt d 0 4 == [0x43, 0x51, 0x54, 0x54], 4), (byteAt d 4 == 1, 8),
      ((within d 5 1 8 16).1, 9), ((below d 6 3).1, 10), (byteAt d 7 == 0, 11),
      (decide (byteAt d 12 + byteAt d 13 + byteAt d 14 ≤ 256), 16), (byteAt d 15 == 0, 19),
      ((within d 18 2 1 400).1 && decide (leIntAt d 16 2 + 15 * (leAt d 18 2 : Int) ≤ 32767), 22),
      (leAt d 26 2 == 0, 30), (leAt d 60 4 == 0, 64), (leAt d 358 2 == 0, 362)] ++
      curveChecks d 360 ++ curveChecks d 750) with
    | some off => badParam off
    | none => .ok ()

def parseTypeLoad (p : List Byte) : Parse ConfigCmd :=
  if p.length ≠ 1144 then badParam noOffset
  else match firstBad [below p 0 64, zeros p 1 3] with
    | some off => badParam off
    | none => match typeCheck (p.drop 4) with
      | .error e => .error e
      | .ok _ => .ok (.typeLoad (byteAt p 0) (p.drop 4))

def parseFeederSet (p : List Byte) : Parse ConfigCmd :=
  let lim := leAt p 4 4
  layout p 20 [below p 0 64, zeros p 1 1, within p 2 2 0 0x8000,
    (lim == 0 || (decide (1000 ≤ lim) && decide (lim ≤ 4000000) && decide (leAt p 8 4 < lim)), 4),
    within p 8 4 0 100000, within p 12 2 0x4000 0x8000, zeros p 14 2, within p 16 4 1000 60000]
    (.feederSet (byteAt p 0) { floor := leAt p 2 2, limit := lim, fixedW := leAt p 8 4, eta := leAt p 12 2,
                               releaseMs := leAt p 16 4 })

def encFeeder (n : Nat) (f : FeederCfg) : List Byte :=
  le 1 n ++ [0] ++ le 2 f.floor ++ le 4 f.limit ++ le 4 f.fixedW ++ le 2 f.eta ++ [0, 0] ++ le 4 f.releaseMs

/-! ### Tiles -/

def Cfg.furrow (c : Cfg) (f : Nat) : FurrowCfg := c.furrows.getD f {}

/-- Every mapped tile: furrow, position, entry. -/
def Cfg.tiles (c : Cfg) : List (Nat × Nat × TileEntry) := c.furrows.flatMap fun f => f.2.map.map fun e => (f.1, e.1, e.2)

def tileKey (f pos : Nat) : Nat := 256 * f + pos

def Part.tile (p : Part) (f pos : Nat) : TileRt := p.kl.tiles.getD (tileKey f pos) {}

def updTile (f pos : Nat) (g : TileRt → TileRt) (p : Part) : Part :=
  p.updKl fun k => { k with tiles := k.tiles.upd (tileKey f pos) {} g }

def Part.lane (p : Part) (f : Nat) : Lane := p.kl.lanes.getD f {}

def updLane (f : Nat) (g : Lane → Lane) (p : Part) : Part := p.updKl fun k => { k with lanes := k.lanes.upd f {} g }

/-- Sets a tile's resend mark (R137); only frames sent in full from then on clear it (log entry 34). -/
def setMark (f pos : Nat) (p : Part) : Part := updTile f pos (fun t => { t with mark := true, fulls := [] }) p

/-- Sets the mark of every mapped tile that satisfies `ok`. -/
def setMarks (ok : Nat → Nat → TileEntry → Bool) (p : Part) : Part :=
  (p.cfg.tiles.filter fun e => ok e.1 e.2.1 e.2.2).foldl (fun q e => setMark e.1 e.2.1 q) p

/-- The furrow is scanned out by this head: enabled and not faulted (R139, R300; log entry 35). -/
def scanned (p : Part) (f : Nat) : Bool := (p.cfg.furrow f).enable && !(p.lane f).faulted

/-! ### The pixel pipeline -/

/-- a_e of one channel (R152). -/
def normaliseDrive (sIn : Nat) (c : Half) : Nat :=
  match f16 c with
  | .nan => 0
  | .inf n => if n then 0 else 65536
  | .fin n m e =>
    if n || m == 0 then 0
    else
      let k := e - 4
      min 65536 (if 0 ≤ k then (m * sIn) <<< k.toNat else (2 * m * sIn + 2 ^ (-k).toNat) / 2 ^ ((-k).toNat + 1))

/-- A signed field of `w` bits at bit `lo`. -/
def signedField (n w lo : Nat) : Int :=
  let v := bits n (lo + w - 1) lo
  if v < 2 ^ (w - 1) then v else (v : Int) - (2 ^ w : Nat)

/-- m_e from a record taken as a 128-bit number (R152, Table 6.4). -/
def calibrate (rec : Nat) (a : Nat → Nat) (e : Nat) : Nat :=
  let diag : Int := bits rec (12 * e + 11) (12 * e)
  let off := fun k : Nat => signedField rec 10 (36 + 10 * k)
  let other := if e = 0 then off 0 * a 1 + off 1 * a 2 else if e = 1 then off 2 * a 0 + off 3 * a 2
    else off 4 * a 0 + off 5 * a 1
  let s := diag * a e + 2 * other
  let m := clampInt ((s + 1024) / 2048 + 16 * signedField rec 6 (96 + 6 * e)) 0 65535
  if bit rec (114 + e) then 0 else m.toNat

/-- Wear gain from a descriptor (R162). -/
def wearGain (d : List Byte) (e wix : Nat) : Nat :=
  let pw := fun j => (leAt d (160 + (33 * e + j) * 2) 2 : Int)
  let j := wix / 32
  (pw j + ((pw (j + 1) - pw j) * (wix % 32 : Nat) + 16) / 32).toNat

/-- Derate gain at an applied temperature (R165). -/
def derateGain (d : List Byte) (ta : Int) (e : Nat) : Nat :=
  let tb := leIntAt d 16 2
  let ts : Int := leAt d 18 2
  let pt := fun j : Nat => (leAt d (64 + (16 * e + j) * 2) 2 : Int)
  if ta ≤ tb then (pt 0).toNat
  else if tb + 15 * ts ≤ ta then (pt 15).toNat
  else
    let j := ((ta - tb) / ts).toNat
    let f := (ta - tb) % ts
    (pt j + ((pt (j + 1) - pt j) * f + ts / 2) / ts).toNat

/-- The drive curve (R168); `base` 360 FULL, 750 ECONOMY. -/
def driveCode (d : List Byte) (base e l : Nat) : Nat :=
  let j := l / 1024
  let lo := curvePoint d base e j
  lo + ((curvePoint d base e (j + 1) - lo) * (l % 1024) + 512) / 1024

/-- The hash of R170. -/
def ditherHash (seed x y n e : Nat) : Nat :=
  let m := 2 ^ 32
  let v0 := (x * 0x9E3779B1 % m) ^^^ (y * 0x85EBCA77 % m) ^^^ (n * 0xC2B2AE3D % m) ^^^ (e * 0x27D4EB2F % m) ^^^ seed
  let v1 := (v0 ^^^ (v0 >>> 15)) * 0x2C1B3C6D % m
  let v2 := (v1 ^^^ (v1 >>> 12)) * 0x297A2D39 % m
  v2 ^^^ (v2 >>> 15)

/-- Dither to the tile's drive depth (R170). -/
def ditherCode (d : List Byte) (seed x y n e code : Nat) : Nat :=
  let sh := 16 - byteAt d 5
  let mode := byteAt d 6
  if sh = 0 then code
  else
    let r := if mode = 0 then 2 ^ (sh - 1) else ditherHash seed x y (if mode = 2 then n % 2 ^ 32 else 0) e % 2 ^ sh
    min ((code + r) / 2 ^ sh * 2 ^ sh) (65536 - 2 ^ sh)

/-- What the pipeline gives for one pixel, per emitter: limiter input, linear drive, drive value. -/
structure Drive where
  tt : List Nat
  l : List Nat
  q : List Nat
  deriving DecidableEq, Repr

def Drive.dark : Drive := ⟨[0, 0, 0], [0, 0, 0], [0, 0, 0]⟩

/-- Step 2 of FE(N) fixes, for frame N, the ECONOMY curve wherever the supply may be low and the FULL coefficients wherever
power may be high (R153, Tables 6.3 and 6.9). -/
def supplyFixed (p : Part) : Part :=
  p.updLight fun l => { l with supply := p.cfg.tiles.foldl (fun m e =>
    let t := p.tile e.1 e.2.1
    let unc := (p.lane e.1).pwrUnc
    m.set (tileKey e.1 e.2.1) (t.supply == 1 && !unc, t.supply != 0 || unc)) [] }

def fullCurve (p : Part) (f pos : Nat) : Bool := (p.light.supply.getD (tileKey f pos) (false, false)).1
def fullPower (p : Part) (f pos : Nat) : Bool := (p.light.supply.getD (tileKey f pos) (false, false)).2

/-- The record of a pixel in the live bank (R154, R155). -/
def liveRecord (hbm : Memory) (bank : Bool) (x y : Nat) : Nat :=
  leAt (Memory.readBytes Memory.hbmDefault hbm (pixelAddr (calBase (b2n bank)) 16 x y) 16) 0 16

/-- The pipeline of R152 on one canvas pixel. -/
def drivePixel (lc : LightCfg) (d : List Byte) (full : Bool) (rec : Nat) (gt : List Nat) (gl x y n : Nat) (c : Rgba) : Drive :=
  let a := fun e => normaliseDrive lc.sIn (if e = 0 then c.r else if e = 1 then c.g else c.b)
  let w := fun e =>
    let gw := if bit rec 117 then 16384 else wearGain d e (bits rec 127 118)
    min 65535 ((calibrate rec a e * gw + 8192) / 16384)
  let tt := fun e => min 65535 ((w e * gt.getD e 16384 + 8192) / 16384)
  let l := fun e => (tt e * gl + 16384) / 32768
  let q := fun e => ditherCode d lc.seed.toNat x y n e (driveCode d (if full then 360 else 750) e (l e))
  ⟨(List.range 3).map tt, (List.range 3).map l, (List.range 3).map q⟩

def Part.feeder (p : Part) (k : Nat) : FeederRt := p.light.feeders.getD k {}

/-- The drive of a canvas pixel of a tile in frame `n`; a tile whose type was never loaded is dark (R166). -/
def tilePixel (p : Part) (hbm : Memory) (n f pos : Nat) (e : TileEntry) (x y : Nat) : Drive :=
  match p.cfg.types.get? e.type with
  | none => Drive.dark
  | some d =>
    let t := p.tile f pos
    drivePixel p.cfg.light d (fullCurve p f pos) (liveRecord hbm t.bank x y) t.gt (p.feeder e.feeder).g x y n
      (canvasPixel hbm n x y)

/-- Drives of one line of a tile. -/
def tileLine (p : Part) (hbm : Memory) (n f pos : Nat) (e : TileEntry) (line : Nat) : List Drive :=
  (List.range e.width).map fun x => tilePixel p hbm n f pos e (e.x + x) (e.y + line)

def addDrive (s : List Nat) (d : Drive) : List Nat := List.zipWith (· + ·) s (d.tt ++ d.l)

/-- Sums of tt and of l over a tile's pixels, per emitter (R172). -/
def tileSums (p : Part) (hbm : Memory) (n f pos : Nat) (e : TileEntry) : List Nat :=
  ((List.range e.height).flatMap (tileLine p hbm n f pos e)).foldl addDrive [0, 0, 0, 0, 0, 0]

/-! ### Feeders -/

/-- The terms of one tile in the estimate: static, dynamic at unit gain, dynamic at the gain in force (R172). -/
def tilePower (p : Part) (f pos : Nat) (e : TileEntry) : Nat × Nat × Nat :=
  match p.cfg.types.get? e.type with
  | none => (0, 0, 0)
  | some d =>
    let full := fullPower p f pos
    let s := p.light.sums.getD (tileKey f pos) [0, 0, 0, 0, 0, 0]
    let c := fun k => leAt d ((if full then 36 else 48) + 4 * k) 4
    let dyn := fun o => ((List.range 3).map fun k => c k * s.getD (o + k) 0 / 65535).sum
    (1000 * leAt d (if full then 28 else 32) 4, dyn 0, dyn 3)

/-- The estimate of a feeder (R172): pu, pa, st, du in µW. -/
def feederEstimate (p : Part) (k : Nat) : Nat × Nat × Nat × Nat :=
  let c := p.cfg.feeders.getD k {}
  let ts := (p.cfg.tiles.filter fun e => e.2.2.feeder == k).map fun e => tilePower p e.1 e.2.1 e.2.2
  let st := (ts.map (·.1)).sum
  let du := (ts.map (·.2.1)).sum
  let da := (ts.map (·.2.2)).sum
  let pfx := c.fixedW * 1000000
  (pfx + (st + du) * 32768 / c.eta, pfx + (st + da) * 32768 / c.eta, st, du)

/-- Completes the estimate of every feeder, and counts those above their limit (R172, R174). -/
def feedersDone (p : Part) : Part :=
  let q := (List.range 64).foldl (fun q k =>
    let (pu, pa, st, du) := feederEstimate p k
    let lim := (p.cfg.feeders.getD k {}).limit * 1000000
    let q1 := q.updLight fun l => { l with feeders := l.feeders.upd k {} fun r => { r with pu := pu, pa := pa, st := st, du := du } }
    if lim ≠ 0 ∧ lim < pa then count blkLight k 0 q1 else q1) p
  q.updLight fun l => { l with scanned := false }

/-- The gain wanted before the floor, and the gain (R173). -/
def wantedGain (c : FeederCfg) (r : FeederRt) : Nat :=
  let lim := c.limit * 1000000
  if lim = 0 ∨ r.pu ≤ lim then 32768
  else
    let num : Int := (lim - c.fixedW * 1000000 : Int) * c.eta - r.st * 32768
    if num ≤ 0 ∨ r.du = 0 then 0 else min 32768 (num.toNat / r.du)

def feederGain (cv : CanvasCfg) (c : FeederCfg) (r : FeederRt) : FeederRt :=
  let greq := max (wantedGain c r) c.floor
  let frames := c.releaseMs * cv.rateNum / (1000 * cv.rateDen)
  let step := max 1 (32768 / max 1 frames)
  { r with greq := greq, g := if greq ≤ r.g then greq else min greq (r.g + step), floor := decide (wantedGain c r < c.floor) }

/-- Step 6 for one feeder: gain, events, resend marks (R173, R174, Table 5.4). -/
def feederFrameEvent (p : Part) (k : Nat) : Part :=
  let r := p.feeder k
  let r1 := feederGain p.cfg.canvas (p.cfg.feeders.getD k {}) r
  let p1 := p.updLight fun l => { l with feeders := l.feeders.set k r1 }
  let p2 := if r.g = 0x8000 ∧ r1.g < 0x8000 then raise evFeederLimiting k 0 p1 else p1
  let p3 := if r.g < 0x8000 ∧ r1.g = 0x8000 then raise evFeederReleased k 0 p2 else p2
  let p4 := if r1.floor && !r.floor then raise evFeederFloor k 0 p3 else p3
  if r1.g = r.g then p4 else setMarks (fun _ _ e => e.feeder == k) p4

/-! ### Temperature derate -/

/-- The derate gains of a tile (R164, R165). -/
def tileGains (p : Part) (f pos : Nat) (e : TileEntry) : List Nat :=
  match p.cfg.types.get? e.type with
  | none => [16384, 16384, 16384]
  | some d => (List.range 3).map fun k => match (p.tile f pos).ta with
    | none => leAt d (20 + 2 * k) 2
    | some ta => derateGain d ta k

/-- Step 6 for the tiles: derate gains, with the resend mark where one changes. -/
def derateFrameEvent (p : Part) : Part :=
  p.cfg.tiles.foldl (fun q e =>
    let g := tileGains q e.1 e.2.1 e.2.2
    if g = (q.tile e.1 e.2.1).gt then q
    else setMark e.1 e.2.1 (updTile e.1 e.2.1 (fun t => { t with gt := g }) q)) p

/-- T_a becomes unknown: TEMP_UNKNOWN once for the tile (R164). -/
def tempUnknown (f pos : Nat) (p : Part) : Part :=
  let t := p.tile f pos
  let q := updTile f pos (fun t => { t with ta := none, unkRaised := true }) p
  if t.unkRaised then q else raise evTempUnknown f pos q

def execTempUnknown (t furrow position : Nat) (s : State) : Host.Outcome State Fault Refusal :=
  onPart (timed t (guarded
    (fun p => (p.cfg.furrow furrow).map.has position && (p.tile furrow position).inService &&
      !(p.tile furrow position).unkRaised &&
      decide ((p.tile furrow position).lastTemp + p.cfg.light.timeout ≤ p.fr.cfn))
    (tempUnknown furrow position))) s

/-- A reported temperature; 0x8000 reports a sensor fault (R164, R236, Table 7.11). -/
def tempReported (f pos : Nat) (raw : Half) (p : Part) : Part :=
  if raw = 0x8000 then tempUnknown f pos p
  else
    let temp := raw.toInt
    updTile f pos (fun t => { t with
      lastTemp := p.fr.cfn, unkRaised := false
      ta := match t.ta with
        | none => some temp
        | some a => if (p.cfg.light.hysteresis : Int) ≤ (temp - a).natAbs then some temp else some a }) p

/-! ### Wear ledger -/

/-- P_w (R161). -/
def ledgerPeriod (c : CanvasCfg) : Nat := max 1 (roundDiv c.rateNum c.rateDen).toNat

/-- At FE(N) the bands scheduled for frame N become due (R161). -/
def ledgerSchedule (p : Part) : Part :=
  let c := p.cfg.canvas
  let n := p.fr.cfn
  let pw := ledgerPeriod c
  let bands := (List.range (bandCount c)).filter fun b => n % pw == b * pw / bandCount c
  p.updLight fun l => { l with due := bands.foldl (fun m b => m.set b (n / pw)) l.due }

def ledgerAt (hbm : Memory) (x y : Nat) : Nat :=
  leAt (Memory.readBytes Memory.hbmDefault hbm (pixelAddr ledgerBase 4 x y) 4) 0 4

def writeLedger (hbm : Memory) (x y v : Nat) : Memory :=
  Memory.writeBytes Memory.hbmDefault hbm (pixelAddr ledgerBase 4 x y) (le 4 v)

/-- The increment of one update (R161). -/
def wearInc (d : List Byte) (seed x y per : Nat) (l : List Nat) : Nat :=
  let wsum := ((List.range 3).map fun e => byteAt d (12 + e) * l.getD e 0).sum
  (wsum * 8 + ditherHash seed x y per 3 / 256) / 2 ^ 24

/-- The record bytes with a wear index in WIX (R155). -/
def withWix (rec wix : Nat) : Nat := rec % 2 ^ 118 + wix * 2 ^ 118

def writeRecord (hbm : Memory) (bank : Bool) (x y rec : Nat) : Memory :=
  Memory.writeBytes Memory.hbmDefault hbm (pixelAddr (calBase (b2n bank)) 16 x y) (le 16 rec)

/-! ### Packages -/

/-- One section of a package: rectangle and its entries' offset. -/
structure Section where
  x : Nat
  y : Nat
  w : Nat
  h : Nat
  off : Nat
  deriving DecidableEq, Repr

def entrySize (kind : Nat) : Nat := if kind = 1 then 16 else 4

/-- The bytes of a section's entries with their padding. -/
def sectionBytes (kind w h : Nat) : Nat := roundUp (w * h * entrySize kind) 16

/-- Walks `count` sections from `off`; none where the package ends too soon. -/
def sectionsFrom (b : List Byte) (kind : Nat) : Nat → Nat → Option (List Section × Nat)
  | 0, off => some ([], off)
  | n + 1, off =>
    if b.length < off + 16 then none
    else
      let s : Section := ⟨leAt b off 2, leAt b (off + 2) 2, leAt b (off + 4) 2, leAt b (off + 6) 2, off + 16⟩
      let next := off + 16 + sectionBytes kind s.w s.h
      if b.length < next then none
      else match sectionsFrom b kind n next with
        | none => none
        | some (l, e) => some (s :: l, e)

/-- A CAL record has WIX and reserved bits zero (R157); every bit of Table 6.4 below WIX is defined. -/
def recordOk (b : List Byte) (off : Nat) : Bool := leAt b off 16 / 2 ^ 118 == 0

/-- What is wrong with a package as read, or none (R157): a failed CRC, or a parameter. -/
def packageFault (c : CanvasCfg) (b : List Byte) : Option Nat :=
  let kind := byteAt b 5
  if b.length < 32 then some stBadParam
  else if (crc32c (b.take 24 ++ [0, 0, 0, 0] ++ bytesAt b 28 4)).toNat ≠ leAt b 24 4 then some stCrcFail
  else if bytesAt b 0 4 ≠ [0x43, 0x51, 0x43, 0x50] ∨ byteAt b 4 ≠ 1 ∨ kind = 0 ∨ 3 < kind ∨ leAt b 6 2 ≠ 0 ∨ leAt b 28 4 ≠ 0 ∨
      leAt b 16 8 ≠ b.length ∨ leAt b 8 4 = 0 ∨ 65535 < leAt b 8 4 then some stBadParam
  else match sectionsFrom b kind (leAt b 8 4) 32 with
    | none => some stBadParam
    | some (ss, e) =>
      if e ≠ b.length then some stBadParam
      else if ss.any fun s => s.w == 0 || decide (16384 < s.w) || s.h == 0 || decide (8192 < s.h) || leAt b (s.off - 4) 4 != 0 ||
          decide (c.w < s.x + s.w) || decide (c.h < s.y + s.h) then some stBadParam
      else if ss.any fun s => (crc32c (bytesAt b s.off (sectionBytes kind s.w s.h))).toNat != leAt b (s.off - 8) 4 then some stCrcFail
      else if kind = 1 && ss.any fun s => (List.range (s.w * s.h)).any fun i => !recordOk b (s.off + 16 * i) then some stBadParam
      else none

def packageSections (b : List Byte) : List Section :=
  ((sectionsFrom b (byteAt b 5) (leAt b 8 4) 32).map (·.1)).getD []

def meets (e : TileEntry) (s : Section) : Bool :=
  decide (e.x < s.x + s.w) && decide (s.x < e.x + e.width) && decide (e.y < s.y + s.h) && decide (s.y < e.y + e.height)

/-- The footprint: the tiles that meet any section (R157). -/
def footprintOf (c : Cfg) (b : List Byte) : List (Nat × Nat) :=
  let ss := packageSections b
  (c.tiles.filter fun e => ss.any (meets e.2.2)).map fun e => (e.1, e.2.1)

/-- Offset of the entry for a pixel: the later section wins (R157). -/
def entryFor (b : List Byte) (kind x y : Nat) : Option Nat :=
  ((packageSections b).reverse.find? fun s => decide (s.x ≤ x ∧ x < s.x + s.w ∧ s.y ≤ y ∧ y < s.y + s.h)).map
    fun s => s.off + entrySize kind * ((y - s.y) * s.w + (x - s.x))

/-- Pixels of a tile within some lines of the canvas. -/
def tilePixels (e : TileEntry) (y0 y1 : Nat) : List (Nat × Nat) :=
  (List.range e.height).flatMap fun i => if y0 ≤ e.y + i ∧ e.y + i < y1 then
    (List.range e.width).map fun j => (e.x + j, e.y + i) else []

/-- Writes a CAL package into the banks that are not live, over a copy of the live ones (R158 step 1). -/
def stageCal (p : Part) (b : List Byte) (foot : List (Nat × Nat)) (hbm : Memory) : Memory :=
  (p.cfg.tiles.filter fun e => foot.contains (e.1, e.2.1)).foldl (fun m e =>
    let bank := (p.tile e.1 e.2.1).bank
    (tilePixels e.2.2 e.2.2.y (e.2.2.y + e.2.2.height)).foldl (fun m xy =>
      let live := liveRecord hbm bank xy.1 xy.2
      let rec' := match entryFor b 1 xy.1 xy.2 with
        | some off => withWix (leAt b off 16) (bits live 127 118)
        | none => live
      writeRecord m (!bank) xy.1 xy.2 rec') m) hbm

/-- Step 2 of FE(apply CFN): every footprint tile flips its bank bit (R158, Table 5.4). -/
def flipBanks (foot : List (Nat × Nat)) (p : Part) : Part :=
  foot.foldl (fun q k => setMark k.1 k.2 (updTile k.1 k.2 (fun t => { t with bank := !t.bank }) q)) p

/-- The WEAR jobs whose first update of band `b` comes in frame `n`. -/
def wearNow (jobs : List WearJob) (n b : Nat) : List WearJob :=
  jobs.filter fun j => decide (j.apply ≤ n) && !j.done.contains b

/-- A ledger value after the WEAR packages that apply at this update, in seal order (R163). -/
def wearApplied (jobs : List WearJob) (x y v : Nat) : Nat :=
  jobs.foldl (fun v j => match entryFor j.bytes j.kind x y with
    | some off => let e := leAt j.bytes off 4; if j.kind = 2 then e else min 0xFFFFFFFF (v + e)
    | none => v) v

/-- The part and the HBM together, for what changes both. -/
abbrev Both := Part × Memory

/-- The ledger update of one pixel (R161 to R163): packages first, then the increment, then WIX in the live record. -/
def ledgerPixel (n per : Nat) (jobs : List WearJob) (on : Bool) (f pos : Nat) (e : TileEntry) (s : Both) (xy : Nat × Nat) : Both :=
  let (p, hbm) := s
  let (x, y) := xy
  let old := ledgerAt hbm x y
  let v1 := wearApplied jobs x y old
  let inc := if on && scanned p f then match p.cfg.types.get? e.type with
      | some d => wearInc d p.cfg.light.seed.toNat x y per (tilePixel p hbm n f pos e x y).l
      | none => 0
    else 0
  let v := min 0xFFFFFFFF (v1 + inc)
  let t := p.tile f pos
  let live := liveRecord hbm t.bank x y
  let wix := min 1023 (v / 2 ^ 22)
  let h1 := if v = old then hbm else writeLedger hbm x y v
  let touched := v1 != old
  let newWix := on && wix != bits live 127 118
  let h2 := if newWix then writeRecord h1 t.bank x y (withWix live wix) else h1
  let p1 := if touched || newWix then setMark f pos p else p
  let p2 := if v = 0xFFFFFFFF && !t.wearSat then
      raise evWearSaturated f pos (updTile f pos (fun t => { t with wearSat := true }) p1)
    else p1
  let key := 16384 * y + x
  let take := fun j : WearJob => if j.apply ≤ n && !j.vals.has key then { j with vals := j.vals.set key v } else j
  (p2.updTxn fun r => { r with exports := r.exports.map take }, h2)

/-- The ledger update of a band that is due (R161). -/
def ledgerBand (n : Nat) (s : Both) (due : Nat × Nat) : Both :=
  let (b, per) := due
  let (p, hbm) := s
  let jobs := wearNow p.txn.wear n b
  let c := p.cfg.canvas
  let s1 := p.cfg.tiles.foldl (fun s e =>
    (tilePixels e.2.2 (16 * b) (16 * b + bandLines c b)).foldl
      (ledgerPixel n per jobs p.cfg.light.ledger e.1 e.2.1 e.2.2) s) (p, hbm)
  (s1.1.updTxn fun x => { x with
    wear := x.wear.map fun j => if j.apply ≤ n ∧ !j.done.contains b then { j with done := b :: j.done } else j
    exports := x.exports.map fun j => if j.apply ≤ n ∧ !j.done.contains b then { j with done := b :: j.done } else j }, s1.2)

/-- The ledger updates of a frame whose pixels are processed. -/
def ledgerUpdates (n : Nat) (s : Both) : Both :=
  let due := s.1.light.due.filter fun e => e.1 < bandCount s.1.cfg.canvas
  let s1 := due.foldl (ledgerBand n) s
  (s1.1.updLight fun l => { l with due := [] }, s1.2)

end Sys2Proof.Machine
end

