-- ==== Sys2Proof/Machine/Kralys.lean ====
section
/-! DEFINITION. The Kralys link at the head (chapter 7): lane bring-up and exits (R197 to R200), control delivery (R201 to
R206), counters and link errors (R207, R208), what a head reads upstream (R181, R189, R195, R205), and with them
enumeration (R216 to R220) and tile power steps (R231 to R235), whose packets the link carries. -/

namespace Sys2Proof.Machine

open Sys2Proof

/-! ### Counters and link errors -/

/-- A counter of Table 7.17 by its row, or 17 SCAN_LATE, 18 HOLD_LINES, 19 TILE_LATE (Table 15.4). -/
def laneCount (f idx : Nat) (p : Part) : Part := count blkKlink f idx p

/-- The furrow has a link error: it is in error for a refresh interval (R138, R208). -/
def linkError (f : Nat) (p : Part) : Part := updLane f (fun l => { l with errAt := some p.sys.now }) p

/-- In error: a link error within the last refresh interval (R138). -/
def inError (p : Part) (f : Nat) : Bool :=
  ((p.lane f).errAt.map fun t => decide (p.sys.now < t + p.cfg.hold.refreshMs * msec)).getD false

/-- The header's HOP check fails (R182). -/
def hopBad (h : UpHeader) : Bool := h.hopN != ~~~h.hop

/-- Counts a failed HOP check, which is a link error (R182, R208). -/
def hopCheck (f : Nat) (h : UpHeader) (p : Part) : Part := if hopBad h then linkError f (laneCount f 3 p) else p

/-! ### The CTRL queue -/

def linkKey (f key : Nat) : Nat := 1024 * f + key

def Part.link (p : Part) (f key : Nat) : LinkSt := p.kl.links.getD (linkKey f key) {}

def updLink (f key : Nat) (g : LinkSt → LinkSt) (p : Part) : Part :=
  p.updKl fun k => { k with links := k.links.upd (linkKey f key) {} g }

/-- Moves waiting packets into the queue of 64 while it has room (R206, log entry 36). -/
def refill (l : Lane) : Lane :=
  { l with queue := l.queue ++ l.backlog.take (64 - l.queue.length), backlog := l.backlog.drop (64 - l.queue.length) }

/-- A push refused by a full queue is counted and raised (Table 7.16). -/
def ctrlqFull (f : Nat) (p : Part) : Part := raise evCtrlqOverflow f 0 (laneCount f 15 p)

/-- A packet of the part's own: pushed, and where the queue refuses it, pushed again as soon as there is room. -/
def queueCtrl (f : Nat) (c : Ctrl) (p : Part) : Part :=
  updLane f (fun l => refill { l with backlog := l.backlog ++ [c] }) (if 64 ≤ (p.lane f).queue.length then ctrlqFull f p else p)

/-- A push by command: refused when the queue is full (Table 7.16). -/
def pushCtrl (f : Nat) (c : Ctrl) (p : Part) : Part × Bool :=
  let l := p.lane f
  if 64 ≤ l.queue.length then (ctrlqFull f p, false)
  else (updLane f (fun l => { l with queue := l.queue ++ [c] }) p, true)

/-- Sequenced CTRL packets outstanding across the tiles of a furrow (R203). -/
def outstanding (p : Part) (f : Nat) : Nat :=
  ((p.kl.links.filter fun e => e.1 / 1024 == f).map fun e => e.2.outst.length).sum

/-- This head may send CTRL: it is not yielding (R229, R278). -/
def maySend (p : Part) : Bool := p.pair.role != .yielding

/-- Replay timeout of a tile: 20 µs plus its round-trip latency in ps (R204). -/
def replayTime (l : LinkSt) : Nat := 20 * usec + ceilDiv l.r 25

/-- The packet at the queue's head may go now (R186, R203). -/
def sendable (p : Part) (f : Nat) : Option Ctrl :=
  let l := p.lane f
  match l.queue with
  | c :: _ =>
    if l.state = 7 && !l.faulted && maySend p && l.ackSlot && decide (outstanding p f < 1024) &&
        !(c.reply && (p.link f c.key).outst.any (·.reply)) then some c else none
  | [] => none

/-- The lane sends CTRL: it is UP and the head may send (R197, R229). -/
def laneSends (p : Part) (f : Nat) : Bool := (p.lane f).state == 7 && !(p.lane f).faulted && maySend p

/-- Sends the next packet of those to be sent again, in an interval that has sent no CTRL yet (R186, R204). -/
def resendNext (f : Nat) (p : Part) : Part :=
  match (p.lane f).resend with
  | [] => p
  | c :: rest =>
    if laneSends p f && (p.lane f).ackSlot then
      emit (.ctrl f c) (updLane f (fun l => { l with resend := rest, ackSlot := false }) p)
    else p

/-- Sends one CTRL: one to be sent again goes ahead of the queue (R186, R201, R204). -/
def ctrlSend (f : Nat) (p : Part) : Part :=
  if !(p.lane f).resend.isEmpty then resendNext f p
  else match sendable p f with
  | none => p
  | some c =>
    let k := p.link f c.key
    let sent := { c with seq := k.nextSeq, resync := k.resync }
    let p1 := updLane f (fun l => refill { l with queue := l.queue.drop 1, ackSlot := false }) p
    let p2 := updLink f c.key (fun k => { k with
      nextSeq := (k.nextSeq + 1) % 4096, resync := false, outst := k.outst ++ [sent]
      timer := if k.outst.isEmpty then some (p.sys.now + replayTime k) else k.timer }) p1
    perfSignal 4 0x12 f 1 (emit (.ctrl f sent) p2)

def execCtrlSend (t furrow : Nat) (s : State) : Host.Outcome State Fault Refusal := onPart (timed t (ctrlSend furrow)) s

/-- A balk opener with its empty slots: the next interval allows one CTRL that asks for an answer; none between a SOW and its
status run (R186). -/
def execBalkOpenerSend (t furrow : Nat) (s : State) : Host.Outcome State Fault Refusal :=
  onPart (timed t (guarded (fun p => (p.lane furrow).state == 7 && !(p.lane furrow).runDue)
    (fun p => emit (.balk furrow) (updLane furrow (fun l => { l with ackSlot := true }) p)))) s

/-! ### Furrows seen from this head -/

def maxPosition (c : FurrowCfg) : Nat := c.map.foldl (fun m e => max m e.1) 0

/-- Position that a hop from this head implies (R216). -/
def impliedPosition (p : Part) (f hop : Nat) : Nat :=
  if p.sys.endB then maxPosition (p.cfg.furrow f) - hop else hop + 1

/-- Hop of a position from this head. -/
def hopOf (p : Part) (f pos : Nat) : Nat := if p.sys.endB then maxPosition (p.cfg.furrow f) - pos else pos - 1

/-- The time of one symbol at a furrow's rate (Table 7.1). -/
def symbolUnits (f : FurrowCfg) : Nat := 32 * 2 ^ (2 - f.rate)

/-- Symbol period in ps (Table 7.1). -/
def symbolPs (rate : Nat) : Nat := if rate = 2 then 800 else if rate = 1 then 1600 else 3200

def stepping (t : TileRt) : Bool := decide (2 ≤ t.supply)

/-- A POWER_STEP to the tile is queued or outstanding (R233). -/
def stepOutstanding (p : Part) (f pos : Nat) : Bool :=
  let mine := fun (c : Ctrl) => c.why == .powerStep && c.key == pos
  (p.lane f).queue.any mine || (p.lane f).backlog.any mine || (p.link f pos).outst.any mine

/-! ### Power steps -/

/-- The next tile in service that has not answered POWER_QUERY since the mark was set (R234, log entry 37). -/
def nextQuery (p : Part) (f : Nat) : Option Nat :=
  ((p.cfg.furrow f).map.keys.find? fun k => (p.tile f k).inService && !(p.tile f k).silent && !(p.lane f).queried.contains k)

def queueQuery (f pos : Nat) (p : Part) : Part :=
  queueCtrl f { key := pos, op := 8, reply := true, payload := [], why := .powerQuery } p

/-- Marks a furrow power uncertain (R233, R235). -/
def setUncertain (f : Nat) (p : Part) : Part :=
  if (p.lane f).pwrUnc then p
  else
    let p1 := setLevel evPowerUncertain f true (updLane f (fun l => { l with pwrUnc := true, queried := [] }) p)
    let p2 := setMarks (fun g _ _ => g == f) p1
    match nextQuery p2 f with
    | some k => queueQuery f k p2
    | none => p2

/-- Clears the mark once every tile in service has answered and none is stepping (R234). -/
def checkUncertain (f : Nat) (p : Part) : Part :=
  let ks := (p.cfg.furrow f).map.keys.filter fun k => (p.tile f k).inService
  if (p.lane f).pwrUnc && ks.all (fun k => (p.lane f).queried.contains k && !stepping (p.tile f k)) then
    setMarks (fun g _ _ => g == f) (setLevel evPowerUncertain f false (updLane f (fun l => { l with pwrUnc := false }) p))
  else p

/-- A tile of the furrow is stepping or has a POWER_STEP outstanding (R233). -/
def powerRisk (p : Part) (f pos : Nat) : Bool := stepping (p.tile f pos) || stepOutstanding p f pos

/-- The packet that asks a tile for a level at frame `cfn` (R231). -/
def powerStepCtrl (pos level cfn : Nat) : Ctrl :=
  { key := pos, op := 7, reply := false, payload := le 1 level ++ [0] ++ le 2 cfn, why := .powerStep }

/-- The tile starts towards a level at frame `cfn`; the 40 ms run from FE(cfn) (R231). -/
def beginStep (f pos level cfn : Nat) (due : Option Nat) (p : Part) : Part :=
  setMark f pos (updTile f pos (fun t => { t with
    supply := if level = 1 then 2 else 3, target := some (level, cfn), targetSeen := false, supplyDue := due }) p)

/-- The answer to POWER_QUERY (R234). -/
def powerAnswered (f pos state : Nat) (p : Part) : Part :=
  let p1 := updLane f (fun l => { l with queried := if l.queried.contains pos then l.queried else pos :: l.queried }) p
  match (p.cfg.furrow f).map.get? pos with
  | none => p1
  | some e =>
    let p2 := updTile f pos (fun t => { t with reported := some state }) p1
    let p3 := if state = e.level then p2
      else
        let n := p.fr.cfn + 2
        raise evTilePowerReconciled f pos <| beginStep f pos e.level n none <|
          updTile f pos (fun t => { t with reported := none }) (queueCtrl f (powerStepCtrl pos e.level n) p2)
    if (p3.lane f).pwrUnc then match nextQuery p3 f with
      | some k => queueQuery f k p3
      | none => p3
    else p3

/-- Step 2 of a frame event: reported and reached supply states take effect, and the 40 ms start (R231, R234). -/
def supplyFrameEvent (fe : Nat) (p : Part) : Part :=
  let q := p.cfg.tiles.foldl (fun q e =>
    let t := q.tile e.1 e.2.1
    let q1 := match t.reported with
      | some s => setMark e.1 e.2.1 (updTile e.1 e.2.1 (fun t => { t with supply := s, reported := none }) q)
      | none => q
    match t.target with
    | some (level, n) =>
      if t.targetSeen then setMark e.1 e.2.1 (updTile e.1 e.2.1 (fun t => { t with
          supply := level, target := none, targetSeen := false, supplyDue := none }) q1)
      else if n = q.fr.cfn then updTile e.1 e.2.1 (fun t => { t with supplyDue := some (fe + 40 * msec) }) q1
      else q1
    | none => q1) p
  (q.cfg.furrows.keys).foldl (fun r f => checkUncertain f r) q

/-- No STATUS reported the target level within 40 ms of FE(N) (R231). -/
def execTilePowerStuck (t furrow position : Nat) (s : State) : Host.Outcome State Fault Refusal :=
  onPart (timed t (guarded
    (fun p => let x := p.tile furrow position
      stepping x && !x.targetSeen && (x.supplyDue.map fun d => decide (d ≤ p.sys.now)).getD false)
    (fun p => raise evTilePowerStuck furrow position
      (updTile furrow position (fun x => { x with supplyDue := none }) p)))) s

/-! ### Latch delays -/

/-- Insertion into a rising list. -/
def insertUp (x : Int) : List Int → List Int
  | [] => [x]
  | y :: r => if x ≤ y then x :: y :: r else y :: insertUp x r

def sortUp (l : List Int) : List Int := l.foldr insertUp []

/-- r′ in ps: the mean of the middle eight of sixteen echo results (R219). -/
def echoMean (l : List Int) : Int := (((sortUp l).drop 4).take 8).sum.tdiv 8

/-- One-way delay in ps (R219). -/
def oneWay (endB : Bool) (r asym : Int) : Int := (if endB then r - asym else r + asym).tdiv 2

/-- Latch delay in ps, before its lower bound (R220, R289). -/
def latchDelay (p : Part) (oneway : Int) : Int :=
  (p.cfg.latchUs : Int) * 1000000 - 160000 - oneway - (if p.pair.role = .standby then p.pair.dfe * 25 else 0)

/-- The SET_LATCH packet for a tile (R220), with LATCH_RANGE where the delay is too short; `hop` while it is enumerated. -/
def setLatch (f pos : Nat) (hop : Option Nat) (oneway : Int) (p : Part) : Part :=
  let d := latchDelay p oneway
  let p1 := if d < 2000000 then raise evLatchRange f pos p else p
  let ps := (clampInt d 2000000 2000000000).toNat
  queueCtrl f { key := pos, op := 5, reply := false, payload := le 4 ps, why := .latch, hop := hop }
    (updTile f pos (fun t => { t with latchPs := ps, p := oneway.toNat }) p1)

/-- Sends SET_LATCH again to every tile in service (R220, R289). -/
def setLatchAll (p : Part) : Part :=
  (p.cfg.tiles.filter fun e => (p.tile e.1 e.2.1).inService).foldl
    (fun q e => setLatch e.1 e.2.1 none (q.tile e.1 e.2.1).p q) p

def lossCtrl (key holdMs : Nat) (hop : Option Nat) : Ctrl :=
  { key := key, op := 6, reply := false, payload := le 2 (holdMs / 10) ++ [0, 0], why := .loss, hop := hop }

/-! ### Enumeration -/

def hopKey (hop : Nat) : Nat := 256 + hop

/-- The mapped tile last found at a hop from this head. -/
def tileAtHop (p : Part) (f hop : Nat) : Option Nat := (p.cfg.furrow f).map.keys.find? fun k => (p.tile f k).hop == some hop

/-- The sequence space of the tile at a hop: by its position, or by the hop before it has one (R201). -/
def keyAtHop (p : Part) (f hop : Nat) : Nat := (tileAtHop p f hop).getD (hopKey hop)

/-- A CTRL of enumeration: ADDR 0 and TARGET_HOP (R216). -/
def hopCtrl (f hop op : Nat) (reply : Bool) (payload : List Byte) (why : Purpose) (p : Part) : Part :=
  queueCtrl f { key := keyAtHop p f hop, op := op, reply := reply, payload := payload, why := why, hop := some hop } p

/-- Asks the tile at a hop who it is, first CTRL with RESYNC (R216 step 1). -/
def enumHop (f hop found : Nat) (asymSum : Int) (p : Part) : Part :=
  hopCtrl f hop 1 true [] .identify <|
    updLink f (keyAtHop p f hop) (fun k => { k with resync := true }) <|
      updLane f (fun l => { l with enum := some { hop := hop, found := found, asymSum := asymSum } }) p

/-- Starts enumeration at a hop; one that runs goes on from the nearer hop. -/
def startEnum (f hop : Nat) (p : Part) : Part :=
  if (p.lane f).state ≠ 7 ∨ !maySend p then p
  else match (p.lane f).enum with
    | some e => if e.hop ≤ hop then p else enumHop f hop hop ((p.lane f).asym.take hop).sum p
    | none => enumHop f hop hop ((p.lane f).asym.take hop).sum p

/-- The first hop whose tile is not in service, or is silent (R218). -/
def firstOutHop (p : Part) (f : Nat) : Nat :=
  ((List.range 256).find? fun h => match tileAtHop p f h with
    | some k => !(p.tile f k).inService || (p.tile f k).silent
    | none => true).getD 0

/-- Enumerates from the first hop whose tile is not in service, the hop nearest this head where none is; not where every tile
found before is in service (R216, R218, log entry 38). -/
def enumAgain (f : Nat) (p : Part) : Part :=
  let h := firstOutHop p f
  if 0 < (p.lane f).found ∧ (p.lane f).found ≤ h then p else startEnum f h p

/-- Enumeration ends: FURROW_ENUMERATED with the count of tiles found (R216). -/
def enumEnd (f found : Nat) (p : Part) : Part :=
  raise evFurrowEnumerated f found (updLane f (fun l => { l with enum := none, found := found }) p)

/-- Goes on to the next hop, or ends behind the last tile. -/
def enumNext (f : Nat) (e : Enum) (p : Part) : Part :=
  let sum := e.asymSum + e.asym
  let p1 := updLane f (fun l => { l with asym := (l.asym ++ List.replicate (e.hop + 1 - l.asym.length) 0).set e.hop e.asym }) p
  if e.last then enumEnd f (e.found + 1) p1 else enumHop f (e.hop + 1) (e.found + 1) sum p1

def updEnum (f : Nat) (g : Enum → Enum) (p : Part) : Part := updLane f (fun l => { l with enum := l.enum.map g }) p

/-- The tile at a hop is the one mapped at `pos`: it takes its sequence space along (R201), and what an earlier space of that
position still had outstanding is given up. -/
def tileFound (f hop pos : Nat) (p : Part) : Part :=
  let k := keyAtHop p f hop
  let p1 := if k = pos then p
    else updLink f k (fun _ => {}) (updLink f pos (fun _ => { p.link f k with outst := (p.link f k).outst.map fun c => { c with key := pos } }) p)
  let lost := if k = pos then [] else (p.link f pos).outst
  updLane f (fun l => { l with dropped := l.dropped ++ lost }) <| updTile f pos (fun t => { t with hop := some hop }) <|
    match tileAtHop p1 f hop with
    | some j => updTile f j (fun t => { t with hop := none }) p1
    | none => p1

/-- The answer to IDENTIFY (R216 step 2). -/
def enumIdentified (f : Nat) (e : Enum) (data : List Byte) (p : Part) : Part :=
  let peer := if p.sys.endB then byteAt data 10 % 4 else byteAt data 10 / 4 % 4
  let e1 := { e with last := peer != 2 }
  match (p.cfg.furrow f).map.find? fun x => x.2.id == BitVec.ofNat 64 (leAt data 0 8) with
  | none =>
    let p1 := match tileAtHop p f e.hop with
      | some j => updTile f j (fun t => { t with hop := none }) p
      | none => p
    enumNext f e1 (raise evTileUnknown f e.hop p1)
  | some (pos, _) =>
    let p1 := if pos = impliedPosition p f e.hop then p else raise evTileMisplaced f pos p
    hopCtrl f e.hop 2 true [] .geometry (updEnum f (fun _ => { e1 with entry := some pos }) (tileFound f e.hop pos p1))

/-- The answer to GEOMETRY (R216 step 3). -/
def enumGeometry (f : Nat) (e : Enum) (pos : Nat) (data : List Byte) (p : Part) : Part :=
  let e1 := { e with asym := leIntAt data 4 2 }
  match (p.cfg.furrow f).map.get? pos with
  | none => enumNext f e1 p
  | some x =>
    if leAt data 0 2 ≠ x.width ∨ leAt data 2 2 ≠ x.height ∨ !bit (byteAt data 6) (p.cfg.furrow f).rate then
      enumNext f e1 (raise evTileGeometryMismatch f pos p)
    else
      hopCtrl f e.hop 3 false (le 1 pos ++ [0, 0, 0] ++ le 8 x.id.toNat) .position (updEnum f (fun _ => e1) p)

def queueEcho (f hop : Nat) (p : Part) : Part := hopCtrl f hop 4 true [] .echo p

/-- The answer to one ECHO; after sixteen the latch delay is set (R219, R220). -/
def enumEcho (f : Nat) (e : Enum) (pos dwell r : Nat) (p : Part) : Part :=
  let x : Int := (r : Int) - (dwell * symbolPs (p.cfg.furrow f).rate : Nat)
  let l := e.echoes ++ [x]
  let p1 := updEnum f (fun e => { e with echoes := l }) p
  if l.length < 16 then queueEcho f e.hop p1
  else
    let rm := echoMean l
    setLatch f pos (some e.hop) (oneWay p.sys.endB rm e.asymSum) (updLink f pos (fun k => { k with r := rm.toNat }) p1)

/-- The tile is in service with this head: lines from the next frame event, resend mark, T_a unknown (R164, R217). -/
def tileServed (f pos : Nat) (p : Part) : Part :=
  setMark f pos (updLink f pos (fun k => { k with resync := true }) (updTile f pos (fun t => { t with
    inService := true, serveFrom := p.fr.cfn + 1, silent := false, missed := 0, ta := none, lastTemp := p.fr.cfn
    unkRaised := false }) p))

/-- What an acknowledged or answered packet does next (R216, R234). `data` and the rest are of the CTRL_REPLY. -/
def ctrlDone (f : Nat) (c : Ctrl) (reply : Option CtrlReply) (p : Part) : Part :=
  let e := (p.lane f).enum.filter fun e => c.hop == some e.hop
  let pos := (e.bind (·.entry)).getD 0
  let bad := (reply.map fun r => r.rstat != 0).getD false
  match c.why, e, reply with
  | .identify, some e, some r => if bad then enumEnd f e.found p else enumIdentified f e r.data p
  | .geometry, some e, some r => if bad then enumEnd f e.found p else enumGeometry f e pos r.data p
  | .position, some e, _ => queueEcho f e.hop p
  | .echo, some e, some r => enumEcho f e pos r.dwell r.r p
  | .latch, some e, _ =>
    queueCtrl f (lossCtrl pos (p.cfg.furrow f).lossHoldMs (some e.hop)) (tileServed f pos p)
  | .loss, some e, _ => hopCtrl f e.hop 8 true [] .powerQuery p
  | .powerQuery, some e, some r => enumNext f e (powerAnswered f pos (byteAt r.data 0) p)
  | .powerQuery, none, some r => powerAnswered f c.key (byteAt r.data 0) p
  | _, _, _ => p

/-- R204 gives up on a packet (R235); host operations are finished by the caller. -/
def ctrlFailed (f : Nat) (c : Ctrl) (p : Part) : Part :=
  match c.why with
  | .powerStep => setUncertain f p
  | .powerQuery => setUncertain f p
  | _ => p

/-! ### Answers -/

/-- Whose packets an answer concerns: the tile at its hop where that has packets outstanding, else its position; none where the
hop is unknown and the packet names no position (R182, R201). -/
def answerKey (p : Part) (f : Nat) (h : UpHeader) : Option Nat :=
  if hopBad h then (if h.addr = 0 then none else some h.addr)
  else
    let k := keyAtHop p f h.hop.toNat
    some (if h.addr = 0 || !(p.link f k).outst.isEmpty then k else h.addr)

/-- An answer's NEXT (R203): whether it is stale, and the packets it retires, in order. -/
def retire (f key next : Nat) (p : Part) : Part × Bool × List Ctrl :=
  let k := p.link f key
  match k.outst with
  | [] => if next % 4096 = k.nextSeq then (p, false, []) else (laneCount f 10 p, true, [])
  | o :: _ =>
    let dist := (next % 4096 + 4096 - o.seq) % 4096
    if dist = 0 then (p, false, [])
    else if dist ≤ k.outst.length then
      let rest := k.outst.drop dist
      (updLink f key (fun k => { k with outst := rest, expiries := 0
                                        timer := if rest.isEmpty then none else some (p.sys.now + replayTime k) }) p,
       false, k.outst.take dist)
    else (laneCount f 10 p, true, [])

/-- Every outstanding packet of a tile is sent again, in SEQ order, at once as far as the schedule allows (R186, R204). -/
def resendAll (f key : Nat) (p : Part) : Part :=
  let l := (p.link f key).outst
  resendNext f (updLane f (fun x => { x with resend := x.resend.filter (fun c => c.key != key) ++ l }) (countBy blkKlink f 12 l.length p))

/-- A tile or its furrow is known at this head: its lane is UP. -/
def laneUp (f : Nat) (p : Part) : Bool := (p.lane f).state == 7

/-! ### Alarms, foreign packets, errors -/

/-- The tile that sends an upstream packet, in the links' numbering: its position, else its hop, else 1023 for none known. -/
def senderKey (p : Part) (f : Nat) (h : UpHeader) : Nat :=
  if h.addr ≠ 0 then h.addr else if hopBad h then 1023 else keyAtHop p f h.hop.toNat

/-- ASEQs acknowledged: those at most 127 behind the newest (R205). -/
def noteAseq (a : Byte) (l : List Byte) : List Byte := a :: l.filter fun b => b != a && decide ((a - b).toNat < 128)

/-- LINK_ACK to the alarming tile, by position or by hop; a head that may not send CTRL sends none, and a tile of which neither
is known cannot be addressed (R194, R205, R229). -/
def linkAck (f : Nat) (h : UpHeader) (aseq : Byte) (p : Part) : Part :=
  if !maySend p then p
  else if h.addr ≠ 0 then emit (.linkAck f h.addr none aseq) p
  else if hopBad h then p
  else emit (.linkAck f 0 (some h.hop.toNat) aseq) p

/-- A new alarm is logged with its code, position and ARG, whose upper half is an entry of its own, and raised (R215). -/
def alarmReported (f pos : Nat) (a : Alarm) (p : Part) : Part :=
  let p1 := raiseEvent (160 + f) f pos (raiseEvent evTileAlarm f pos p)
  let p2 := report blkKlink f evTileAlarm 0 0 (pos + 256 * a.code.toNat) p1
  let p3 := report blkKlink f (0x8000 + a.code.toNat) 0 0 a.arg.toNat p2
  let p4 := if a.arg.toNat < 65536 then p3 else report blkKlink f (0x8100 + a.code.toNat) 0 0 (a.arg.toNat / 65536) p3
  if a.code = 1 then tempUnknown f pos p4 else p4

/-- A valid ALARM: acknowledged, and reported once (R205, R215). -/
def alarmReceived (f : Nat) (h : UpHeader) (a : Alarm) (p : Part) : Part :=
  let p1 := linkAck f h a.aseq (laneCount f 14 (hopCheck f h p))
  let key := senderKey p f h
  if (p1.link f key).acked.contains a.aseq then p1
  else alarmReported f h.addr a (updLink f key (fun k => { k with acked := noteAseq a.aseq k.acked }) p1)

def execAlarmReceived (t furrow : Nat) (hdr : UpHeader) (alarm : Alarm) (s : State) : Host.Outcome State Fault Refusal :=
  onPart (timed t (guarded (laneUp furrow) (alarmReceived furrow hdr alarm))) s

/-- A downstream packet from the ring: FOLDED on one's own, CLOSED on the opposite head's SOW (R181). -/
def foreignPacket (f : Nat) (h : UpHeader) (isSow : Bool) (p : Part) : Part :=
  let p1 := laneCount f 4 (hopCheck f h p)
  updLane f (fun l => { l with
    foldedCfn := if h.endB = p.sys.endB then some p.fr.cfn else l.foldedCfn
    closedCfn := if h.endB ≠ p.sys.endB ∧ isSow then some p.fr.cfn else l.closedCfn }) p1

def execForeignPacket (t furrow : Nat) (hdr : UpHeader) (isSow : Bool) (s : State) : Host.Outcome State Fault Refusal :=
  onPart (timed t (guarded (laneUp furrow) (foreignPacket furrow hdr isSow))) s

def within2 (p : Part) (c : Option Nat) : Bool := (c.map fun n => decide (p.fr.cfn ≤ n + 1)).getD false
def isFolded (p : Part) (f : Nat) : Bool := within2 p (p.lane f).foldedCfn
def isClosed (p : Part) (f : Nat) : Bool := within2 p (p.lane f).closedCfn

def execKlinkPacketDiscarded (t furrow : Nat) (crc : Bool) (s : State) : Host.Outcome State Fault Refusal :=
  onPart (timed t (guarded (laneUp furrow)
    (fun p => if crc then linkError furrow (laneCount furrow 2 p) else laneCount furrow 1 p))) s

/-- A code or disparity error, a reserved K symbol among them, on a lane that has symbol alignment (R177, R207). -/
def execKlinkSymbolError (t furrow : Nat) (s : State) : Host.Outcome State Fault Refusal :=
  onPart (timed t (guarded (fun p => decide (4 ≤ (p.lane furrow).state)) (fun p => linkError furrow (laneCount furrow 0 p)))) s

/-! ### Bring-up -/

/-- The training sequence that a head lane sends in state `st`: one lane, its furrow's rate, READY in PEER (R197, Table 7.3). -/
def headSet (p : Part) (f st : Nat) : TrainSet :=
  { inverted := false, lane := 0, width := 1, rate := (p.cfg.furrow f).rate + 1, ready := st == 6, role := b2n p.sys.endB }

/-- A lane enters a state: TS outside UP, electrical idle in OFF (R197). -/
def toState (f st : Nat) (p : Part) : Part :=
  let q := updLane f (fun l => { l with state := st, since := p.sys.now }) p
  if st = 7 then q else if st = 0 then emit (.laneIdle f) q else emit (.training f (headSet p f st)) q

/-- A bring-up failure that returns the lane to QUIET or ALIGN (R197). -/
def trainFail (f st : Nat) (p : Part) : Part :=
  let p1 := updLane f (fun l => { l with fails := l.fails + 1 }) (toState f st (laneCount f 9 p))
  if 3 ≤ (p1.lane f).fails ∧ (p1.lane f).failRaised = false then
    raise evKlinkTrainFail f 0 (updLane f (fun l => { l with failRaised := true }) p1)
  else p1

/-- Moves a lane on from one bring-up state to the next (Table 7.13). -/
def bringUp (t f a b : Nat) : Part → Part := timed t (guarded (fun p => (p.lane f).state == a) (toState f b))

def execKlinkSignalDetect (t furrow : Nat) (s : State) : Host.Outcome State Fault Refusal := onPart (bringUp t furrow 1 2) s
def execKlinkCdrLock (t furrow : Nat) (s : State) : Host.Outcome State Fault Refusal := onPart (bringUp t furrow 2 3) s
def execKlinkCommaAlign (t furrow : Nat) (s : State) : Host.Outcome State Fault Refusal := onPart (bringUp t furrow 3 4) s

/-- Sets a byte of the per-hop report; HOP_CORRECTION once per change (R210). -/
def setHop (f hop v : Nat) (p : Part) : Part :=
  if (p.lane f).hops.getD hop 0 = v then p
  else raise evHopCorrection f hop (updLane f (fun l => { l with hops := l.hops.set hop v }) p)

/-- The head's own receiver in the per-hop report: westbound at hop 0 for head A, eastbound at the last for B (R210). -/
def ownHop (f : Nat) (p : Part) : Part :=
  let hop := if p.sys.endB then maxPosition (p.cfg.furrow f) else 0
  let v := (p.lane f).hops.getD hop 0
  let inv := b2n (p.lane f).rxInv
  setHop f hop (if p.sys.endB then v / 16 * 16 + inv else v % 16 + 16 * inv) p

/-- The tiles in service relink with the lane: each is sent in full again and asked for its supply state (R234, Table 5.4). -/
def tilesRelink (f : Nat) (p : Part) : Part :=
  ((p.cfg.furrow f).map.keys.filter fun k => (p.tile f k).inService && !(p.tile f k).silent).foldl
    (fun q k => (if maySend q then queueQuery f k else id) (setMark f k q)) p

/-- The lane enters UP: KLINK_UP, and enumeration (R200, R216, R218). -/
def laneEnters (f : Nat) (p : Part) : Part :=
  let p1 := raise evKlinkUp f 0 (updLane f (fun l => { l with fails := 0, failRaised := false, ackSlot := true, runDue := false }) (toState f 7 p))
  let p2 := p1.updKl fun k => { k with links := k.links.mapVals fun j x => if j / 1024 == f then { x with resync := true } else x }
  enumAgain f (tilesRelink f (ownHop f p2))

/-- The lane leaves UP for a state: KLINK_DOWN, enumeration ends, power uncertain where a tile steps (R200, R233). -/
def laneLeaves (f st : Nat) (p : Part) : Part :=
  let p1 := raise evKlinkDown f 0 (updLane f (fun l => { l with enum := none }) (toState f st p))
  if (p1.cfg.furrow f).map.keys.any (powerRisk p1 f) then setUncertain f p1 else p1

/-- All of the last `n` training sequences satisfy `ok`. -/
def lastSets (n : Nat) (ok : TrainSet → Bool) (l : List TrainSet) : Bool :=
  decide (n ≤ l.length) && (l.drop (l.length - n)).all ok

/-- Eight READY TS of 16 symbols have gone out since PEER began (R197). -/
def readySent (p : Part) (f : Nat) : Bool := decide ((p.lane f).since + 8 * 16 * symbolUnits (p.cfg.furrow f) ≤ p.sys.now)

/-- Training sequences received (R197, R198, R200).  A hop at a head uses one lane, so ORDER is passed over (R175). -/
def tsReceived (f : Nat) (sets : List TrainSet) (p : Part) : Part :=
  match (p.lane f).state with
  | 4 =>
    if lastSets 8 (fun x => !x.inverted) sets then toState f 6 p
    else if lastSets 8 (fun x => x.inverted) sets then
      toState f 3 (updLane f (fun l => { l with rxInv := !l.rxInv }) p)
    else if lastSets 8 (fun _ => true) sets then trainFail f 3 p
    else p
  | 6 => if lastSets 8 (fun x => x.ready) sets && readySent p f then laneEnters f p else p
  | 7 => if lastSets 2 (fun _ => true) sets then laneLeaves f 6 (laneCount f 8 p) else p
  | _ => p

def execKlinkTsReceived (t furrow : Nat) (sets : List TrainSet) (s : State) : Host.Outcome State Fault Refusal :=
  onPart (timed t (tsReceived furrow sets)) s

/-- Timer of a bring-up state (Table 7.13). -/
def trainTimer (st : Nat) : Option Nat :=
  match st with
  | 2 => some (2 * msec)
  | 3 => some (200 * usec)
  | 4 => some (100 * usec)
  | 5 => some (100 * usec)
  | 6 => some (2 * msec)
  | _ => none

def trainTimeout (f : Nat) (p : Part) : Part :=
  match (p.lane f).state with
  | 3 => toState f 2 p
  | 4 => trainFail f 3 p
  | 5 => trainFail f 3 p
  | _ => trainFail f 1 p

def execKlinkTrainTimeout (t furrow : Nat) (s : State) : Host.Outcome State Fault Refusal :=
  onPart (timed t (guarded
    (fun p => ((trainTimer (p.lane furrow).state).map fun d => decide ((p.lane furrow).since + d ≤ p.sys.now)).getD false)
    (trainTimeout furrow))) s

/-- An exit from UP with its counter, state and event (Table 7.14); each is a link error (R208). -/
def laneExit (t f idx st ev : Nat) : Part → Part :=
  timed t (guarded (laneUp f) (fun p => linkError f (laneLeaves f st (raise ev f 0 (laneCount f idx p)))))

def execKlinkLos (t furrow : Nat) (s : State) : Host.Outcome State Fault Refusal := onPart (laneExit t furrow 5 1 evKlinkLos) s
def execKlinkLol (t furrow : Nat) (s : State) : Host.Outcome State Fault Refusal := onPart (laneExit t furrow 6 2 evKlinkLol) s
def execKlinkAlignLost (t furrow : Nat) (s : State) : Host.Outcome State Fault Refusal :=
  onPart (laneExit t furrow 7 3 evKlinkAlignLost) s

/-- A lane is held OFF, or leaves OFF, as its furrow and the pixel domain say (R197, R211). -/
def laneFollows (f : Nat) (p : Part) : Part :=
  let on := (p.cfg.furrow f).enable && p.tb.rootLock && ((p.lane f).serdesOk || !(p.lane f).faulted)
  let st := (p.lane f).state
  if on && st == 0 then toState f 1 p
  else if !on && st != 0 then (if st = 7 then laneLeaves f 0 p else toState f 0 p)
  else p

/-! ### STATUS -/

/-- On time: the latch of frame N − 1 or N − 2 in the run after FE(N) (R223, R224; log entry 39). -/
def onTime (n : Nat) (latched : Word) : Bool :=
  latched == BitVec.ofInt 32 ((n : Int) - 1) || latched == BitVec.ofInt 32 ((n : Int) - 2)

/-- Byte of the eastbound receiver at a tile's W port, or of the westbound one at its E port (R210, Table 7.11). -/
def portNibbles (ports : Byte) : Nat × Nat :=
  let b := fun i => b2n (bit ports.toNat i)
  (b 0 + 2 * b 1 + 4 * b 2 + 8 * b 6, b 3 + 2 * b 4 + 4 * b 5 + 8 * b 7)

/-- A tile's PORTS go to the hops on either side of it by its hop distance; by its position where that is unknown (R182, R210). -/
def statusHops (f : Nat) (h : UpHeader) (ports : Byte) (p : Part) : Part :=
  let (w, e) := portNibbles ports
  let j := if hopBad h then h.addr else impliedPosition p f h.hop.toNat
  let p1 := setHop f (j - 1) ((p.lane f).hops.getD (j - 1) 0 / 16 * 16 + w) p
  setHop f j ((p1.lane f).hops.getD j 0 % 16 + 16 * e) p1

/-- A tile's STATUS (R195, R224, Table 5.4). -/
def tileStatus (f : Nat) (h : UpHeader) (x : TileStatus) (p : Part) : Part :=
  let pos := h.addr
  let p0 := hopCheck f h p
  let t := p0.tile f pos
  let n := p0.fr.cfn
  let late := t.inService && (!onTime n x.latched || x.flags.getLsbD 0)
  let follow := if x.follow.getLsbD 1 then none else some (x.follow.getLsbD 0)
  let moved := follow.isSome && t.followed.isSome && follow != t.followed
  let level := x.follow.toNat / 4 % 4
  let full := t.fulls.any fun c => x.latched == BitVec.ofNat 32 c
  let again := t.silent
  let p1 := if again then enumAgain f p0 else p0
  let p2 := updTile f pos (fun t => { t with
    status := some x, hdr := some h, got := true, missed := 0, silent := false, late := late
    followed := if follow.isSome then follow else t.followed
    targetSeen := t.targetSeen || (t.target.map fun g => g.1 == level).getD false
    mark := if full && x.crcFail == 0 then false else t.mark }) p1
  let p3 := tempReported f pos x.temp p2
  let p4 := if late then laneCount f 19 p3 else p3
  let p5 := if late || x.crcFail != 0 || moved then setMark f pos p4 else p4
  let p6 := if x.crcFail != 0 || x.linkErr != 0 then linkError f p5 else p5
  statusHops f h x.ports p6

def execTileStatusReceived (t furrow : Nat) (hdr : UpHeader) (status : TileStatus) (s : State) : Host.Outcome State Fault Refusal :=
  onPart (timed t (guarded
    (fun p => laneUp furrow p && hdr.endB == p.sys.endB)
    (fun p => if (p.cfg.furrow furrow).map.has hdr.addr then tileStatus furrow hdr status p else hopCheck furrow hdr p))) s

/-- The status run: one balk per position up to the highest in service; no STATUS has arrived yet (R223). -/
def statusRun (f : Nat) (p : Part) : Part :=
  let ks := (p.cfg.furrow f).map.keys
  let top := (ks.filter fun k => (p.tile f k).inService).foldl max 0
  let p1 := (List.range top).foldl (fun q _ => emit (.balk f) q) p
  updLane f (fun l => { l with statusRun := true, ackSlot := true, runDue := false })
    (ks.foldl (fun q k => updTile f k (fun t => { t with got := false }) q) p1)

def execStatusRun (t furrow : Nat) (s : State) : Host.Outcome State Fault Refusal :=
  onPart (timed t (guarded (fun p => laneUp furrow p && !(p.lane furrow).faulted && p.fr.started && maySend p) (statusRun furrow))) s

/-- Judges the status run of a furrow: each tile in service whose STATUS did not arrive; on a lane out of UP none does (R207,
R218, R224, R230). -/
def judgeRun (p : Part) (f : Nat) : Part :=
  let down := (p.cfg.furrow f).enable && !laneUp f p
  if !(p.lane f).statusRun && !down then p
  else
    let p1 := updLane f (fun l => { l with statusRun := false, runDue := false }) p
    ((p.cfg.furrow f).map.keys.filter fun k => (p.tile f k).inService && (down || !(p.tile f k).got)).foldl (fun q k =>
      setMark f k (updTile f k (fun t => { t with missed := t.missed + 1 }) (laneCount f 16 q))) p1

/-- A tile missing from three consecutive status runs is silent (R218, R233). -/
def tileLost (f pos : Nat) (p : Part) : Part :=
  let risk := powerRisk p f pos
  let p1 := raise evTileLost f pos (updTile f pos (fun t => { t with silent := true }) p)
  if risk then setUncertain f p1 else p1

def execTileLost (t furrow position : Nat) (s : State) : Host.Outcome State Fault Refusal :=
  onPart (timed t (guarded
    (fun p => let x := p.tile furrow position
      x.inService && !x.silent && decide (3 ≤ x.missed + b2n ((p.lane furrow).statusRun && !x.got)))
    (tileLost furrow position))) s

/-- Takes a tile out of service, sends CLEAR, and enumerates it again from the hop it was found at, or that its position implies
(R218). -/
def clearTile (f pos : Nat) (p : Part) : Part :=
  let hop := (p.tile f pos).hop.getD (hopOf p f pos)
  let p1 := updTile f pos (fun t => { t with inService := false, silent := false, missed := 0 }) p
  startEnum f hop (queueCtrl f { key := pos, op := 9, reply := false, payload := [], why := .clear } p1)

/-- R228: tiles in service following A, following B, without tenure, silent. -/
def tenureCounts (p : Part) : Nat × Nat × Nat × Nat :=
  let ts := (p.cfg.tiles.map fun e => p.tile e.1 e.2.1).filter (·.inService)
  let n := fun (ok : TileRt → Bool) => (ts.filter ok).length
  let none' := fun (t : TileRt) => (t.status.map fun x => x.follow.getLsbD 1).getD false
  (n fun t => !t.silent && t.status.isSome && !none' t && t.followed == some false,
   n fun t => !t.silent && t.status.isSome && !none' t && t.followed == some true,
   n fun t => !t.silent && none' t, n fun t => t.silent)

end Sys2Proof.Machine
end

