-- ==== Sys2Proof/Machine/Wire.lean ====
section
/-! DEFINITION. The downstream packets of the Kralys link as bytes (R182 to R184, R190 to R194, Tables 7.5 to 7.10): what
stands between the start symbol and EOP for each packet that a head sends. -/

namespace Sys2Proof.Machine

open Sys2Proof

/-- The common header as its sender sets it: HOP 0, HOP_N 0xFF (R182, Table 7.5). -/
def downHeader (type : Nat) (endB : Bool) (addr : Nat) : List Byte := le 1 (type + 16 * b2n endB) ++ [0, 0xFF] ++ le 1 addr

/-- A packet with its CRC, which leaves out HOP and HOP_N (R183). -/
def withLinkCrc (b : List Byte) : List Byte := b ++ le 4 (crc32 (b.take 1 ++ b.drop 3)).toNat

/-- CTRL (Table 7.10): ADDR 0 with a TARGET_HOP, or a position. -/
def ctrlBytes (endB : Bool) (addr hop flags seq op : Nat) (payload : List Byte) : List Byte :=
  withLinkCrc (downHeader 2 endB addr ++ le 1 hop ++ le 1 flags ++ le 2 seq ++ le 2 op ++ le 2 payload.length ++ payload)

/-- The bytes of a packet that this head sends on a furrow; none for what is no Kralys packet. -/
def packetBytes (endB : Bool) : Out → Option (List Byte)
  | .videoLine _ pos line x0 cfnLow px => some (withLinkCrc (downHeader 1 endB pos ++ le 2 line ++ le 2 x0 ++ le 2 px.length ++
      le 2 cfnLow.toNat ++ px.flatMap fun q => q.flatMap (le 2)))
  | .hold _ pos first count cfnLow => some (withLinkCrc (downHeader 5 endB pos ++ le 2 first ++ le 2 count ++ le 2 cfnLow.toNat ++ le 2 0))
  | .sow _ cfn => some (withLinkCrc (downHeader 3 endB 0 ++ le 6 cfn ++ le 2 0))
  | .tenure _ epoch cfnLow => some (withLinkCrc (downHeader 4 endB 0 ++ le 2 epoch.toNat ++ le 2 cfnLow.toNat))
  | .ctrl _ c => some (ctrlBytes endB (if c.hop.isSome then 0 else c.key) (c.hop.getD 0) (b2n c.resync + 4 * b2n c.reply) c.seq c.op c.payload)
  | .linkAck _ addr hop aseq => some (ctrlBytes endB addr (hop.getD 0) 2 0 0 [aseq])
  | _ => none

/-- The start symbol of each type code (Table 7.6), as its K code group: x + 32 y of Kx.y. -/
def startSymbol (type : Nat) : Nat := if type = 3 then 28 + 32 else if type = 4 then 28 + 32 * 3 else if type = 5 then 23 + 32 * 7 else 27 + 32 * 7

end Sys2Proof.Machine
end

