-- ==== Sys2Proof/Machine/Flags.lean ====
section
/-! DEFINITION. Conditions of the part that registers, heartbeats and replies show: degraded (R301), in service, partner
in service (R311), IRQ_N (R372), and the bits of the status words. -/

namespace Sys2Proof.Machine

open Sys2Proof

/-! ### Headland -/

/-- A physical pseudo-channel; channel 16k + 15 of each port starts fallow (R387). -/
def Part.pc (p : Part) (phys : Nat) : PcRt := p.fab.pcs.getD phys { state := if phys % 16 = 15 then 1 else 0 }

def updPc (phys : Nat) (f : PcRt → PcRt) (p : Part) : Part :=
  p.updFab fun b => { b with pcs := b.pcs.set phys (f (p.pc phys)) }

/-- Physical channel that serves a logical one (R387). -/
def remapOf (p : Part) (l : Nat) : Nat := p.fab.remap.getD l (16 * (l % 8) + l / 8)

/-- State of a physical pseudo-channel: 0 in service, 1 fallow, 2 being filled, 3 retired (Table 16.5). -/
def pcState (p : Part) (phys : Nat) : Nat := (p.pc phys).state

def fallowPcs (p : Part) : List Nat := (List.range 128).filter fun k => pcState p k == 1
def retiredPcs (p : Part) : List Nat := (List.range 128).filter fun k => pcState p k == 3

def unitsOf (p : Part) (k : UnitKind) : List Unit := p.hrt.units.filter fun u => u.kind == k

/-- Fallow units of a kind (Table 12.2). -/
def fallowCount (p : Part) (k : UnitKind) : Nat :=
  if k = .hbm then (fallowPcs p).length else ((unitsOf p k).filter fun u => u.state == .fallow).length

def retiredCount (p : Part) (k : UnitKind) : Nat :=
  if k = .hbm then (retiredPcs p).length else ((unitsOf p k).filter fun u => u.state == .retired).length

def allKinds : List UnitKind := [.ingest, .converter, .scaler, .lane, .hbm]

/-- Some kind of the headland is empty (R301). -/
def headlandEmpty (p : Part) : Bool :=
  allKinds.any (fun k => fallowCount p k == 0) || p.hrt.coresFallow.isEmpty || p.log.spares == 0

/-- The log runs on one bank, or on the ember log (R301, R324, R325). -/
def logDegraded (p : Part) : Bool := p.log.emberOn || p.log.failA || p.log.failB

/-- R301. -/
def degraded (p : Part) : Bool :=
  p.kl.lanes.any (fun e => e.2.faulted) || headlandEmpty p || logDegraded p || decide (p.hrt.copies < 3)

/-- OK, or DEGRADED_OK in its place (R301). -/
def okStatus (p : Part) : Nat := if degraded p then stDegradedOk else stOk

def settle (p : Part) (st : Nat) : Nat := if st = stOk then okStatus p else st

/-! ### Pair -/

def Part.pairLink (p : Part) (b : Bool) : PairLink := p.pair.links.getD (b2n b) {}

def anyLinkUp (p : Part) : Bool := (p.pairLink false).up || (p.pairLink true).up

/-- The net PAIR_TENURE read low while not driven by this head: the partner's drive (R275). -/
def partnerTenure (p : Part) : Bool := p.pair.readTenureLow && !p.pair.driveTenure
def partnerYield (p : Part) : Bool := p.pair.readYieldLow && !p.pair.driveYield

/-- A partner in service (R311): not so for a PRIMARY with no link UP and no drive of the partner on either net. -/
def partnerInService (p : Part) : Bool := !(p.pair.role == .primary && !anyLinkUp p && !partnerTenure p && !partnerYield p)

/-- This head is in service: it sends SOW, TENURE and video (R225, R278). -/
def inService (p : Part) : Bool := p.sys.ready && (p.pair.role == .primary || p.pair.role == .standby)

def roleCode : Role → Nat
  | .kindling => 0
  | .primary => 1
  | .standby => 2
  | .unsynced => 3
  | .yielding => 4

def tbCode : TbState → Nat
  | .bypass => 0
  | .search => 1
  | .freerun => 2
  | .acquire => 3
  | .locked => 4
  | .holdover => 5
  | .steered => 6

/-- PINS of the heartbeat (Table 11.6). -/
def pairPins (p : Part) : Nat :=
  packBits [p.pair.driveTenure, p.pair.readTenureLow, p.pair.driveYield, p.pair.readYieldLow, p.pair.split, p.pair.wireFault]

/-- A recovery is in progress (Tables 11.6, 16.5, R327). -/
def recovering (p : Part) : Bool := p.hrt.running.isSome || !p.hrt.queue.isEmpty || p.fab.running.isSome || p.hrt.kilnReset

/-- HEALTH of the heartbeat (Table 11.6). -/
def health (p : Part) : Nat :=
  packBits [recovering p, p.hrt.kilnReset, headlandEmpty p]

/-- TB of the heartbeat (Table 11.6). -/
def tbByte (p : Part) : Nat :=
  tbCode p.tb.state + 16 * (p.tb.slot.getD 0) + 128 * b2n p.tb.slot.isSome

/-! ### Interrupts -/

/-- EVENT_SUMMARY [11:0]: banks with an unmasked pending bit (Table 15.2). -/
def summaryBits (p : Part) : Nat := packBits ((List.range 12).map fun b => unmaskedBank b p.ev != 0)

/-- IRQ_N is driven low (R372). -/
def irqLow (p : Part) : Bool := (BitVec.ofNat 12 (summaryBits p) &&& p.ev.irqEn) != 0

/-- Code of a unit kind (R366). -/
def kindCode : UnitKind → Nat
  | .ingest => 0
  | .converter => 1
  | .scaler => 2
  | .lane => 3
  | .hbm => 4

def UnitState.serves : UnitState → Bool
  | .service _ => true
  | .fallow => false
  | .retired => false

/-- A wear trend stands past its threshold, a fault of class WEAR or MEMORY, and its unit or channel is still in service (Table
12.1; log entry 166). -/
def wearStands (p : Part) : Bool :=
  p.hrt.crossed.any fun k =>
    if k.1 = 1 then pcState p k.2.2 == 0
    else k.1 == 3 || p.hrt.units.any fun u => kindCode u.kind == k.2.1 && u.phys == k.2.2 && u.state.serves

/-- FAULT_N is driven low (R299, R407, Table 17.9). -/
def faultLow (p : Part) : Bool := decide (0 < p.sys.faults) || wearStands p || p.sys.damped || p.sys.stopped

end Sys2Proof.Machine
end

