-- ==== Sys2Proof/Machine/Replies.lean ====
section
/-! DEFINITION. Replies (R331, R333, R340) and tag memory (R341): how a reply leaves, how a final reply is owed and paid. -/

namespace Sys2Proof.Machine

open Sys2Proof

/-- The packet of a reply (R329 to R331). -/
def replyPacket (r : Reply) : List Byte :=
  let head := le 2 r.opcode ++ [r.flags, 1] ++ le 4 r.tag.toNat ++ le 2 r.params.length ++ le 2 r.status.toNat
  head ++ le 4 (crc32c (head ++ [0, 0, 0, 0] ++ r.params)).toNat ++ r.params

/-- Sends a reply: suppressed under R333, refused to a UART when 128 wait (R340). -/
def sendReply (r : Reply) (p : Part) : Part :=
  let st := r.status.toNat
  if !r.flags.getLsbD 0 && (st == stOk || st == stPending || st == stDegradedOk) then p
  else if r.uart && decide (128 ≤ p.host.replyQueue.length) then count blkHost 0 2 p
  else p.updHost fun h => { h with replyQueue := h.replyQueue ++ [r] }

def tagOf (p : Part) (tag : Word) : Option TagEntry := p.host.tags.find? fun e => e.tag == tag

def updTag (tag : Word) (f : TagEntry → TagEntry) (p : Part) : Part :=
  p.updHost fun h => { h with tags := h.tags.map fun e => if e.tag == tag then f e else e }

/-- Tag memory is kept: HBM training has ended (R344). -/
def tagsKept (p : Part) : Bool := decide (6 ≤ p.sys.step) && !p.sys.stopped

/-- Drops the oldest entry whose final reply has been computed. -/
def dropOldest : List TagEntry → List TagEntry
  | [] => []
  | e :: r => if e.reply.isSome && e.owes.isNone then r else e :: dropOldest r

/-- Records a tag; the 257th takes the place of the oldest entry that owes nothing (R341). -/
def recordTag (e : TagEntry) (p : Part) : Part :=
  if tagsKept p then
    p.updHost fun h => { h with tags := (if 256 ≤ h.tags.length then dropOldest h.tags else h.tags) ++ [e] }
  else p

/-- Commands that owe a final reply of the third kind of R341. -/
def owedOthers (p : Part) : Nat := (p.host.tags.filter fun e => e.owes == some .other).length

/-- This head sends the final reply: of commits and loads only the primary does (R120); none while the Kiln is in reset. -/
def maySendFinal (p : Part) (k : OwedKind) : Bool := !p.hrt.kilnReset && (k == .other || p.pair.role == .primary)

def entryReply (e : TagEntry) : Reply :=
  { uart := e.uart, opcode := e.opcode, flags := e.flags, tag := e.tag, status := ((e.reply.map (·.1)).getD 0),
    params := ((e.reply.map (·.2)).getD []) }

/-- Computes the final reply of a tag that owes one: it replaces the stored PENDING, and is sent or held (R120, R341). -/
def finalReply (tag : Word) (st : Nat) (params : List Byte) (p : Part) : Part :=
  match tagOf p tag with
  | some e => match e.owes with
    | some k =>
      let now := maySendFinal p k
      let e1 := { e with
        reply := some (BitVec.ofNat 16 (settle p st), params), owes := none
        held := p.hrt.kilnReset && (k == .other || p.pair.role == .primary) }
      let q := updTag tag (fun _ => e1) p
      if now then sendReply (entryReply e1) q else q
    | none => p
  | none => p

/-- Sends the final replies held back (R120, R293). -/
def sendHeld (p : Part) : Part :=
  let due := p.host.tags.filter (·.held)
  let q := p.updHost fun h => { h with tags := h.tags.map fun e => { e with held := false } }
  due.foldl (fun r e => sendReply (entryReply e) r) q

/-- A final reply of a commit or load: its commit block with what follows (R352). -/
def finalCommit (tag : Word) (st cfn : Nat) (more : List Byte) (p : Part) : Part :=
  finalReply tag st (commitBlock cfn ++ more) p

/-- A final reply with the error block (R353). -/
def finalError (tag : Word) (st : Nat) (p : Part) : Part := finalReply tag st (errorBlock noOffset 0) p

end Sys2Proof.Machine
end

