-- ==== Sys2Proof/Machine/Furrows.lean ====
section
/-! DEFINITION. Furrows at the head (chapter 8): answers of tiles and replay (R203, R204, R214, R235), furrow and map
parameters (R211 to R213), scan-out with static hold (R25 to R27, R136 to R139), and what a commit does to tiles (R218,
R231). -/

namespace Sys2Proof.Machine

open Sys2Proof

/-! ### Answers -/

/-- A final reply of TILE_CTRL: the tile's answer as it stands (R214, Table 14.12). -/
def tileCtrlDone (tag : Word) (r : Option CtrlReply) (p : Part) : Part :=
  match r with
  | some x => finalReply tag stOk (le 1 x.rstat.toNat ++ le 1 x.data.length ++ le 2 x.dwell ++ bytesAt x.data 0 12) p
  | none => finalReply tag stOk (le 4 0 ++ List.replicate 12 0) p

/-- A packet that never gets its answer (R235): a host's operation ends with TIMEOUT, a SET_LATCH leaves its tile out of
service, and a step of enumeration ends it at that hop. -/
def ctrlGone (f : Nat) (p : Part) (c : Ctrl) : Part :=
  let p1 := if c.why = .latch then updTile f c.key (fun t => { t with inService := false }) p else p
  match c.why, (p.lane f).enum.filter fun e => c.hop == some e.hop with
  | .host tag, _ => finalError tag stTimeout p
  | _, some e => enumEnd f e.found (ctrlFailed f c p1)
  | _, none => ctrlFailed f c p1

/-- A retired packet: one that asks for an answer and is retired without one counts as unanswered (log entry 41). -/
def ctrlRetired (f : Nat) (reply : Option CtrlReply) (p : Part) (c : Ctrl) : Part :=
  match c.reply, reply, c.why with
  | true, none, _ => ctrlGone f p c
  | true, some r, .host tag => tileCtrlDone tag (some r) p
  | true, some r, _ => ctrlDone f c (some r) p
  | false, _, .host tag => tileCtrlDone tag none p
  | false, _, _ => ctrlDone f c none p

/-- Packets of a tile that was found at another position get no answer any more. -/
def dropLost (f : Nat) (p : Part) : Part :=
  (p.lane f).dropped.foldl (ctrlGone f) (updLane f (fun l => { l with dropped := [] }) p)

/-- An answer with its NEXT field: retires packets, and with GAP set resends the rest; a stale one is ignored (R203, R204). -/
def answered (f : Nat) (h : UpHeader) (next : Half) (reply : Option CtrlReply) (p : Part) : Part :=
  let p0 := hopCheck f h p
  let gap := next.getLsbD 15
  let p1 := if gap then laneCount f 11 p0 else p0
  match answerKey p0 f h with
  | none => p1
  | some key =>
    let (p2, stale, done) := retire f key (next.toNat % 4096) p1
    let p3 := dropLost f (done.foldl (ctrlRetired f reply) p2)
    if gap && !stale then resendAll f key p3 else p3

def execAckReceived (t furrow : Nat) (hdr : UpHeader) (next : Half) (s : State) : Host.Outcome State Fault Refusal :=
  onPart (timed t (guarded (laneUp furrow) (answered furrow hdr next none))) s

def execCtrlReplyReceived (t furrow : Nat) (hdr : UpHeader) (reply : CtrlReply) (s : State) : Host.Outcome State Fault Refusal :=
  onPart (timed t (guarded (laneUp furrow) (answered furrow hdr reply.next (some reply)))) s

/-- A replay timer expires: what is outstanding is sent again; the eighth expiry without a retirement drops it (R204, R235). -/
def replayTimeout (f key : Nat) (p : Part) : Part :=
  let k := p.link f key
  let p1 := resendAll f key (laneCount f 13 p)
  if k.expiries + 1 < 8 then
    updLink f key (fun k => { k with expiries := k.expiries + 1, timer := some (p.sys.now + replayTime k) }) p1
  else
    let p2 := updLink f key (fun k => { k with outst := [], expiries := 0, timer := none, resync := true }) p1
    k.outst.foldl (ctrlGone f) (raise evCtrlUnreachable f 0 p2)

def execReplayTimeout (t furrow key : Nat) (s : State) : Host.Outcome State Fault Refusal :=
  onPart (timed t (guarded
    (fun p => !(p.link furrow key).outst.isEmpty && ((p.link furrow key).timer.map fun d => decide (d ≤ p.sys.now)).getD false)
    (replayTimeout furrow key))) s

/-! ### Parameters and maps -/

def parseFurrowSet (p : List Byte) : Parse ConfigCmd :=
  layout p 8 [below p 0 128, below p 1 2, below p 2 3, zeros p 3 1,
    (decide (leAt p 4 4 ≤ 600000) && leAt p 4 4 % 10 == 0, 4)]
    (.furrowSet (byteAt p 0) (byteAt p 1 == 1) (byteAt p 2) (leAt p 4 4))

def encFurrow (n : Nat) (f : FurrowCfg) : List Byte := le 1 n ++ le 1 (b2n f.enable) ++ le 1 f.rate ++ [0] ++ le 4 f.lossHoldMs

def parseLatchSet (p : List Byte) : Parse ConfigCmd := layout p 4 [within p 0 4 5 1980] (.latchSet (leAt p 0 4))

/-- A map entry: position and tile (R362). -/
def mapEntryAt (p : List Byte) (o : Nat) : Nat × TileEntry :=
  (byteAt p o, { type := byteAt p (o + 1), feeder := byteAt p (o + 2), level := byteAt p (o + 3),
                 id := BitVec.ofNat 64 (leAt p (o + 4) 8), x := leAt p (o + 12) 2, y := leAt p (o + 14) 2,
                 width := leAt p (o + 16) 2, height := leAt p (o + 18) 2 })

def encMapEntry (e : Nat × TileEntry) : List Byte :=
  le 1 e.1 ++ le 1 e.2.type ++ le 1 e.2.feeder ++ le 1 e.2.level ++ le 8 e.2.id.toNat ++ le 2 e.2.x ++ le 2 e.2.y ++
    le 2 e.2.width ++ le 2 e.2.height

/-- Checks of the entry at offset `o`; `earlier` are the positions before it (Table 14.12). -/
def mapEntryChecks (p : List Byte) (o : Nat) (merge : Bool) (earlier : List Nat) : List (Bool × Nat) :=
  let e := mapEntryAt p o
  let pos := [(e.1 != 0 && !earlier.contains e.1, o)]
  if merge && e.2.id == 0 then pos
  else pos ++ [below p (o + 1) 64, below p (o + 2) 64, below p (o + 3) 2,
    (e.2.id != 0 && e.2.id != BitVec.allOnes 64, o + 4), within p (o + 16) 2 1 4096, within p (o + 18) 2 1 4096]

def parseTilemapSet (p : List Byte) : Parse ConfigCmd :=
  let n := byteAt p 2
  let off := fun (i : Nat) => 4 + 20 * i
  let pos := fun (i : Nat) => byteAt p (off i)
  layout p (4 + 20 * n) ([below p 0 128, below p 1 2, within p 2 1 0 203, zeros p 3 1] ++
      (List.range n).flatMap fun i => mapEntryChecks p (off i) (byteAt p 1 == 1) ((List.range i).map pos))
    (.tilemapSet (byteAt p 0) (byteAt p 1 == 1) ((List.range n).map fun i => mapEntryAt p (off i)))

def parseTileLevel (p : List Byte) : Parse ConfigCmd :=
  let n := byteAt p 2
  layout p (4 + roundUp n 4) ([below p 0 128, below p 1 2, zeros p 3 1] ++
      ((List.range n).map fun i => (byteAt p (4 + i) != 0, 4 + i)) ++ [zeros p (4 + n) (roundUp n 4 - n)])
    (.tileLevel (byteAt p 0) (byteAt p 1) ((List.range n).map fun i => byteAt p (4 + i)))

/-- The map after a TILEMAP_SET; none where it deletes an absent entry. -/
def mapAfter (merge : Bool) (m : Tab TileEntry) (es : List (Nat × TileEntry)) : Option (Tab TileEntry) :=
  es.foldl (fun acc e => acc.bind fun m =>
    if merge && e.2.id == 0 then (if m.has e.1 then some (m.erase e.1) else none) else some (m.set e.1 e.2))
    (some (if merge then m else []))

/-- The map after a TILE_LEVEL; none where a position has no entry (R231). -/
def levelAfter (level : Nat) (positions : List Nat) (m : Tab TileEntry) : Option (Tab TileEntry) :=
  (if positions.isEmpty then m.keys else positions).foldl (fun acc k => acc.bind fun m =>
    (m.get? k).map fun e => m.set k { e with level := level }) (some m)

def Cfg.setFurrow (c : Cfg) (f : Nat) (g : FurrowCfg → FurrowCfg) : Cfg := { c with furrows := c.furrows.upd f {} g }

/-! ### Limits -/

def tileInside (v : CanvasCfg) (e : TileEntry) : Bool := decide (e.x + e.width ≤ v.w) && decide (e.y + e.height ≤ v.h)

def tilesOverlap (a b : TileEntry) : Bool :=
  decide (a.x < b.x + b.width) && decide (b.x < a.x + a.width) && decide (a.y < b.y + b.height) && decide (b.y < a.y + a.height)

/-- No two entries overlap (R213). -/
def tilesDisjoint : List TileEntry → Bool
  | [] => true
  | e :: r => !r.any (tilesOverlap e) && tilesDisjoint r

/-- Symbols of some lines of a tile, and of one frame's lines (R187). -/
def segmentSymbols (e : TileEntry) (lines : Nat) : Nat := lines * (19 * ceilDiv e.width 640 + 6 * e.width)

def furrowSymbols (f : FurrowCfg) : Nat := (f.map.map fun e => segmentSymbols e.2 e.2.height).sum

/-- The lines fit the scan window of the shortest frame absorption can give (R25, R131, R187). -/
def windowFits (v : CanvasCfg) (f : FurrowCfg) : Bool :=
  let vt := v.h + v.vb
  let window : Int := (sec * v.rateDen * (vt - v.va) : Nat) - ((v.scanLead + 50) * usec * v.rateNum * vt : Nat)
  decide (((furrowSymbols f * symbolUnits f * 409600 * v.rateNum * vt : Nat) : Int) ≤ window * (4030 * 98))

/-- Furrow limits of a commit's result (R211, R213). -/
def furrowLimits (c : Cfg) : List Limit :=
  let es := c.tiles.map fun e => e.2.2
  [(decide (c.canvas.scanLead < c.latchUs + 20), stConflict, [.latch, .canvas]),
   (!es.all (tileInside c.canvas), stConflict, [.tileMap, .canvas]),
   (!tilesDisjoint es, stConflict, [.tileMap]),
   (!noRepeats (es.map fun e => e.id.toNat), stConflict, [.tileMap]),
   (c.furrows.any (fun e => e.2.enable && !windowFits c.canvas e.2), stConflict, [.tileMap, .furrows, .canvas])]

/-! ### Scan-out -/

/-- The tile's lines that lie in band `b`: first and count (R136). -/
def segmentOf (c : CanvasCfg) (e : TileEntry) (b : Nat) : Nat × Nat :=
  let lo := max e.y (16 * b)
  let hi := min (e.y + e.height) (16 * b + bandLines c b)
  (lo - e.y, hi - lo)

/-- A furrow's segments in canvas order, for the tiles this head serves in frame `n` (R25, R217). -/
def segmentsOf (p : Part) (f : Nat) : List ScanItem :=
  let served := (p.cfg.furrow f).map.filter fun e => (p.tile f e.1).inService && decide ((p.tile f e.1).serveFrom ≤ p.fr.cfn)
  (List.range (bandCount p.cfg.canvas)).flatMap fun b => served.filterMap fun e =>
    let (first, n) := segmentOf p.cfg.canvas e.2 b
    if n = 0 then none else some { band := b, position := e.1, first := first, count := n }

/-- Frame `n` is a forced refresh of a furrow (R138). -/
def forcedRefresh (p : Part) (f : Nat) : Bool :=
  let h := p.cfg.hold
  p.fr.cfn % framesOf p.cfg.canvas h.refreshMs == 0 || (inError p f && p.fr.cfn % h.errorRefresh == 0)

/-- Every plot that a tile's part of band `b` meets is static (R135, R136). -/
def segmentStatic (p : Part) (e : TileEntry) (b : Nat) : Bool :=
  let counts := p.comp.stills.getD b []
  (List.range (plotCount p.cfg.canvas)).all fun k =>
    !(decide (e.x < 512 * (k + 1)) && decide (512 * k < e.x + e.width)) || decide (p.cfg.hold.still ≤ counts.getD k 0)

/-- Close of the scan window: 50 µs before the next frame event of the raster (R25). -/
def scanCloseAt (p : Part) : Nat := feInstant p (nextCfn p) - 50 * usec

/-- The segment goes out as HOLD because nothing in it has changed (R136). -/
def segmentHeld (p : Part) (f : Nat) (e : TileEntry) (x : ScanItem) : Bool :=
  p.cfg.hold.enable && segmentStatic p e x.band && !forcedRefresh p f && !(p.tile f x.position).mark

/-- What `n` symbols take on furrow `f`, with the balks between them (R186, R187). -/
def symbolTime (p : Part) (f n : Nat) : Nat := n * symbolUnits (p.cfg.furrow f) * 4096 / 4030

/-- What the generator does with the segment it comes to: `waits` for its instant or its band, `ends` where the window
closes before its last symbol. -/
inductive Sending where
  | full
  | held
  | late
  | waits
  | ends
  deriving DecidableEq, Repr

/-- What becomes of the next segment of furrow `f` up to instant `lim`, and when the generator has passed it (R25, R26, R27,
R136; log entry 42). A band composed before the generator comes to it is sent; in low-latency mode the generator follows
composition (R30). -/
def sendingOf (p : Part) (f lim : Nat) (x : ScanItem) : Sending × Nat :=
  let l := p.lane f
  let from' := if p.comp.lowlat then max l.scanAt p.sys.now else l.scanAt
  let hold := from' + symbolTime p f 19
  match (p.cfg.furrow f).map.get? x.position with
  | none => (.held, from')
  | some e =>
    let held := segmentHeld p f e x
    let next := if held then hold else from' + symbolTime p f (segmentSymbols e x.count)
    if !p.comp.done.contains x.band then
      if p.comp.lowlat || decide (lim ≤ l.scanAt) then (.waits, from')
      else if scanCloseAt p < hold then (.ends, from') else (.late, hold)
    else if scanCloseAt p < next then (.ends, from')
    else if held then (.held, next) else (.full, next)

/-- Cuts a line into VIDEO_LINE packets of at most 640 pixels (R190). -/
def chunks : Nat → Nat → List (List Nat) → List (Nat × List (List Nat))
  | 0, _, _ => []
  | n + 1, x0, l => if l.isEmpty then [] else (x0, l.take 640) :: chunks n (x0 + 640) (l.drop 640)

def cfnLow (n : Nat) : Half := BitVec.ofNat 16 n

/-- Sends one line of a tile (R190). -/
def sendLine (hbm : Memory) (f pos : Nat) (e : TileEntry) (p : Part) (line : Nat) : Part :=
  let px := (tileLine p hbm p.fr.cfn f pos e line).map (·.q)
  (chunks (px.length + 1) 0 px).foldl (fun q c =>
    perfSignal 4 0x10 f 1 (emit (.videoLine f pos line c.1 (cfnLow p.fr.cfn) c.2) q)) p

def sendHold (f : Nat) (p : Part) (x : ScanItem) : Part :=
  perfSignal 4 0x11 f 1 (emit (.hold f x.position x.first x.count (cfnLow p.fr.cfn)) p)

/-- A tile whose resend mark stands and whose segments all went out in full: the frame may clear the mark (R137). -/
def markSent (f n : Nat) (full : List Nat) (p : Part) : Part :=
  full.foldl (fun q k => updTile f k (fun t => if t.mark then { t with fulls := (n :: t.fulls).take 4 } else t) q) p

/-- A generator came to a band that is not composed: counted once a frame, the band's checksum unavailable (R26). -/
def bandLate (b : Nat) (p : Part) : Part :=
  if p.comp.late.contains b then p
  else (count blkComp 0 0 p).updComp fun c => { c with
    late := b :: c.late, noSum := if c.noSum.contains b then c.noSum else b :: c.noSum }

/-- The generator has passed a segment; one not sent in full takes its tile out of those sent in full. -/
def passed (f next : Nat) (full : Bool) (x : ScanItem) (p : Part) : Part :=
  updLane f (fun l => { l with scanAt := next, allFull := if full then l.allFull else l.allFull.filter (· != x.position) }) p

/-- The lines of one segment in full (R190). -/
def sendFull (hbm : Memory) (f : Nat) (x : ScanItem) (p : Part) : Part :=
  match (p.cfg.furrow f).map.get? x.position with
  | some e => ((List.range x.count).map (x.first + ·)).foldl (sendLine hbm f x.position e) p
  | none => p

/-- Furrow `f` sends what its generator comes to up to instant `lim` (R25, R26, R136). -/
def scanLane (hbm : Memory) (f lim : Nat) : List ScanItem → Part → Part
  | [], p =>
    let l := p.lane f
    updLane f (fun l => { l with scan := [] }) (if l.left.isEmpty then markSent f p.fr.cfn l.allFull p else p)
  | x :: rest, p =>
    match sendingOf p f lim x with
    | (.full, next) => scanLane hbm f lim rest (passed f next true x (sendFull hbm f x p))
    | (.held, next) => scanLane hbm f lim rest (passed f next false x (countBy blkKlink f 18 x.count (sendHold f p x)))
    | (.late, next) => scanLane hbm f lim rest (passed f next false x (sendHold f (bandLate x.band p) x))
    | (_, _) => updLane f (fun l => { l with scan := x :: rest }) p

/-- Every generator goes on up to instant `lim`; a lane that is not UP, or a head that is not in service, sends nothing more. -/
def scanTo (hbm : Memory) (lim : Nat) (p : Part) : Part :=
  (p.kl.lanes.filter fun e => !e.2.scan.isEmpty).foldl (fun q e =>
    if inService q && (q.lane e.1).state == 7 then scanLane hbm e.1 lim e.2.scan q
    else updLane e.1 (fun l => { l with scan := [], left := [] }) q) p

/-- The window opens for furrow `f`: `short` names how many segments its generator reaches, where not all (R27). -/
def scanStart (short : List (Nat × Nat)) (p : Part) (f : Nat) : Part :=
  if (p.lane f).state ≠ 7 then p
  else
    let all := segmentsOf p f
    let sent := match short.find? fun e => e.1 == f with
      | some e => min e.2 all.length
      | none => all.length
    updLane f (fun l => { l with
      scan := all.take sent, left := all.drop sent, scanAt := p.sys.now
      allFull := (all.map (·.position)).eraseDups }) p

/-- Furrows that this head scans out. -/
def scannedFurrows (p : Part) : List Nat := p.cfg.furrows.keys.filter (scanned p)

/-- The light stage takes every pixel of every tile that is scanned out, once a frame: the sums of the feeder estimates, then the ledger
updates that are due (R139, R161, R172). -/
def lightStage (s : Both) : Both :=
  let (p, hbm) := s
  if !p.light.scanned || p.light.taken then s
  else
    let q := p.updLight fun l => { l with
      taken := true
      sums := p.cfg.tiles.foldl (fun m e => m.set (tileKey e.1 e.2.1)
        (if scanned p e.1 then tileSums p hbm p.fr.cfn e.1 e.2.1 e.2.2 else [0, 0, 0, 0, 0, 0])) [] }
    ledgerUpdates p.fr.cfn (q, hbm)

/-- A step frame: HOLD with ADDR 0 for every line of every tile, and no light-stage work (R130, R192). -/
def scanStepFrame (p : Part) : Part :=
  if inService p then
    (scannedFurrows p).foldl (fun q f => if (q.lane f).state = 7 then sendHold f q ⟨0, 0, 0, 0⟩ else q) p
  else p

/-- Scan-out goes on after a change of what is composed; with every band composed the light stage takes the frame. -/
def scanOn (s : Both) : Both :=
  let (p, hbm) := s
  let q := scanTo hbm p.sys.now p
  if q.comp.done.length = bandCount q.cfg.canvas then lightStage (q, hbm) else (q, hbm)

/-- The scan window opens (R25): scan-out of the present frame. -/
def scanOpen (short : List (Nat × Nat)) (s : Both) : Both :=
  let (p, hbm) := s
  let p1 := ((p.cfg.furrows.keys).foldl judgeRun p).updLight fun l => { l with opened := true }
  if p1.fr.stepFrame then (scanStepFrame p1, hbm)
  else
    let p2 := p1.updLight fun l => { l with scanned := true }
    scanOn (if inService p2 then (scannedFurrows p2).foldl (scanStart short) p2 else p2, hbm)

def scanOpenGuard (p : Part) : Bool :=
  p.fr.started && !p.fr.first && p.tb.rootLock && !p.light.opened && decide (p.fr.lastFe + p.cfg.canvas.scanLead * usec ≤ p.sys.now) &&
    decide (p.sys.now < scanCloseAt p)

def scanWindowOpen (t : Nat) (short : List (Nat × Nat)) (s : State) : State :=
  if s.m.alive then
    let p := advance t s.m
    if scanOpenGuard p then
      let r := scanOpen short (p, s.hbm)
      { s with m := r.1, hbm := r.2 }
    else { s with m := p }
  else s

def execScanWindowOpen (t : Nat) (short : List (Nat × Nat)) (s : State) : Host.Outcome State Fault Refusal :=
  .next (scanWindowOpen t short s)

/-- Lines not sent at the close of the window go out as HOLD; SCAN_LATE for that furrow (R27). -/
def scanLeft (p : Part) : Part :=
  (p.kl.lanes.filter fun e => !(e.2.scan ++ e.2.left).isEmpty).foldl (fun q e =>
    updLane e.1 (fun l => { l with scan := [], left := [] }) (laneCount e.1 17 ((e.2.scan ++ e.2.left).foldl (sendHold e.1) q))) p

/-- The close of the window: the generators stop where they stand (R27). -/
def scanClose (hbm : Memory) (p : Part) : Part :=
  let q := scanTo hbm (scanCloseAt p) p
  if inService q then scanLeft q else q.updKl fun k => { k with lanes := k.lanes.mapVals fun _ l => { l with scan := [], left := [] } }

def execScanWindowClose (t : Nat) (s : State) : Host.Outcome State Fault Refusal :=
  onPartMem (fun hbm _ => timed t (guarded (fun p => p.light.opened && decide (scanCloseAt p ≤ p.sys.now)) (scanClose hbm))) s

/-- The last slice finishes the frame: the feeder estimates are complete (R172). -/
def estimatesDone (s : Both) : Both :=
  let r := lightStage s
  (feedersDone r.1, r.2)

def execFeederEstimateDone (t : Nat) (s : State) : Host.Outcome State Fault Refusal :=
  if s.m.alive then
    let p := advance t s.m
    if p.light.scanned then
      let r := estimatesDone (scanTo s.hbm t p, s.hbm)
      .next { s with m := r.1, hbm := r.2 }
    else .next { s with m := p }
  else .next s

/-! ### What a commit does to furrows and tiles -/

/-- Sends SET_LOSS again to the tiles in service of a furrow. -/
def resendLoss (f : Nat) (p : Part) : Part :=
  let c := p.cfg.furrow f
  (c.map.keys.filter fun k => (p.tile f k).inService).foldl (fun q k => queueCtrl f (lossCtrl k c.lossHoldMs none) q) p

/-- A tile's map entry before and after a commit (R218, R231): a changed level starts a power step; any other change takes the
tile out of service and enumerates it again. -/
def entryApplied (fe f : Nat) (old new : Tab TileEntry) (p : Part) (pos : Nat) : Part :=
  match old.get? pos, new.get? pos with
  | some a, some b =>
    let q := if a.level = b.level then p else beginStep f pos b.level p.fr.cfn (some (fe + 40 * msec)) p
    if { a with level := b.level } = b then q else clearTile f pos q
  | some _, none => clearTile f pos p
  | none, some _ => setMark f pos (startEnum f (firstOutHop p f) p)
  | none, none => p

/-- A furrow's parameters and map before and after a commit (R211, R218); `p` holds the new configuration. -/
def furrowApplied (fe : Nat) (old : Cfg) (p : Part) (f : Nat) : Part :=
  let a := old.furrow f
  let b := p.cfg.furrow f
  if a = b then p
  else
    let p1 := if a.rate ≠ b.rate ∧ (p.lane f).state ≠ 0 then
        (if (p.lane f).state = 7 then laneLeaves f 1 p else toState f 1 p) else p
    let p2 := if a.map = b.map then p1
      else ((a.map.keys ++ b.map.keys).eraseDups).foldl (entryApplied fe f a.map b.map) p1
    let p3 := if a.lossHoldMs = b.lossHoldMs then p2 else resendLoss f p2
    laneFollows f p3

/-- POWER_STEP to every tile whose level a sealed commit changes and that this head has found; `old` and `new` are maps (R231). -/
def sendPowerSteps (apply f : Nat) (old new : Tab TileEntry) (p : Part) : Part :=
  if !maySend p then p
  else new.foldl (fun q e => match old.get? e.1 with
    | some a => if a.level ≠ e.2.level ∧ ((q.tile f e.1).inService ∨ (q.tile f e.1).hop.isSome) then
        queueCtrl f (powerStepCtrl e.1 e.2.level apply) q else q
    | none => q) p

/-! ### Replies -/

/-- R228 for one furrow. -/
def furrowTenure (p : Part) (f : Nat) : List Nat :=
  let ts := ((p.cfg.furrow f).map.keys.map (p.tile f)).filter (·.inService)
  let n := fun (ok : TileRt → Bool) => (ts.filter ok).length
  let lost := fun (t : TileRt) => (t.status.map fun x => x.follow.getLsbD 1).getD false
  [n fun t => !t.silent && t.status.isSome && !lost t && t.followed == some false,
   n fun t => !t.silent && t.status.isSome && !lost t && t.followed == some true,
   n fun t => !t.silent && lost t, n fun t => t.silent]

/-- FURROW_STATUS (Table 14.12). -/
def furrowStatusBytes (p : Part) (f : Nat) : List Byte :=
  let l := p.lane f
  let served := ((p.cfg.furrow f).map.keys.filter fun k => (p.tile f k).inService).length
  le 1 (packBits [(p.cfg.furrow f).enable, l.state == 7, isFolded p f, isClosed p f, l.faulted, l.pwrUnc, inError p f]) ++
    le 1 l.state ++ le 1 served ++ le 1 l.found ++ (furrowTenure p f).flatMap (le 1) ++ le 4 0 ++
    (List.range 256).map fun j => BitVec.ofNat 8 (l.hops.getD j 0)

/-- The STATUS packet as received, offsets 0 to 21 of Table 7.11 with its CRC (R183). -/
def statusBytes (h : UpHeader) (x : TileStatus) : List Byte :=
  let type := le 1 (8 + 16 * b2n h.endB)
  let body := le 1 h.addr ++ le 4 x.latched.toNat ++ le 2 x.temp.toNat ++ le 2 x.epoch.toNat ++
    [x.follow, x.ports, x.crcFail, x.missing, x.linkErr, x.flags]
  type ++ [h.hop, h.hopN] ++ body ++ le 4 (crc32 (type ++ body)).toNat

/-- TILE_STATUS (Table 14.12). -/
def tileStatusBytes (p : Part) (f pos : Nat) : List Byte :=
  let t := p.tile f pos
  le 1 (packBits [t.inService, t.silent, t.late, t.mark, t.ta.isNone]) ++ le 1 t.supply ++
    leInt 2 (t.ta.getD (-32768)) ++ le 4 t.latchPs ++ le 4 (p.link f pos).r ++
    match t.hdr, t.status with
    | some h, some x => statusBytes h x
    | _, _ => List.replicate 22 0

end Sys2Proof.Machine
end

