-- ==== Sys2Proof/Machine/Audio.lean ====
section
/-! DEFINITION. The audio block (chapter 9): parameters and limits (R238, R241), buffers (R239), scaling (R240), I²S FIFOs
(R243, R244), silent changes (R245, R246), slip and re-centring (R247, R248), delay matching (R249, R250), loss (R251). -/

namespace Sys2Proof.Machine

open Sys2Proof

/-! ### Layouts -/

def chanSourceAt (p : List Byte) : ChanSource :=
  match byteAt p 1 with
  | 1 => .sdi (byteAt p 2) (byteAt p 3)
  | 2 => .flow (byteAt p 2) (byteAt p 3)
  | 3 => .i2s (byteAt p 2) (byteAt p 3 == 1)
  | _ => .silence

def chanSourceChecks (p : List Byte) : List (Bool × Nat) :=
  match byteAt p 1 with
  | 1 => [below p 2 48, within p 3 1 1 32]
  | 2 => [below p 2 64, within p 3 1 1 8]
  | 3 => [below p 2 16, below p 3 2]
  | _ => []

def parseAudChan (p : List Byte) : Parse ConfigCmd :=
  layout p 40 ([below p 1 4] ++ chanSourceChecks p ++ [below p 6 2, below p 7 2, withinInt p 8 4 (-96000) 384000,
      (decide (byteAt p 12 < 48) || byteAt p 12 == 0xFF, 12), zeros p 13 3])
    (.audChan (byteAt p 0) { source := chanSourceAt p, gain := leAt p 4 2, invert := byteAt p 6 == 1, host := byteAt p 7 == 1,
                             delay := leIntAt p 8 4, follow := noneByte (byteAt p 12), status := bytesAt p 16 24 })

def encChanSource : ChanSource → List Byte
  | .silence => [0, 0, 0]
  | .sdi n c => le 1 1 ++ le 1 n ++ le 1 c
  | .flow n c => le 1 2 ++ le 1 n ++ le 1 c
  | .i2s n r => le 1 3 ++ le 1 n ++ le 1 (b2n r)

def encChan (n : Nat) (c : ChanCfg) : List Byte :=
  le 1 n ++ encChanSource c.source ++ le 2 c.gain ++ le 1 (b2n c.invert) ++ le 1 (b2n c.host) ++ leInt 4 c.delay ++
    encNoneByte c.follow ++ [0, 0, 0] ++ padTo 24 c.status

def parseAudPort (p : List Byte) : Parse ConfigCmd :=
  let sw := [16, 24, 32].getD (byteAt p 5) 0
  layout p 12 [below p 0 16, below p 1 3, (decide (byteAt p 2 < 2) && !(byteAt p 2 == 1 && byteAt p 1 == 2), 2), below p 3 7,
      below p 4 4, below p 5 3, (decide (byteAt p 6 < 4) && decide ([16, 20, 24, 32].getD (byteAt p 6) 0 ≤ sw), 6),
      below p 7 2, below p 10 4, below p 11 2]
    (.audPort (byteAt p 0)
      { direction := byteAt p 1, slave := byteAt p 2 == 1, rate := byteAt p 3, mclk := byteAt p 4
        slotWidth := byteAt p 5, sampleWidth := byteAt p 6, sideBits := byteAt p 7 == 1
        left := if bit (byteAt p 10) 0 then none else some (byteAt p 8)
        right := if bit (byteAt p 10) 1 then none else some (byteAt p 9), autoRestart := byteAt p 11 == 1 })

def encPort (n : Nat) (c : PortCfg) : List Byte :=
  [n, c.direction, b2n c.slave, c.rate, c.mclk, c.slotWidth, c.sampleWidth, b2n c.sideBits, c.left.getD 0, c.right.getD 0,
   packBits [c.left.isNone, c.right.isNone], b2n c.autoRestart].map (BitVec.ofNat 8 ·)

def parseAudMclk (p : List Byte) : Parse ConfigCmd :=
  layout p 8 [below p 0 4, zeros p 1 3, within p 4 4 2048000 49152000] (.audMclk (byteAt p 0) (leAt p 4 4))

def parseAudZc (p : List Byte) : Parse ConfigCmd := layout p 4 [within p 0 1 1 100, zeros p 1 3] (.audZc (byteAt p 0))

/-! ### Rates and limits -/

/-- Sample rates of Table 9.4 in Hz. -/
def fsOf (code : Nat) : Nat := [32000, 44100, 48000, 88200, 96000, 176400, 192000].getD code 48000

def Cfg.port (c : Cfg) (n : Nat) : PortCfg := c.ports.getD n {}
def Cfg.chan (c : Cfg) (n : Nat) : ChanCfg := c.chans.getD n {}
def Cfg.mclkHz (c : Cfg) (n : Nat) : Nat := c.mclk.getD n 12288000

/-- The rate of a source (R238). -/
def sourceRate (c : Cfg) : ChanSource → Nat
  | .i2s n _ => fsOf (c.port n).rate
  | _ => 48000

/-- The master clock divides to the port's rate (R241). -/
def clockDivides (c : Cfg) (x : PortCfg) : Bool :=
  let d := fsOf x.rate * 2 * [16, 24, 32].getD x.slotWidth 32
  let m := c.mclkHz x.mclk
  m % d == 0 && decide (1 ≤ m / d) && decide (m / d ≤ 64)

/-- Audio limits of a commit's result (R241): over every port that a command has set (log entry 43). -/
def audioLimits (c : Cfg) : List Limit :=
  let on := fun (bad : PortCfg → Bool) => c.ports.any fun e => bad e.2
  [(on fun x => !clockDivides c x, stConflict, [.audio]),
   (on fun x => x.direction == 2 && ([x.left, x.right].filterMap id).any fun k => sourceRate c (c.chan k).source != fsOf x.rate,
     stConflict, [.audio]),
   (on fun x => x.sideBits && !(x.slotWidth == 2 && decide (x.sampleWidth ≤ 2)), stConflict, [.audio])]

/-! ### Channels -/

def Part.chan (p : Part) (k : Nat) : Chan := p.aud.chans.getD k {}
def Part.audPort (p : Part) (n : Nat) : AudPort := p.aud.ports.getD n {}
def updChan (k : Nat) (f : Chan → Chan) (p : Part) : Part := p.updAud fun a => { a with chans := a.chans.upd k {} f }
def updAudPort (n : Nat) (f : AudPort → AudPort) (p : Part) : Part := p.updAud fun a => { a with ports := a.ports.upd n {} f }

/-- The number of a clock domain (log entry 44). -/
def domKey : AudDomain → Nat
  | .sdi n => n
  | .flow n => 64 + n
  | .i2s n => 128 + n

def Part.dom (p : Part) (d : Nat) : AudDom := p.aud.doms.getD d {}
def updDom (d : Nat) (f : AudDom → AudDom) (p : Part) : Part := p.updAud fun a => { a with doms := a.doms.upd d {} f }

/-- The domain of a source, and its channel in it. -/
def sourceDom : ChanSource → Option (Nat × Nat)
  | .silence => none
  | .sdi n c => some (n, c)
  | .flow n c => some (64 + n, c)
  | .i2s n r => some (128 + n, b2n r)

/-- The side word of a sample the part supplies bits for, at frame `f` of its block (R239, Table 9.3). -/
def hostSide (status : List Byte) (f : Nat) (nonPcm : Bool) : Nat :=
  packBits [false, false, bit (byteAt status (f / 8)) (f % 8), f == 0, false, nonPcm]

/-- The side word of a sample that keeps its own bits. -/
def ownSide (x : AudSample) (nonPcm : Bool) : Nat := packBits [x.v, x.u, x.c, x.b, false, nonPcm]

/-- A sample keeps its own AES3 bits: channel status SOURCE and a source that carries them (R237, R239, R242). -/
def keepsBits (c : Cfg) (k : Nat) : Bool :=
  !(c.chan k).host && match (c.chan k).source with
    | .sdi _ _ => true
    | .i2s n _ => (c.port n).sideBits
    | _ => false

/-- The slot that advances a channel: the first running one that carries it (log entry 46). -/
def leadSlot (p : Part) (k : Nat) : Option (Nat × Bool) :=
  let has := fun (s : AudSlot) => s.cur == some k || (s.change.map fun c => c.next == some k).getD false
  (p.aud.ports.filter fun e => e.2.running).findSome? fun e =>
    if has e.2.left then some (e.1, false) else if has e.2.right then some (e.1, true) else none

/-- OUT ports that carry one of these router channels, in play or coming. -/
def carriers (p : Part) (ks : List Nat) : List Nat :=
  (p.aud.ports.filter fun e => e.2.running && [e.2.left, e.2.right].any fun s =>
    ks.any fun k => s.cur == some k || (s.change.map fun c => c.next == some k).getD false).map (·.1)

/-- Counts an audio counter once for every port that carries one of the channels: 1 SLIP_DROP, 2 SLIP_REPEAT, 3 ZC_TIMEOUT,
4 RECENTRE. -/
def countCarriers (ks : List Nat) (idx : Nat) (p : Part) : Part := (carriers p ks).foldl (fun q n => count blkAudio n idx q) p

/-! ### Samples in -/

/-- Writes one sample, or a zero marked MUTED, into a content's buffer at position `wr`, dropping the entry 384,000 behind it;
NONPCM is that of the last block that was taken whole (R239, Table 9.3). -/
def writeSample (own muted : Bool) (status : List Byte) (readPos : Int) (delay : Nat) (x : AudSample) (c : Content) : Content :=
  let wr := if c.endAt.isSome && c.backAt.isNone then max c.wr (readPos + delay).toNat else c.wr
  let starts := if own then x.b else c.frame.isNone || c.frame == some 191
  let frame := if starts then some 0 else c.frame.map (· + 1)
  let nonPcm := if starts && c.frame == some 191 then c.c1 else c.nonPcm
  let side := if muted then 16 else if own then ownSide x nonPcm else hostSide status (frame.getD 0) nonPcm
  { c with
    buf := (c.buf.erase (wr - 384000)).set wr (if muted then 0 else x.value, side)
    wr := wr + 1
    frame := frame
    c1 := if frame = some 1 then (if own then x.c else bit (byteAt status 0) 1) else c.c1
    nonPcm := nonPcm
    lost := false
    backAt := if c.endAt.isSome && c.backAt.isNone then some wr else c.backAt }

/-- A sample reaches router channel `k` from domain `d`; a channel that no output slot carries keeps its read position at the
total delay (R240, R247). -/
def chanTakes (muted : Bool) (d channel : Nat) (x : AudSample) (p : Part) (k : Nat) : Part :=
  let own := keepsBits p.cfg k
  let status := (p.cfg.chan k).status
  let carried := (leadSlot p k).isSome
  updChan k (fun c =>
    let hit := sourceDom c.cur.source = some (d, channel)
    let cur := if hit then writeSample own muted status c.pos c.delay x c.cur else c.cur
    let silent := c.silent.map fun s => match s.next with
      | some n => if sourceDom n.source = some (d, channel) then { s with next := some (writeSample own muted status s.pos s.delay x n) } else s
      | none => s
    if hit ∧ carried = false ∧ c.silent = none then { c with cur := cur, pos := (cur.wr : Int) - c.delay, fill := 0, errRun := 0 }
    else { c with cur := cur, silent := silent }) p

/-- Channels that carry a domain, in play or coming. -/
def chansOf (p : Part) (d : Nat) : List Nat :=
  p.aud.chans.keys.filter fun k => ((sourceDom (p.chan k).cur.source).map (·.1)) == some d

/-- A zero crossing (R245). -/
def crossing (prev v : Int) : Bool := v == 0 || decide (prev < 0) != decide (v < 0)

/-- A zero crossing of content whose sample before may be none: its first sample crosses only where it is 0. -/
def crossingFrom (prev : Option Int) (v : Int) : Bool := prev.elim (v == 0) fun q => crossing q v

/-- Where a lost content ends: its last zero crossing within the timeout before the loss point, else the loss point. -/
def lossEnd (zcSamples : Nat) (c : Content) : Nat × Bool :=
  let v := fun (q : Nat) => ((c.buf.get? q).map (·.1)).getD 0
  match (List.range (min zcSamples 20000)).find? fun i => c.buf.has (c.wr - 1 - i) &&
      crossing (v (c.wr - 2 - i)) (v (c.wr - 1 - i)) with
  | some i => (c.wr - 1 - i, true)
  | none => (c.wr - 1, false)

/-- A channel is lost: it ends at its last zero crossing within the timeout, else at the loss point; where the output has reached
that point already, ZC_TIMEOUT is counted here (R251). -/
def endChan (p : Part) (k : Nat) : Part :=
  let c := p.chan k
  let e := lossEnd (p.cfg.zcMs * sourceRate p.cfg c.cur.source / 1000) c.cur
  let q := updChan k (fun c => { c with cur := { c.cur with lost := true, endAt := some e, backAt := none } }) p
  if c.muted && !e.2 then countCarriers [k] 3 q else q

/-- Channels of a domain are lost: AUD_SOURCE_LOST once until the domain is whole again (R251). -/
def chansLost (d : Nat) (ks : List Nat) (p : Part) : Part :=
  let q := ks.foldl endChan p
  if ks.isEmpty then p
  else if (p.dom d).lost then q
  else raise evAudSourceLost d 0 (updDom d (fun m => { m with lost := true }) q)

/-- A sample in a format outside Table 9.1 loses its channel (R237, R251). -/
def channelLost (d channel : Nat) (p : Part) : Part :=
  chansLost d (p.aud.chans.keys.filter fun k => sourceDom (p.chan k).cur.source == some (d, channel) && !(p.chan k).cur.lost) p

/-- No channel of the domain is lost any more: AUD_SOURCE_RESTORED, once (R251). -/
def domainBack (d : Nat) (p : Part) : Part :=
  if (p.dom d).lost && !(chansOf p d).any fun k => (p.chan k).cur.lost then
    raise evAudSourceRestored d 0 (updDom d (fun m => { m with lost := false }) p)
  else p

/-- A fault swap of the ingest unit of an SDI source runs: its samples are written as zeros marked MUTED (Table 12.2). -/
def ingestSwapping (p : Part) (d : Nat) : Bool :=
  (p.hrt.running.map fun s => s.kind == .ingest && s.logical == d && !s.wear).getD false

/-- A sample is written at its input instant to every router channel that takes it (R237, R239). -/
def routerTakes (d channel : Nat) (x : AudSample) (p : Part) : Part :=
  domainBack d (p.aud.chans.keys.foldl (chanTakes (ingestSwapping p d) d channel x) p)

/-- Samples of a flow whose input instant has come (Table 9.1). -/
def flushEarly (d : Nat) (p : Part) : Part :=
  let l := (p.dom d).early
  let due := l.filter fun e => decide (e.1 ≤ p.sys.now)
  due.foldl (fun q e => routerTakes d e.2.1 e.2.2 q) (updDom d (fun m => { m with early := l.filter fun e => decide (p.sys.now < e.1) }) p)

/-- Every flow with samples that wait. -/
def flushAll (p : Part) : Part :=
  ((p.aud.doms.filter fun e => !e.2.early.isEmpty).map (·.1)).foldl (fun q d => flushEarly d q) p

/-- A flow's sample has its input instant at the media time plus the link offset (Table 9.1); one that comes later than that
is written at once. -/
def flowTakes (n channel : Nat) (x : AudSample) (p : Part) : Part :=
  let q := flushEarly (64 + n) p
  let instant := x.media + ((p.cfg.audFlows.get? n).map (·.linkOffset)).getD 0 * usec
  if p.sys.now < instant then updDom (64 + n) (fun m => { m with early := m.early ++ [(instant, channel, x)] }) q
  else routerTakes (64 + n) channel x q

/-! ### I²S ports in -/

/-- Sample bits of a port (R242): the top w bits. -/
def portWord (c : PortCfg) (x : Int) : Int :=
  let cut : Int := 2 ^ (32 - [16, 20, 24, 32].getD c.sampleWidth 24)
  x / cut * cut

/-- An IN port takes w bits, and the side bits when they are ON (R242). -/
def portSample (c : PortCfg) (x : AudSample) : AudSample :=
  if c.sideBits then { x with value := portWord c x.value }
  else { x with value := portWord c x.value, v := false, u := false, c := false, b := false }

/-- A port starts afresh: empty FIFOs, filled from a left sample aligned to WS; its slots start again by silent change (R244). -/
def refilled (now : Nat) (a : AudPort) : AudPort :=
  let again := fun (s : AudSlot) => { s with change := some ({ start := now, mid := some now, next := s.cur } : SlotChange) }
  { a with out := [], inn := [], swap := false, needLeft := true, refill := true, inRight := false, left := again a.left, right := again a.right }

/-- Router channels that a port feeds start again by silent change (R244). -/
def feedsAgain (n : Nat) (p : Part) : Part :=
  (chansOf p (128 + n)).foldl (fun q k => updChan k (fun c => { c with
    silent := some { start := p.sys.now, mid := some p.sys.now, next := c.silent.bind (·.next)
                     pos := (c.silent.map (·.pos)).getD c.pos, delay := (c.silent.map (·.delay)).getD c.delay
                     invert := (c.silent.map (·.invert)).getD c.invert } }) q) p

/-- An xrun (R244). -/
def xrun (n : Nat) (p : Part) : Part :=
  let p1 := count blkAudio n 0 p
  let p2 := if (p.audPort n).swap then p1 else raise evAudXrun n 0 (updAudPort n (fun a => { a with swap := true }) p1)
  if (p.cfg.port n).autoRestart then raise evAudRestart n 0 (feedsAgain n (updAudPort n (refilled p.sys.now) p2)) else p2

/-- A word of an IN port is pushed; one refused at full is lost (R243). -/
def pushIn (n channel : Nat) (x : AudSample) (p : Part) : Part :=
  let a := p.audPort n
  if a.needLeft && channel == 1 then p
  else if 32 ≤ a.inn.length then xrun n p
  else updAudPort n (fun a => { a with inn := a.inn ++ [x], needLeft := false }) p

/-- The router takes the words of an IN port, which run left, right, left, right (R243); none while a pseudo-channel remap is in
progress (R244; log entry 45). -/
def popIn (n : Nat) (p : Part) : Part :=
  if p.fab.running.isSome then p
  else (p.audPort n).inn.foldl (fun q x =>
    let r := (q.audPort n).inRight
    routerTakes (128 + n) (b2n r) x (updAudPort n (fun a => { a with inRight := !r }) q)) (updAudPort n (fun a => { a with inn := [] }) p)

/-- When a sample last came, of the domain and of the ST 299 group of an SDI channel (R251). -/
def sampleSeen (src : AudDomain) (channel : Nat) (p : Part) : Part :=
  updDom (domKey src) (fun m => { m with
    last := p.sys.now
    groups := match src with
      | .sdi _ => m.groups.set ((channel - 1) / 4) p.sys.now
      | _ => m.groups }) p

/-- A sample arrives (R237, R251). -/
def sampleIn (src : AudDomain) (channel : Nat) (x : AudSample) (p : Part) : Part :=
  let q := sampleSeen src channel p
  if !x.valid then channelLost (domKey src) channel q
  else
    let r := perfSignal 7 0x11 0 1 q
    match src with
    | .sdi n => routerTakes n channel x r
    | .flow n => flowTakes n channel x r
    | .i2s n => popIn n (pushIn n channel (portSample (p.cfg.port n) x) r)

/-- The source can be taking samples: a bound stream that is not lost, a bound flow, or a port set to IN (R66, R251). -/
def sourceOn (p : Part) : AudDomain → Bool
  | .sdi n => receives p && (p.cfg.stream n).bound && !(p.stream n).lost
  | .flow n => receives p && p.cfg.audFlows.has n
  | .i2s n => (p.cfg.port n).direction == 1

def execAudSampleIn (t : Nat) (src : AudDomain) (channel : Nat) (sample : AudSample) (s : State) : Host.Outcome State Fault Refusal :=
  onPart (timed t (guarded (fun p => sourceOn p src) (sampleIn src channel sample))) s

/-! ### Scaling and reading -/

/-- R240. -/
def scaleSample (nonPcm : Bool) (g : Int) (invert : Bool) (s : Int) : Int :=
  if nonPcm then s
  else
    let v := (s * g + 2048) / 4096
    clampInt (if invert then -v else v) (-2147483648) 2147483647

/-- Gain of sample `k` of a ramp (R240). -/
def rampGain (c : Chan) (k : Nat) : Int := (c.g0 : Int) + ((c.g1 : Int) - c.g0) * k / 64

/-- What a content holds at a position; nothing beyond a loss until the source is back (R251). -/
def contentAt (cfg : Cfg) (k : Nat) (x : Content) (pos : Int) : Option (Int × Nat) :=
  let q := pos.toNat
  match x.source with
  | .silence =>
    let status := (cfg.chan k).status
    some (0, hostSide status (q % 192) (bit (byteAt status 0) 1 && decide (384192 ≤ q)))
  | _ =>
    let gap := match x.endAt, x.backAt with
      | some (z, _), some b => decide (z < q) && decide (q < b)
      | some (z, _), none => decide (z < q)
      | none, _ => false
    if gap then none else x.buf.get? q

/-- NONPCM of a sample (Table 9.3). -/
def isNonPcm (x : Int × Nat) : Bool := bit x.2 5

/-- A zero marked MUTED (Table 9.3). -/
def mutedSample : Int × Nat := (0, 16)

/-- The fill error at an output (R247): whole samples by which the buffer's delay differs from the total delay. -/
def fillError (c : Chan) : Int :=
  let after := (c.cur.wr : Int) - (c.pos + 1)
  if (c.delay : Int) < after then after - c.delay else if after + 1 < c.delay then after + 1 - c.delay else 0

/-- Steps 1 to 3 of a silent change for one output sample: the sample, and the channel after it (R245). -/
def silentStep (cfg : Cfg) (now k : Nat) (c : Chan) (s : Silent) : (Int × Nat) × Chan :=
  let g := rampGain c (min 64 (c.rampK + 1))
  let on := { c with rampK := min 64 (c.rampK + 1), pos := c.pos + 1, silent := some { s with pos := s.pos + 1 } }
  match s.mid with
  | none => match contentAt cfg k c.cur c.pos with
    | none => (mutedSample, { on with silent := some { s with mid := some now, pos := s.pos + 1 } })
    | some x =>
      let out := (scaleSample (isNonPcm x) g c.invert x.1, x.2)
      if isNonPcm x || crossing c.prev x.1 then
        (out, { on with prev := x.1, silent := some { s with mid := some now, pos := s.pos + 1 } })
      else (out, { on with prev := x.1 })
  | some _ =>
    let new := s.next.getD c.cur
    match contentAt cfg k new s.pos with
    | none => (mutedSample, on)
    | some y =>
      if isNonPcm y || crossingFrom ((contentAt cfg k new (s.pos - 1)).map (·.1)) y.1 then
        ((scaleSample (isNonPcm y) g s.invert y.1, y.2),
         { on with cur := { new with endAt := none, backAt := none }, pos := s.pos + 1, delay := s.delay, invert := s.invert
                   prev := y.1, muted := false, silent := none })
      else (mutedSample, on)

/-- The next output sample of a channel (R240, R245, R251). -/
def nextSample (cfg : Cfg) (now k : Nat) (c : Chan) : (Int × Nat) × Chan :=
  match c.silent with
  | some s => silentStep cfg now k c s
  | none => match contentAt cfg k c.cur c.pos with
    | none => (mutedSample, { c with rampK := min 64 (c.rampK + 1), pos := c.pos + 1, muted := true, prev := 0 })
    | some x =>
      if c.muted then
        -- the content is back at the output: it starts again by silent change
        silentStep cfg now k c { start := now, mid := some now, pos := c.pos, delay := c.delay, invert := c.invert }
      else
        ((scaleSample (isNonPcm x) (rampGain c (min 64 (c.rampK + 1))) c.invert x.1, x.2),
         { c with rampK := min 64 (c.rampK + 1), pos := c.pos + 1, prev := x.1 })

/-- Fill error, slip condition and re-centring at an output sample (R247, R248). -/
def fillTracked (k : Nat) (p : Part) : Part :=
  let c := p.chan k
  match sourceDom c.cur.source with
  | none => p
  | some (d, _) =>
    if c.cur.lost || c.silent.isSome then updChan k (fun c => { c with errRun := 0 }) p
    else
      let e := fillError { c with pos := c.pos - 1 }
      let run := if e = 0 then 0 else if 0 < e then (if 0 < c.errRun then c.errRun + 1 else 1)
        else (if c.errRun < 0 then c.errRun - 1 else -1)
      let p1 := updChan k (fun c => { c with fill := e, errRun := run }) p
      let p2 := if 1024 ≤ run.natAbs ∧ (p.dom d).slipFrom.isNone then
          updDom d (fun m => { m with slipFrom := some p.sys.now }) p1 else p1
      if 64 ≤ e.natAbs then
        let others := (chansOf p2 d).any fun j => j != k && (p2.chan j).silent.isSome && decide (64 ≤ (p2.chan j).fill.natAbs)
        let p3 := countCarriers [k] 4 (updChan k (fun c => { c with
          errRun := 0
          silent := some { start := p.sys.now, mid := if c.muted then some p.sys.now else none, pos := (c.cur.wr : Int) - c.delay, delay := c.delay, invert := c.invert } }) p2)
        if others then p3 else raise evAudRecentre d 0 p3
      else p2

/-- Takes the next output sample of a channel into `last`. -/
def advanceChan (k : Nat) (p : Part) : Part :=
  let c := p.chan k
  let (x, c1) := nextSample p.cfg p.sys.now k c
  let ended := !c.muted && c1.muted && ((c.cur.endAt.map fun z => !z.2).getD false)
  let p1 := updChan k (fun _ => { c1 with last := x }) p
  fillTracked k (if ended then countCarriers [k] 3 p1 else p1)

/-! ### Output ports -/

def AudPort.slot (a : AudPort) (right : Bool) : AudSlot := if right then a.right else a.left
def AudPort.setSlot (a : AudPort) (right : Bool) (s : AudSlot) : AudPort := if right then { a with right := s } else { a with left := s }

/-- What a slot sends, and the slot after it (R245): the new channel starts where it crosses zero itself. -/
def slotStep (now : Nat) (last : Nat → Int × Nat) (s : AudSlot) : (Int × Nat) × AudSlot :=
  let val := fun (o : Option Nat) => (o.map last).getD (0, 0)
  match s.change with
  | none => (val s.cur, { s with prev := (val s.cur).1 })
  | some c =>
    let y := val c.next
    let c1 := { c with prev := some y.1 }
    match c.mid with
    | none =>
      let x := val s.cur
      (x, { s with prev := x.1, change := some (if isNonPcm x || crossing s.prev x.1 then { c1 with mid := some now } else c1) })
    | some _ =>
      if isNonPcm y || crossingFrom c.prev y.1 then (y, { cur := c.next, change := none, prev := y.1 })
      else (mutedSample, { s with change := some c1 })

/-- A port that is OFF stops once both its slots are silent and what waits is silence (R245). -/
def portStops (n : Nat) (p : Part) : Part :=
  let a := p.audPort n
  if a.stopping && [a.left, a.right].all (fun s => s.cur.isNone && s.change.isNone) && a.out.all (fun x => x.1 == 0) then
    updAudPort n (fun _ => {}) p
  else p

/-- The router pushes a slot's next sample (R240, R243); a full FIFO takes it only with a pop in the same cycle. -/
def pushSlot (n : Nat) (right pop : Bool) (p : Part) : Part :=
  let a := p.audPort n
  if right && a.needLeft then p
  else
    let s := a.slot right
    let ks := ([s.cur, s.change.bind (·.next)].filterMap id).eraseDups
    let p1 := (ks.filter fun k => leadSlot p k == some (n, right)).foldl (fun q k => advanceChan k q) p
    let (x, s1) := slotStep p1.sys.now (fun k => (p1.chan k).last) s
    let p2 := perfSignal 7 0x10 0 1 (updAudPort n (fun a => { a.setSlot right s1 with needLeft := false }) p1)
    if a.out.length < 32 || pop then updAudPort n (fun a => { a with out := a.out ++ [x] }) p2 else xrun n p2

/-- The serialiser pops a word; at empty it sends 0. While the FIFO refills, the first word popped goes to a left slot (R243,
R244). -/
def popSlot (n : Nat) (right : Bool) (before : List (Int × Nat)) (p : Part) : Part :=
  let c := p.cfg.port n
  let a := p.audPort n
  match before with
  | [] => if a.refill then emit (.i2s n right 0 0) p else xrun n (emit (.i2s n right 0 0) p)
  | x :: _ =>
    if a.refill && right then emit (.i2s n right 0 0) p
    else emit (.i2s n right (portWord c x.1) (if c.sideBits then x.2 % 16 else 0))
      (updAudPort n (fun a => { a with out := a.out.drop 1, refill := false }) p)

/-- A slot of an OUT port: a push, a pop, or both in one cycle (R243). -/
def sampleOut (n : Nat) (right push pop : Bool) (p0 : Part) : Part :=
  let p := flushAll p0
  let before := (p.audPort n).out
  let p1 := if push then pushSlot n right pop p else p
  portStops n (if pop then popSlot n right before p1 else p1)

def execAudSampleOut (t port : Nat) (right push pop : Bool) (s : State) : Host.Outcome State Fault Refusal :=
  onPart (timed t (guarded (fun p => (p.audPort port).running && ((p.cfg.port port).direction == 2 || (p.audPort port).stopping))
    (sampleOut port right push pop))) s

/-! ### Slip, timeout, loss -/

def zcUnits (p : Part) : Nat := p.cfg.zcMs * msec

/-- A slip is due and may be taken in the present sample (R247). -/
def slipNow (p : Part) (d : Nat) : Bool :=
  match (p.dom d).slipFrom with
  | none => false
  | some t0 => (chansOf p d).any (fun k => decide (1024 ≤ (p.chan k).errRun.natAbs)) &&
      ((chansOf p d).all (fun k => decide ((p.chan k).prev.natAbs < 2 ^ 21)) || decide (t0 + zcUnits p ≤ p.sys.now))

def slip (d : Nat) (p : Part) : Part :=
  let ks := chansOf p d
  let drop := ks.any fun k => decide (1024 ≤ (p.chan k).errRun)
  let p1 := ks.foldl (fun q k => updChan k (fun c => { c with pos := if drop then c.pos + 1 else c.pos - 1, errRun := 0 }) q) p
  updDom d (fun m => { m with slipFrom := none }) (countCarriers ks (if drop then 1 else 2) p1)

def execAudSlip (t : Nat) (src : AudDomain) (s : State) : Host.Outcome State Fault Refusal :=
  onPart (timed t (guarded (fun p => slipNow p (domKey src)) (slip (domKey src)))) s

/-- The timeout ends step 1 of a channel's silent change, or starts its new content (R245). -/
def zcChan (k : Nat) (p : Part) : Part :=
  let c := p.chan k
  match c.silent with
  | none => p
  | some s => match s.mid with
    | none => if s.start + zcUnits p ≤ p.sys.now then
        countCarriers [k] 3 (updChan k (fun c => { c with silent := some { s with mid := some p.sys.now } }) p) else p
    | some m => if m + zcUnits p ≤ p.sys.now then
        countCarriers [k] 3 (updChan k (fun c => { c with
          cur := { s.next.getD c.cur with endAt := none, backAt := none }, pos := s.pos, delay := s.delay, invert := s.invert
          muted := false, silent := none }) p) else p

/-- The same for the slots that change from or to a channel. -/
def zcSlot (k n : Nat) (right : Bool) (p : Part) : Part :=
  let s := (p.audPort n).slot right
  match s.change with
  | none => p
  | some c => match c.mid with
    | none => if s.cur = some k ∧ c.start + zcUnits p ≤ p.sys.now then
        countCarriers [k] 3 (updAudPort n (fun a => a.setSlot right { s with change := some { c with mid := some p.sys.now } }) p) else p
    | some m => if c.next = some k ∧ m + zcUnits p ≤ p.sys.now then
        countCarriers [k] 3 (updAudPort n (fun a => a.setSlot right { s with cur := c.next, change := none }) p) else p

def zcTimeout (k : Nat) (p : Part) : Part :=
  p.aud.ports.keys.foldl (fun q n => portStops n (zcSlot k n true (zcSlot k n false q))) (zcChan k p)

def execZcTimeout (t channel : Nat) (s : State) : Host.Outcome State Fault Refusal := onPart (timed t (zcTimeout channel)) s

/-- A channel of a source is gone (R251): the stream is lost or the channel's ST 299 group has stopped, the flow delivers nothing,
the SLAVE port sees no WS edge. -/
def channelGone (p : Part) (src : AudDomain) (channel : Nat) : Bool :=
  let m := p.dom (domKey src)
  match src with
  | .sdi n => (p.stream n).lost || decide (m.groups.getD ((channel - 1) / 4) 0 + 10 * msec ≤ p.sys.now)
  | .flow _ => decide (m.last + 10 * msec ≤ p.sys.now)
  | .i2s n => (p.cfg.port n).slave && decide (m.last + msec ≤ p.sys.now)

/-- Router channels of a domain that are gone and not yet lost. -/
def goneChans (p : Part) (src : AudDomain) : List Nat :=
  (chansOf p (domKey src)).filter fun k =>
    !(p.chan k).cur.lost && ((sourceDom (p.chan k).cur.source).map fun e => channelGone p src e.2).getD false

def execAudSourceLost (t : Nat) (src : AudDomain) (s : State) : Host.Outcome State Fault Refusal :=
  onPart (timed t fun p => chansLost (domKey src) (goneChans p src) p) s

/-! ### Delay matching -/

/-- Video latency of a stream in units of 25 ps (Table 9.6). -/
def videoLatency (p : Part) (n : Nat) : Nat :=
  let tf := framePeriod p.cfg.canvas
  let lowlat := p.comp.lowlat && p.cfg.layers.any fun e => e.2.lowLatency && e.2.takesStream p.cfg n
  match p.activeConv n with
  | some k => frcDelay ((p.format n).getD VideoFormat.auto) (p.cfg.conv k) * 64 + tf
  | none =>
    if lowlat then lagUnits p.cfg
    else
      let m := p.aud.means.getD n []
      tf + (if m.isEmpty then 0 else (m.map (·.2)).sum / m.length)

/-- Total delay before its clamp (R249). -/
def rawDelay (c : Cfg) (k lv : Nat) : Int :=
  let x := c.chan k
  match x.follow with
  | none => x.delay
  | some _ => roundDiv (((lv + c.latchUs * usec) * sourceRate c x.source : Nat) : Int) sec + x.delay

def totalDelay (c : Cfg) (k lv : Nat) : Nat := (clampInt (rawDelay c k lv) 8 (2 * sourceRate c (c.chan k).source : Nat)).toNat

/-- A fresh content for a source. -/
def newContent (s : ChanSource) : Content := { source := s }

/-- Brings a channel to its committed source, invert setting and total delay, by silent change where one differs; at once where
it is NONPCM or no output slot carries it (R238, R240, R245, R246, R249). -/
def chanFollows (lv k : Nat) (p : Part) : Part :=
  let x := p.cfg.chan k
  let c := p.chan k
  let want := totalDelay p.cfg k lv
  let raw := rawDelay p.cfg k lv
  let clamped := decide (raw ≠ want)
  let src := (c.silent.bind fun s => s.next.map (·.source)).getD c.cur.source
  let heldDelay := (c.silent.map (·.delay)).getD c.delay
  let heldInvert := (c.silent.map (·.invert)).getD c.invert
  let p1 := updChan k (fun c => { c with lv := lv, clamped := clamped, raw := some raw }) p
  let p2 := if clamped && c.raw != some raw then raise evAudDelayClamp k 0 p1 else p1
  if src = x.source ∧ heldDelay = want ∧ heldInvert = x.invert then p2
  else
    let next := if src = x.source then c.silent.bind (·.next) else some (newContent x.source)
    let new := next.getD c.cur
    let pos : Int := (new.wr : Int) - want
    let start := (c.silent.map (·.start)).getD p.sys.now
    let mid := c.silent.bind (·.mid)
    if c.cur.nonPcm || (leadSlot p k).isNone then updChan k (fun c => { c with
      cur := new, pos := pos, delay := want, invert := x.invert, silent := none, muted := false }) p2
    else updChan k (fun c => { c with
      silent := some { start := start, mid := mid, next := next, pos := pos, delay := want, invert := x.invert } }) p2

/-- A committed gain starts a ramp from the gain in use (R240). -/
def gainFollows (k : Nat) (p : Part) : Part :=
  let g := (p.cfg.chan k).gain
  let c := p.chan k
  if c.g1 = g then p
  else updChan k (fun c => { c with g0 := (rampGain c c.rampK).toNat, g1 := g, rampK := 0 }) p

/-- The parameters that make R250 compute L_v again: mode, cadence and guard of the converter, the canvas rate and phase, L_latch,
low-latency mode, the follow stream, the delay offset. -/
def latencyInputs (c : Cfg) (k : Nat) : Option (Nat × FrcCfg) × (Nat × Nat × Nat) × (Nat × LowLatCfg) × (Option Nat × Int) :=
  let x := c.chan k
  let f := (x.follow.bind c.convOf).map fun v =>
    (v, { ({} : FrcCfg) with mode := (c.conv v).mode, cadence := (c.conv v).cadence, guard := (c.conv v).guard })
  (f, (c.canvas.rateNum, c.canvas.rateDen, c.canvas.phase), (c.latchUs, c.lowlat), (x.follow, x.delay))

/-- Audio at a frame event for one channel (R238, R250). -/
def chanFrameEvent (old : Cfg) (p : Part) (k : Nat) : Part :=
  let p0 := gainFollows k p
  let c := p0.chan k
  match (p0.cfg.chan k).follow with
  | none => chanFollows c.lv k p0
  | some n =>
    let lv := videoLatency p0 n
    let on := (p0.stream n).running && !(p0.stream n).lost
    let again := (on && !c.followOn) || decide (latencyInputs old k ≠ latencyInputs p0.cfg k) ||
      decide (2 * msec < ((lv : Int) - c.lv).natAbs)
    chanFollows (if again then lv else c.lv) k (updChan k (fun c => { c with followOn := on }) p0)

/-- A slot changes to a channel, or to silence, by silent change; a change that runs takes the new one up (R245, R246). -/
def slotFollows (now : Nat) (s : AudSlot) (want : Option Nat) : AudSlot :=
  if want = (s.change.map (·.next)).getD s.cur then s
  else match s.change with
    | some c => { s with change := some { c with next := want, prev := none } }
    | none => { s with change := some { start := now, mid := if s.cur.isNone then some now else none, next := want } }

/-- Brings a port to its committed direction and channels: a stop is a silent change to silence, and setting direction OFF and
back is a restart (R244, R245). -/
def portFollows (p : Part) (n : Nat) : Part :=
  let x := p.cfg.port n
  let now := p.sys.now
  if x.direction = 0 then
    if (p.audPort n).running then
      portStops n (updAudPort n (fun a => { a with
        stopping := true, left := slotFollows now a.left none, right := slotFollows now a.right none }) p)
    else p
  else
    updAudPort n (fun a =>
      let b := if a.stopping then { a with stopping := false, swap := false, out := [], inn := [], needLeft := true, refill := true, inRight := false } else a
      { b with
        running := true, left := slotFollows now b.left (if x.direction = 2 then x.left else none)
        right := slotFollows now b.right (if x.direction = 2 then x.right else none) }) p

/-- Audio routing at step 2, and the latency means at a frame event (R249, R250). -/
def audioFrameEvent (prevFe fe : Nat) (old : Cfg) (p0 : Part) : Part :=
  let p := flushAll p0
  let n := p.fr.cfn
  let p1 := p.updAud fun a => { a with means := (p.inp.streams).foldl (fun m e =>
    let l := (m.getD e.1 []).filter fun x => n < x.1 + 64
    let fresh := e.2.choice.bind fun k => (e.2.slots.get? k).bind fun s =>
      if prevFe ≤ s.storedAt then some (n, fe - s.storedAt) else none
    m.set e.1 (match fresh with | some x => x :: l | none => l)) a.means }
  let p2 := (p.cfg.chans.keys ++ p.aud.chans.keys).eraseDups.foldl (chanFrameEvent old) p1
  (p.cfg.ports.keys).foldl portFollows p2

/-! ### Replies -/

def audStatusBytes (p : Part) (kind n : Nat) : List Byte :=
  if kind = 0 then
    let a := p.audPort n
    le 1 (packBits [a.swap, a.running]) ++ [0, 0, 0] ++ (List.range 5).flatMap fun i => le 4 (counter blkAudio n i p).toNat
  else
    let c := p.chan n
    le 1 (packBits [c.cur.lost, c.cur.nonPcm, c.clamped]) ++ [0, 0, 0] ++ le 4 c.delay ++ leInt 4 c.fill

def audReadBytes (p : Part) (kind n : Nat) : List Byte :=
  padTo 40 (if kind = 0 then encPort n (p.cfg.port n) else if kind = 1 then encChan n (p.cfg.chan n)
    else le 1 n ++ [0, 0, 0] ++ le 4 (p.cfg.mclkHz n))

end Sys2Proof.Machine
end

