-- ==== Sys2Proof/Machine/Timebase.lean ====
section
/-! DEFINITION. The timebase (chapter 10): reference slots (R257 to R262), timebase states (R263, R264), acquisition and
bandwidth (R265, R266), holdover (R267), steering (R268), root lock (R254, R269) and clock output units (R270, R271). -/

namespace Sys2Proof.Machine

open Sys2Proof

/-! ### Layouts -/

def slotRateChecks (p : List Byte) : List (Bool × Nat) :=
  let src := byteAt p 1
  if 1 ≤ src ∧ src ≤ 16 then
    [(formatAt p 4 == VideoFormat.auto || sdiSingle (formatAt p 4) || sdiQuad (formatAt p 4), 4)]
  else if src = 18 then [within p 4 4 1 240000, (leAt p 8 2 == 1000 || leAt p 8 2 == 1001, 8), zeros p 10 6]
  else if src = 20 then [within p 4 4 1000000 100000000, zeros p 8 8]
  else [zeros p 4 12]

def slotCfgAt (p : List Byte) : SlotCfg :=
  let src := byteAt p 1
  { source := src, frequency := byteAt p 2 == 1 || decide (19 ≤ src), priority := byteAt p 3
    fmt := if 1 ≤ src ∧ src ≤ 16 then formatAt p 4 else VideoFormat.auto
    num := if src = 18 then leAt p 4 4 else 60000, den := if src = 18 then leAt p 8 2 else 1000
    hz := if src = 20 then leAt p 4 4 else 10000000
    falling := byteAt p 16 == 1, delayNs := leIntAt p 20 4, accept := leAt p 24 2, reject := leAt p 26 2
    acceptTime := leAt p 28 2, phaseHit := leAt p 30 2 }

def parseTbSlot (p : List Byte) : Parse ConfigCmd :=
  layout p 32 ([below p 0 8, below p 1 21, below p 2 2, below p 3 16] ++ slotRateChecks p ++
      [below p 16 2, zeros p 17 3, withinInt p 20 4 (-100000) 100000, within p 24 2 1 5000, within p 26 2 (leAt p 24 2) 10000,
       within p 28 2 1 600, within p 30 2 1 10000])
    (.tbSlot (byteAt p 0) (slotCfgAt p))

def encSlot (n : Nat) (s : SlotCfg) : List Byte :=
  le 1 n ++ le 1 s.source ++ le 1 (b2n s.frequency) ++ le 1 s.priority ++
    (if 1 ≤ s.source ∧ s.source ≤ 16 then encFormat s.fmt
     else if s.source = 18 then le 4 s.num ++ le 2 s.den ++ List.replicate 6 0
     else if s.source = 20 then le 4 s.hz ++ List.replicate 8 0 else List.replicate 12 0) ++
    le 1 (b2n s.falling) ++ [0, 0, 0] ++ leInt 4 s.delayNs ++ le 2 s.accept ++ le 2 s.reject ++ le 2 s.acceptTime ++ le 2 s.phaseHit

def parseTbSet (p : List Byte) : Parse ConfigCmd :=
  layout p 20 [below p 0 2, below p 1 9, below p 2 2, within p 3 1 0 100, within p 4 2 0 10000, within p 6 2 1 1000,
      within p 8 1 0 60, zeros p 9 3, within p 12 4 1000 100000000]
    (.tbSet { steered := byteAt p 0 == 1, selection := byteAt p 1, revertive := byteAt p 2 == 1, allowance := byteAt p 3
              holdoffMs := leAt p 4 2, bandwidth := leAt p 6 2, refWait := byteAt p 8, slew := leAt p 12 4
              seed := BitVec.ofNat 32 (leAt p 16 4) })

def encTbSet (t : TbCfg) : List Byte :=
  le 1 (b2n t.steered) ++ le 1 t.selection ++ le 1 (b2n t.revertive) ++ le 1 t.allowance ++ le 2 t.holdoffMs ++ le 2 t.bandwidth ++
    le 1 t.refWait ++ [0, 0, 0] ++ le 4 t.slew ++ le 4 t.seed.toNat

/-- Checks of COU_SET: the host's units divide by R ≥ 10; for the audio units the divider fields are 0 (R270, Table 14.14). -/
def couChecks (p : List Byte) : List (Bool × Nat) :=
  if 4 ≤ byteAt p 0 then [zeros p 1 2, zeros p 4 2, within p 6 2 0 4095, zeros p 8 8]
  else [below p 1 2, below p 2 2, within p 4 2 10 4096, within p 6 2 0 4095,
        (decide (leAt p 8 4 < leAt p 12 4), 8), within p 12 4 1 16777215]

def parseCouSet (p : List Byte) : Parse ConfigCmd :=
  layout p 20 ([below p 0 8] ++ couChecks p ++ [zeros p 3 1])
    (.couSet (byteAt p 0)
      { enable := byteAt p 1 == 1, free := byteAt p 2 == 1, n := leAt p 4 2, f := leAt p 8 4, m := leAt p 12 4
        delay := leAt p 6 2, seed := BitVec.ofNat 32 (leAt p 16 4) })

/-! ### Slots -/

def Cfg.slot (c : Cfg) (k : Nat) : SlotCfg := c.slots.getD k {}
def Part.slotRt (p : Part) (k : Nat) : SlotRt := p.tb.slots.getD k {}
def updSlotRt (k : Nat) (f : SlotRt → SlotRt) (p : Part) : Part := p.updTb fun t => { t with slots := t.slots.upd k {} f }

/-- Format of an SDI slot: the nominal one, or the one taken on entering CHECKING (R257). -/
def slotFormat (c : SlotCfg) (r : SlotRt) : Option VideoFormat := if c.fmt = VideoFormat.auto then r.fmt else some c.fmt

/-- Frame rate of a slot as a fraction; PTP takes the canvas rate (R259). -/
def slotRate (v : CanvasCfg) (c : SlotCfg) (r : SlotRt) : Option (Nat × Nat) :=
  if c.source = 17 then some (v.rateNum, v.rateDen)
  else if c.source = 18 then some (c.num, c.den)
  else if 1 ≤ c.source ∧ c.source ≤ 16 then (slotFormat c r).map fun f => (f.rateNum, f.rateDen)
  else none

/-- Canvas rate over slot rate in lowest terms: p and q (R259). -/
def rateRatio (v : CanvasCfg) (rate : Nat × Nat) : Nat × Nat :=
  let a := v.rateNum * rate.2
  let b := v.rateDen * rate.1
  let g := Nat.gcd a b
  (a / g, b / g)

/-- A commit changes the source, the use or the nominal rate of a slot (Table 10.4). -/
def slotChanged (a b : SlotCfg) : Bool :=
  a.source != b.source || a.frequency != b.frequency || a.fmt != b.fmt || (a.num, a.den) != (b.num, b.den) || a.hz != b.hz

/-- The slot is compatible with a canvas rate (R259); an AUTO slot of unknown format is not held incompatible. -/
def slotFits (v : CanvasCfg) (c : SlotCfg) (r : SlotRt) : Bool :=
  c.frequency || match slotRate v c r with
    | some x => let (a, b) := rateRatio v x; decide (a ≤ 16) && decide (b ≤ 16)
    | none => true

/-- Timebase limits of a commit's result (R124, R257, R259): the slot in use must lock to the canvas rate, unless the commit
gives it another source, use or nominal rate, with which it leaves use (Table 10.4). -/
def tbLimits (p : Part) (c : Cfg) : List Limit :=
  let srcs := (List.range 8).filterMap fun k => if (c.slot k).source = 0 then none else some (c.slot k).source
  let bad := match p.tb.slot with
    | some k => !slotFits c.canvas (c.slot k) (p.slotRt k) && !slotChanged (p.cfg.slot k) (c.slot k)
    | none => false
  [(!noRepeats srcs, stConflict, [.timebase]), (bad, stConflict, [.canvas])]

/-- Acquisition bandwidth cap B_a in µHz (R258): 100 Hz, or the phase-detector rate over 20. -/
def capBandwidth (p : Part) (k : Nat) : Nat :=
  let c := p.cfg.slot k
  let top := 100000000
  if c.source = 17 then min top (if p.inp.ptp.intervalNs = 0 then top else 1000000000000000 / (20 * p.inp.ptp.intervalNs))
  else if c.source = 18 then min top (c.num * 1000000 / (20 * c.den))
  else top

/-- Effective tracking bandwidth B_t in µHz (R266). -/
def trackBandwidth (p : Part) (k : Nat) : Nat := min (p.cfg.tb.bandwidth * 10000) (capBandwidth p k)

/-- The slot in use that a heartbeat names (Table 11.6). -/
def hbSlot (h : Heartbeat) : Option Nat := if bit h.tb.toNat 7 then some (bits h.tb.toNat 6 4) else none

/-- The slot the primary's heartbeat names to a standby with a link UP, or none for none in use (R290). -/
def namedSlot (p : Part) : Option (Option Nat) :=
  if followsTimebase p then
    p.pair.partner.map hbSlot
  else none

/-- Selectable (R264); on a standby only the slot the primary names (R290). -/
def selectable (p : Part) (k : Nat) : Bool :=
  !p.cfg.tb.steered && (p.slotRt k).state == 2 && match namedSlot p with
    | some n => n == some k
    | none => (p.cfg.slot k).priority != 0 && (p.cfg.tb.selection == 0 || p.cfg.tb.selection == k + 1)

/-- The slot the timebase takes: lowest priority number, then lowest index (R264). -/
def bestSlot (p : Part) : Option Nat :=
  ((List.range 8).filter (selectable p)).foldl (fun best k => match best with
    | some b => if (p.cfg.slot k).priority < (p.cfg.slot b).priority then some k else some b
    | none => some k) none

/-! ### Control word -/

/-- The control word now, as the slew has moved it (R268). -/
def wNow (p : Part) : Int :=
  let step : Int := (p.cfg.tb.slew * (p.sys.now - p.tb.wAt) / sec : Nat)
  if p.tb.w ≤ p.tb.wTarget then min p.tb.wTarget (p.tb.w + step) else max p.tb.wTarget (p.tb.w - step)

/-- w lies within ±1,000,000,000 ppt (R253). -/
def clampW (v : Int) : Int := clampInt v (-1000000000) 1000000000

/-- Sets w at once. -/
def setW (v : Int) (p : Part) : Part := p.updTb fun t => { t with w := clampW v, wTarget := clampW v, wAt := p.sys.now }

/-- Moves w to a value at the steering slew. -/
def rampW (v : Int) (p : Part) : Part := p.updTb fun t => { t with w := wNow p, wTarget := clampW v, wAt := p.sys.now }

/-- A stored steering offset comes into force (R268). -/
def steerInForce (p : Part) : Part := p.updTb fun t => { t with steer := t.steerNew.getD t.steer, steerNew := none }

def restingState (p : Part) : TbState := if p.tb.banked.isSome then .holdover else .freerun
def restingW (p : Part) : Int := p.tb.banked.getD 0 + p.tb.steer

/-- The banked value on leaving ACQUIRE or LOCKED (R267). -/
def bankValue (p : Part) : Part :=
  let tl := p.sys.now
  let ok := p.tb.secs.filter fun s => decide (tl ≤ s.1 + 70 * sec) && decide (s.2.1 + 10 * sec ≤ tl)
  let q := p.updTb fun t => { t with secs := [], trackSince := none }
  if 0 < ok.length then q.updTb fun t => { t with
    banked := some (roundDiv (ok.map (·.2.2)).sum ok.length), weak := false }
  else if p.tb.banked.isSome then raise evTbHoldoverWeak 0 0 (q.updTb fun t => { t with weak := true })
  else q

def enterTb (st : TbState) (p : Part) : Part := p.updTb fun t => { t with state := st, since := p.sys.now }

/-- The slot in use leaves QUALIFIED: the resting state, with w at once (Table 10.7); its alignment points go with it (R260). -/
def leaveSlot (p : Part) : Part :=
  let q := steerInForce (bankValue (p.updTb fun t => { t with slot := none, align := none }))
  let r := setW (restingW q) (enterTb (restingState q) q)
  raise (if q.tb.banked.isSome then evTbHoldover else evTbFreerun) 0 0 r

/-- A tracking bandwidth above B_a of the slot in use raises TB_BW_CLAMP once (R266). -/
def checkClamp (k : Nat) (p : Part) : Part :=
  if capBandwidth p k < p.cfg.tb.bandwidth * 10000 ∧ !p.tb.clampRaised then
    raise evTbBwClamp k 0 (p.updTb fun t => { t with clampRaised := true })
  else p

/-- ACQUIRE on a slot: bandwidth B_a, a fresh dwell, alignment points chosen anew, or as the primary chooses (R260, R265,
R266). -/
def takeSlot (k : Nat) (p : Part) : Part :=
  let p1 := updSlotRt k (fun r => { r with samples := [] }) (enterTb .acquire p)
  let p2 := p1.updTb fun t => { t with
    slot := some k, lastSlot := some k, bw := capBandwidth p k, dwellFrom := p.sys.now, trackSince := none
    align := if followsTimebase p then t.align else none
    w := wNow p, wTarget := wNow p, wAt := p.sys.now }
  let p3 := checkClamp k p2
  if p.tb.lastSlot.isSome && p.tb.lastSlot != some k then raise evTbRefSwitch k 0 p3 else p3

/-- A slot that ranks first displaces the one in use: revertive, named by the selection, or named by the primary. -/
def displaces (p : Part) (k : Nat) : Bool :=
  p.tb.slot != some k && (p.cfg.tb.revertive || p.cfg.tb.selection == k + 1 || namedSlot p == some (some k))

/-- Takes up what the slots now offer (Table 10.7). -/
def reselect (p : Part) : Part :=
  match bestSlot p with
  | none => p
  | some k => match p.tb.state with
    | .freerun => takeSlot k p
    | .holdover => if p.tb.since + p.cfg.tb.holdoffMs * msec ≤ p.sys.now then takeSlot k p else p
    | .acquire => if displaces p k then takeSlot k p else p
    | .locked => if displaces p k then takeSlot k p else p
    | _ => p

/-- A standby takes the slot its primary names; where that slot is not QUALIFIED here it rests and PAIR_REF_MISMATCH is raised
(R290). -/
def takeNamed (p : Part) : Part :=
  match namedSlot p with
  | none => p
  | some named =>
    let rests := p.tb.slot.isSome && p.tb.slot != named && (p.tb.state == .acquire || p.tb.state == .locked)
    let p1 := if rests then leaveSlot p else p
    reselect (match named with
      | some k => if (p1.slotRt k).state = 2 then p1 else raise evPairRefMismatch k 0 p1
      | none => p1)

/-! ### Slot transitions -/

/-- Causes of TB_REF_LOST (log entry 47): 1 activity, 2 frequency, 3 phase hit, 4 grandmaster, 5 acquisition. -/
def failSlot (k cause : Nat) (p : Part) : Part :=
  let was := (p.slotRt k).state
  let p1 := updSlotRt k (fun r => { r with state := 3, since := p.sys.now, cause := cause }) p
  let p2 := if was = 2 ∧ cause ≠ 5 then raise evTbRefLost k cause p1 else p1
  let p2 := if was = 2 ∧ namedSlot p = some (some k) then raise evPairRefMismatch k 0 p2 else p2
  if p.tb.slot = some k ∧ (p.tb.state = .acquire ∨ p.tb.state = .locked) then leaveSlot p2 else p2

/-- A slot enters CHECKING, or INCOMPATIBLE where the canvas rate rules it out (R257, R259, Table 10.4). -/
def checkSlot (k : Nat) (p : Part) : Part :=
  let c := p.cfg.slot k
  let fmt := if 1 ≤ c.source ∧ c.source ≤ 16 then (p.inp.sdi.getD (c.source - 1) {}).fmt else none
  let r : SlotRt := { p.slotRt k with fmt := fmt }
  let st := if c.source = 0 then 0 else if slotFits p.cfg.canvas c r then 1 else 4
  updSlotRt k (fun _ => { r with state := st, since := p.sys.now, accept := p.sys.now }) p

def execRefActivityLoss (t slot : Nat) (s : State) : Host.Outcome State Fault Refusal :=
  onPart (timed t (guarded (fun p => (p.slotRt slot).state == 1 || (p.slotRt slot).state == 2) (failSlot slot 1))) s

/-- Widening of the frequency limits in ppt (R261). -/
def limitSlack (p : Part) : Nat :=
  (if p.tb.everLocked then 0 else p.cfg.tb.allowance * 1000000) + p.tb.steer.natAbs

/-- A frequency gate ends; `offset` in 0.001 ppm (R261, R262). -/
def freqGate (k : Nat) (offset : Int) (p : Part) : Part :=
  let c := p.cfg.slot k
  let ppt := if p.tb.slot = some k then wNow p - p.tb.steer - p.tb.banked.getD 0 else offset * 1000
  let out := fun (lim : Nat) => decide (lim * 10000 + limitSlack p < ppt.natAbs)
  let p1 := updSlotRt k (fun r => { r with lastGate := ppt.tdiv 1000 }) p
  match (p.slotRt k).state with
  | 1 => if out c.reject then failSlot k 2 p1
    else if out c.accept then updSlotRt k (fun r => { r with accept := p.sys.now }) p1 else p1
  | 2 => if out c.reject then failSlot k 2 p1 else if out c.accept then count blkTimebase k 0 p1 else p1
  | 3 => checkSlot k p1
  | _ => p1

def execFreqGate (t slot : Nat) (offset : Int) (s : State) : Host.Outcome State Fault Refusal :=
  onPart (timed t (guarded (fun p => (p.cfg.slot slot).source != 0) (freqGate slot offset))) s

def execRefQualified (t slot : Nat) (s : State) : Host.Outcome State Fault Refusal :=
  onPart (timed t (guarded
    (fun p => (p.slotRt slot).state == 1 && decide ((p.slotRt slot).accept + (p.cfg.slot slot).acceptTime * sec ≤ p.sys.now))
    (fun p => reselect (raise evTbRefQualified slot 0
      (updSlotRt slot (fun r => { r with state := 2, since := p.sys.now }) p))))) s

/-- The delay compensation of a slot in units of 25 ps, by which each of its alignment points moves earlier (R258). -/
def delayUnits (c : SlotCfg) : Int := 40 * c.delayNs

/-- The first reference frame start after ACQUIRE is the slot's first alignment point and stays so (R260); the primary journals
the choice. `x` is its instant at the pin. -/
def chooseAlign (x : Nat) (p : Part) : Part :=
  if p.tb.align.isSome || followsTimebase p || decide (x < p.tb.since) then p
  else writeJournal p.fr.cfn 0 0 (.align x) (p.updTb fun t => { t with align := some x })

/-- A reference event of a PHASE slot while e is measured: the fourth sample gives the mean, which is reported (R265). -/
def measureStep (k : Nat) (err : Int) (p : Part) : Part :=
  let l := (p.slotRt k).samples ++ [err]
  let q := updSlotRt k (fun r => { r with lastErr := if l.length = 4 then 0 else err, samples := l }) p
  if l.length = 4 then reportStep (l.sum.tdiv 4) q else q

/-- A phase-detector sample of the slot in use, in 25 ps: of the first four of a PHASE slot, the offset of the reference's own
alignment from the schedule in force, of which e is the mean with the delay compensation taken off (R258, R265); after
them, the error of the closed loop, or a phase hit against the sample before it (R262, R266; log entry 48). `start` is the
instant of a reference frame start that the event shows. -/
def phaseSample (k : Nat) (err : Int) (start : Option Nat) (p0 : Part) : Part :=
  let c := p0.cfg.slot k
  let r := p0.slotRt k
  let p := if c.frequency then p0 else start.elim p0 fun x => chooseAlign x p0
  if !c.frequency && decide (r.samples.length < 4) && p.tb.state == .acquire then measureStep k (err - delayUnits c) p
  else if !r.samples.isEmpty && decide ((c.phaseHit : Int) * 4000 < (err - r.lastErr).natAbs) then failSlot k 3 p
  else
    setW (Config.loopFilter (wNow p) err (p.tb.bw / 1000))
      (updSlotRt k (fun r => { r with lastErr := err, samples := if r.samples.length < 4 then r.samples ++ [err] else r.samples }) p)

def execPhaseDetectorSample (t slot : Nat) (sample : PhaseSample) (s : State) : Host.Outcome State Fault Refusal :=
  onPart (timed t (guarded (fun p => p.tb.slot == some slot && (p.tb.state == .acquire || p.tb.state == .locked))
    (phaseSample slot sample.err sample.start))) s

/-- A PTP message; a new grandmaster fails a QUALIFIED PTP slot (R50, Table 10.4). -/
def ptpArrives (m : PtpMessage) (p : Part) : Part :=
  let q := ptpMessage m p
  if q.inp.ptp.gm = p.inp.ptp.gm then q
  else ((List.range 8).filter fun k => (p.cfg.slot k).source == 17 && (p.slotRt k).state == 2).foldl (fun r k => failSlot k 4 r) q

def execPtpMessage (t port : Nat) (msg : PtpMessage) (s : State) : Host.Outcome State Fault Refusal :=
  onPart (timed t (guarded (fun p => receives p && ptpPort p == port) (ptpArrives msg))) s

/-! ### Clock output units -/

def Part.couRt (p : Part) (k : Nat) : CouRt := p.tb.cou.getD k {}
def updCou (k : Nat) (f : CouRt → CouRt) (p : Part) : Part := p.updTb fun t => { t with cou := t.cou.upd k {} f }

/-- A unit runs (R270); the audio units run through loss of root lock (Table 10.8; log entry 49). -/
def couWanted (p : Part) (k : Nat) : Bool :=
  if k < 4 then p.tb.rootLock && (p.cfg.cou.getD k {}).enable
  else if k < 8 then p.cfg.ports.any fun e => e.2.direction != 0 && e.2.mclk == k - 4
  else p.tb.rootLock && (p.cfg.mon.getD (k - 8) {}).enable

/-- Units start and stop; a unit that starts aligns at the next frame event (R271). -/
def couFollows (p : Part) : Part :=
  (List.range 12).foldl (fun q k =>
    let want := couWanted q k
    if want = (q.couRt k).running then q
    else updCou k (fun r => { r with running := want, alignDue := want }) q) p

/-- The realigned sequence of a FOLLOW unit omits its first edge: the old one had an edge x before it, 0 < x < R root periods
(of 16 units of 25 ps), so that the low phase up to the new first edge would last x − R/2, less than half the nominal period
R (R272). -/
def omitsEdge (c : CouCfg) (gap : Nat) : Bool := gap * c.m % (16 * (c.n * c.m + c.f)) != 0

/-- Alignment of a unit at the frame event `fe`: divider and modulator start anew (R271, R273). -/
def couAligns (fe k : Nat) (p : Part) : Part :=
  let r := p.couRt k
  let c := p.cfg.cou.getD k {}
  emit (.couRestart k p.fr.cfn (!r.alignDue && omitsEdge c (fe - r.alignedFe)))
    (updCou k (fun r => { r with alignDue := false, alignedAt := some p.fr.cfn, alignedFe := fe, dither := c.seed }) p)

/-- The units that align at a frame event: those that started, and where an absorbed step moved it those that FOLLOW (R271). -/
def couFrameEvent (moved : Bool) (fe : Nat) (p : Part) : Part :=
  (List.range 12).foldl (fun q k =>
    let r := q.couRt k
    if r.running && (r.alignDue || (moved && decide (k < 4) && !(q.cfg.cou.getD k {}).free)) then couAligns fe k q else q) p

/-! ### Root lock -/

/-- Band table index of a temperature in 1/8 °C: one entry for each 8 °C from −24 °C, 18 in all (R254). -/
def bandIndex (tj : Int) : Nat := (clampInt ((tj + 192) / 64) 0 17).toNat

/-- The Kiln builds the band table for a frequency plan, from the centres it measured against the bypass root (R254). -/
def buildBands (plan : Int) (p : Part) : Part :=
  p.updTb fun t => { t with planW := plan, bandTable := (List.range 18).map fun i => Config.bandEntry i plan % 64 }

/-- The Kiln rewrites the band table after a search that settled on a band other than the entry, with that band as the entry, and
once the target w has moved more than 100 ppm from the frequency plan; the first search, in kindling, finds it empty (R254).  A
Kiln in reset leaves it for later (R315). -/
def bandsFollow (p : Part) : Part :=
  if p.hrt.kilnReset then p
  else
    let i := bandIndex p.tb.fineTj
    let q := p.updTb fun t => { t with bandNew := false }
    if p.tb.bandNew && p.tb.bandTable[i]? != some p.tb.band then
      (buildBands p.tb.wTarget q).updTb fun t => { t with bandTable := t.bandTable.set i t.band }
    else if 100000000 < (p.tb.wTarget - p.tb.planW).natAbs then buildBands p.tb.wTarget q
    else q

/-- The fine setting of the chosen band, in ppt from its centre: as the search left it, moved with w and with the free
frequency, which moves by at most 300 ppm (R255; log entry 157). -/
def fineNow (p : Part) : Int :=
  p.tb.fine + (wNow p - p.tb.fineW) + clampInt (Config.dcoDrift p.tb.fineTj p.sys.tj) (-300000000) 300000000

/-- TB_BAND_MARGIN, once per search, when the fine setting comes within 5 % of either end of its range of ±1,600 ppm: 160 ppm
(R254, R255; log entry 157). -/
def marginFollows (p : Part) : Part :=
  if !p.tb.marginRaised && decide (1440000000 ≤ (fineNow p).natAbs) then
    raise evTbBandMargin p.tb.band 0 (p.updTb fun t => { t with marginRaised := true })
  else p

/-- What the timebase follows from one frame event to the next. -/
def tbFrameEvent (p : Part) : Part := marginFollows (bandsFollow p)

/-- STEERED, from w at entry: any later change of the offset is added to it (R268). -/
def entersSteered (w : Int) (p : Part) : Part := setW w ((enterTb .steered p).updTb fun t => { t with steerBase := w - t.steer })

/-- After the search: ACQUIRE, STEERED or the resting state; w is set at once (Table 10.7, R268). -/
def afterSearch (p : Part) : Part :=
  let q := steerInForce p
  let r := setW (restingW q) q
  match bestSlot r with
  | some k => takeSlot k r
  | none => if r.cfg.tb.steered then entersSteered (restingW q) r else enterTb (restingState r) r

/-- The pixel domain runs again: the next frame event falls one frame period later, and its offset from the old schedule
is reported (Table 10.8); a step that still waited is added to it (R128). -/
def ungate (p : Part) : Part :=
  if !p.fr.started then p
  else
    let next : Int := p.sys.now + framePeriod p.cfg.canvas
    let n := nextCfn p
    reportStep (feInstant p n - next) (p.updFr fun f => { f with origin := next, originCfn := n, lastFe := p.sys.now })

/-- A band is found and the inner loop is locked, `fine` ppt from the band's centre (R254, R256, R273, Table 10.7); the converters
start afresh (R86). -/
def bandFound (band : Nat) (fine : Int) (p0 : Part) : Part :=
  let p := perfSync (if 3 ≤ p0.tb.fails then faultOff p0 else p0)
  let p1 := p.updTb fun t => { t with
    band := band, fine := fine, fineTj := p.sys.tj, bandNew := true, marginRaised := false, rootLock := true, fails := 0, dither := p.cfg.tb.seed }
  let p2 := afterSearch (raise evRootLockGained 0 0 p1)
  let p3 := p2.updTb fun t => { t with fineW := wNow p2 }
  let p4 := ungate (setMarks (fun _ _ _ => true) (couFollows p3))
  let p5 := p4.updFrc fun m => m.mapVals fun _ _ => {}
  p5.cfg.furrows.keys.foldl (fun q f => laneFollows f q) p5

def execBandSearchDone (t band : Nat) (fine : Int) (s : State) : Host.Outcome State Fault Refusal :=
  onPart (timed t (guarded (fun p => p.tb.state == .search) (bandFound band fine))) s

def execBypassWaitExpiry (t : Nat) (s : State) : Host.Outcome State Fault Refusal :=
  onPart (timed t (guarded
    (fun p => p.tb.state == .bypass && decide (7 ≤ p.sys.step) && !p.tb.xoFail && decide (p.tb.since + p.tb.wait ≤ p.sys.now))
    (enterTb .search))) s

/-- Loss of root lock (R269, Table 10.8). -/
def rootLockLost (pt : Part) : Part :=
  let p := perfSync pt
  let p0 := if p.tb.state = .acquire ∨ p.tb.state = .locked then bankValue p else p
  let p1 := (enterTb .bypass p0).updTb fun t => { t with
    rootLock := false, slot := none, align := none, wait := 20 * usec, w := wNow p, wTarget := wNow p, wAt := p.sys.now }
  let p2 := raise evRootLockLost 0 0 p1
  let p3 := p2.cfg.furrows.keys.foldl (fun q f => laneFollows f q) (couFollows p2)
  let p4 := p3.updComp fun c => { c with mon := c.mon.mapVals fun _ m => { m with waiting := [] } }
  p4.updInp fun i => { i with streams := i.streams.mapVals fun _ st => { st with writing := none, arriving := none, rtp := [] } }

def execRootLockLost (t : Nat) (s : State) : Host.Outcome State Fault Refusal :=
  onPart (timed t (guarded (fun p => p.tb.rootLock) rootLockLost)) s

def execXoRestored (t : Nat) (s : State) : Host.Outcome State Fault Refusal :=
  onPart (timed t (guarded (fun p => p.tb.xoFail)
    (fun p => (enterTb .bypass (faultOff (setLevel evXoFail 0 false p))).updTb fun b => { b with xoFail := false, wait := 20 * usec }))) s

/-! ### Timers of the loop -/

def execSwitchHoldoffExpiry (t : Nat) (s : State) : Host.Outcome State Fault Refusal :=
  onPart (timed t (guarded (fun p => p.tb.state == .holdover) reselect)) s

/-- The greater of 200 ms and 20 / B_a (Table 10.7). -/
def acquireTime (p : Part) (k : Nat) : Nat := max (200 * msec) (20 * sec * 1000000 / capBandwidth p k)

def execAcquisitionTimeout (t : Nat) (s : State) : Host.Outcome State Fault Refusal :=
  onPart (timed t (guarded
    (fun p => p.tb.state == .acquire && (p.tb.slot.map fun k => decide (p.tb.since + acquireTime p k ≤ p.sys.now)).getD false)
    (fun p => match p.tb.slot with
      | some k => failSlot k 5 (count blkTimebase k 1 p)
      | none => p))) s

/-- A dwell lasts 10 / B (R266). -/
def dwellTime (bw : Nat) : Nat := 10 * sec * 1000000 / max 1 bw

/-- A dwell ends: restarted where the error left ±1 µs, else B narrows; the first ends ACQUIRE (R266). -/
def dwellDone (within : Bool) (p : Part) : Part :=
  match p.tb.slot with
  | none => p
  | some k =>
    if !within then p.updTb fun t => { t with dwellFrom := p.sys.now }
    else
      let bt := trackBandwidth p k
      let bw := max (p.tb.bw / 4) bt
      let p1 := p.updTb fun t => { t with
        bw := bw, dwellFrom := p.sys.now
        trackSince := if bw = bt then some (t.trackSince.getD p.sys.now) else none }
      if p.tb.state = .acquire then raise evTbLocked k 0 ((enterTb .locked p1).updTb fun t => { t with everLocked := true }) else p1

def execDwellComplete (t : Nat) (within : Bool) (s : State) : Host.Outcome State Fault Refusal :=
  onPart (timed t (guarded
    (fun p => (p.tb.state == .acquire || p.tb.state == .locked) && decide (p.tb.dwellFrom + dwellTime p.tb.bw ≤ p.sys.now))
    (dwellDone within))) s

/-- One second wholly in LOCKED at B_t is recorded (R267). -/
def holdoverSecond (mean : Int) (p : Part) : Part :=
  p.updTb fun t => { t with secs := (t.secs.filter fun s => decide (p.sys.now ≤ s.1 + 71 * sec)) ++ [(p.sys.now - sec, p.sys.now, mean)] }

def execHoldoverSecond (t : Nat) (mean : Int) (s : State) : Host.Outcome State Fault Refusal :=
  onPart (timed t (guarded
    (fun p => p.tb.state == .locked && (p.tb.trackSince.map fun x => decide (x + sec ≤ p.sys.now)).getD false &&
      p.tb.secs.all fun x => decide (x.2.1 + sec ≤ p.sys.now))
    (holdoverSecond mean))) s

/-! ### Commits and steering -/

/-- What a commit does to one slot (Table 10.4); another delay compensation of the slot in use moves the ideal schedule, and
the step is reported (R258, R265; log entry 158). -/
def slotApplied (old : Cfg) (p : Part) (k : Nat) : Part :=
  let a := old.slot k
  let b := p.cfg.slot k
  if slotChanged a b then
    let p1 := updSlotRt k (fun _ => {}) p
    let p2 := if p.tb.slot = some k then leaveSlot p1 else p1
    checkSlot k p2
  else if (p.slotRt k).state = 4 ∧ slotFits p.cfg.canvas b (p.slotRt k) then checkSlot k p
  else if 1 ≤ (p.slotRt k).state ∧ (p.slotRt k).state ≤ 3 ∧ !slotFits p.cfg.canvas b (p.slotRt k) then
    let q := updSlotRt k (fun r => { r with state := 4, since := p.sys.now }) p
    if p.tb.slot = some k then leaveSlot q else q
  else if p.tb.slot = some k ∧ !b.frequency then reportStep (delayUnits a - delayUnits b) p
  else p

/-- What a commit does to the timebase (R264, R266). -/
def tbApplied (old : Cfg) (p : Part) : Part :=
  let p1 := (List.range 8).foldl (slotApplied old) p
  let running := p1.tb.state != .bypass && p1.tb.state != .search
  let p2 :=
    if old.tb.steered = p1.cfg.tb.steered ∨ !running then p1
    else if p1.cfg.tb.steered then
      let q := if p1.tb.state = .acquire ∨ p1.tb.state = .locked then bankValue p1 else p1
      entersSteered (wNow p1) (steerInForce (q.updTb fun t => { t with slot := none, align := none }))
    else match bestSlot p1 with
      | some k => takeSlot k p1
      | none => rampW (restingW p1) (enterTb (restingState p1) p1)
  let p3 := p2.updTb fun t => { t with clampRaised := if old.tb.bandwidth = p2.cfg.tb.bandwidth then t.clampRaised else false }
  let p4 := match p3.tb.state, p3.tb.slot with
    | .locked, some k =>
      let bt := trackBandwidth p3 k
      (checkClamp k p3).updTb fun t => { t with
        bw := max t.bw bt, trackSince := if max t.bw bt = bt then some (t.trackSince.getD p.sys.now) else none }
    | _, _ => p3
  couFollows (reselect p4)

/-- TB_STEER: the offset takes effect, or is stored (R268); answers whether it is stored. -/
def steerSet (v : Int) (p : Part) : Part × Bool :=
  match p.tb.state with
  | .freerun => (rampW (p.tb.banked.getD 0 + v) (p.updTb fun t => { t with steer := v, steerNew := none }), false)
  | .holdover => (rampW (p.tb.banked.getD 0 + v) (p.updTb fun t => { t with steer := v, steerNew := none }), false)
  | .steered => (rampW (p.tb.steerBase + v) (p.updTb fun t => { t with steer := v, steerNew := none }), false)
  | _ => (p.updTb fun t => { t with steerNew := some v }, true)

/-! ### Replies -/

def tbStatusBytes (p : Part) : List Byte :=
  let t := p.tb
  le 1 (tbCode t.state) ++ encNoneByte t.slot ++ le 1 (packBits [t.banked.isSome, t.rootLock, t.weak]) ++ le 1 t.band ++
    leInt 8 (wNow p) ++ leInt 8 (t.banked.getD 0) ++ le 4 (t.bw / 1000) ++ (List.range 8).flatMap (fun k => le 1 (p.slotRt k).state) ++
    leInt 8 p.fr.lastStep ++ le 8 p.inp.ptp.gm.toNat ++ leInt 8 p.inp.ptp.offset

def tbSlotStatusBytes (p : Part) (k : Nat) : List Byte :=
  let r := p.slotRt k
  le 1 r.state ++ le 1 (packBits [p.tb.slot == some k, selectable p k]) ++ [0, 0] ++ leInt 4 r.lastGate ++
    leInt 4 (r.lastErr.tdiv 40) ++ le 4 (min 0xFFFFFFFF ((p.sys.now - r.since) / sec)) ++
    le 4 (counter blkTimebase k 0 p).toNat ++ le 4 (counter blkTimebase k 1 p).toNat ++ encSlot k (p.cfg.slot k)

def tbReadBytes (p : Part) : List Byte :=
  encTbSet p.cfg.tb ++ leInt 4 p.tb.steer ++ le 1 (b2n p.tb.steerNew.isSome) ++ [0, 0, 0]

end Sys2Proof.Machine
end

