-- ==== Sys2Proof/Machine/Roles.lean ====
section
/-! DEFINITION. Roles of a head (R274 to R278, R292, R294, R295): taking the primary role, yielding, being demoted. -/

namespace Sys2Proof.Machine

open Sys2Proof

/-- The reading of PAIR_TENURE and PAIR_YIELD_N follows the drives this head knows of (log entry 50). -/
def pinsFollow (p : Part) : Part :=
  let there := fun (b : Nat) => (p.pair.partner.map fun h => bit h.pins.toNat b).getD false
  p.updPair fun x => { x with readTenureLow := x.driveTenure || there 0, readYieldLow := x.driveYield || there 2 }

/-- The raster starts: its first frame event carries CFN `next`, one frame period from now, with a step measured before
it absorbed at once (R19, R125; log entry 51). -/
def startRaster (next : Nat) (p : Part) : Part :=
  let per : Int := framePeriod p.cfg.canvas
  let e := (p.fr.step.map fun s => s.1 % per).getD 0
  p.updFr fun f => { f with
    started := true, first := true, cfn := next, lastFe := p.sys.now, origin := p.sys.now + per + e, originCfn := next, step := none }

/-- Takes the primary role with the last epoch known plus 1 (R278, R292). -/
def becomePrimary (split : Bool) (p : Part) : Part :=
  let p1 := p.updPair fun x => { x with
    role := .primary, epoch := x.epoch + 1, driveTenure := true, readTenureLow := true, split := split
    tenureWait := none, joining := false, joinCfg := false, joinGot := [], joinSent := false, synced := false, switchAt := none, undo := none }
  let p2 := raise evPairSwitchover 0 0 p1
  let p3 := setMarks (fun _ _ _ => true) (if p.fr.started then p2 else startRaster 0 p2)
  reselect (sendHeld p3)

/-- A head that gives up the primary role releases PAIR_TENURE. -/
def releaseTenure (p : Part) : Part :=
  p.updPair fun x => { x with driveTenure := false, readTenureLow := (x.partner.map fun h => bit h.pins.toNat 0).getD false }

/-- Becomes UNSYNCED and joins (R287). -/
def becomeUnsynced (p : Part) : Part :=
  p.updPair fun x => { x with role := .unsynced, synced := false, joining := true, joinCfg := false, joinGot := [], recomposed := none, undo := none, replayTo := 0 }

/-- The standby is out of step (R284). -/
def losesStep (p : Part) : Part := raise evPairUnsynced 0 0 (becomeUnsynced p)

/-- A re-meeting of two primaries ends this head's role (R295). -/
def demoted (epoch : Half) (p : Part) : Part :=
  let q := becomeUnsynced (releaseTenure p)
  raise evPairDemoted 0 p.txn.jseq (q.updPair fun x => { x with epoch := epoch, split := false })

/-- Yields (R292); without a partner in service it goes on degraded (R311).  A head in kindling holds nothing to yield: its pair
pins are in high-impedance until step 8 (Table 17.3; log entry 168). -/
def yieldHead (p : Part) : Part :=
  if p.pair.role = .yielding ∨ p.pair.role = .kindling then p
  else if partnerInService p then
    let q := releaseTenure p
    setLevel evYielding 0 true (q.updPair fun x => { x with role := .yielding, driveYield := true, readYieldLow := true })
  else if p.hrt.noYield then p
  else raise evHearthNoYield 0 0 (p.updHrt fun h => { h with noYield := true })

/-- Recovered: releases PAIR_YIELD_N and joins (R292). -/
def unyield (p : Part) : Part :=
  if p.pair.role = .yielding then
    becomeUnsynced (setLevel evYielding 0 false (p.updPair fun x => { x with driveYield := false, readYieldLow := false }))
  else p

/-! ### Faults of class CLOCK -/

/-- Kindling stops: FAULT_N low, READY low, the cause in the log (R407); the xSPI pins are left to the board (R410). -/
def kindlingStops (cause : Nat) (p : Part) : Part :=
  report blkKiln 0 0x8001 2 0 (p.sys.step + 256 * cause) (p.updSys fun y => { y with stopped := true, xspiDriven := false })

/-- The band search of kindling step 7. -/
def inKindling (p : Part) : Bool := !p.sys.ready && p.sys.step == 7

/-- No band within 1.5 ms: BYPASS for 10 ms; the third failure in a row is a fault of class CLOCK and in kindling it stops
(Tables 10.7, 12.1, 17.4). -/
def bandFails (p : Part) : Part :=
  let p1 := raise evTbBandFail 0 0 ((enterTb .bypass p).updTb fun t => { t with fails := t.fails + 1, wait := 10 * msec })
  if inKindling p1 then (if p1.tb.fails = 3 then kindlingStops 0 p1 else p1)
  else if p1.tb.fails = 3 then yieldHead (report blkTimebase 0 evTbBandFail 2 7 0 (faultOn p1)) else p1

def execBandSearchFail (t : Nat) (s : State) : Host.Outcome State Fault Refusal :=
  onPart (timed t (guarded (fun p => p.tb.state == .search && decide (p.tb.since + 1500 * usec ≤ p.sys.now)) bandFails)) s

/-- XO_IN stops: the on-die oscillator takes over, and the head yields (R269, Table 12.1). -/
def xoFails (p : Part) : Part :=
  let p1 := faultOn (setLevel evXoFail 0 true (p.updTb fun t => { t with xoFail := true }))
  yieldHead (if p1.tb.rootLock then rootLockLost p1 else enterTb .bypass p1)

def execXoFail (t : Nat) (s : State) : Host.Outcome State Fault Refusal :=
  onPart (timed t (guarded (fun p => !p.tb.xoFail) xoFails)) s

end Sys2Proof.Machine
end

