-- ==== Sys2Proof/Machine/Recovery.lean ====
section
/-! DEFINITION. The Hearth and the headland (R300 to R312), Kiln failure (R313 to R316), wear trends (R318). -/

namespace Sys2Proof.Machine

open Sys2Proof

/-! ### Units -/

def serving (k : UnitKind) (logical : Nat) (u : Unit) : Bool := u.kind == k && u.state == .service logical

/-- Physical instance in service as a logical one. -/
def physOf (p : Part) (k : UnitKind) (logical : Nat) : Option Nat := (p.hrt.units.find? (serving k logical)).map (·.phys)

/-- Logical instance that a physical unit serves. -/
def logicalOf (p : Part) (k : UnitKind) (phys : Nat) : Option Nat :=
  (p.hrt.units.find? fun u => u.kind == k && u.phys == phys).bind fun u => match u.state with
    | .service l => some l
    | _ => none

def isFallow (p : Part) (k : UnitKind) (phys : Nat) : Bool :=
  if k = .hbm then pcState p phys == 1
  else p.hrt.units.any fun u => u.kind == k && u.phys == phys && u.state == .fallow

def updUnit (k : UnitKind) (phys : Nat) (f : Unit → Unit) (p : Part) : Part :=
  p.updHrt fun h => { h with units := h.units.map fun u => if u.kind == k && u.phys == phys then f u else u }

/-- Swaps running and queued. -/
def swapsOpen (p : Part) : List Swap := p.hrt.running.toList ++ p.hrt.queue

/-- Lowest fallow unit of a kind that no open swap has taken. -/
def spareFor (p : Part) (k : UnitKind) : Option Nat :=
  ((p.hrt.units.filter fun u => u.kind == k && u.state == .fallow).map (·.phys)).find? fun n =>
    !(swapsOpen p).any fun s => s.kind == k && s.spare == n

/-- The frame being written by a stream's ingest unit is stored INCOMPLETE (Table 12.2). -/
def abortFrame (n : Nat) (p : Part) : Part :=
  if (p.stream n).writing.isSome then updStream n (fun x => { x with
    writing := none, arriving := none, incNew := x.incNew + 1, incompleteRun := x.incompleteRun + 1 }) p else p

/-- What a fault swap costs while it runs (Table 12.2); a planned swap at its safe point costs nothing (R308). -/
def swapCost (s : Swap) (p : Part) : Part :=
  if !swapCosts s then p
  else match s.kind with
    | .ingest => abortFrame s.logical p
    | .converter => p.updFrc fun m => m.upd s.logical {} fun r => { r with whole := true }
    | _ => p

/-- Starts a swap, or queues it behind the one that runs (R306, R310). -/
def startSwap (s : Swap) (p : Part) : Part :=
  if p.hrt.running.isSome then p.updHrt fun h => { h with queue := h.queue ++ [s] }
  else swapCost s (p.updHrt fun h => { h with running := some s })

/-- A unit kind with no spare left and no partner in service (Table 12.7). -/
def degradedUnit (k : UnitKind) (logical : Nat) (p : Part) : Part :=
  let q := (perfSync p).updHrt fun h => { h with degradedUnits := h.degradedUnits ++ [(k, logical)] }
  match k with
  | .ingest => updStream logical (fun x => { x with lossDue := some .signal }) (abortFrame logical q)
  | .converter => faultOff q
  | .scaler => faultOff q
  | .lane => faultOff q
  | .hbm => q

/-- A SPARE_SWAP whose spare fails owes its final reply: NO_RESOURCE (DESIGN CHOICE, log entry 162). -/
def unanswered (tag : Option Word) (p : Part) : Part :=
  match tag with
  | some g => finalError g stNoResource p
  | none => p

/-- A unit that cannot be replaced: the head yields, or goes on degraded (R311, Tables 12.6, 12.7). -/
def irreplaceable (k : UnitKind) (logical : Nat) (p : Part) : Part :=
  let q := yieldHead p
  if q.pair.role = .yielding then q else degradedUnit k logical q

/-- No spare is left for a swap.  A planned swap is not made. -/
def noSpare (s : Swap) (p : Part) : Part :=
  let q := unanswered s.tag p
  if s.wear then q else irreplaceable s.kind s.logical q

/-- The next queued swap starts when the running one has ended (R310), with the spare its recovery table names then. -/
def nextOf : List Swap → Part → Part
  | [], p => p
  | s :: rest, p =>
    let q := p.updHrt fun h => { h with queue := rest }
    match spareFor q s.kind with
    | some n => startSwap { s with spare := n } q
    | none => nextOf rest (noSpare s q)

def nextSwap (p : Part) : Part := nextOf p.hrt.queue p

/-- A fault of class UNIT (R306, R310, R311). -/
def unitFault (k : UnitKind) (logical : Nat) (single : Bool) (p : Part) : Part :=
  match physOf p k logical with
  | none => p
  | some phys =>
    if (swapsOpen p).any fun s => s.kind == k && s.logical == logical then count blkHearth 0 1 p
    else if p.hrt.degradedUnits.contains (k, logical) || p.hrt.split then p
    else
      let p1 := raise evUnitFault logical phys (faultOn p)
      match spareFor p1 k with
      | some n => startSwap { kind := k, logical := logical, spare := n, single := single, wear := false, tag := none } p1
      | none => noSpare { kind := k, logical := logical, spare := 0, single := single, wear := false, tag := none } p1

def execUnitFault (t : Nat) (kind : UnitKind) (logical : Nat) (single : Bool) (s : State) : Host.Outcome State Fault Refusal :=
  onPart (timed t (unitFault kind logical single)) s

def execProgressWatchdog (t : Nat) (kind : UnitKind) (logical : Nat) (s : State) : Host.Outcome State Fault Refusal :=
  onPart (timed t (unitFault kind logical false)) s

/-- The swap that runs completes (R304, R306): the spare serves, the faulty unit is retired, the next swap starts. -/
def swapDone (p : Part) : Part :=
  match p.hrt.running with
  | none => p
  | some s =>
    let old := (physOf p s.kind s.logical).getD 0
    let p1 := updUnit s.kind old (fun u => { u with state := .retired, single := s.single && !s.wear, passes := 0 }) p
    let p2 := updUnit s.kind s.spare (fun u => { u with state := .service s.logical }) p1
    let p3 := raise evHearthSwap s.logical (old * 65536 + s.spare)
      (p2.updHrt fun h => { h with running := none, swaps := h.swaps + 1 })
    let p4 := match s.tag with
      | some tag => finalReply tag stOk [] p3
      | none => p3
    nextSwap (if s.wear then p4 else faultOff p4)

def execHearthSwap (t : Nat) (s : State) : Host.Outcome State Fault Refusal :=
  onPart (timed t (guarded (fun p => p.hrt.running.isSome) swapDone)) s

/-- A planned swap starts at its safe point, or at the eleventh frame event (R308). -/
def plannedSwap (k : UnitKind) (logical : Nat) (p : Part) : Part :=
  match p.hrt.planned.find? fun s => s.kind == k && s.logical == logical with
  | none => p
  | some s =>
    let p1 := p.updHrt fun h => { h with planned := h.planned.filter fun x => !(x.kind == k && x.logical == logical) }
    match spareFor p1 k with
    | some n => startSwap { s with spare := n } p1
    | none => noSpare s p1

def execPlannedSwap (t : Nat) (kind : UnitKind) (logical : Nat) (s : State) : Host.Outcome State Fault Refusal :=
  onPart (timed t (plannedSwap kind logical)) s

/-- Planned swaps at a frame event: the eleventh one runs them (R308). -/
def plannedFrameEvent (p : Part) : Part :=
  let p1 := p.updHrt fun h => { h with planned := h.planned.map fun s => { s with frames := s.frames + 1 } }
  (p1.hrt.planned.filter fun s => decide (11 ≤ s.frames)).foldl (fun q s => plannedSwap s.kind s.logical q) p1

/-- Plans a swap of a unit in service (R308). -/
def planSwap (k : UnitKind) (logical : Nat) (tag : Option Word) (p : Part) : Part :=
  if p.hrt.planned.any fun s => s.kind == k && s.logical == logical then p
  else p.updHrt fun h => { h with planned := h.planned ++
    [{ kind := k, logical := logical, spare := 0, single := false, wear := true, tag := tag }] }

/-! ### Furrow faults -/

/-- R300. -/
def furrowFault (f : Nat) (serdesOk : Bool) (p : Part) : Part :=
  let p1 := updLane f (fun l => { l with faulted := true, serdesOk := serdesOk, enum := none, scan := [] }) p
  let p2 := raise evFurrowFault f 0 (if partnerInService p1 then p1 else faultOn p1)
  laneFollows f p2

def execFurrowFault (t furrow : Nat) (serdesOk : Bool) (s : State) : Host.Outcome State Fault Refusal :=
  onPart (timed t (guarded (fun p => decide (furrow < 128) && !(p.lane furrow).faulted) (furrowFault furrow serdesOk))) s

/-! ### Self-tests -/

/-- Answers the SELF_TEST commands that wait for a unit. -/
def testDone (k : UnitKind) (phys : Nat) (pass : Bool) (p : Part) : Part :=
  let due := p.hrt.tests.filter fun x => x.1 == k && x.2.1 == phys
  due.foldl (fun q x => finalReply x.2.2 stOk (le 1 (b2n !pass) ++ [0, 0, 0]) q)
    (p.updHrt fun h => { h with tests := h.tests.filter fun x => !(x.1 == k && x.2.1 == phys) })

/-- The unit's swap fails because the spare does (Table 12.6). -/
def spareFails (k : UnitKind) (phys : Nat) (p : Part) : Part :=
  match p.hrt.running with
  | some s =>
    if s.kind = k ∧ s.spare = phys then
      let q := unanswered s.tag (p.updHrt fun h => { h with running := none })
      nextSwap (if s.wear then yieldHead q else irreplaceable k s.logical q)
    else p
  | none => p

/-- A self-test of a fallow or retired unit (R303, R304; log entry 171). -/
def selfTest (k : UnitKind) (phys : Nat) (pass : Bool) (p : Part) : Part :=
  match p.hrt.units.find? fun u => u.kind == k && u.phys == phys with
  | none => p
  | some u => match u.state with
    | .service _ => p
    | .fallow =>
      if pass then testDone k phys true (updUnit k phys (fun u => { u with testedAt := p.sys.now }) p)
      else testDone k phys false (spareFails k phys (raise evHeadlandShrink phys 0 (updUnit k phys (fun u => { u with state := .retired }) p)))
    | .retired =>
      let from_ := if u.passes = 0 then p.sys.now else u.passFrom
      if !u.single then p
      else if !pass then updUnit k phys (fun u => { u with single := false, passes := 0 }) p
      else if 2 ≤ u.passes ∧ p.sys.now ≤ from_ + 180 * sec then
        raise evUnitRestored phys 0 (updUnit k phys (fun u => { u with state := .fallow, single := false, passes := 0, testedAt := p.sys.now }) p)
      else if p.sys.now ≤ from_ + 180 * sec then updUnit k phys (fun u => { u with passes := u.passes + 1, passFrom := from_ }) p
      else updUnit k phys (fun u => { u with single := false }) p

/-! ### The Hearth's copies -/

/-- The Hearth cannot agree (R312). -/
def hearthSplit (p : Part) : Part := yieldHead (raise evHearthSplit 0 0 (faultOn (p.updHrt fun h => { h with split := true })))

/-- Code of the log entry of a copy that was outvoted (log entry 59). -/
abbrev codeCopyReload : Nat := 0x8005

/-- A Hearth copy differs from the others: it is reloaded from them, and the fault of class HEARTH is logged (R299, R312). -/
def copyDisagrees (copy : Nat) (majority : Bool) (p : Part) : Part :=
  if !majority || decide (p.hrt.copies < 3) then hearthSplit p
  else
    let recent := (p.hrt.reloads.filter fun r => r.1 == copy && decide (p.sys.now ≤ r.2 + sec)) ++ [(copy, p.sys.now)]
    report blkHearth copy codeCopyReload 2 6 0 <| count blkHearth 0 0 (p.updHrt fun h => { h with
      reloads := (h.reloads.filter fun r => r.1 != copy) ++ recent
      copies := if 3 ≤ recent.length then 2 else h.copies })

def execHearthCopyDisagree (t copy : Nat) (majority : Bool) (s : State) : Host.Outcome State Fault Refusal :=
  onPart (timed t (guarded (fun p => decide (copy < 3) && !p.hrt.split) (copyDisagrees copy majority))) s

/-! ### Kiln failure -/

/-- Replaces a core by the fallow one (R313, R314). -/
def replaceCore (c : Nat) (p : Part) : Part :=
  match p.hrt.coresFallow with
  | n :: rest => raise evKilnCoreSwap 0 c (p.updHrt fun h => { h with
      coresUp := (h.coresUp.filter (· != c)) ++ [n], coresFallow := rest })
  | [] => raise evKilnNoSpare 0 0 p

/-- What the self-test of the cores leads to (R313, R314). -/
def coresTested (failing : Option Nat) (lockstep : Bool) (p : Part) : Part :=
  match failing with
  | some c => if p.hrt.coresUp.contains c then replaceCore c p
    else p.updHrt fun h => { h with coresFallow := h.coresFallow.filter (· != c) }
  | none =>
    if !lockstep then p
    else
      let again := (p.hrt.lastMismatch.map fun m => decide (p.sys.now ≤ m + 3600 * sec)).getD false
      let p1 := p.updHrt fun h => { h with lastMismatch := some p.sys.now }
      if again then replaceCore (p.hrt.coresUp.foldl min 2) p1 else p1

/-- The Kiln enters reset (Table 12.8, R315): open transactions, unsealed loads and enumeration end (R116, R160). -/
def kilnStops (p : Part) : Part :=
  let gone := p.txn.loads.filter fun l => decide (l.state < 2)
  let p1 := p.updTxn fun x => { x with open_ := [], transfers := [], loads := x.loads.filter fun l => decide (2 ≤ l.state) }
  let p2 := p1.updHrt fun h => { h with kilnReset := true, kilnResetAt := p.sys.now, lostLoads := gone.map (·.tag) }
  let p3 := p2.updKl fun k => { k with lanes := k.lanes.mapVals fun _ l => { l with enum := none } }
  gone.foldl (fun q l => finalCommit l.tag stTimeout 0 [] q) p3

/-- A Kiln failure (R313); during a trial it returns to the previous image (R328). -/
def kilnFails (failing : Option Nat) (lockstep : Bool) (p : Part) : Part :=
  let p1 := raise evKilnReset 0 0 (faultOn (kilnStops p))
  let p2 := match p1.hrt.trial with
    | some _ => (p1.updHrt fun h => { h with trial := none, reverted := true }).updSys fun y => { y with bootSlot := p1.hrt.trialPrev }
    | none => p1
  coresTested failing lockstep p2

def kilnRuns (p : Part) : Bool := decide (4 ≤ p.sys.step) && !p.sys.stopped && !p.hrt.kilnReset

def execKilnLockstepMismatch (t : Nat) (failing : Option Nat) (s : State) : Host.Outcome State Fault Refusal :=
  onPart (timed t (guarded kilnRuns (kilnFails failing true))) s

def execKilnWatchdog (t : Nat) (failing : Option Nat) (s : State) : Host.Outcome State Fault Refusal :=
  onPart (timed t (guarded kilnRuns (kilnFails failing false))) s

/-- Firmware version of the image in a slot: offset 8 of its header (Table 12.11). -/
def imageBase (slot : Nat) : Nat := if slot = 0 then 0x100000 else 0x2100000

def flashBytes (flash : Memory) (a n : Nat) : List Byte := Memory.readBytes Memory.flashDefault flash a n

def imageVersion (flash : Memory) (slot : Nat) : Word := BitVec.ofNat 32 (leAt (flashBytes flash (imageBase slot + 8) 4) 0 4)

/-- Journal format version: offset 6 of the header. -/
def imageJournal (flash : Memory) (slot : Nat) : Nat := leAt (flashBytes flash (imageBase slot + 6) 2) 0 2

/-- The Kiln runs the image of a slot. -/
def runImage (flash : Memory) (slot : Nat) (p : Part) : Part :=
  p.updSys fun y => { y with bootSlot := slot, fw := imageVersion flash slot, fwJournal := imageJournal flash slot }

/-- The Kiln takes commands again (Table 12.8, R315, R316, R327, R328). -/
def kilnRestored (flash : Memory) (p : Part) : Part :=
  let p0 := p.updHrt fun h => { h with kilnReset := false }
  let p1 := match p0.hrt.switchTo with
    | some (slot, secs) =>
      raise evFwSwitched slot 0 <| runImage flash slot <| p0.updHrt fun h => { h with
        switchTo := none, trial := some (slot, p.sys.now + secs * sec), trialPrev := p.sys.bootSlot }
    | none =>
      let q := faultOff p0
      if p0.hrt.reverted then
        raise evFwReverted p.sys.bootSlot 0 (runImage flash p.sys.bootSlot (q.updHrt fun h => { h with reverted := false }))
      else q
  let p2 := (sendHeld (raise evKilnRestored 0 0 p1)).updHost fun h => { h with
    tags := h.tags.filter fun e => !p.hrt.lostLoads.contains e.tag }
  p2.cfg.furrows.keys.foldl (fun q f => if (q.lane f).state = 7 then enumAgain f q else q) p2

def execKilnRestored (t : Nat) (s : State) : Host.Outcome State Fault Refusal :=
  onPartMem (fun _ flash => timed t (guarded (fun p => p.hrt.kilnReset) (kilnRestored flash))) s

end Sys2Proof.Machine
end

