-- ==== Sys2Proof/Machine/LogBank.lean ====
section
/-! DEFINITION. The log's writer, its banks and the ember log (R320 to R325). -/

namespace Sys2Proof.Machine

open Sys2Proof

/-- Severity code of a LOST entry. -/
abbrev sevLost : Nat := 3

/-- An entry that a new one may take the place of (R323). -/
def LogEntry.replaceable (e : LogEntry) : Bool := decide (e.severity < 2) || e.gleaned

/-- The bank that is read: a bank that has failed or is being filled is not (R324). -/
def goodBank (p : Part) : Tab LogEntry := if p.log.failA then p.log.bankB else p.log.bankA

/-- The entry of lowest LSEQ. -/
def oldestOf : List (Nat × LogEntry) → Option (Nat × LogEntry)
  | [] => none
  | e :: rest => some (rest.foldl (fun b x => if x.2.lseq < b.2.lseq then x else b) e)

/-- Slot of the ring of `size` that a new entry takes: a free slot, else the oldest that may be replaced (R323). -/
def freeSlot (size : Nat) (bank : Tab LogEntry) : Option Nat :=
  if bank.length < size then (List.range size).find? fun k => !bank.has k
  else (oldestOf (bank.filter fun e => e.2.replaceable)).map (·.1)

/-- Slot of the ember log that a new entry takes (R325). -/
def emberSlot (bank : Tab LogEntry) : Nat :=
  if bank.length < 32 then ((List.range 32).find? fun k => !bank.has k).getD 0
  else match oldestOf (bank.filter fun e => decide (e.2.severity < 2)) with
    | some e => e.1
    | none => ((oldestOf bank).map (·.1)).getD 0

/-- Writes an entry to the ember log (R325). -/
def emberWrite (e : LogEntry) (p : Part) : Part :=
  let k := emberSlot p.log.ember
  let q := if p.log.ember.has k then count blkLog 0 23 p else p
  q.updLog fun l =>
    let bank := l.ember.set k { e with lseq := l.nextSeq, toA := false, toB := false }
    { l with ember := bank, nextSeq := l.nextSeq + 1, emberNext := emberSlot bank }

/-- Room for a new entry. -/
def logRoom (p : Part) : Bool := p.log.emberOn || (freeSlot 4096 (goodBank p)).isSome

/-- Writes an entry to both banks at one index, or to the survivor, or to the ember log (R320, R324, R325). -/
def bankWrite (e : LogEntry) (p : Part) : Part :=
  if p.log.emberOn then emberWrite e p
  else match freeSlot 4096 (goodBank p) with
    | some k => p.updLog fun l =>
      let x := { e with lseq := l.nextSeq, toA := !l.failA, toB := !l.failB }
      { l with
        nextSeq := l.nextSeq + 1
        bankA := if l.failA then l.bankA else l.bankA.set k x
        bankB := if l.failB then l.bankB else l.bankB.set k x }
    | none => p

/-- An entry the log cannot take while every slot holds an ungleaned FAULT or LOST entry (R323). -/
def bankRefuse (e : LogEntry) (p : Part) : Part :=
  setLevel evLogFull 0 true <| count blkLog 0 e.source <| p.updLog fun l => { l with
    full := true
    lostCount := min (l.lostCount + 1) 65535
    lostTime := if l.lostCount = 0 then e.time else l.lostTime
    lostCfn := if l.lostCount = 0 then e.cfn else l.lostCfn
    lostLast := e.time
    lostBlocks := if l.lostBlocks.contains e.source then l.lostBlocks else l.lostBlocks ++ [e.source] }

/-- Writes the LOST entry for the reports refused since the last one (R322; log entry 52). -/
def writeLost (p : Part) : Part :=
  let l := p.log
  let e : LogEntry := {
    lseq := 0, time := l.lostTime, cfn := l.lostCfn, severity := sevLost, faultClass := 0, gleaned := false, toA := false,
    toB := false, coalesced := false, source := blkLog, inst := 0, code := evLogOverflow, count := l.lostCount,
    last := min ((l.lostLast - l.lostTime) / usec) 1000, arg := l.lostBlocks.length }
  setLevel evLogFull 0 false ((bankWrite e p).updLog fun l => { l with lostCount := 0, lostBlocks := [], full := false })

/-- A closing rewrite of an entry that stands in a bank, the ember log or the intake queue (R321). -/
def rewriteEntry (w : LogWindow) (p : Part) : Part :=
  let fix := fun (e : LogEntry) =>
    if e.time == w.opened && e.source == w.source && e.inst == w.inst && e.code == w.code then
      { e with count := w.count, last := w.last, coalesced := true } else e
  p.updLog fun l => { l with
    bankA := l.bankA.mapVals fun _ => fix
    bankB := l.bankB.mapVals fun _ => fix
    ember := if l.emberOn then l.ember.mapVals fun _ => fix else l.ember
    intake := l.intake.map fix }

/-- A window closes 1 ms after it opened (R321). -/
def windowDue (source inst code : Nat) (p : Part) : Option LogWindow :=
  p.log.windows.find? fun w => w.source == source && w.inst == inst && w.code == code && decide (w.opened + msec ≤ p.sys.now)

def execLogWindowClose (t source inst code : Nat) (s : State) : Host.Outcome State Fault Refusal :=
  onPart (timed t fun p => match windowDue source inst code p with
    | some w => closeWindow w p
    | none => p) s

/-- One turn of the log writer (R321, R323): closing rewrites go ahead of new entries. -/
def logTurn (p : Part) : Part :=
  match p.log.rewrites with
  | w :: rest => rewriteEntry w (p.updLog fun l => { l with rewrites := rest })
  | [] => match p.log.intake with
    | [] => p
    | e :: rest =>
      if p.log.full && logRoom p then writeLost p
      else
        let q := p.updLog fun l => { l with intake := rest }
        if logRoom q then bankWrite e q else bankRefuse e q

def execLogWrite (t : Nat) (s : State) : Host.Outcome State Fault Refusal := onPart (timed t logTurn) s

def execLogLostEntry (t : Nat) (s : State) : Host.Outcome State Fault Refusal :=
  onPart (timed t (guarded (fun p => decide (0 < p.log.lostCount) && decide (p.log.intake.length < 32) && logRoom p) writeLost)) s

/-- The ember log takes over (R325): it is emptied, and its first entry names both banks. -/
def emberTakes (p : Part) : Part :=
  let e : LogEntry := {
    lseq := 0, time := p.sys.now, cfn := p.fr.cfn, severity := 2, faultClass := 8, gleaned := false, toA := false, toB := false,
    coalesced := false, source := blkLog, inst := 2, code := evLogBankFail, count := 1, last := 0, arg := 0 }
  setLevel evEmberActive 0 true <| emberWrite e <| p.updLog fun l => { l with
    emberOn := true, ember := [], emberNext := 0, failA := true, failB := true, copying := none }

/-- A bank fails (R324, R325). -/
def bankFails (b : Bool) (p : Part) : Part :=
  let p1 := p.updLog fun l => if b then { l with failB := true } else { l with failA := true }
  if p1.log.failA && p1.log.failB then raiseEvent evLogBankFail 0 (b2n b) (emberTakes (faultOn p1))
  else
    let p2 := raise evLogBankFail 0 (b2n b) (faultOn p1)
    if 0 < p2.log.spares then
      p2.updLog fun l => { l with spares := l.spares - 1, copying := some b }
    else faultOff p2

def execLogBankFail (t : Nat) (bankB : Bool) (s : State) : Host.Outcome State Fault Refusal :=
  onPart (timed t (guarded (fun p => !p.log.emberOn && !(if bankB then p.log.failB && p.log.copying.isNone
    else p.log.failA && p.log.copying.isNone)) (bankFails bankB))) s

/-- The spare holds the survivor's entries and takes the failed bank's name (R324). -/
def bankCopied (p : Part) : Part :=
  match p.log.copying with
  | some true => faultOff (p.updLog fun l => { l with bankB := l.bankA, failB := false, copying := none })
  | some false => faultOff (p.updLog fun l => { l with bankA := l.bankB, failA := false, copying := none })
  | none => p

def execLogBankCopyDone (t : Nat) (s : State) : Host.Outcome State Fault Refusal := onPart (timed t bankCopied) s

/-! ### Reading the log -/

/-- An entry as Table 12.10 lays it out. -/
def encEntry (e : LogEntry) : List Byte :=
  le 4 e.lseq ++ le 8 e.time ++ le 6 e.cfn ++ [BitVec.ofNat 8 (e.severity + 4 * e.faultClass),
    BitVec.ofNat 8 (packBits [e.gleaned, e.toA, e.toB, e.coalesced]), BitVec.ofNat 8 e.source, 0] ++
    le 2 e.inst ++ le 2 e.code ++ le 2 e.count ++ le 2 e.last ++ le 2 e.arg

/-- Puts an entry in LSEQ order. -/
def insertEntry (e : LogEntry) : List LogEntry → List LogEntry
  | [] => [e]
  | x :: rest => if e.lseq < x.lseq then e :: x :: rest else x :: insertEntry e rest

/-- Entries held at or after an LSEQ, oldest first. -/
def entriesFrom (q : Nat) (bank : Tab LogEntry) : List LogEntry :=
  ((bank.vals).filter fun e => decide (q ≤ e.lseq)).foldl (fun r e => insertEntry e r) []

/-- Sets GLEANED on entries by LSEQ (R323). -/
def gleanThem (seqs : List Nat) (p : Part) : Part :=
  let f := fun (e : LogEntry) => if seqs.contains e.lseq then { e with gleaned := true } else e
  p.updLog fun l => { l with
    bankA := l.bankA.mapVals fun _ => f, bankB := l.bankB.mapVals fun _ => f, ember := l.ember.mapVals fun _ => f }

end Sys2Proof.Machine
end

