-- ==== Sys2Proof/Machine/Commits.lean ====
section
/-! DEFINITION. Configuration commands and commits (R116 to R120): what each command of class C changes, which objects
it touches, the checks of a seal on the projected state, supersede, and the seal itself. -/

namespace Sys2Proof.Machine

open Sys2Proof

/-! ### Commands of class C -/

/-- Layout of each opcode of class C (Tables 14.6 to 14.14). -/
def configParser (op : Nat) : Option (List Byte → Parse ConfigCmd) :=
  match op with
  | 0x0106 => some parseFenceSet
  | 0x0107 => some parseFenceAnc
  | 0x0201 => some parseStreamSdi
  | 0x0202 => some parseStreamIp
  | 0x0203 => some parseStreamParams
  | 0x0204 => some parseInputRemove
  | 0x0205 => some parseAudFlow
  | 0x0206 => some parseAncFlow
  | 0x0207 => some parseEthSet
  | 0x0208 => some parsePtpSet
  | 0x0301 => some parseFrcSet
  | 0x0401 => some parseRegionSet
  | 0x0402 => some parseRegionRemove
  | 0x0403 => some parseLayerSet
  | 0x0404 => some parseLayerRemove
  | 0x0405 => some parseCoefLoad
  | 0x0501 => some parseCanvasSet
  | 0x0502 => some parseLowlatSet
  | 0x0503 => some parseHoldSet
  | 0x0504 => some parseMonSet
  | 0x0505 => some parseSlateSet
  | 0x0506 => some fun b => layout b 0 [] .slateShow
  | 0x0507 => some fun b => layout b 0 [] .slateClear
  | 0x0601 => some parseLightSet
  | 0x0602 => some parseTypeLoad
  | 0x0606 => some parseFeederSet
  | 0x0701 => some parseFurrowSet
  | 0x0702 => some parseLatchSet
  | 0x0703 => some parseTilemapSet
  | 0x0704 => some parseTileLevel
  | 0x0801 => some parseAudChan
  | 0x0802 => some parseAudPort
  | 0x0803 => some parseAudMclk
  | 0x0804 => some parseAudZc
  | 0x0901 => some parseTbSlot
  | 0x0902 => some parseTbSet
  | 0x0904 => some parseCouSet
  | _ => none

/-- A command alone with AT_FRAME set begins with the frame prefix (R352). -/
def hasPrefix (k : CmdPkt) : Bool := k.flags.getLsbD 1 && !k.flags.getLsbD 2

/-- The requested CFN of a frame prefix. -/
def prefixCfn (k : CmdPkt) : Option Nat := if hasPrefix k then some (leAt k.params 0 6) else none

/-- The layout of a command after its frame prefix. -/
def ownParams (k : CmdPkt) : List Byte := if hasPrefix k then k.params.drop 8 else k.params

/-- Checks of the frame prefix: present whole, its last two bytes zero, its CFN within 2²⁴ frames (R118, R352). -/
def prefixBad (p : Part) (k : CmdPkt) : Option Nat :=
  if !hasPrefix k then none
  else if k.params.length < 8 then some noOffset
  else if p.fr.cfn + 2 ^ 24 < leAt k.params 0 6 then some 0
  else if leAt k.params 6 2 ≠ 0 then some 6
  else none

/-- Offsets count from the first parameter byte, the frame prefix included. -/
def shiftOffset (k : CmdPkt) {α : Type} : Parse α → Parse α
  | .error (st, off) => .error (st, if hasPrefix k && off != noOffset then off + 8 else off)
  | .ok v => .ok v

/-- A configuration command as its packet gives it. -/
def parseConfig (op : Nat) (k : CmdPkt) : Parse ConfigCmd :=
  match configParser op with
  | some f => shiftOffset k (f (ownParams k))
  | none => .error (stBadOpcode, noOffset)

/-- What a staged command touches or sets, as FAIL_TAG names it (R353; log entry 40). -/
def cmdTopics : ConfigCmd → List Topic
  | .fenceSet .. => [.groups]
  | .fenceAnc .. => [.groups]
  | .streamSdi .. => [.streams]
  | .streamIp .. => [.streams]
  | .streamParams .. => [.streams]
  | .inputRemove .. => [.streams, .flows]
  | .audFlow .. => [.flows]
  | .ancFlow .. => [.flows]
  | .ethSet .. => [.flows]
  | .ptpSet .. => [.flows]
  | .frcSet .. => [.converters]
  | .regionSet .. => [.regions]
  | .regionRemove .. => [.regions, .layers]
  | .layerSet .. => [.layers]
  | .layerRemove .. => [.layers]
  | .coefLoad .. => [.coefs]
  | .canvasSet .. => [.canvas]
  | .lowlatSet .. => [.lowlat]
  | .holdSet .. => [.canvas]
  | .monSet .. => [.monitors]
  | .slateSet .. => [.slate]
  | .slateShow => [.slate]
  | .slateClear => [.slate]
  | .lightSet .. => []
  | .typeLoad .. => []
  | .feederSet .. => []
  | .furrowSet .. => [.furrows]
  | .latchSet .. => [.latch]
  | .tilemapSet .. => [.tileMap]
  | .tileLevel .. => [.tileMap]
  | .audChan .. => [.audio]
  | .audPort .. => [.audio]
  | .audMclk .. => [.audio]
  | .audZc .. => [.audio]
  | .tbSlot .. => [.timebase]
  | .tbSet .. => [.timebase]
  | .couSet .. => [.timebase]

abbrev Applied := Except (Nat × List Topic) Cfg

/-- A binding on a stream: one bound after being unbound starts from the defaults (R34). -/
def bindStream (n : Nat) (b : Binding) (c : Cfg) : Cfg :=
  let s := c.stream n
  { c with streams := c.streams.set n { bind := b, par := if s.bound then s.par else {} } }

/-- Router channels on a removed source fall silent (Table 14.7). -/
def silenceChans (gone : ChanSource → Bool) (c : Cfg) : Cfg :=
  { c with chans := c.chans.mapVals fun _ x => if gone x.source then { x with source := .silence } else x }

def removeInput (kind n : Nat) (c : Cfg) : Cfg :=
  if kind = 0 then
    silenceChans (fun s => match s with | .sdi k _ => k == n | _ => false) { c with streams := c.streams.erase n }
  else if kind = 1 then
    silenceChans (fun s => match s with | .flow k _ => k == n | _ => false) { c with audFlows := c.audFlows.erase n }
  else { c with ancFlows := c.ancFlows.erase n }

/-- A clip keeps its start CFN unless the commit sets the clip or asks for RESTART (R101). -/
def startOf (n : Nat) (old : Option Layer) (l : Layer) : Layer :=
  match old with
  | some o => if o.source = l.source ∧ !l.clipRestart then { l with n0 := o.n0 } else { l with n0 := n }
  | none => { l with n0 := n }

/-- What a command changes, where it takes effect at CFN `n` (R116). -/
def applyCmd (n : Nat) (c : Cfg) : ConfigCmd → Applied
  | .fenceSet g t remove => .ok { c with groups := if remove then c.groups.erase g else c.groups.set g t }
  | .fenceAnc d s => .ok { c with did := d, sdid := s }
  | .streamSdi k i l d => .ok (bindStream k (.sdi i l d) c)
  | .streamIp k b => .ok (bindStream k (.ip b) c)
  | .streamParams k q => .ok { c with streams := c.streams.set k { c.stream k with par := q } }
  | .inputRemove kind k => .ok (removeInput kind k c)
  | .audFlow k f => .ok { c with audFlows := c.audFlows.set k f }
  | .ancFlow k f => if c.ancFlows.has k then .error (stConflict, [.flows]) else .ok { c with ancFlows := c.ancFlows.set k f }
  | .ethSet k e => .ok { c with eth := c.eth.set k e }
  | .ptpSet x => .ok { c with ptp := x }
  | .frcSet k f =>
    match (c.conv k).stream, f.stream with
    | some a, some b => if a = b then .ok { c with frc := c.frc.set k f } else .error (stNoResource, [.converters])
    | _, _ => .ok { c with frc := c.frc.set k f }
  | .regionSet k r => .ok { c with regions := c.regions.set k r }
  | .regionRemove k =>
    if c.regions.has k then .ok { c with
      regions := c.regions.erase k, layers := c.layers.filter fun e => e.2.region != k }
    else .error (stConflict, [.regions])
  | .layerSet k l => .ok { c with layers := c.layers.set k (startOf n (c.layers.get? k) l) }
  | .layerRemove k => if c.layers.has k then .ok { c with layers := c.layers.erase k } else .error (stConflict, [.layers])
  | .coefLoad k b => .ok { c with coefs := c.coefs.set k b }
  | .canvasSet v => .ok { c with canvas := v }
  | .lowlatSet l => .ok { c with lowlat := l }
  | .holdSet h => .ok { c with hold := h }
  | .monSet k m => .ok { c with mon := c.mon.set k m }
  | .slateSet x => .ok { c with slate := x }
  | .slateShow => .ok { c with slateShow := true }
  | .slateClear => .ok { c with slateShow := false }
  | .lightSet l => .ok { c with light := l }
  | .typeLoad k b => .ok { c with types := c.types.set k b }
  | .feederSet k f => .ok { c with feeders := c.feeders.set k f }
  | .furrowSet k e r h => .ok (c.setFurrow k fun f => { f with enable := e, rate := r, lossHoldMs := h })
  | .latchSet u => .ok { c with latchUs := u }
  | .tilemapSet k merge es => match mapAfter merge (c.furrow k).map es with
    | some m => .ok (c.setFurrow k fun f => { f with map := m })
    | none => .error (stConflict, [.tileMap])
  | .tileLevel k level ps => match levelAfter level ps (c.furrow k).map with
    | some m => .ok (c.setFurrow k fun f => { f with map := m })
    | none => .error (stConflict, [.tileMap])
  | .audChan k x => .ok { c with chans := c.chans.set k x }
  | .audPort k x => .ok { c with ports := c.ports.set k x }
  | .audMclk k hz => .ok { c with mclk := c.mclk.set k hz }
  | .audZc ms => .ok { c with zcMs := ms }
  | .tbSlot k x => .ok { c with slots := c.slots.set k x }
  | .tbSet x => .ok { c with tb := x }
  | .couSet k x => .ok { c with cou := c.cou.set k x }

/-- The commands of a commit in staging order, each on the state the ones before it leave (R116). -/
def applyCmds (n : Nat) : List ConfigCmd → Cfg → Applied
  | [], c => .ok c
  | x :: rest, c => match applyCmd n c x with
    | .ok d => applyCmds n rest d
    | .error e => .error e

/-- A stream whose parameters a commit sets must be bound at its apply CFN (R34). -/
def paramsBound (cmds : List ConfigCmd) (c : Cfg) : Bool :=
  cmds.all fun x => match x with | .streamParams k _ => (c.stream k).bound | _ => true

def applyChecked (n : Nat) (cmds : List ConfigCmd) (c : Cfg) : Applied :=
  match applyCmds n cmds c with
  | .ok d => if paramsBound cmds d then .ok d else .error (stConflict, [.streams])
  | .error e => .error e

/-! ### Objects (R119) -/

/-- Objects a command touches on a state: region 1, stream binding 2, converter 3, fence group 4, coefficient set 5,
slate 6, and one kind for each other object (log entry 53). -/
def touchOf (c : Cfg) : ConfigCmd → List (Nat × Nat)
  | .fenceSet g _ _ => [(4, g)]
  | .fenceAnc _ _ => [(7, 0)]
  | .streamSdi k _ _ _ => [(2, k)]
  | .streamIp k _ => [(2, k)]
  | .streamParams k q =>
    let g := (c.stream k).par.fenceGroup
    if g = q.fenceGroup then [(2, k)] else (2, k) :: ([g, q.fenceGroup].filter (· != 0)).map (4, ·)
  | .inputRemove kind k =>
    if kind = 0 then (2, k) :: ([(c.stream k).par.fenceGroup].filter (· != 0)).map (4, ·)
    else if kind = 1 then [(8, k)] else [(9, k)]
  | .audFlow k _ => [(8, k)]
  | .ancFlow k _ => [(9, k)]
  | .ethSet k _ => [(10, k)]
  | .ptpSet _ => [(11, 0)]
  | .frcSet k _ => [(3, k)]
  | .regionSet k _ => [(1, k)]
  | .regionRemove k => [(1, k)]
  | .layerSet k l => (1, l.region) :: (((c.layers.get? k).map fun o => (1, o.region)).toList)
  | .layerRemove k => ((c.layers.get? k).map fun o => (1, o.region)).toList
  | .coefLoad k _ => [(5, k)]
  | .canvasSet _ => [(12, 0)]
  | .lowlatSet _ => [(13, 0)]
  | .holdSet _ => [(14, 0)]
  | .monSet k _ => [(15, k)]
  | .slateSet _ => [(6, 0)]
  | .slateShow => [(6, 0)]
  | .slateClear => [(6, 0)]
  | .lightSet _ => [(16, 0)]
  | .typeLoad k _ => [(17, k)]
  | .feederSet k _ => [(18, k)]
  | .furrowSet k _ _ _ => [(19, k)]
  | .latchSet _ => [(20, 0)]
  | .tilemapSet k _ _ => [(21, k)]
  | .tileLevel k _ _ => [(21, k)]
  | .audChan k _ => [(22, k)]
  | .audPort k _ => [(23, k)]
  | .audMclk k _ => [(24, k)]
  | .audZc _ => [(25, 0)]
  | .tbSlot k _ => [(26, k)]
  | .tbSet _ => [(27, 0)]
  | .couSet k _ => [(28, k)]

/-- Objects the commands of a commit touch. -/
def touches (n : Nat) : List ConfigCmd → Cfg → List (Nat × Nat)
  | [], _ => []
  | x :: rest, c => touchOf c x ++ touches n rest (match applyCmd n c x with | .ok d => d | .error _ => c)

/-- A gated commit may touch only regions, their layers, coefficient sets, stills and clips (R122). -/
def gateable (objs : List (Nat × Nat)) : Bool := objs.all fun o => o.1 == 1 || o.1 == 5

/-! ### Projection (R117) -/

/-- Puts a commit behind those of the same or an earlier apply CFN: the order in which commits apply (R119). -/
def insertCommit (x : Commit) : List Commit → List Commit
  | [] => [x]
  | y :: rest => if x.apply < y.apply then x :: y :: rest else y :: insertCommit x rest

def inOrder (l : List Commit) : List Commit := l.foldl (fun acc x => insertCommit x acc) []

/-- Every way pending gated commits may turn out: opened, or not (R117). -/
def outcomes : List Commit → List (List Commit)
  | [] => [[]]
  | x :: rest =>
    let r := outcomes rest
    if x.gate.isSome then r.map (x :: ·) ++ r else r.map (x :: ·)

/-- The state after some commits, with the state before the last of them. -/
def project : List Commit → Cfg → Cfg → Except (Nat × List Topic) (Cfg × Cfg)
  | [], old, c => .ok (old, c)
  | x :: rest, _, c => match applyChecked x.apply (x.cmds.map (·.cmd)) c with
    | .ok d => project rest c d
    | .error e => .error e

/-- Tiles of running or queued loads that a commit moves or removes (R160). -/
def loadTileMoved (loads : List Load) (old new : Cfg) : Bool :=
  loads.any fun l => l.footprint.any fun k =>
    match (old.furrow k.1).map.get? k.2 with
    | some a => match (new.furrow k.1).map.get? k.2 with
      | some b => !(a.x == b.x && a.y == b.y && a.width == b.width && a.height == b.height)
      | none => true
    | none => false

/-- The limits of a commit's result, in order (R117). -/
def limits (p : Part) (old new : Cfg) (groups : List Nat) : List Limit :=
  let still := fun n => ((p.comp.objs.get? n).map fun o => !o.clip).getD false
  inputLimits p.det still new ++ [(groups.any fun g => !new.groups.has g, stConflict, [.groups])] ++ frcLimits p.det new ++
    layerLimits p.det p.comp.objs p.sys.strapHost old new ++ furrowLimits new ++ audioLimits new ++ tbLimits p new ++
    [(loadTileMoved p.txn.loads old new, stConflict, [.tileMap])]

/-- One projection at CFN `n`: what fails, or none. -/
def checkOne (p : Part) (groups : List Nat) (l : List Commit) : Option (Nat × List Topic) :=
  match project l p.cfg p.cfg with
  | .error e => some e
  | .ok (old, new) => firstBroken (limits p old new groups)

/-- Every projection at CFN `n` over pending commits. -/
def checkAt (p : Part) (all : List Commit) (n : Nat) : Option (Nat × List Topic) :=
  let upTo := inOrder (all.filter fun x => decide (x.apply ≤ n))
  (outcomes upTo).findSome? (checkOne p (upTo.filterMap fun x => x.gate.map (·.group)))

/-- CFNs at which the checks of a seal are made (R117). -/
def checkPoints (x : Commit) (others : List Commit) : List Nat :=
  let later := (others.filter fun y => decide (x.apply < y.apply) && ((x.gate.map fun g => decide (y.apply ≤ x.apply + g.deadline)).getD true)).map (·.apply)
  x.apply :: later

/-! ### Apply CFN (R22, R118) -/

/-- The first open frame: the first whose commit cutoff has not passed. -/
def firstOpen (p : Part) : Nat := firstFrameFrom p (p.sys.now + 500 * usec)

/-- Table 4.10. -/
def applyCfn (p : Part) (req : Option Nat) : Nat :=
  match req with
  | some n => max n (firstOpen p)
  | none => firstOpen p

/-! ### Seal -/

/-- What a seal comes to: the commit and the commits it supersedes. -/
structure Sealing where
  commit : Commit
  gone : List Commit
  deriving DecidableEq, Repr

/-- Pending commits that a later one withdraws (Table 4.11). -/
def superseded (p : Part) (objs : List (Nat × Nat)) : List Commit :=
  p.txn.commits.filter fun x => x.withdraw.isNone && x.touches.any objs.contains &&
    (x.gate.isSome || decide (firstOpen p ≤ x.apply))

/-- The configuration projected at a CFN if every gate opens. -/
def projected (p : Part) (n : Nat) : Cfg :=
  match project (inOrder (p.txn.commits.filter fun x => decide (x.apply ≤ n))) p.cfg p.cfg with
  | .ok (_, c) => c
  | .error _ => p.cfg

/-- A pending commit as the projections of a seal take it (R117): one that the seal supersedes, or that is withdrawn from a
frame already, stays in them while it is gated and its gate may still open before that frame. -/
def mayApply (f : Nat) (gone : List Commit) (y : Commit) : Option Commit :=
  let leaves := if gone.contains y then some f else y.withdraw
  match leaves with
  | none => some y
  | some w => if y.gate.isSome && decide (y.apply < w) then some y else none

/-- The checks of a seal (Table 4.9, R117, R122): the commit with what it supersedes, or the status of the check. -/
def judgeSeal (p : Part) (tag : Word) (txn : Half) (cmds : List Staged) (gate : Option Gate) (req : Option Nat) :
    Except (Nat × List Topic) Sealing :=
  let n := applyCfn p req
  let objs := touches n (cmds.map (·.cmd)) (projected p n)
  let x : Commit := { jseq := 0, txn := txn, tag := tag, cmds := cmds, apply := n, gate := gate, touches := objs }
  let gone := superseded p objs
  let others := p.txn.commits.filterMap (mayApply (firstOpen p) gone)
  if gate.isSome && !gateable objs then .error (stConflict, [])
  else match (checkPoints x others).findSome? (checkAt p (others ++ [x])) with
    | some e => .error e
    | none => if 64 ≤ p.txn.commits.length then .error (stNoResource, []) else .ok { commit := x, gone := gone }

/-- FAIL_TAG: the first staged command that concerns the failing check (R353). -/
def failTag (cmds : List Staged) (on : List Topic) : Nat :=
  ((cmds.find? fun x => (cmdTopics x.cmd).any on.contains).map fun x => x.tag.toNat).getD 0

/-- Withdraws a superseded commit from frame `f` (Table 4.11): a gated one goes at FE(f). -/
def withdrawCommit (f : Nat) (p : Part) (x : Commit) : Part :=
  let q := writeJournal f x.txn x.tag (.withdraw x.jseq) p
  if x.gate.isSome then
    q.updTxn fun t => { t with commits := t.commits.map fun y => if y == x then { y with withdraw := some f } else y }
  else
    let r := q.updTxn fun t => { t with commits := t.commits.filter (· != x) }
    if x.owes then finalCommit x.tag stSuperseded f [] r else r

/-- POWER_STEP for the levels a sealed commit changes (R231). -/
def sealPower (old new : Cfg) (apply : Nat) (p : Part) : Part :=
  new.furrows.foldl (fun q f => sendPowerSteps apply f.1 (old.furrow f.1).map f.2.map q) p

/-- Adds a sealed commit to the pending ones. -/
def addCommit (x : Commit) (p : Part) : Part :=
  let old := projected p x.apply
  let q := p.updTxn fun t => { t with commits := t.commits ++ [x] }
  sealPower old (projected q x.apply) x.apply q

/-- The mirrored form of a gate, as the journal carries it. -/
def journalGate (g : Option Gate) : Option (Nat × Word × Nat) := g.map fun x => (x.group, x.tag, x.deadline)

/-- The primary seals (R120): withdrawals, the journal entry, the pending commit. -/
def sealCommit (s : Sealing) (p : Part) : Part :=
  let f := firstOpen p
  let p1 := s.gone.foldl (withdrawCommit f) p
  let p2 := writeJournal s.commit.apply s.commit.txn s.commit.tag
    (.seal (s.commit.cmds.map fun c => (c.opcode, c.pkt)) (journalGate s.commit.gate)) p1
  addCommit { s.commit with jseq := p2.txn.jseq } p2

end Sys2Proof.Machine
end

