-- ==== Sys2Proof/Machine/Loads.lean ====
section
/-! DEFINITION. Calibration and wear loads (R156 to R160, Table 6.7), ledger exports (R163), and what a host-memory or flash
transfer leads to (R338, R359). -/

namespace Sys2Proof.Machine

open Sys2Proof

/-! ### Loads -/

/-- CAL loads are compared with CAL loads, WEAR packages with WEAR packages (R159). -/
def sameQueue (a b : Load) : Bool := (a.kind == 1) == (b.kind == 1)

def loadsMeet (a b : Load) : Bool := sameQueue a b && a.footprint.any b.footprint.contains

def loadRunning (l : Load) : Bool := decide (1 ≤ l.state)

/-- BULK object number that a package goes under (log entry 54). -/
def packageObject (package : Word) : Nat := 2 ^ 32 - 1 - package.toNat % 2 ^ 16

/-- Sends the final reply of a load: the commit block, with the package identifier where it is done or withdrawn (R352). -/
def loadFinal (l : Load) (st cfn : Nat) (p : Part) : Part :=
  finalCommit l.tag st cfn (if st = stOk ∨ st = stSuperseded then le 4 l.package.toNat else []) p

def dropLoad (l : Load) (p : Part) : Part := p.updTxn fun x => { x with loads := x.loads.filter fun y => y.tag != l.tag }

/-- A package goes to the partner (R158). -/
def sendPackage (l : Load) (p : Part) : Part :=
  sendAcked 7 0 (.bulk (packageObject l.package) 0 (.package l.tag l.bytes)) p

/-- The transfer starts; the package goes to the standby as it is read (R158). -/
def startLoad (l : Load) (p : Part) : Part :=
  let q := p.updTxn fun x => { x with loads := x.loads.map fun y => if y.tag == l.tag then { y with state := 1 } else y }
  sendPackage l q

/-- A new load joins the queue (Table 6.7). -/
def queueLoad (l : Load) (p : Part) : Part :=
  let met := p.txn.loads.filter fun y => y.state == 0 && loadsMeet l y
  let p1 := met.foldl (fun q y => loadFinal y stSuperseded 0 (dropLoad y q)) p
  let p2 := p1.updTxn fun x => { x with loads := x.loads ++ [l] }
  if p.txn.loads.any fun y => loadRunning y && loadsMeet l y then p2 else startLoad l p2

def execLoadDequeue (t : Nat) (tag : Word) (s : State) : Host.Outcome State Fault Refusal :=
  onPart (timed t fun p => match p.txn.loads.find? fun l => l.tag == tag && l.state == 0 with
    | some l => if p.hrt.kilnReset || (p.txn.loads.any fun y => loadRunning y && loadsMeet l y) then p else startLoad l p
    | none => p) s

/-- The primary seals a load as a commit (R158 step 2). -/
def sealLoad (l : Load) (p : Part) : Part :=
  let n := applyCfn p l.reqCfn
  let q := writeJournal n 0 l.tag (.loadSeal l.package) p
  q.updTxn fun x => { x with
    loads := x.loads.map fun y => if y.tag == l.tag then { y with state := 2, apply := n } else y
    wear := if l.kind = 1 then x.wear else x.wear ++ [{ tag := l.tag, kind := l.kind, bytes := l.bytes, apply := n }] }

/-- The transfer is complete and checked: the records go into the banks that are not live, and the load is sealed. -/
def loadHeld (l : Load) (partnerHolds : Bool) (s : State) : State :=
  let hbm := if l.kind = 1 then stageCal s.m l.bytes l.footprint s.hbm else s.hbm
  let p1 := if partnerHolds then s.m
    else raise evCalPartnerStale 0 l.package.toNat (s.m.updTxn fun x => { x with stale := x.stale ++ [l] })
  { s with m := sealLoad l p1, hbm := hbm }

/-- A load's transfer ends (R157, R158). -/
def loadDone (tag : Word) (ok partnerHolds : Bool) (s : State) : State :=
  match s.m.txn.loads.find? fun l => l.tag == tag && l.state == 1 with
  | none => s
  | some l =>
    if s.m.hrt.kilnReset || s.m.pair.role ≠ .primary then s
    else if !ok then { s with m := loadFinal l stTimeout 0 (dropLoad l s.m) }
    else match packageFault s.m.cfg.canvas l.bytes with
      | some st => { s with m := loadFinal l st 0 (dropLoad l s.m) }
      | none => loadHeld l partnerHolds s

def execCalTransferDone (t : Nat) (tag : Word) (ok partnerHolds : Bool) (s : State) : Host.Outcome State Fault Refusal :=
  if s.m.alive then .next (loadDone tag ok partnerHolds { s with m := advance t s.m }) else .next s

/-- Loads that apply at this frame event (R158 step 3); a WEAR package goes on as a job of the ledger (R163). -/
def loadsApply (p : Part) : Part :=
  (p.txn.loads.filter fun l => l.state == 2 && decide (l.apply ≤ p.fr.cfn)).foldl (fun q l =>
    if l.kind = 1 then loadFinal l stOk q.fr.cfn (dropLoad l (flipBanks l.footprint q)) else q) p

/-- WEAR packages that have been applied to every band (R163). -/
def wearDone (p : Part) : Part :=
  let n := bandCount p.cfg.canvas
  (p.txn.wear.filter fun j => decide (n ≤ j.done.length)).foldl (fun q j =>
    let r := q.updTxn fun x => { x with wear := x.wear.filter fun y => y.tag != j.tag }
    match r.txn.loads.find? fun l => l.tag == j.tag with
    | some l => loadFinal l stOk j.apply (dropLoad l r)
    | none => r) p

/-! ### Ledger export (R163) -/

/-- Length of an export: one section per tile. -/
def exportLength (c : Cfg) : Nat := 32 + (c.tiles.map fun e => 16 + roundUp (e.2.2.width * e.2.2.height * 4) 16).sum

/-- A CRC-32C put at offset `off` of a header. -/
def withCrc (head : List Byte) (off : Nat) (crc : Word) : List Byte := head.take off ++ le 4 crc.toNat ++ head.drop (off + 4)

/-- Section header and padded entries (Table 6.6). -/
def sectionOf (x y w h : Nat) (body : List Byte) : List Byte :=
  let b := padMul 16 body
  le 2 x ++ le 2 y ++ le 2 w ++ le 2 h ++ le 4 (crc32c b).toNat ++ le 4 0 ++ b

/-- The WEAR_SET package of an export (R156, R163). -/
def exportPackage (c : Cfg) (j : WearJob) : List Byte :=
  let sections := c.tiles.map fun e =>
    let r := e.2.2
    sectionOf r.x r.y r.width r.height ((tilePixels r r.y (r.y + r.height)).flatMap fun q => le 4 (j.vals.getD (16384 * q.2 + q.1) 0))
  let head := [0x43, 0x51, 0x43, 0x50, 1, 2, 0, 0] ++ le 4 sections.length ++ le 4 0 ++ le 8 (exportLength c) ++ le 4 0 ++ le 4 0
  withCrc head 24 (crc32c head) ++ sections.flatten

/-- An export is complete when every band has been updated at or after its apply CFN. -/
def exportReady (p : Part) (j : WearJob) : Bool := decide (bandCount p.cfg.canvas ≤ j.done.length)

def execWearExportDone (t : Nat) (tag : Word) (s : State) : Host.Outcome State Fault Refusal :=
  onPart (timed t fun p => match p.txn.exports.find? fun j => j.tag == tag && exportReady p j with
    | some j =>
      let b := exportPackage p.cfg j
      finalCommit tag stOk j.apply (le 8 b.length)
        (emit (.hostWrite j.hostAddr b) (p.updTxn fun x => { x with exports := x.exports.filter fun y => y.tag != tag }))
    | none => p) s

/-! ### Host-memory transfers (R359, R361) -/

/-- A CAL section of the live records of a rectangle, WIX included (Table 14.11). -/
def calSection (p : Part) (hbm : Memory) (x y w h : Nat) : List Byte :=
  let bank := fun (cx cy : Nat) => ((p.cfg.tiles.find? fun e =>
    decide (e.2.2.x ≤ cx ∧ cx < e.2.2.x + e.2.2.width ∧ e.2.2.y ≤ cy ∧ cy < e.2.2.y + e.2.2.height)).map fun e => (p.tile e.1 e.2.1).bank).getD false
  sectionOf x y w h ((List.range h).flatMap fun i => (List.range w).flatMap fun j =>
    le 16 (liveRecord hbm (bank (x + j) (y + i)) (x + j) (y + i)))

/-- Stores the data of an OBJ_LOAD: frames at the pitch of Table 4.4 (R359). -/
def storeFrames (first count : Nat) (b : List Byte) (o : Obj) : Obj :=
  let n := objFrameBytes o
  { o with data := (List.range count).foldl (fun d k => d.set (first + k) (bytesAt b (k * n) n)) o.data }

def setObject (k : Nat) (f : Obj → Obj) (p : Part) : Part :=
  match p.comp.objs.get? k with
  | some o => p.updComp fun c => { c with objs := c.objs.set k (f o) }
  | none => p

/-- The data of an OBJ_LOAD has arrived: it is stored and forwarded; the final reply follows the standby's last
acknowledgement, or at once without a partner in service (R359). -/
def objLoaded (x : Transfer) (data : List Byte) (p : Part) : Part :=
  let k := leAt x.params 0 2
  let first := leAt x.params 4 4
  let count := leAt x.params 8 4
  let n := ((p.comp.objs.get? k).map objFrameBytes).getD 0
  let p1 := setObject k (storeFrames first count data) p
  let p2 := (List.range count).foldl (fun q i =>
    sendAcked 7 (first + i) (.bulk k (first + i) (.object (first + i) (bytesAt data (i * n) n))) q) p1
  if partnerInService p2 && !(upLinks p2).isEmpty && decide (0 < count) then
    p2.updPair fun y => { y with bulkWaits := y.bulkWaits ++ [(x.tag, first + count - 1)] }
  else finalReply x.tag stOk [] p2

def dropTransfer (tag : Word) (p : Part) : Part :=
  p.updTxn fun x => { x with transfers := x.transfers.filter fun y => y.tag != tag }

/-- A host-memory transfer of OBJ_LOAD or CAL_READ ends (R338, R359, R361). -/
def hostTransferDone (hbm : Memory) (tag : Word) (ok : Bool) (data : List Byte) (p : Part) : Part :=
  match p.txn.transfers.find? fun x => x.tag == tag && (x.opcode == 0x0408 && p.pair.role == .primary || x.opcode == 0x0608) with
  | none => p
  | some x =>
    let q := dropTransfer tag p
    if !ok then finalError tag stTimeout q
    else if x.opcode = 0x0408 then objLoaded x data q
    else
      let b := calSection p hbm (leAt x.params 0 2) (leAt x.params 2 2) (leAt x.params 4 2) (leAt x.params 6 2)
      finalReply tag stOk (le 8 b.length) (emit (.hostWrite (BitVec.ofNat 64 (leAt x.params 8 8)) b) q)

def execHostTransferDone (t : Nat) (tag : Word) (ok : Bool) (data : List Byte) (s : State) : Host.Outcome State Fault Refusal :=
  onPartMem (fun hbm _ => timed t (guarded (fun p => !p.hrt.kilnReset) (hostTransferDone hbm tag ok data))) s

end Sys2Proof.Machine
end

