-- ==== Sys2Proof/Machine/Fabric.lean ====
section
/-! DEFINITION. Fabric and memory (chapter 16): remaps, uncorrectable errors, the patrol scrub, the default error target; and
the upkeep that follows from wear (R318) and firmware trials (R328, R409). -/

namespace Sys2Proof.Machine

open Sys2Proof

/-! ### Remap (R398 to R400) -/

/-- Physical channel's logical one; 127 for none (Table 16.5). -/
def pcLogical (p : Part) (phys : Nat) : Nat :=
  ((List.range 120).find? fun l => remapOf p l == phys && pcState p phys == 0).getD 127

/-- HBM_PC_STATUS (Table 16.5). -/
def pcStatus (p : Part) (phys : Nat) : Nat :=
  let hour := (((p.pc phys).recent.filter fun e => decide (p.sys.now < e.1 + 3600 * sec)).map (·.2)).sum
  pcState p phys + 4 * pcLogical p phys + 65536 * min 0xFFFF hour

/-- Target of a remap: the fallow channel of the same port, else the lowest-numbered one (R398). -/
def remapTarget (p : Part) (l : Nat) : Option Nat :=
  let port := remapOf p l / 16
  match (fallowPcs p).find? fun k => k / 16 == port with
  | some k => some k
  | none => (fallowPcs p).head?

def remapOpen (p : Part) (l : Nat) : Bool := (p.fab.running.toList ++ p.fab.queue).any fun r => r.logical == l

/-- Starts a remap, or queues it behind the one that runs; with no fallow channel left the head yields or goes on degraded
(R398, R400, Tables 12.6, 12.7). -/
def startRemap (l : Nat) (urgent : Bool) (tag : Option Word) (p : Part) : Part :=
  if p.fab.running.isSome then
    p.updFab fun f => { f with queue := f.queue ++ [{ logical := l, target := 0, urgent := urgent, tag := tag }] }
  else match remapTarget p l with
    | some k => updPc k (fun x => { x with state := 2 })
      (p.updFab fun f => { f with running := some { logical := l, target := k, urgent := urgent, tag := tag } })
    | none => noSpare { kind := .hbm, logical := l, spare := 0, single := false, wear := !urgent, tag := tag } p

/-- The next queued remap starts. -/
def nextRemap (p : Part) : Part :=
  match p.fab.queue with
  | r :: rest => startRemap r.logical r.urgent r.tag (p.updFab fun f => { f with queue := rest })
  | [] => p

/-- The copy completes: the logical channel switches and the old channel is retired (R399). -/
def remapDone (p : Part) : Part :=
  match p.fab.running with
  | none => p
  | some r =>
    let p1 := updPc (remapOf p r.logical) (fun x => { x with state := 3 }) p
    let p2 := updPc r.target (fun x => { x with state := 0 }) p1
    let p3 := raise evMemRemap r.logical r.target
      (p2.updFab fun f => { f with running := none, remap := f.remap.set r.logical r.target })
    let p4 := match r.tag with
      | some g => finalReply g stOk [] p3
      | none => p3
    nextRemap (if r.urgent then faultOff p4 else p4)

def execMemRemap (t : Nat) (s : State) : Host.Outcome State Fault Refusal := onPart (timed t remapDone) s

/-- A failed check in the target being filled: the copy is abandoned as the swap is whose spare fails (R400, Table 12.6). -/
def remapFails (p : Part) : Part :=
  match p.fab.running with
  | some r =>
    let q := unanswered r.tag (p.updFab fun f => { f with running := none })
    nextRemap (if r.urgent then irreplaceable .hbm r.logical q else yieldHead q)
  | none => p

/-- Self-test of a pseudo-channel that is fallow, or of one being filled (R303, R397, R400). -/
def selfTestPc (phys : Nat) (pass : Bool) (p : Part) : Part :=
  if pcState p phys ≠ 1 ∧ pcState p phys ≠ 2 then p
  else if pass then testDone .hbm phys true p
  else
    let q := testDone .hbm phys false (raise evHeadlandShrink phys 0 (updPc phys (fun x => { x with state := 3 }) p))
    if pcState p phys = 2 then remapFails q else q

/-- While the power manager sheds self-test duty, a fallow unit runs none: no SELF_TEST asks for it, and no swap or copy brings
the unit in (R303, Table 17.8). -/
def dutyShed (k : UnitKind) (phys : Nat) (p : Part) : Bool :=
  decide (3 ≤ p.pwr.shed) && isFallow p k phys && !(p.hrt.tests.any fun x => x.1 == k && x.2.1 == phys) &&
  !((p.hrt.running.map fun s => s.kind == k && s.spare == phys).getD false)

def execSelfTestDuty (t : Nat) (kind : UnitKind) (physical : Nat) (pass : Bool) (s : State) : Host.Outcome State Fault Refusal :=
  onPart (timed t (guarded (fun p => !dutyShed kind physical p)
    (if kind = .hbm then selfTestPc physical pass else selfTest kind physical pass))) s

/-! ### Uncorrectable errors (R396, Table 12.4) -/

/-- Tiles whose calibration records or ledger entries lie in a range of the HBM. -/
def tilesIn (c : Cfg) (base size lo hi : Nat) : List (Nat × Nat) :=
  (c.tiles.filter fun e => (List.range e.2.2.height).any fun i =>
    decide (pixelAddr base size e.2.2.x (e.2.2.y + i) < hi) &&
    decide (lo < pixelAddr base size (e.2.2.x + e.2.2.width) (e.2.2.y + i))).map fun e => (e.1, e.2.1)

/-- Bands of the canvas whose lines lie in a segment of a canvas buffer. -/
def bandsIn (lo hi : Nat) : List Nat := ((List.range 512).filter fun b => decide (16 * b * 131072 < hi) && decide (lo < 16 * (b + 1) * 131072))

/-- Frames stored in a segment become INCOMPLETE (Table 12.4). -/
def slotsLost (lo hi : Nat) (p : Part) : Part :=
  let mark := fun (x : Slot) =>
    if x.addr.toNat < hi ∧ lo < x.addr.toNat + x.data.length then { x with complete := false, incomplete := true } else x
  p.updInp fun i => { i with streams := i.streams.mapVals fun _ st => { st with slots := st.slots.mapVals fun _ => mark } }

/-- Object data that lay in a segment becomes black: zero bytes (log entry 55). -/
def objectsLost (lo hi : Nat) (p : Part) : Part × List Nat :=
  let span := fun (k : Nat) (o : Obj) => let a := (Config.objAddr k).toNat; decide (a < hi) && decide (lo < a + o.frames * roundUp (objFrameBytes o) 65536)
  let hit := (p.comp.objs.filter fun e => span e.1 e.2).map (·.1)
  let wipe := fun (k : Nat) (o : Obj) =>
    let data := o.data.mapVals fun f b =>
      let a := (Config.objAddr k).toNat + f * roundUp (objFrameBytes o) 65536
      (List.range b.length).map fun i => if lo ≤ a + i ∧ a + i < hi then 0 else b.getD i 0
    { o with data := data }
  (p.updComp fun c => { c with objs := c.objs.mapVals fun k o => if hit.contains k then wipe k o else o }, hit)

/-- Audio samples that lay in a segment become zeros marked MUTED (Table 12.4). -/
def audioLost (lo hi : Nat) (p : Part) : Part :=
  let wipe := fun (k pos : Nat) (x : Int × Nat) =>
    let a := (Config.audAddr k).toNat + 8 * (pos % 384000)
    if a < hi ∧ lo < a + 8 then mutedSample else x
  p.updAud fun a => { a with chans := a.chans.mapVals fun k c => { c with cur := { c.cur with buf := c.cur.buf.mapVals (wipe k) } } }

/-- Data that cannot be read is asked for from the partner, or is lost (Table 12.4; log entry 55). -/
def dataGone (ks : List (Nat × Nat)) (objs : List Nat) (lo : Nat) (p : Part) : Part :=
  if (upLinks p).isEmpty then
    objs.foldl (fun q k => raise evDataLost k 1 q) (ks.foldl (fun q k => raise evDataLost k.1 k.2 q) p)
  else if ks.isEmpty && objs.isEmpty then p
  else emit (.bulkRequest (lo / 256)) p

/-- What becomes of the data of a segment (R396, Table 12.4). -/
def segmentLost (seg : Nat) (s : State) : State :=
  let lo := 256 * seg
  let hi := lo + 256
  if hi ≤ 0x80000000 then
    let off := lo % 0x40000000
    { s with m := s.m.updComp fun c => { c with noSum := (c.noSum ++ bandsIn off (off + 256)).eraseDups } }
  else if hi ≤ 0x180000000 then
    { s with
      m := dataGone (tilesIn s.m.cfg (lo / 0x80000000 * 0x80000000) 16 lo hi) [] lo s.m
      hbm := Memory.clearRange s.hbm lo hi }
  else if hi ≤ 0x1A0000000 then
    { s with m := dataGone (tilesIn s.m.cfg ledgerBase 4 lo hi) [] lo s.m, hbm := Memory.clearRange s.hbm lo hi }
  else if lo < 0x500000000 then { s with m := audioLost lo hi (slotsLost lo hi s.m) }
  else
    let (p, hit) := objectsLost lo hi s.m
    { s with m := dataGone [] hit lo p }

/-- A planned remap of the channel that runs or waits is an urgent one from here on (R398; log entry 169). -/
def hurryRemap (l : Nat) (p : Part) : Part :=
  let urge := fun (r : Remap) => if r.logical = l then { r with urgent := true } else r
  p.updFab fun f => { f with running := f.running.map urge, queue := f.queue.map urge }

/-- Urgent remaps of a channel, running or queued. -/
def urgentOpen (p : Part) (l : Nat) : Bool := (p.fab.running.toList ++ p.fab.queue).any fun r => r.logical == l && r.urgent

/-- An uncorrectable error asks for an urgent remap of its channel, unless one is open or none can be made (R398). -/
def urgentRemap (l : Nat) (p : Part) : Part :=
  if urgentOpen p l || (p.hrt.degradedUnits.contains (.hbm, l) && (remapTarget p l).isNone) then p
  else if remapOpen p l then hurryRemap l (faultOn p)
  else startRemap l true none (faultOn p)

/-- A read that finds an uncorrectable error (R396). -/
def memFault (l seg : Nat) (s : State) : State :=
  let phys := remapOf s.m l
  let p1 := raise evMemFault l seg (updPc phys (fun x => { x with ue := x.ue + 1 }) s.m)
  segmentLost seg { s with m := urgentRemap l p1 }

/-- A segment of the HBM in service, on its logical channel (R387). -/
def segmentOn (l seg : Nat) : Bool := decide (l < 120) && decide (seg < 60 * 2 ^ 22) && seg % 120 == l

def execMemFault (t logical segment : Nat) (s : State) : Host.Outcome State Fault Refusal :=
  if s.m.alive && segmentOn logical segment then .next (memFault logical segment { s with m := advance t s.m })
  else onPart (timed t id) s

/-! ### Scrub and error target -/

/-- Correctable errors are counted for the physical channel (R395, Table 16.5). -/
def correctable (phys n : Nat) (p : Part) : Part :=
  updPc phys (fun x => { x with
    ce := x.ce + n
    recent := if n = 0 then x.recent else (x.recent.filter fun e => decide (p.sys.now < e.1 + 3600 * sec)) ++ [(p.sys.now, n)] }) p

/-- The patrol scrub has read a logical channel through (R397; log entry 56). -/
def execPatrolScrub (t logical corrected : Nat) (s : State) : Host.Outcome State Fault Refusal :=
  onPart (timed t (guarded (fun _ => decide (logical < 120)) fun p =>
    (correctable (remapOf p logical) corrected p).updFab fun f => { f with scrubDone := (f.scrubDone + 1) % 120 })) s

/-- Code of the log entry of an error response to a Kiln channel (log entry 59). -/
abbrev codeKilnError : Nat := 0x8004

/-- The unit behind a master channel, by its physical instance (Table 16.1). -/
def channelUnit (channel : Nat) : Option (UnitKind × Nat) :=
  if channel ≤ 51 then some (.ingest, channel)
  else if channel ≤ 69 then some (.converter, (channel - 52) / 2)
  else if channel ≤ 103 then some (.scaler, channel - 70)
  else if channel ≤ 120 then some (.lane, channel - 104)
  else none

/-- What an error response does to the unit that receives it: an uncorrectable error of its own, a UNIT fault, or a FURROW
fault of one of the channel's eight furrows; at one of the firmware's two channels a log entry (R388). -/
def errorResponse (channel furrow : Nat) (p : Part) : Part :=
  match channelUnit channel with
  | some (k, phys) => match logicalOf p k phys with
    | some l => unitFault k l true p
    | none => p
  | none =>
    if channel ≤ 152 then
      let f := (channel - 121) % 16 * 8 + furrow
      if (p.lane f).faulted then p else furrowFault f true p
    else if channel = 172 ∨ channel = 173 then report blkFabric 0 codeKilnError 1 0 channel p
    else p

/-- The default error target counts the request and answers with an error response (R388). -/
def fabricError (channel furrow : Nat) (p : Part) : Part := errorResponse channel furrow (count blkFabric channel 0 p)

def execFabricDecerr (t : Nat) (master : Master) (s : State) : Host.Outcome State Fault Refusal :=
  onPart (timed t (guarded (fun _ => decide (master.channel < 177) && decide (master.furrow < 8))
    (fabricError master.channel master.furrow))) s

/-! ### Wear trends (R318) -/

/-- One measurement against a threshold: the run of measurements past it, or of those back inside, and whether the trend
is crossed now for the first time. -/
def trendStep (key : Nat × Nat × Nat) (past : Bool) (p : Part) : Part × Bool :=
  let on := p.hrt.crossed.contains key
  let n := ((p.hrt.crossings.find? fun c => (c.1, c.2.1, c.2.2.1) == key).map fun c => c.2.2.2).getD 0
  let m := if past == on then 0 else n + 1
  let rest := p.hrt.crossings.filter fun c => (c.1, c.2.1, c.2.2.1) != key
  let flips := decide (3 ≤ m)
  (p.updHrt fun h => { h with
    crossings := if m = 0 ∨ flips then rest else rest ++ [(key.1, key.2.1, key.2.2, m)]
    crossed := if flips then (if on then h.crossed.filter (· != key) else h.crossed ++ [key]) else h.crossed }, flips && !on)

/-- The action of a crossing: a planned swap of the unit (R308), where auto swap is ON. -/
def wearSwap (k : UnitKind) (phys : Nat) (p : Part) : Part :=
  if !p.hrt.thr.autoSwap then p
  else match logicalOf p k phys with
    | some l => planSwap k l none p
    | none => p

/-- A planned remap on the trend of correctable errors (R398). -/
def wearRemap (phys : Nat) (p : Part) : Part :=
  let l := pcLogical p phys
  if !p.hrt.thr.autoSwap || l == 127 || remapOpen p l then p else startRemap l false none p

/-- One trend of one unit: WEAR_TREND on a crossing, and its action (Table 12.9).  A rate of correctable errors is a fault of class
MEMORY, any other trend one of class WEAR (Table 12.1). -/
def trend (key : Nat × Nat × Nat) (past : Bool) (act : Part → Part) (p : Part) : Part :=
  let (q, crossed) := trendStep key past p
  if crossed then act (raiseAs 2 (if key.1 = 1 then 3 else 2) evWearTrend key.2.2 key.1 q) else q

/-- The largest of some pairs, by second component. -/
def worstOf (l : List (Nat × Nat)) (d : Nat × Nat) : Nat × Nat := l.foldl (fun w x => if w.2 < x.2 then x else w) d

/-- The trends are measured (R318). -/
def wearTrends (x : TrendSample) (p : Part) : Part :=
  let h := p.hrt.thr
  let p1 := x.slow.foldl (fun q e => trend (0, kindCode e.1, e.2.1) (decide (10 * h.slow < e.2.2)) (wearSwap e.1 e.2.1) q) p
  let p2 := x.ce.foldl (fun q e => trend (1, 4, e.1) (decide (h.ce < e.2)) (wearRemap e.1) q) p1
  let p3 := x.rows.foldl (fun q e => trend (2, kindCode e.1, e.2.1) (decide (h.rows < e.2.2)) (wearSwap e.1 e.2.1) q) p2
  let p4 := x.eye.foldl (fun q e => trend (3, 5, e.1) (decide (e.2 < h.eye)) id q) p3
  let slow := worstOf (x.slow.map fun e => (kindCode e.1 * 4096 + e.2.1, e.2.2)) (0, 0)
  let ce := worstOf x.ce (0, 0)
  let eye := x.eye.foldl (fun w e => if e.2 < w.2 then e else w) (0, 0xFFFF)
  p4.updHrt fun y => { y with
    slowWorst := slow.2, slowUnit := slow.1, ceWorst := ce.2, cePc := ce.1
    rowsWorst := (worstOf (x.rows.map fun e => (0, e.2.2)) (0, 0)).2, eyeWorst := eye.2, eyeLane := eye.1 }

def execWearTrendSample (t : Nat) (sample : TrendSample) (s : State) : Host.Outcome State Fault Refusal :=
  onPart (timed t (wearTrends sample)) s

/-! ### Boot record and firmware images (R326 to R328, R409) -/

/-- A boot record copy: selected slot and generation, where its fields and CRC are correct (Table 17.6). -/
def bootCopy (flash : Memory) (a : Nat) : Option (Nat × Nat) :=
  let b := flashBytes flash a 16
  if b.take 4 = [0x43, 0x51, 0x42, 0x52] ∧ byteAt b 4 = 1 ∧ byteAt b 5 < 2 ∧ leAt b 6 2 = 0 ∧
    leAt b 12 4 = (crc32c (withCrc b 12 0)).toNat then some (byteAt b 5, leAt b 8 4) else none

/-- The record in force and the address of the other copy (R409); copy 0 is written where none is valid (log entry 57). -/
def bootRecord (flash : Memory) : Option (Nat × Nat) × Nat :=
  match bootCopy flash 0, bootCopy flash 0x1000 with
  | some a, some b => if a.2 < b.2 then (some b, 0) else (some a, 0x1000)
  | some a, none => (some a, 0x1000)
  | none, some b => (some b, 0)
  | none, none => (none, 0)

def encBoot (slot gen : Nat) : List Byte :=
  let b := [0x43, 0x51, 0x42, 0x52, 1] ++ le 1 slot ++ [0, 0] ++ le 4 gen ++ le 4 0
  withCrc b 12 (crc32c b)

/-- Writes flash: its bytes stay, and the pins, which are driven for the write alone, carry them in the mode of the port (R410,
R442). -/
def writeFlash (a : Nat) (b : List Byte) (s : State) : State :=
  { s with m := emit (.flashWrite s.m.sys.xspi a b) s.m, flash := Memory.writeBytes Memory.flashDefault s.flash a b }

/-- Writes the boot selection: the other copy, with the next generation, the rest of its sector erased (R409). -/
def writeBoot (slot : Nat) (s : State) : State :=
  let (now, a) := bootRecord s.flash
  writeFlash a (encBoot slot ((now.map (·.2)).getD 0 + 1)) { s with flash := Memory.clearRange s.flash a (a + 4096) }

/-- The fixed fields and sections of an image header, its stepping apart (R326, Table 12.11). -/
def headerFits (h : List Byte) : Bool :=
  let n := leAt h 12 4
  h.take 4 == [0x43, 0x51, 0x46, 0x57] && byteAt h 4 == 1 && leAt h 20 4 == 0 && leAt h 40 24 == 0 &&
    decide (64 ≤ n) && decide (n ≤ 0x2000000) && n % 4096 == 0 &&
    decide (leAt h 24 4 + leAt h 28 4 ≤ n) && decide (leAt h 32 4 + leAt h 36 4 ≤ n)

/-- What is wrong with an image, if anything (R326). -/
def imageFault (flash : Memory) (slot : Nat) : Bool :=
  let h := flashBytes flash (imageBase slot) 64
  !(headerFits h && byteAt h 5 == 0xA1 &&
    leAt h 16 4 == (crc32c (withCrc (flashBytes flash (imageBase slot) (leAt h 12 4)) 16 0)).toNat)

/-- A trial ends without failure (R328). -/
def trialEnd (s : State) : State :=
  match s.m.hrt.trial with
  | some (slot, _) =>
    let s1 := writeBoot slot s
    { s1 with m := raise evFwCommitted slot 0 (s1.m.updHrt fun h => { h with trial := none }) }
  | none => s

def trialDue (p : Part) : Bool := (p.hrt.trial.map fun x => decide (x.2 ≤ p.sys.now)).getD false && !p.hrt.kilnReset

def execFwTrialEnd (t : Nat) (s : State) : Host.Outcome State Fault Refusal :=
  if s.m.alive then
    let s1 := { s with m := advance t s.m }
    .next (if trialDue s1.m then trialEnd s1 else s1)
  else .next s

/-- A flash write of FW_WRITE or BOOT_SELECT ends (R366): the bytes stand in the flash, or the command times out. -/
def flashDone (tag : Word) (ok : Bool) (data : List Byte) (s : State) : State :=
  match s.m.txn.transfers.find? fun x => x.tag == tag && (x.opcode == 0x0B01 || x.opcode == 0x0B04) with
  | none => s
  | some x =>
    let s1 := { s with m := dropTransfer tag s.m }
    if !ok then { s1 with m := finalError tag stTimeout s1.m }
    else if x.opcode = 0x0B01 then
      let n := leAt x.params 16 4
      let s2 := writeFlash (imageBase (byteAt x.params 0) + leAt x.params 4 4) (bytesAt data 0 n) s1
      { s2 with m := finalReply tag stOk [] s2.m }
    else
      let s2 := writeBoot (byteAt x.params 0) s1
      { s2 with m := finalReply tag stOk [] s2.m }

def execFlashWriteDone (t : Nat) (tag : Word) (ok : Bool) (data : List Byte) (s : State) : Host.Outcome State Fault Refusal :=
  if s.m.alive then
    let s1 := { s with m := advance t s.m }
    .next (if s1.m.hrt.kilnReset then s1 else flashDone tag ok data s1)
  else .next s

end Sys2Proof.Machine
end

