-- ==== Sys2Proof/Machine/Transport.lean ====
section
/-! DEFINITION. Rings in host memory, the reply queue, the event ring and the maintenance UART (R334 to R345, R373, R374), and
the event and performance counter registers (R370 to R372, R377 to R382). -/

namespace Sys2Proof.Machine

open Sys2Proof

/-! ### Rings -/

/-- A ring that R334 allows. -/
def ringOk (base : DWord) (size : Nat) : Bool :=
  [16, 32, 64, 128, 256, 512, 1024, 2048, 4096].contains size && base.toNat % 4096 == 0

/-- Entries a ring holds (R335). -/
def ringHeld (producer consumer : Word) : Nat := (producer - consumer).toNat

/-- The host reaches the registers through BAR0 (R426). -/
def Part.bar0 (p : Part) : Bool := p.alive && p.sys.strapHost

/-- A host write to a register: nothing happens on a head without BAR0. -/
def regWrite (t : Nat) (f : Part → Part) (s : State) : Host.Outcome State Fault Refusal :=
  onPart (timed t (guarded Part.bar0 f)) s

/-- An index write that breaks R335. -/
def ringFault (p : Part) : Part := raise evHostRingFault 0 0 (p.updHost fun h => { h with ringErr := true })

def execCmdDoorbell (t : Nat) (value : Word) (s : State) : Host.Outcome State Fault Refusal :=
  regWrite t (fun p =>
    if ringHeld value p.host.cmdHead ≤ p.host.cmdSize then p.updHost fun h => { h with cmdTail := value } else ringFault p) s

def execRplHeadWrite (t : Nat) (value : Word) (s : State) : Host.Outcome State Fault Refusal :=
  regWrite t (fun p =>
    if ringHeld p.host.rplTail value ≤ p.host.rplSize then p.updHost fun h => { h with rplHead := value } else ringFault p) s

/-- The event ring is full (R373). -/
def evrFull (p : Part) : Bool := p.host.evrEn && decide (p.host.evrSize ≤ ringHeld p.host.evrTail p.host.evrHead)

/-- EVRING_FULL holds while the event ring is full. -/
def evrLevel (p : Part) : Part := setLevel evEvringFull 0 (evrFull p) p

def execEvrHeadWrite (t : Nat) (value : Word) (s : State) : Host.Outcome State Fault Refusal :=
  regWrite t (fun p =>
    if ringHeld p.host.evrTail value ≤ p.host.evrSize then evrLevel (p.updHost fun h => { h with evrHead := value })
    else ringFault p) s

/-- Writes an enable bit of HOST_RING_CTRL (R336): a setup outside R334 leaves it 0, and enabling zeroes both indices. -/
def enableRing (on was ok : Bool) (set : Bool → Bool → HostIf → HostIf) (p : Part) : Part :=
  if !on then p.updHost (set false false)
  else if was then p
  else if ok then p.updHost (set true true)
  else p.updHost fun h => { h with ringErr := true }

def setCmdEn (on zero : Bool) (h : HostIf) : HostIf :=
  { h with cmdEn := on, cmdHead := if zero then 0 else h.cmdHead, cmdTail := if zero then 0 else h.cmdTail }
def setRplEn (on zero : Bool) (h : HostIf) : HostIf :=
  { h with rplEn := on, rplHead := if zero then 0 else h.rplHead, rplTail := if zero then 0 else h.rplTail }
def setEvrEn (on zero : Bool) (h : HostIf) : HostIf :=
  { h with evrEn := on, evrHead := if zero then 0 else h.evrHead, evrTail := if zero then 0 else h.evrTail }

def cmdEnable (on : Bool) (p : Part) : Part :=
  enableRing on p.host.cmdEn (ringOk p.host.cmdBase p.host.cmdSize) setCmdEn p
def rplEnable (on : Bool) (p : Part) : Part :=
  enableRing on p.host.rplEn (ringOk p.host.rplBase p.host.rplSize) setRplEn p
def evrEnable (on : Bool) (p : Part) : Part :=
  evrLevel (enableRing on p.host.evrEn (ringOk p.host.evrBase p.host.evrSize) setEvrEn p)

def execCmdEn (t : Nat) (on : Bool) (s : State) : Host.Outcome State Fault Refusal := regWrite t (cmdEnable on) s
def execRplEn (t : Nat) (on : Bool) (s : State) : Host.Outcome State Fault Refusal := regWrite t (rplEnable on) s
def execEvrEn (t : Nat) (on : Bool) (s : State) : Host.Outcome State Fault Refusal := regWrite t (evrEnable on) s

def execWbEn (t : Nat) (on : Bool) (s : State) : Host.Outcome State Fault Refusal :=
  regWrite t (fun p => p.updHost fun h => { h with wbEn := on }) s
def execRingErr (t : Nat) (s : State) : Host.Outcome State Fault Refusal :=
  regWrite t (fun p => p.updHost fun h => { h with ringErr := false }) s
def execDmaErr (t : Nat) (s : State) : Host.Outcome State Fault Refusal :=
  regWrite t (fun p => p.updHost fun h => { h with dmaErr := false }) s

/-- A host-memory access fails (R338): its ring is disabled. -/
def dmaFails (ring : HostRing) (p : Part) : Part :=
  let q := p.updHost fun h => match ring with
    | .cmd => { h with cmdEn := false, dmaErr := true }
    | .rpl => { h with rplEn := false, dmaErr := true }
    | .evr => { h with evrEn := false, dmaErr := true }
  raise evHostDmaErr 0 0 (evrLevel q)

def execHostDmaErr (t : Nat) (ring : HostRing) (s : State) : Host.Outcome State Fault Refusal :=
  onPart (timed t (guarded Part.bar0 (dmaFails ring))) s

/-! ### The command queue -/

/-- Firmware has started, or kindling stopped before it could and the stop responder serves the transports (R344, R407). -/
def served (p : Part) : Bool := decide (4 ≤ p.sys.step) || p.sys.stopped

/-- The part fetches from the command ring: it has entries, and both queues have room (R337, R340). -/
def mayFetch (p : Part) : Bool :=
  p.bar0 && served p && p.host.cmdEn && decide (0 < ringHeld p.host.cmdTail p.host.cmdHead) &&
  decide (p.host.cmdQueue.length < 64) && decide (p.host.replyQueue.length < 64)

/-- A command entry is fetched (R337); vector 14 where the ring had been full (Table 13.5). -/
def cmdFetch (slot : List Byte) (p : Part) : Part :=
  let full := ringHeld p.host.cmdTail p.host.cmdHead == p.host.cmdSize
  let q := perfSignal 9 0x12 0 1 (p.updHost fun h => { h with
    cmdQueue := h.cmdQueue ++ [(false, slot.take 4096)], cmdHead := h.cmdHead + 1 })
  if full then signalVector 14 q else q

def execCmdFetch (t : Nat) (slot : List Byte) (s : State) : Host.Outcome State Fault Refusal :=
  onPart (timed t (guarded mayFetch (cmdFetch slot))) s

/-! ### Replies -/

/-- A UART frame: the packet stuffed between two 0x7E (R343). -/
def uartStuff (b : List Byte) : List Byte :=
  0x7E :: (b.flatMap fun x => if x = 0x7E then [0x7D, 0x5E] else if x = 0x7D then [0x7D, 0x5D] else [x]) ++ [0x7E]

/-- Removes byte stuffing; none where 0x7D comes before anything but 0x5D or 0x5E (R343). -/
def uartUnstuff : List Byte → Option (List Byte)
  | [] => some []
  | x :: rest =>
    if x = 0x7D then match rest with
      | y :: rest2 =>
        if y = 0x5E then (uartUnstuff rest2).map (0x7E :: ·) else if y = 0x5D then (uartUnstuff rest2).map (0x7D :: ·) else none
      | [] => none
    else (uartUnstuff rest).map (x :: ·)

/-- Room for a reply in its ring. -/
def rplRoom (p : Part) : Bool := p.bar0 && p.host.rplEn && decide (ringHeld p.host.rplTail p.host.rplHead < p.host.rplSize)

def ringSlot (base : DWord) (index : Word) (size entry : Nat) : DWord := base + BitVec.ofNat 64 (entry * (index.toNat % size))

/-- The index write-back (R337). -/
def writeBack (p : Part) : Part :=
  if p.host.wbEn then
    emit (.hostWrite p.host.wbAddr (le 4 p.host.cmdHead.toNat ++ le 4 p.host.rplTail.toNat ++ le 4 p.host.evrTail.toNat ++ le 4 0)) p
  else p

/-- HOST_RPL_MOD, at most 1,000 µs (Table 13.3). -/
def rplDelay (p : Part) : Nat := min p.host.rplMod.toNat 1000 * usec

/-- Vector 12, at once or once the reply interrupt delay ends (Table 13.5). -/
def rplInterrupt (p : Part) : Part :=
  if rplDelay p = 0 then signalVector 12 p
  else if p.host.rplModDue.isSome then p
  else p.updHost fun h => { h with rplModDue := some (p.sys.now + rplDelay p) }

/-- The UART rate set by a command takes effect once its reply has been sent, or was not asked for (R342). -/
def uartSettles (p : Part) : Part :=
  match p.host.newBaud with
  | some (tag, rate) =>
    if p.host.replyQueue.any fun r => r.tag == tag then p else p.updHost fun h => { h with baud := rate, newBaud := none }
  | none => p

/-- A firmware switch resets the Kiln once its reply has been sent (R327). -/
def switchStarts (p : Part) : Part :=
  match p.hrt.pendingTrial with
  | some x =>
    if p.host.replyQueue.any fun r => r.opcode == 0x0B03 then p
    else raiseAs 0 0 evKilnReset 0 0 (kilnStops (p.updHrt fun h => { h with pendingTrial := none, switchTo := some x }))
  | none => p

/-- What waits for a reply to leave. -/
def repliesGone (p : Part) : Part := switchStarts (uartSettles p)

/-- A reply leaves: in its ring slot with the indices written back, or as a UART frame (R337, R342, R343). -/
def writeReply (r : Reply) (p : Part) : Part :=
  if r.uart then repliesGone (emit (.uartTx (uartStuff (replyPacket r))) p)
  else
    let q := emit (.hostWrite (ringSlot p.host.rplBase p.host.rplTail p.host.rplSize 4096) (replyPacket r)) p
    repliesGone (rplInterrupt (writeBack (q.updHost fun h => { h with rplTail := h.rplTail + 1 })))

/-- Takes the first reply whose transport has room. -/
def takeReply (room : Bool) : List Reply → Option (Reply × List Reply)
  | [] => none
  | r :: rest => if r.uart || room then some (r, rest) else (takeReply room rest).map fun x => (x.1, r :: x.2)

/-- A queued reply is written (R337, R340); none while the Kiln is in reset fills a slot (R345). -/
def replyWrite (p : Part) : Part :=
  if p.hrt.kilnReset then p
  else match takeReply (rplRoom p) p.host.replyQueue with
    | some (r, rest) => writeReply r (p.updHost fun h => { h with replyQueue := rest })
    | none => p

def execReplyWrite (t : Nat) (s : State) : Host.Outcome State Fault Refusal := onPart (timed t replyWrite) s

def execReplyModExpiry (t : Nat) (s : State) : Host.Outcome State Fault Refusal :=
  onPart (timed t fun p => match p.host.rplModDue with
    | some d => if d ≤ p.sys.now then signalVector 12 (p.updHost fun h => { h with rplModDue := none }) else p
    | none => p) s

/-! ### The UART -/

def uartError (p : Part) : Part := count blkHost 0 3 (p.updHost fun h => { h with uartRx := [] })

/-- A frame between two 0x7E (R343): unstuffed, and pushed or refused at a full queue (R340). -/
def uartFrame (raw : List Byte) (p : Part) : Part :=
  if raw.isEmpty || !served p then p
  else match uartUnstuff raw with
    | none => uartError p
    | some b =>
      if 4096 < b.length then uartError p
      else if 64 ≤ p.host.cmdQueue.length then raise evCmdqOverflow 0 0 (count blkHost 0 1 p)
      else p.updHost fun h => { h with cmdQueue := h.cmdQueue ++ [(true, b)], uartRx := [] }

def execUartFrame (t : Nat) (raw : List Byte) (s : State) : Host.Outcome State Fault Refusal := onPart (timed t (uartFrame raw)) s

/-- 10 ms between two bytes of a frame (R343). -/
def execUartByteTimeout (t : Nat) (s : State) : Host.Outcome State Fault Refusal := onPart (timed t (guarded served uartError)) s

def execUartBreak (t : Nat) (s : State) : Host.Outcome State Fault Refusal :=
  onPart (timed t fun p => p.updHost fun h => { h with baud := 115200, uartRx := [] }) s

/-! ### The event ring -/

def encEvent (eseq : Nat) (x : EvEntry) : List Byte :=
  le 4 eseq ++ le 2 x.event ++ le 1 (b2n x.lost) ++ [0] ++ le 8 x.time ++ le 6 x.cfn ++ le 2 x.inst ++ le 4 x.arg ++ le 4 x.count

/-- The ring writer takes one entry (R373). -/
def ringWriter (p : Part) : Part :=
  match p.ev.queue with
  | [] => p
  | x :: rest =>
    if !(p.bar0 && p.host.evrEn) || evrFull p then p
    else
      let p1 := emit (.hostWrite (ringSlot p.host.evrBase p.host.evrTail p.host.evrSize 32) (encEvent p.ev.eseq x)) p
      let p2 := p1.updEv fun e => { e with queue := rest, eseq := (e.eseq + 1) % 2 ^ 32 }
      evrLevel (signalVector 13 (p2.updHost fun h => { h with evrTail := h.evrTail + 1 }))

def execEventRingWrite (t : Nat) (s : State) : Host.Outcome State Fault Refusal := onPart (timed t ringWriter) s

/-- One LOST entry once the event queue has drained below 128 (R374). -/
def evqLost (p : Part) : Part :=
  let e := p.ev
  pushEvent { event := evEvqOverflow, lost := true, time := e.lostTime, cfn := e.lostCfn, inst := 0, arg := 0, count := e.lostCount }
    (p.updEv fun e => { e with lostCount := 0 })

def execEvqLostEntry (t : Nat) (s : State) : Host.Outcome State Fault Refusal :=
  onPart (timed t (guarded (fun p => decide (0 < p.ev.lostCount) && decide (p.ev.queue.length < 128)) evqLost)) s

/-! ### Event registers -/

/-- The bits of a 32-bit register in the place of bank `b`. -/
def bankBits (b : Nat) (v : Word) : BitVec 384 := v.setWidth 384 <<< (32 * b)

/-- A bank of a 384-bit set replaced by a register's value. -/
def putBank (b : Nat) (v : Word) (w : BitVec 384) : BitVec 384 := (w &&& ~~~bankBits b (BitVec.allOnes 32)) ||| bankBits b v

def getBank (b : Nat) (w : BitVec 384) : Word := (w >>> (32 * b)).setWidth 32

/-- How many sources each bank has, from its lowest number on (Table 15.1). -/
def bankSources : List Nat := [14, 15, 14, 11, 20, 32, 32, 32, 32, 18, 19, 8]

/-- The bits of the sources that exist; those of a reserved source read 0 (R368). -/
def definedEvents : BitVec 384 :=
  (List.range 12).foldl (fun w b => w ||| bankBits b (BitVec.ofNat 32 (2 ^ bankSources.getD b 0 - 1))) 0

def execEventPendWrite (t bank : Nat) (value : Word) (s : State) : Host.Outcome State Fault Refusal :=
  regWrite t (guarded (fun _ => decide (bank < 12)) (clearPend (bankBits bank value) (resignalBank bank))) s

/-- A mask write: the bank's vector is signalled again if something unmasked is pending (R371). -/
def maskWrite (bank : Nat) (value : Word) (p : Part) : Part :=
  resignalBank bank (p.updEv fun e => { e with mask := putBank bank value e.mask })

def execEventMaskWrite (t bank : Nat) (value : Word) (s : State) : Host.Outcome State Fault Refusal :=
  regWrite t (guarded (fun _ => decide (bank < 12)) (maskWrite bank value)) s

/-! ### Performance counter registers -/

/-- Writes PERF_CTRL.GLOBAL_FREEZE: what has been counted so far stays (R381). -/
def setFreeze (on : Bool) (p : Part) : Part := (perfSync p).updPerf fun q => { q with freeze := on }

def execGlobalFreeze (t : Nat) (on : Bool) (s : State) : Host.Outcome State Fault Refusal := regWrite t (setFreeze on) s
def execSnap (t : Nat) (s : State) : Host.Outcome State Fault Refusal := regWrite t takeSnapshot s
def execSnapFe (t : Nat) (on : Bool) (s : State) : Host.Outcome State Fault Refusal :=
  regWrite t (fun p => p.updPerf fun q => { q with snapFe := on }) s
def execPerfOvfClear (t group : Nat) (bits : Byte) (s : State) : Host.Outcome State Fault Refusal :=
  regWrite t (guarded (fun _ => decide (group < 10)) (updGroup group fun q => { q with ovf := q.ovf &&& ~~~bits })) s
def execPerfCounterWrite (t group counter : Nat) (value : Word) (s : State) : Host.Outcome State Fault Refusal :=
  regWrite t (guarded (fun _ => decide (group < 10) && decide (counter < 8)) fun p =>
    updGroup group (fun q => { q with cnt := q.cnt.set counter value }) (perfSync p)) s

/-- A counter wraps (R379): of one whose signal lasts over cycles the row says when; the value wraps of itself. -/
def counterWraps (g c : Nat) (p : Part) : Part :=
  let q := perfSync p
  let w := perfSel g c q
  if !selEnable w || q.perf.freeze || pulsed g (selCode w) || (selChain w && c % 2 == 1) then q
  else perfCarry g c (perfWrapped g c q)

def execPerfCounterWrap (t group counter : Nat) (s : State) : Host.Outcome State Fault Refusal :=
  onPart (timed t (guarded (fun _ => decide (group < 10) && decide (counter < 8)) (counterWraps group counter))) s

end Sys2Proof.Machine
end

