-- ==== Sys2Proof/Machine/PowerMan.lean ====
section
/-! DEFINITION. The power manager and temperature (R413 to R419). -/

namespace Sys2Proof.Machine

open Sys2Proof

def meanOf (l : List Nat) : Nat := if l.isEmpty then 0 else l.sum / l.length

/-- P10 and P1000 in mW (R416), over as many of their milliseconds as there have been (log entry 58). -/
def p10 (p : Part) : Nat := meanOf (p.pwr.samples.take 10)
def p1000 (p : Part) : Nat := meanOf (p.pwr.samples.take 1000)

/-- The cap in mW. -/
def capMw (p : Part) : Nat := 1000 * p.pwr.cap

/-- Telemetry is valid while every entry has answered within the last 50 ms (R414). -/
def telemValid (p : Part) : Bool :=
  !p.sys.regulators.isEmpty && p.sys.regulators.all fun r => (r.answered.map fun a => decide (p.sys.now ≤ a + 50 * msec)).getD false

/-- Measured power (R416). -/
def measuredPower (p : Part) : Nat := if telemValid p then max p.pwr.chip p.pwr.telem else p.pwr.chip

/-- T_max in 0.125 °C (R1, Table 0.2). -/
def tMax : Int := if Config.gradeX then 880 else 840

/-- Monitor outputs are shed or released at once; MON_SHED is raised on either (R144). -/
def monitorsFollow (p : Part) : Part :=
  let on := decide (1 ≤ p.pwr.shed)
  if p.comp.monShed == on then p else raise evMonShed 0 0 (p.updComp fun c => { c with monShed := on })

/-- The shed steps in force become `n` (R416). -/
def setShed (n : Nat) (p : Part) : Part :=
  raise evPowerShed 0 n (monitorsFollow (p.updPwr fun w => { w with shed := n, lastChange := some p.sys.now }))

/-- Sheds the next step (Table 17.8). -/
def shedNext (p : Part) : Part :=
  let k := p.pwr.shed
  setShed (k + 1) (p.updPwr fun w => { w with before := p10 p, shedAt := w.shedAt.set k p.sys.now })

/-- The saving of each step is P10 just before the shed less P10 10 ms after it (R416). -/
def recordSavings (p : Part) : Part :=
  let due := fun k => decide (k < p.pwr.shed) && decide (p.pwr.shedAt.getD k 0 + 10 * msec ≤ p.sys.now) &&
    decide (p.sys.now < p.pwr.shedAt.getD k 0 + 11 * msec)
  let s := (p.pwr.before : Int) - p10 p
  p.updPwr fun w => { w with savings := (List.range 3).map fun k => if due k then s else w.savings.getD k 0 }

/-- Steps applied by THERM_CRIT wait until Tj has been below T_max − 5 °C for 10 s (R419). -/
def thermalHolds (p : Part) : Bool :=
  p.pwr.thermal && !((p.sys.tjCool.map fun c => decide (c + 10 * sec ≤ p.sys.now)).getD false)

/-- The last step shed may be released (R416). -/
def mayRelease (p : Part) : Bool :=
  let k := p.pwr.shed - 1
  decide (0 < p.pwr.shed) && !thermalHolds p && decide (p.pwr.shedAt.getD k 0 + sec ≤ p.sys.now) &&
  decide (100 * ((p1000 p : Int) + p.pwr.savings.getD k 0) ≤ 92 * (capMw p : Int))

/-- Sheds or releases a step (R416). -/
def shedDecide (p : Part) : Part :=
  let since := (p.pwr.lastChange.map fun c => decide (c + 100 * msec ≤ p.sys.now)).getD true
  if 98 * capMw p < 100 * p10 p && since && decide (p.pwr.shed < 3) then shedNext p
  else if mayRelease p then
    let q := setShed (p.pwr.shed - 1) p
    if q.pwr.shed = 0 then q.updPwr fun w => { w with thermal := false } else q
  else p

/-- The 100 ms of R417 run while all steps are shed and P10 exceeds the cap. -/
def overCap (p : Part) : Part :=
  if p.pwr.shed = 3 && decide (capMw p < p10 p) then
    p.updPwr fun w => { w with overSince := some (w.overSince.getD p.sys.now) }
  else p.updPwr fun w => { w with overSince := none, exceeded := false }

/-- PMBUS_MISMATCH, once per excursion (R415). -/
def mismatchCheck (p : Part) : Part :=
  let a := meanOf (p.pwr.telemSamples.take 1000)
  let b := meanOf (p.pwr.chipSamples.take 1000)
  let far := telemValid p && decide (max 10000 (b / 10) < (if a < b then b - a else a - b))
  let q := p.updPwr fun w => { w with mismatch := far }
  if far && !p.pwr.mismatch then raise evPmbusMismatch 0 0 q else q

/-- The highest Tj is seen (R419): THERM_WARN follows it, and an excursion past T_max ends below T_max. -/
def tjSeen (tj : Int) (sensor : Nat) (p : Part) : Part :=
  let q := p.updSys fun y => { y with
    tj := tj, tjSensor := sensor
    tjWarn := decide (tMax - 40 ≤ tj)
    tjCrit := y.tjCrit && decide (tMax ≤ tj)
    tjHot := if tMax ≤ tj then some (y.tjHot.getD y.now) else none
    tjCool := if tj < tMax - 40 then some (y.tjCool.getD y.now) else none }
  setLevel evThermWarn 0 (decide (tMax - 40 ≤ tj)) q

/-- One millisecond of the power manager (R413, R415 to R417). -/
def energyTick (estimate : Nat) (tj : Int) (sensor : Nat) (p : Part) : Part :=
  let p1 := tjSeen tj sensor (p.updPwr fun w => { w with chip := estimate })
  let p2 := p1.updPwr fun w => { w with
    samples := (measuredPower p1 :: w.samples).take 1000
    chipSamples := (estimate :: w.chipSamples).take 1000
    telemSamples := (w.telem :: w.telemSamples).take 1000 }
  let near := decide (95 * capMw p2 ≤ 100 * p10 p2)
  let p3 := setLevel evPowerCapNear 0 near (p2.updPwr fun w => { w with near := near })
  mismatchCheck (overCap (shedDecide (recordSavings p3)))

def execEnergyTick (t estimate : Nat) (tj : Int) (sensor : Nat) (s : State) : Host.Outcome State Fault Refusal :=
  onPart (timed t (energyTick estimate tj sensor)) s

def execPowerCapExceeded (t : Nat) (s : State) : Host.Outcome State Fault Refusal :=
  onPart (timed t (guarded (fun p => !p.pwr.exceeded && ((p.pwr.overSince.map fun c => decide (c + 100 * msec ≤ p.sys.now)).getD false))
    fun p => raise evPowerCapExceeded 0 0 (p.updPwr fun w => { w with exceeded := true }))) s

/-! ### PMBus (R414) -/

/-- Commands that a poll sends to a regulator: VOUT_MODE once, then its readings. -/
def pollReads (r : Regulator) : List Nat := (if r.answered.isNone then [0x20] else []) ++ if r.pout then [0x96] else [0x8B, 0x8C]

/-- Readings of a poll are stored, entry by entry. -/
def storeReadings (now : Nat) : List Regulator → List (Option Nat) → List Regulator
  | [], _ => []
  | r :: rs, [] => r :: storeReadings now rs []
  | r :: rs, x :: xs => (match x with | some mw => { r with answered := some now, mw := mw } | none => r) :: storeReadings now rs xs

/-- Reads commands of a regulator, with PAGE set first where its entry names one. -/
def pmbusReads (r : Regulator) (cmds : List Nat) (p : Part) : Part :=
  cmds.foldl (fun q c => emit (.pmbusRead r.addr c) q) (if r.page = 0xFF then p else emit (.pmbusPage r.addr r.page) p)

def pmbusPoll (readings : List (Option Nat)) (p : Part) : Part :=
  let p1 := p.sys.regulators.foldl (fun q r => pmbusReads r (pollReads r) q) p
  let p2 := p1.updSys fun y => { y with regulators := storeReadings y.now y.regulators readings }
  p2.updPwr fun w => { w with telem := (p2.sys.regulators.map (·.mw)).sum, telemAt := some p2.sys.now }

def execPmbusPoll (t : Nat) (readings : List (Option Nat)) (s : State) : Host.Outcome State Fault Refusal :=
  onPart (timed t (guarded (fun p => decide (4 ≤ p.sys.step)) (pmbusPoll readings))) s

/-- Log-only code of a STATUS_WORD (log entry 59). -/
abbrev codeStatusWord : Nat := 0x8079

/-- PMB_ALERT_N changes: while low the part reads every STATUS_WORD and logs it at WARN. -/
def pmbusAlert (low : Bool) (words : List Half) (p : Part) : Part :=
  let q := setLevel evPmbusAlert 0 low (p.updPwr fun w => { w with alertLow := low })
  if !low then q
  else
    let q1 := q.sys.regulators.foldl (fun r g => pmbusReads g [0x79] r) q
    (List.range (min words.length q.sys.regulators.length)).foldl (fun r i =>
      report blkPower i codeStatusWord 1 0 (words.getD i 0).toNat r) q1

def execPmbusAlert (t : Nat) (low : Bool) (words : List Half) (s : State) : Host.Outcome State Fault Refusal :=
  onPart (timed t (guarded (fun p => decide (4 ≤ p.sys.step)) (pmbusAlert low words))) s

/-! ### Temperature (Table 17.9) -/

def execThermWarn (t : Nat) (tj : Int) (sensor : Nat) (s : State) : Host.Outcome State Fault Refusal :=
  onPart (timed t (tjSeen tj sensor)) s

/-- All steps not yet shed are shed at once. -/
def shedAll (p : Part) : Part :=
  let k := p.pwr.shed
  let q := p.updPwr fun w => { w with
    thermal := true, before := p10 p, shedAt := (List.range 3).map fun j => if k ≤ j then p.sys.now else w.shedAt.getD j 0 }
  (List.range (3 - k)).foldl (fun r j => setShed (k + j + 1) r) q

/-- T_max for 10 ms: once per excursion (Table 17.9). -/
def thermCrit (p : Part) : Part :=
  let q := shedAll (raise evThermCrit 0 0 (p.updSys fun y => { y with tjCrit := true }))
  if partnerInService q then yieldHead q else q

def execThermCrit (t : Nat) (tj : Int) (sensor : Nat) (s : State) : Host.Outcome State Fault Refusal :=
  onPart (timed t fun p =>
    let q := tjSeen tj sensor p
    if tMax ≤ tj && !q.sys.tjCrit then thermCrit q else q) s

/-- Ember log entry of a damped state (log entry 60). -/
def dampedEntry (p : Part) : LogEntry :=
  { lseq := 0, time := p.sys.now, cfn := p.fr.cfn, severity := 2, faultClass := 0, gleaned := false, toA := false, toB := false,
    coalesced := false, source := blkPower, inst := p.sys.tjSensor, code := evThermCrit, count := 1, last := 0,
    arg := (p.sys.tj % 65536).toNat }

/-- T_max + 10 °C for 100 µs: damped, left only by RESET_N. -/
def execDamped (t : Nat) (tj : Int) (sensor : Nat) (s : State) : Host.Outcome State Fault Refusal :=
  onPart (timed t fun p =>
    let q := tjSeen tj sensor p
    if tMax + 80 ≤ tj then (emberWrite (dampedEntry q) q).updSys fun y => { y with damped := true } else q) s

end Sys2Proof.Machine
end

