-- ==== Sys2Proof/Machine/Registers.lean ====
section
/-! DEFINITION. The register map (chapter 18): what each register reads as, the 64-bit shadows (R422), writes by access class
(R14), maintenance mode (R425, R426) and lock fields (R427). -/

namespace Sys2Proof.Machine

open Sys2Proof

/-! ### What registers read as -/

/-- Fields packed from bit 0 up: width and value. -/
def packFields : List (Nat × Nat) → Nat
  | [] => 0
  | (w, v) :: rest => v % 2 ^ w + 2 ^ w * packFields rest

def wordOf (n : Nat) : Word := BitVec.ofNat 32 n

/-- Instance and offset within it of an array at `base`, if the offset lies there. -/
def inArray (off base stride n : Nat) : Option (Nat × Nat) :=
  if base ≤ off ∧ off < base + stride * n then some ((off - base) / stride, (off - base) % stride) else none

/-- Slate shown (R147). -/
def slateShown (p : Part) : Bool := p.comp.slate.shown

/-- Seconds until the maintenance timeout. -/
def maintLeft (p : Part) : Nat :=
  if p.maint.unlocked && !p.maint.byGpio then min 65535 (((p.maint.unlockedAt + max 1 p.maint.timeout * sec) - p.sys.now) / sec) else 0

/-- Table 18.2. -/
def readGlobal (p : Part) (off : Nat) : Word :=
  if off = 0x000 then wordOf (packFields [(16, 0x3624), (8, 0xA1), (1, b2n Config.gradeX), (1, b2n p.sys.endB)])
  else if off = 0x004 then wordOf (packFields [(4, p.sys.step), (3, roleCode p.pair.role), (1, b2n (degraded p)), (1, b2n (faultLow p)),
    (1, b2n p.maint.unlocked), (1, b2n (slateShown p)), (1, b2n p.comp.lowlat), (2, p.sys.boot.toNat), (1, b2n p.sys.strapHost)])
  else if off = 0x014 then wordOf (packFields [(1, b2n p.maint.unlocked), (1, b2n p.maint.armed.isSome), (14, 0), (16, maintLeft p)])
  else if off = 0x018 then wordOf (packFields [(1, 0), (1, b2n p.maint.disable), (14, 0), (12, p.maint.timeout)])
  else if off = 0x01C then wordOf (b2n p.sys.gpioLock)
  else if off = 0x020 then wordOf (packFields [(16, (p.sys.tj % 65536).toNat), (4, p.sys.tjSensor)])
  else if off = 0x080 then wordOf p.sys.gpioIn.toNat
  else match inArray off 0x040 4 16 with
    | some (n, 0) => if n = 15 && !p.sys.strapHost then 0 else wordOf (packFields [(3, p.sys.gpioFunc.getD n 0), (1, b2n (p.sys.gpioOd.getD n false))])
    | _ => 0

/-- Table 18.4. -/
def readTimebase (p : Part) (off : Nat) : Word :=
  if off = 0x000 then wordOf (packFields [(4, tbCode p.tb.state), (3, p.tb.slot.getD 0), (1, b2n p.tb.slot.isSome),
    (1, b2n p.tb.rootLock), (1, b2n p.tb.banked.isSome), (1, b2n p.tb.weak), (6, p.tb.band)])
  else if off = 0x004 then wordOf (packFields ((List.range 8).map fun k => (3, (p.slotRt k).state)))
  else if off = 0x018 then wordOf (p.tb.bw / 1000)
  else 0

/-- Table 18.5 and the counters of R428. -/
def readKlink (p : Part) (off : Nat) : Word :=
  match inArray off 0 0x400 128 with
  | none => 0
  | some (f, o) =>
    let l := p.lane f
    let c := p.cfg.furrow f
    if o = 0x000 then wordOf (packFields [(3, l.state), (1, b2n l.rxInv), (2, c.rate), (1, b2n c.enable), (1, b2n (isFolded p f)),
      (1, b2n (isClosed p f)), (1, b2n l.faulted), (1, b2n l.pwrUnc), (1, b2n (inError p f)),
      (8, (c.map.keys.filter fun k => (p.tile f k).inService).length), (8, l.found)])
    else if o = 0x004 then wordOf (packFields ((furrowTenure p f).map fun n => (8, n)))
    else if o = 0x008 then wordOf (packFields [(11, outstanding p f), (5, 0), (7, l.queue.length)])
    else match inArray o 0x100 4 20 with
      | some (i, 0) => counter blkKlink f i p
      | _ => 0

/-- Table 18.6. -/
def readHearth (p : Part) (off : Nat) : Word :=
  if off = 0x000 then wordOf (packFields [(1, b2n (recovering p)), (1, b2n p.hrt.kilnReset), (2, p.hrt.copies), (1, b2n p.hrt.split),
    (4, min 15 (p.hrt.queue.length + p.fab.queue.length)), (1, b2n p.hrt.tableSet), (1, b2n (headlandEmpty p))])
  else if off = 0x004 then wordOf (packFields [(3, fallowCount p .ingest), (1, fallowCount p .converter), (2, fallowCount p .scaler),
    (1, fallowCount p .lane), (1, p.hrt.coresFallow.length), (4, fallowCount p .hbm), (2, p.log.spares)])
  else if off = 0x010 then wordOf (packFields [(16, p.hrt.slowWorst), (16, p.hrt.slowUnit)])
  else if off = 0x014 then wordOf (packFields [(16, p.hrt.ceWorst), (7, p.hrt.cePc)])
  else if off = 0x018 then wordOf (packFields [(8, p.hrt.rowsWorst)])
  else if off = 0x01C then wordOf (packFields [(16, p.hrt.eyeWorst), (8, p.hrt.eyeLane)])
  else if off = 0x020 then wordOf p.hrt.swaps
  else 0

/-- Newest and oldest LSEQ held, and ungleaned FAULT and LOST entries. -/
def logNewest (p : Part) : Nat := p.log.nextSeq - 1
def logHeld (p : Part) : List LogEntry := if p.log.emberOn then p.log.ember.vals else (goodBank p).vals
def logOldest (p : Part) : Nat := match logHeld p with
  | [] => 0
  | e :: rest => rest.foldl (fun m x => min m x.lseq) e.lseq
def logUngleaned (p : Part) : Nat := ((logHeld p).filter fun e => decide (2 ≤ e.severity) && !e.gleaned).length

/-- A word of a log entry in the window or of the ember log (R429). -/
def entryWord (e : Option LogEntry) (o : Nat) : Word := match e with
  | some x => wordOf (leAt (encEntry x) o 4)
  | none => 0

/-- Table 18.7 and the windows of R429. -/
def readLog (p : Part) (off : Nat) : Word :=
  if off = 0x000 then wordOf (packFields [(1, b2n p.log.failA), (1, b2n p.log.failB), (1, b2n p.log.full), (1, b2n p.log.emberOn), (4, p.log.spares)])
  else if off = 0x004 then wordOf (logNewest p)
  else if off = 0x008 then wordOf (logOldest p)
  else if off = 0x00C then wordOf (logUngleaned p)
  else if off = 0x010 then wordOf p.log.page
  else if off = 0x014 then wordOf p.log.emberNext
  else match inArray off 0x100 4 24, inArray off 0x7000 32 32, inArray off 0x8000 32 1024 with
    | some (b, 0), _, _ => counter blkLog 0 b p
    | _, some (k, o), _ => entryWord (p.log.ember.get? k) o
    | _, _, some (k, o) => entryWord ((goodBank p).get? (1024 * p.log.page + k)) o
    | _, _, _ => 0

/-- Table 18.8. -/
def readPower (p : Part) (off : Nat) : Word :=
  if off = 0x000 then wordOf p.pwr.chip
  else if off = 0x004 then wordOf p.pwr.telem
  else if off = 0x008 then wordOf (p10 p)
  else if off = 0x00C then wordOf (p1000 p)
  else if off = 0x010 then wordOf (packFields [(2, p.pwr.shed), (1, b2n (telemValid p)), (1, b2n p.pwr.near), (1, b2n p.pwr.exceeded),
    (1, b2n p.sys.tjWarn), (1, b2n p.sys.tjCrit), (9, 0), (8, p.pwr.cap)])
  else match inArray off 0x040 4 3 with
    | some (j, 0) => BitVec.ofInt 32 (p.pwr.savings.getD j 0)
    | _ => 0

def loHalf (v : DWord) : Word := v.setWidth 32
def hiHalf (v : DWord) : Word := (v >>> 32).setWidth 32

/-- Table 13.3, the MSI-X table and the pending-bit array (R339). -/
def readHost (p : Part) (off : Nat) : Word :=
  let h := p.host
  if off = 0x008 then wordOf h.cmdSize
  else if off = 0x00C then h.cmdTail
  else if off = 0x010 then h.cmdHead
  else if off = 0x028 then wordOf h.rplSize
  else if off = 0x02C then h.rplHead
  else if off = 0x030 then h.rplTail
  else if off = 0x048 then wordOf h.evrSize
  else if off = 0x04C then h.evrHead
  else if off = 0x050 then h.evrTail
  else if off = 0x060 then wordOf (packBits [h.cmdEn, h.rplEn, h.evrEn, h.wbEn, false, false, false, false, h.ringErr, h.dmaErr])
  else if off = 0x06C then h.rplMod
  else if off = 0x9000 then wordOf p.ev.msixPba.toNat
  else match inArray off 0x8000 4 64 with
    | some (k, 0) => p.ev.msixTable.getD k (if k % 4 = 3 then 1 else 0)
    | _ => 0

/-- Table 15.2. -/
def readEvent (p : Part) (off : Nat) : Word :=
  if off = 0x0C0 then wordOf p.ev.irqEn.toNat
  else if off = 0x0C4 then wordOf (packFields [(16, summaryBits p), (1, b2n (irqLow p))])
  else if off = 0x0C8 then wordOf p.ev.queue.length
  else match inArray off 0x000 4 12, inArray off 0x040 4 12, inArray off 0x080 4 12 with
    | some (b, 0), _, _ => getBank b p.ev.pend
    | _, some (b, 0), _ => getBank b (p.ev.mask &&& definedEvents)
    | _, _, some (b, 0) => getBank b (p.ev.ring &&& definedEvents)
    | _, _, _ => 0

/-- R377, R381. -/
def readPerf (p : Part) (off : Nat) : Word :=
  let q := perfSync p
  if off = 0x3000 then wordOf (packBits [p.perf.freeze, false, p.perf.snapFe])
  else match inArray off 0 0x400 10 with
    | none => 0
    | some (g, o) =>
      let x := q.perf.groups.getD g ⟨0, [], [], 0, 0, []⟩
      if o = 0x0C0 then wordOf x.ovf.toNat
      else match inArray o 0x020 4 8, inArray o 0x040 4 8, inArray o 0x120 4 8 with
        | some (c, 0), _, _ => x.cnt.getD c 0
        | _, some (c, 0), _ => x.sel.getD c 0
        | _, _, some (c, 0) => x.snapCnt.getD c 0
        | _, _, _ => 0

/-- Default priority and age limit of a fabric channel (Table 16.1). -/
def fabricDefault (m : Nat) : Nat × Nat :=
  if m ≤ 51 then (11, 0) else if m ≤ 69 then (10, 0) else if m ≤ 120 then (12, 0) else if m ≤ 152 then (14, 0)
  else if m = 153 then (12, 0) else if m ≤ 165 then (6, 20) else if m ≤ 167 then (15, 0) else if m ≤ 169 then (4, 20)
  else if m ≤ 171 then (9, 0) else if m ≤ 173 then (8, 0) else if m = 174 then (15, 0) else (2, 20)

def fabricPrio (p : Part) (m : Nat) : Word :=
  p.fab.prio.getD m (wordOf (packFields ((List.range 8).map fun _ => (4, (fabricDefault m).1))))
def fabricCfg (p : Part) (m : Nat) : Word :=
  p.fab.cfg.getD m (wordOf (packFields [(4, (fabricDefault m).1), (10, (fabricDefault m).2)]))

/-- Table 16.4, and FABRIC_DECERR of each channel (R388). -/
def readFabric (p : Part) (off : Nat) : Word :=
  match inArray off 0x1000 8 177, inArray off 0x3000 4 177 with
  | some (m, 0), _ => fabricPrio p m
  | some (m, 4), _ => fabricCfg p m
  | _, some (m, 0) => counter blkFabric m 0 p
  | _, _ => 0

/-- HBM_SCRUB and HBM_PC_STATUS (R397, Table 16.5). -/
def readHbm (p : Part) (off : Nat) : Word :=
  if off = 0x100 then wordOf p.fab.scrubHours
  else match inArray off 0x1000 4 128 with
    | some (k, 0) => wordOf (pcStatus p k)
    | _ => 0

/-- A 64-bit value as its _LO register's offset names it (R422). -/
def read64 (p : Part) (off : Nat) : Option DWord :=
  if off = 0x000008 then some (BitVec.ofNat 64 p.fr.cfn)
  else if off = 0x010008 then some (BitVec.ofInt 64 (wNow p))
  else if off = 0x010010 then some (BitVec.ofInt 64 (p.tb.banked.getD 0))
  else if off = 0x010020 then some (BitVec.ofInt 64 p.fr.lastStep)
  else if off = 0x010028 then some (BitVec.ofNat 64 p.sys.now)
  else if off = 0x1B0000 then some p.host.cmdBase
  else if off = 0x1B0020 then some p.host.rplBase
  else if off = 0x1B0040 then some p.host.evrBase
  else if off = 0x1B0064 then some p.host.wbAddr
  else if off = 0x153008 then some (BitVec.ofNat 64 p.perf.snapCfn)
  else if off = 0x153010 then some (BitVec.ofNat 64 p.perf.snapTime)
  else match inArray off 0x150000 0x400 10 with
    | some (g, 0x000) => some ((perfSync p).perf.groups.getD g ⟨0, [], [], 0, 0, []⟩).cycles
    | some (g, 0x100) => some (p.perf.groups.getD g ⟨0, [], [], 0, 0, []⟩).snapCycles
    | _ => none

/-- The shadow of a path (R422). -/
def shadowOf (p : Part) (kilnPath : Bool) : DWord := if kilnPath then p.host.shadowKiln else p.host.shadowHost

/-- What a read of a register returns; a register of no table reads 0 (R420, R421). -/
def readReg (p : Part) (kilnPath : Bool) (off : Nat) : Word :=
  match read64 p off, read64 p (off - 4) with
  | some v, _ => loHalf v
  | none, some _ => hiHalf (shadowOf p kilnPath)
  | none, none =>
    if off < 0x010000 then readGlobal p off
    else if off < 0x020000 then readTimebase p (off - 0x010000)
    else if 0x0C0000 ≤ off ∧ off < 0x0E0000 then readKlink p (off - 0x0C0000)
    else if 0x120000 ≤ off ∧ off < 0x130000 then readHearth p (off - 0x120000)
    else if 0x140000 ≤ off ∧ off < 0x150000 then readEvent p (off - 0x140000)
    else if 0x150000 ≤ off ∧ off < 0x160000 then readPerf p (off - 0x150000)
    else if 0x160000 ≤ off ∧ off < 0x170000 then readFabric p (off - 0x160000)
    else if 0x170000 ≤ off ∧ off < 0x180000 then readHbm p (off - 0x170000)
    else if 0x180000 ≤ off ∧ off < 0x190000 then readPower p (off - 0x180000)
    else if 0x190000 ≤ off ∧ off < 0x1A0000 then readLog p (off - 0x190000)
    else if 0x1B0000 ≤ off ∧ off < 0x1C0000 then readHost p (off - 0x1B0000)
    else 0

/-- A read of a _LO register copies the whole value into the shadow of its path (R422). -/
def latchShadow (kilnPath : Bool) (off : Nat) (p : Part) : Part :=
  match read64 p off with
  | some v => p.updHost fun h => if kilnPath then { h with shadowKiln := v } else { h with shadowHost := v }
  | none => p

def execRegLoRead (t : Nat) (kilnPath : Bool) (offset : Nat) (s : State) : Host.Outcome State Fault Refusal :=
  onPart (timed t (guarded (fun p => kilnPath || p.bar0) (latchShadow kilnPath offset))) s

/-! ### Maintenance mode -/

/-- Maintenance mode unlocks (R425, R426). -/
def unlockMaint (byGpio : Bool) (p : Part) : Part :=
  setLevel evMaintUnlocked 0 true (p.updMaint fun m => { m with
    unlocked := true, armed := none, unlockedAt := p.sys.now, byGpio := byGpio })

def lockMaint (p : Part) : Part :=
  setLevel evMaintUnlocked 0 false (p.updMaint fun m => { m with unlocked := false, armed := none, byGpio := false })

/-- A write to GLOBAL_MAINT_UNLOCK.KEY (R425). -/
def unlockKey (key : Half) (p : Part) : Part :=
  if p.maint.disable then p
  else if key = 0x4B31 then p.updMaint fun m => { m with armed := some p.sys.now }
  else if key = 0x4B32 && ((p.maint.armed.map fun a => decide (p.sys.now ≤ a + msec)).getD false) then unlockMaint false p
  else p.updMaint fun m => { m with armed := none }

def execMaintUnlockKey (t : Nat) (key : Half) (s : State) : Host.Outcome State Fault Refusal := regWrite t (unlockKey key) s
def execRelock (t : Nat) (s : State) : Host.Outcome State Fault Refusal := regWrite t lockMaint s

def disableMaint (p : Part) : Part := p.updMaint fun m => { m with disable := true }
def execMaintDisable (t : Nat) (s : State) : Host.Outcome State Fault Refusal := regWrite t disableMaint s

/-- The maintenance timeout, counted from the unlock, has ended (R425). -/
def maintDue (p : Part) : Bool :=
  p.maint.unlocked && !p.maint.byGpio && decide (p.maint.unlockedAt + max 1 p.maint.timeout * sec ≤ p.sys.now)

def execMaintTimeout (t : Nat) (s : State) : Host.Outcome State Fault Refusal := onPart (timed t (guarded maintDue lockMaint)) s

def lockGpio (p : Part) : Part := p.updSys fun y => { y with gpioLock := true }
def execGpioLock (t : Nat) (s : State) : Host.Outcome State Fault Refusal := regWrite t lockGpio s

/-- GPIO15 of a head without BAR0 (R426): low for 100 ms unlocks, high locks. -/
def gpio15 (level : Bool) (p : Part) : Part :=
  if level then
    let q := p.updSys fun y => { y with gpio15Low := none }
    if q.maint.unlocked then lockMaint q else q
  else match p.sys.gpio15Low with
    | none => p.updSys fun y => { y with gpio15Low := some p.sys.now }
    | some a => if a + 100 * msec ≤ p.sys.now && !p.maint.unlocked then unlockMaint true p else p

def execGpio15Maint (t : Nat) (level : Bool) (s : State) : Host.Outcome State Fault Refusal :=
  onPart (timed t (guarded (fun p => !p.sys.strapHost) (gpio15 level))) s

/-! ### Writes -/

/-- Bytes of a 64-bit address register pair. -/
def setLo (v : Word) (a : DWord) : DWord := (a &&& 0xFFFFFFFF00000000) ||| v.setWidth 64
def setHi (v : Word) (a : DWord) : DWord := (a &&& 0x00000000FFFFFFFF) ||| (v.setWidth 64 <<< 32)

/-- GLOBAL (Table 18.2).  TIMEOUT is stored as written and counts as written: the table gives 1 to 3,600 and says of 0 only that it
acts as 1, and nothing of 3,601 to 4,095 (DESIGN CHOICE, log entry 159). -/
def writeGlobal (off : Nat) (v : Word) (p : Part) : Part :=
  if off = 0x010 then unlockKey (v.setWidth 16) p
  else if off = 0x018 then
    let p1 := if p.maint.unlocked then p.updMaint fun m => { m with timeout := bits v.toNat 27 16 } else p
    let p2 := if v.getLsbD 1 then disableMaint p1 else p1
    if v.getLsbD 0 then lockMaint p2 else p2
  else if off = 0x01C then (if v.getLsbD 0 then lockGpio p else p)
  else match inArray off 0x040 4 16 with
    | some (n, 0) =>
      if p.sys.gpioLock then p
      else p.updSys fun y => { y with gpioFunc := y.gpioFunc.set n (bits v.toNat 2 0), gpioOd := y.gpioOd.set n (v.getLsbD 3) }
    | _ => p

/-- HOST_RING_CTRL (Table 13.4). -/
def writeRingCtrl (v : Word) (p : Part) : Part :=
  let p1 := if v.getLsbD 8 then p.updHost fun h => { h with ringErr := false } else p
  let p2 := if v.getLsbD 9 then p1.updHost fun h => { h with dmaErr := false } else p1
  let p3 := evrEnable (v.getLsbD 2) (rplEnable (v.getLsbD 1) (cmdEnable (v.getLsbD 0) p2))
  p3.updHost fun h => { h with wbEn := v.getLsbD 3 }

/-- A word of the MSI-X table; a vector unmasked with its message pending is signalled (R371). -/
def writeMsix (k : Nat) (v : Word) (p : Part) : Part :=
  let vec := k / 4
  let was := vectorMasked vec p
  let q := p.updEv fun e => { e with msixTable := e.msixTable.set k v }
  if was && !vectorMasked vec q && q.ev.msixPba.getLsbD vec then
    emit (.msix vec) (q.updEv fun e => { e with msixPba := e.msixPba &&& ~~~BitVec.ofNat 16 (2 ^ vec) })
  else q

/-- HOST (Table 13.3): BASE and SIZE of an enabled ring are not written (R336).  HOST_WB_LO drops bits [3:0] of the value written:
the table says only that the address is 16-byte aligned (DESIGN CHOICE, log entry 160). -/
def writeHost (off : Nat) (v : Word) (p : Part) : Part :=
  let set := fun (free : Bool) (f : HostIf → HostIf) => if free then p.updHost f else p
  if off = 0x000 then set (!p.host.cmdEn) fun h => { h with cmdBase := setLo v h.cmdBase }
  else if off = 0x004 then set (!p.host.cmdEn) fun h => { h with cmdBase := setHi v h.cmdBase }
  else if off = 0x008 then set (!p.host.cmdEn) fun h => { h with cmdSize := bits v.toNat 12 0 }
  else if off = 0x00C then
    if ringHeld v p.host.cmdHead ≤ p.host.cmdSize then p.updHost fun h => { h with cmdTail := v } else ringFault p
  else if off = 0x020 then set (!p.host.rplEn) fun h => { h with rplBase := setLo v h.rplBase }
  else if off = 0x024 then set (!p.host.rplEn) fun h => { h with rplBase := setHi v h.rplBase }
  else if off = 0x028 then set (!p.host.rplEn) fun h => { h with rplSize := bits v.toNat 12 0 }
  else if off = 0x02C then
    if ringHeld p.host.rplTail v ≤ p.host.rplSize then p.updHost fun h => { h with rplHead := v } else ringFault p
  else if off = 0x040 then set (!p.host.evrEn) fun h => { h with evrBase := setLo v h.evrBase }
  else if off = 0x044 then set (!p.host.evrEn) fun h => { h with evrBase := setHi v h.evrBase }
  else if off = 0x048 then set (!p.host.evrEn) fun h => { h with evrSize := bits v.toNat 12 0 }
  else if off = 0x04C then
    if ringHeld p.host.evrTail v ≤ p.host.evrSize then evrLevel (p.updHost fun h => { h with evrHead := v }) else ringFault p
  else if off = 0x060 then writeRingCtrl v p
  else if off = 0x064 then p.updHost fun h => { h with wbAddr := setLo (v &&& 0xFFFFFFF0) h.wbAddr }
  else if off = 0x068 then p.updHost fun h => { h with wbAddr := setHi v h.wbAddr }
  else if off = 0x06C then p.updHost fun h => { h with rplMod := v }
  else match inArray off 0x8000 4 64 with
    | some (k, 0) => writeMsix k v p
    | _ => p

/-- EVENT (Table 15.2). -/
def writeEvent (off : Nat) (v : Word) (p : Part) : Part :=
  if off = 0x0C0 then p.updEv fun e => { e with irqEn := v.setWidth 12 }
  else match inArray off 0x000 4 12, inArray off 0x040 4 12, inArray off 0x080 4 12 with
    | some (b, 0), _, _ => clearPend (bankBits b v) (resignalBank b) p
    | _, some (b, 0), _ => maskWrite b v p
    | _, _, some (b, 0) => p.updEv fun e => { e with ring := putBank b v e.ring }
    | _, _, _ => p

/-- PERF (R377, R381): all but the snapshot copies. -/
def writePerf (off : Nat) (v : Word) (p : Part) : Part :=
  let q := perfSync p
  if off = 0x3000 then
    let p1 := (setFreeze (v.getLsbD 0) p).updPerf fun x => { x with snapFe := v.getLsbD 2 }
    if v.getLsbD 1 then takeSnapshot p1 else p1
  else match inArray off 0 0x400 10 with
    | none => p
    | some (g, o) =>
      if o = 0x000 then updGroup g (fun x => { x with cycles := setLo v x.cycles }) q
      else if o = 0x004 then updGroup g (fun x => { x with cycles := setHi v x.cycles }) q
      else if o = 0x0C0 then updGroup g (fun x => { x with ovf := x.ovf &&& ~~~(v.setWidth 8) }) q
      else match inArray o 0x020 4 8, inArray o 0x040 4 8 with
        | some (c, 0), _ => updGroup g (fun x => { x with cnt := x.cnt.set c v }) q
        | _, some (c, 0) => updGroup g (fun x => { x with sel := x.sel.set c (v &&& 0x00FF1FFF) }) q
        | _, _ => p

/-- Registers of class RWM that have a layout (Table 16.4, R397). -/
def writeMaintOnly (off : Nat) (v : Word) (p : Part) : Part :=
  if off = 0x170100 then p.updFab fun f => { f with scrubHours := if 1 ≤ bits v.toNat 7 0 ∧ bits v.toNat 7 0 ≤ 168 then bits v.toNat 7 0 else f.scrubHours }
  else match inArray off 0x161000 8 177 with
    | some (m, 0) => p.updFab fun f => { f with prio := f.prio.set m v }
    | some (m, 4) => p.updFab fun f => { f with cfg := f.cfg.set m (v &&& 0x3FFF) }
    | _ => p

/-- A write acts by the access class of what it reaches; any other offset ignores it (R14, R421). -/
def writeReg (off : Nat) (v : Word) (p : Part) : Part :=
  if off < 0x010000 then writeGlobal off v p
  else if 0x140000 ≤ off ∧ off < 0x150000 then writeEvent (off - 0x140000) v p
  else if 0x150000 ≤ off ∧ off < 0x160000 then writePerf (off - 0x150000) v p
  else if off = 0x190010 then p.updLog fun l => { l with page := bits v.toNat 1 0 }
  else if 0x1B0000 ≤ off ∧ off < 0x1C0000 then writeHost (off - 0x1B0000) v p
  else if p.maint.unlocked then writeMaintOnly off v p
  else p

/-- A write with all four bytes enabled at an aligned offset (R421). -/
def execRegisterWrite (t offset : Nat) (value : Word) (enables : BitVec 4) (s : State) : Host.Outcome State Fault Refusal :=
  regWrite t (guarded (fun _ => enables == 0xF && offset % 4 == 0) (writeReg offset value)) s

/-! ### PERST_N -/

/-- The PCI Express endpoint, the HOST block and the MSI-X table are reset, and maintenance mode relocks (R404, R424). -/
def perst (p : Part) : Part :=
  let p1 := p.updHost fun h => { h with
    cmdBase := 0, cmdSize := 0, cmdTail := 0, cmdHead := 0, rplBase := 0, rplSize := 0, rplHead := 0, rplTail := 0
    evrBase := 0, evrSize := 0, evrHead := 0, evrTail := 0, cmdEn := false, rplEn := false, evrEn := false, wbEn := false
    ringErr := false, dmaErr := false, wbAddr := 0, rplMod := 0, rplModDue := none, shadowHost := 0 }
  let p2 := evrLevel (p1.updEv fun e => { e with msixTable := [], msixPba := 0, msixFnMask := false })
  if p2.maint.unlocked && !p2.maint.byGpio then lockMaint p2 else p2

def execPerstN (t : Nat) (s : State) : Host.Outcome State Fault Refusal := onPart (timed t perst) s

end Sys2Proof.Machine
end

