-- ==== Sys2Proof/Machine/Shell.lean ====
section
/-! DEFINITION. How a command packet is checked and answered (R329 to R333, R341, R344, R351 to R353), how the primary mirrors
it (R284), and the commands of class C: staged, or sealed alone (R116 to R118). -/

namespace Sys2Proof.Machine

open Sys2Proof

/-! ### Packets -/

/-- The first twelve bytes of a command packet's header (Table 13.1). -/
def cmdHead (op : Nat) (k : CmdPkt) : List Byte :=
  le 2 op ++ [k.flags, k.hver] ++ le 4 k.tag.toNat ++ le 2 k.paramLen.toNat ++ le 2 k.txn.toNat

/-- A command packet as bytes. -/
def cmdBytes (op : Nat) (k : CmdPkt) : List Byte := cmdHead op k ++ le 4 k.crc.toNat ++ k.params

/-- Length check (Table 13.2, step 1). -/
def lengthOk (k : CmdPkt) : Bool :=
  k.params.length == k.paramLen.toNat && k.paramLen.toNat % 4 == 0 && decide (k.paramLen.toNat ≤ 4080)

/-- CRC check (Table 13.2, step 2, R330). -/
def crcOk (op : Nat) (k : CmdPkt) : Bool := crc32c (cmdHead op k ++ [0, 0, 0, 0] ++ k.params) == k.crc

/-- Header check (Table 13.2, step 3): HVER, reserved flags, MIRRORED. -/
def headerOk (k : CmdPkt) : Bool := k.hver == 1 && k.flags &&& 0xF8 == 0

/-- The packet that stands at the start of some bytes: its opcode, the packet, and what follows it. -/
def packetAt (uart : Bool) (b : List Byte) : Nat × CmdPkt × List Byte :=
  let n := leAt b 8 2
  (leAt b 0 2, { uart := uart, flags := BitVec.ofNat 8 (byteAt b 2), hver := BitVec.ofNat 8 (byteAt b 3), tag := BitVec.ofNat 32 (leAt b 4 4),
                 paramLen := BitVec.ofNat 16 n, txn := BitVec.ofNat 16 (leAt b 10 2), crc := BitVec.ofNat 32 (leAt b 12 4),
                 params := (b.drop 16).take n }, b.drop (16 + n))

/-! ### Answers -/

/-- What the handling of a command comes to: status, parameters, and the final reply it owes. -/
structure Answer where
  status : Nat
  params : List Byte
  owes : Option OwedKind := none
  deriving DecidableEq, Repr

abbrev Handler := CmdPkt → Part → Answer × Part

/-- A refusal with its error block (R353). -/
def refusal (st off : Nat) : Answer := { status := st, params := errorBlock off 0 }
def okAnswer (b : List Byte) : Answer := { status := stOk, params := b }

/-- A command whose parameters are a layout, acting where they pass. -/
def parsed {α : Type} (f : List Byte → Parse α) (act : α → Part → Answer × Part) : Handler := fun k p =>
  match f k.params with
  | .ok v => act v p
  | .error (st, off) => (refusal st off, p)

/-- A query: the layout gives what to answer with. -/
def query (f : List Byte → Part → Parse (List Byte)) : Handler := fun k p =>
  match f k.params p with
  | .ok b => (okAnswer b, p)
  | .error (st, off) => (refusal st off, p)

/-- A query without parameters. -/
def plainQuery (f : Part → List Byte) : Handler := query fun b p => layout b 0 [] (f p)

/-- Classes of opcodes (Table 14.3); `maint true` is a † opcode. -/
inductive CmdClass where
  | config
  | load
  | immediate
  | query
  | maint (dagger : Bool)
  deriving DecidableEq, Repr

/-- How an opcode is treated: its class, whether it names a transaction, whether it answers PENDING among the 32 others
of R341, whether the primary mirrors it, and whether a STANDBY or UNSYNCED head refuses it (R285). -/
structure OpRule where
  cls : CmdClass
  namesTxn : Bool := false
  seal_ : Bool := false
  pends : Bool := false
  mirrored : Bool := false
  primaryOnly : Bool := false
  deriving DecidableEq, Repr

/-- The opcodes of groups 0x01xx to 0x09xx, and PAIR_SET and PAIR_SWITCH (R285). -/
def onlyPrimary (op : Nat) : Bool := (decide (0x0100 ≤ op) && decide (op < 0x0A00)) || op == 0x0A01 || op == 0x0A02

/-- Rules of the header for a class (Table 14.3, R352): false is BAD_PARAM. -/
def classOk (r : OpRule) (k : CmdPkt) : Bool :=
  let inTxn := k.flags.getLsbD 2
  let atFrame := k.flags.getLsbD 1
  (!inTxn || r.cls == .config) && (k.txn == 0 || inTxn || r.namesTxn) && !(inTxn && atFrame) &&
  (!atFrame || r.cls == .config || r.cls == .load || r.seal_)

/-- Commands that owe a final reply, commits and loads apart. -/
def othersOwed (p : Part) : Nat := (p.host.tags.filter fun e => e.owes == some .other).length

/-- Step 8 of Table 13.2 up to the command's own checks. -/
def handle (r : OpRule) (h : Handler) (k : CmdPkt) (p : Part) : Answer × Part :=
  if !classOk r k then (refusal stBadParam noOffset, p)
  else if r.cls = .maint true && !p.maint.unlocked then (refusal stLocked noOffset, p)
  else if r.pends && decide (32 ≤ othersOwed p) then (refusal stNoResource noOffset, p)
  else h k p

/-- The status says the command was accepted. -/
def accepted (st : Nat) : Bool := decide (st < 0x0100) || st == stDegradedOk

/-- The standby is out of date: PAIR_MIRROR_STALE, once until a partner is in step again (R284). -/
def mirrorStale (p : Part) : Part :=
  if p.pair.staleRaised then p.updPair fun x => { x with synced := false }
  else raise evPairMirrorStale 0 0 (p.updPair fun x => { x with staleRaised := true, synced := false })

/-- The join transfer to the partner is ending: its data are sent, and the partner is not yet STANDBY (R287; log entry 161). -/
def joinEnding (p : Part) : Bool := p.pair.role == .primary && p.pair.joinSent && !p.pair.synced && anyLinkUp p

/-- A configuration reply of the primary is held until the join ends (R287). -/
def configReply (r : Reply) (p : Part) : Part :=
  if joinEnding p then p.updPair fun x => { x with joinHeld := x.joinHeld ++ [r] } else sendReply r p

/-- The join has ended, or its partner is gone: the replies held go out (R287). -/
def releaseJoin (p : Part) : Part := p.pair.joinHeld.foldl (fun q r => sendReply r q) (p.updPair fun x => { x with joinHeld := [] })

/-- The primary mirrors an accepted command; its reply waits for the acknowledgement (R284). -/
def mirrorOut (op : Nat) (k : CmdPkt) (r : Reply) (p : Part) : Part :=
  if (upLinks p).isEmpty then sendReply r (mirrorStale p)
  else
    let m := p.pair.mseq + 1
    sendAcked 2 m (.mirror m op { k with flags := k.flags ||| 8 }) (p.updPair fun x => { x with
      mseq := m, waits := x.waits ++ [{ mseq := m, deadline := p.sys.now + x.cfg.mirrorTimeout * usec, reply := r }] })

/-- Records the answer under its tag, and sends it or mirrors first (R331, R341). -/
def answerWith (r : OpRule) (op : Nat) (k : CmdPkt) (a : Answer) (p : Part) : Part :=
  let st := settle p a.status
  let reply : Reply := { uart := k.uart, opcode := op, flags := k.flags, tag := k.tag, status := BitVec.ofNat 16 st, params := a.params }
  let q := recordTag { tag := k.tag, opcode := op, crc := k.crc, uart := k.uart, flags := k.flags,
                       reply := some (BitVec.ofNat 16 st, a.params), owes := a.owes } p
  if r.mirrored && accepted st && p.pair.role == .primary then mirrorOut op k reply q
  else if r.cls = .config then configReply reply q else sendReply reply q

/-- A reply that is not recorded. -/
def bareReply (op : Nat) (k : CmdPkt) (st : Nat) (params : List Byte) (p : Part) : Part :=
  sendReply { uart := k.uart, opcode := op, flags := k.flags, tag := k.tag, status := BitVec.ofNat 16 st, params := params } p

/-- A command whose tag is known (Table 13.6); a DUPLICATE answer is always sent. -/
def repeated (op : Nat) (k : CmdPkt) (e : TagEntry) (p : Part) : Part :=
  if e.opcode ≠ op ∨ e.crc ≠ k.crc then bareReply op k stConflict (errorBlock noOffset 0) p
  else
    let waiting := (p.pair.waits.any fun w => w.reply.tag == k.tag) || p.pair.joinHeld.any fun r => r.tag == k.tag
    match e.reply with
    | some (st, b) => if waiting then bareReply op k stDuplicate [] p else bareReply op k st.toNat b p
    | none => bareReply op k stDuplicate [] p

/-- Answered during kindling (R344). -/
def whileKindling (op : Nat) : Bool := op == 0x0001 || op == 0x0002 || op == 0x0004

/-- Kindling stopped before firmware ran: the stop responder serves the transports (R407). -/
def stopResponder (p : Part) : Bool := p.sys.stopped && decide (p.sys.step ≤ 3)

/-- Steps 4 to 8 of Table 13.2; `rule` is none for an undefined opcode. -/
def judged (rule : Option OpRule) (op : Nat) (h : Handler) (k : CmdPkt) (p : Part) : Part :=
  let base := rule.getD { cls := .query }
  match tagOf p k.tag with
  | some e => repeated op k e p
  | none =>
    if !p.sys.ready && !whileKindling op then answerWith { base with mirrored := false } op k (refusal stBusyKindling noOffset) p
    else match rule with
      | none => answerWith base op k (refusal stBadOpcode noOffset) p
      | some r =>
        if onlyPrimary op && (p.pair.role == .standby || p.pair.role == .unsynced) then
          answerWith r op k (refusal stNotPrimary noOffset) p
        else
          let (a, q) := handle r h k p
          answerWith r op k a q

/-- A command from its second check on (Table 13.2). -/
def checked (rule : Option OpRule) (op : Nat) (h : Handler) (k : CmdPkt) (p : Part) : Part :=
  if !crcOk op k then bareReply op k stCrcFail [] p
  else
    let q := p.updHost fun x => { x with lastPacket := p.sys.now }
    if !headerOk k then bareReply op k stBadParam (errorBlock noOffset 0) q
    else if q.pair.role = .yielding then bareReply op k stFaulted (errorBlock noOffset 0) q
    else if stopResponder q then
      if whileKindling op then
        let (a, r) := handle (rule.getD { cls := .query }) h k q
        bareReply op k a.status a.params r
      else bareReply op k stBusyKindling (errorBlock noOffset 0) q
    else judged rule op h k q

/-- The bytes of a queue entry are this packet; a ring slot goes on past its packet (R334). -/
def isQueued (uart : Bool) (b : List Byte) (e : Bool × List Byte) : Bool := e.1 == uart && e.2.take b.length == b && (!uart || e.2.length == b.length)

/-- The packet is popped where it stands at the head of the command queue; else it is taken as it arrives (log entry 61). -/
def popped (uart : Bool) (b : List Byte) (p : Part) : Part :=
  match p.host.cmdQueue with
  | e :: rest => if isQueued uart b e then p.updHost fun h => { h with cmdQueue := rest } else p
  | [] => p

/-- The Kiln, or the stop responder, pops commands (R344, R345); a ring needs BAR0. -/
def popsCommands (uart : Bool) (p : Part) : Bool := served p && !p.hrt.kilnReset && (uart || p.bar0)

/-- A host command: popped, checked in the order of Table 13.2, executed and answered. -/
def hostCommand (rule : OpRule) (op : Nat) (h : Handler) (k : CmdPkt) (p : Part) : Part :=
  if !popsCommands k.uart p then p
  else
    let q := perfSignal 8 0x11 0 1 (popped k.uart (cmdBytes op k) p)
    if !lengthOk k then count blkHost 0 0 q else repliesGone (checked (some rule) op h k q)

def execHost (rule : OpRule) (op : Nat) (h : Handler) (t : Nat) (k : CmdPkt) (s : State) : Host.Outcome State Fault Refusal :=
  onPart (timed t (hostCommand rule op h k)) s

/-! ### Rules of the groups -/

def ruleConfig : OpRule := { cls := .config, mirrored := true }
def ruleQuery : OpRule := { cls := .query }
def ruleOwn : OpRule := { cls := .immediate }
def ruleMirrored : OpRule := { cls := .immediate, mirrored := true }
def ruleTxn : OpRule := { cls := .immediate, mirrored := true, namesTxn := true }
def ruleMaint : OpRule := { cls := .maint false }
def ruleDagger : OpRule := { cls := .maint true }

/-! ### Transactions and configuration commands -/

/-- Any command to an open transaction restarts its idle time (Table 4.9). -/
def touchTxn (id : Nat) (p : Part) : Part :=
  p.updTxn fun x => match x.open_.get? id with
    | some t => { x with open_ := x.open_.set id { t with lastUse := p.sys.now } }
    | none => x

/-- Stages a command of class C (Table 4.9). -/
def stageCommand (op : Nat) (k : CmdPkt) (p : Part) : Answer × Part :=
  match p.txn.open_.get? k.txn.toNat with
  | none => (refusal stConflict noOffset, p)
  | some t =>
    let q := touchTxn k.txn.toNat p
    match parseConfig op k with
    | .error (st, off) => (refusal st off, q)
    | .ok c =>
      if 1024 ≤ t.staged.length then (refusal stNoResource noOffset, q)
      else
        let t1 : Txn := { idle := t.idle, lastUse := p.sys.now, staged := t.staged ++ [{ tag := k.tag, opcode := op, pkt := k, cmd := c }] }
        (okAnswer [], q.updTxn fun x => { x with open_ := x.open_.set k.txn.toNat t1 })

/-- A seal that passed: the primary seals; the standby waits for the journal and keeps the apply CFN it expects (R120, R284). -/
def takeSeal (s : Sealing) (p : Part) : Part :=
  if p.pair.role = .primary then sealCommit s p
  else p.updTxn fun x => { x with expect := x.expect ++ [(s.commit.tag, s.commit.txn, s.commit.apply)] }

/-- A command of class C sealed alone (R116, R352). -/
def sealAlone (op : Nat) (k : CmdPkt) (p : Part) : Answer × Part :=
  match prefixBad p k with
  | some off => (refusal stBadParam off, p)
  | none => match parseConfig op k with
    | .error (st, off) => (refusal st off, p)
    | .ok c => match judgeSeal p k.tag 0 [{ tag := k.tag, opcode := op, pkt := k, cmd := c }] none (prefixCfn k) with
      | .error (st, _) => (refusal st noOffset, p)
      | .ok s => ({ status := stPending, params := commitBlock s.commit.apply, owes := some .commit }, takeSeal s p)

/-- A command of class C. -/
def configCommand (op : Nat) : Handler := fun k p =>
  if k.flags.getLsbD 2 then stageCommand op k p else sealAlone op k p

/-- TXN_OPEN (Table 4.9). -/
def txnOpen : Handler := fun k p =>
  match layout k.params 4 [within k.params 0 4 1 600, (k.txn != 0, noOffset)] (leAt k.params 0 4) with
  | .error (st, off) => (refusal st off, p)
  | .ok secs =>
    if p.txn.open_.has k.txn.toNat then (refusal stConflict noOffset, p)
    else if 16 ≤ p.txn.open_.length then (refusal stNoResource noOffset, p)
    else
      let t : Txn := { idle := secs * sec, lastUse := p.sys.now }
      (okAnswer [], p.updTxn fun x => { x with open_ := x.open_.set k.txn.toNat t })

/-- Checks of TXN_SEAL's own parameters (Table 14.6, R118). -/
def sealChecks (p : Part) (k : CmdPkt) : List (Bool × Nat) :=
  let b := k.params
  let at_ := k.flags.getLsbD 1
  let gated := leAt b 8 2 != 0
  [(if at_ then decide (leAt b 0 6 ≤ p.fr.cfn + 2 ^ 24) else leAt b 0 6 == 0, 0), zeros b 6 2,
   (if gated then decide (1 ≤ leAt b 10 2) && decide (leAt b 10 2 ≤ 600) else leAt b 10 2 == 0, 10),
   (gated || leAt b 12 4 == 0, 12)]

/-- The gate a TXN_SEAL names (R122). -/
def gateOf (b : List Byte) : Option Gate :=
  if leAt b 8 2 = 0 then none else some { group := leAt b 8 2, tag := BitVec.ofNat 32 (leAt b 12 4), deadline := leAt b 10 2 }

def closeTxn (id : Nat) (p : Part) : Part := p.updTxn fun x => { x with open_ := x.open_.erase id }

/-- TXN_SEAL (Table 4.9, R117, R353). -/
def txnSeal : Handler := fun k p =>
  match layout k.params 16 (sealChecks p k) (gateOf k.params) with
  | .error (st, off) => (refusal st off, touchTxn k.txn.toNat p)
  | .ok gate => match p.txn.open_.get? k.txn.toNat with
    | none => (refusal stConflict noOffset, p)
    | some t =>
      if t.staged.isEmpty then (okAnswer [], closeTxn k.txn.toNat p)
      else match judgeSeal p k.tag k.txn t.staged gate (if k.flags.getLsbD 1 then some (leAt k.params 0 6) else none) with
        | .error (st, on) => ({ status := st, params := errorBlock noOffset (BitVec.ofNat 32 (failTag t.staged on)) }, touchTxn k.txn.toNat p)
        | .ok s => ({ status := stPending, params := commitBlock s.commit.apply, owes := some .commit }, closeTxn k.txn.toNat (takeSeal s p))

/-- TXN_ABORT. -/
def txnAbort : Handler := fun k p =>
  if !k.params.isEmpty then (refusal stBadParam noOffset, p)
  else if p.txn.open_.has k.txn.toNat then (okAnswer [], closeTxn k.txn.toNat p)
  else (refusal stConflict noOffset, p)

/-- The status replies follow with their parameters (R331): only transactions still open are listed. -/
def txnList (p : Part) : List Byte :=
  le 2 p.txn.open_.length ++ [0, 0] ++ p.txn.open_.flatMap fun e =>
    le 2 e.1 ++ le 2 e.2.staged.length ++ le 4 ((e.2.lastUse + e.2.idle - p.sys.now) / sec)

/-- COMMIT_LIST (Table 14.6): pending commits, then loads. -/
def commitList (p : Part) : List Byte :=
  let c := p.txn.commits.map fun x => le 4 x.tag.toNat ++ le 6 x.apply ++ le 1 (b2n x.gate.isSome) ++ [0]
  let l := p.txn.loads.map fun x => le 4 x.tag.toNat ++ le 6 x.apply ++ le 1 2 ++ [0]
  le 2 (c.length + l.length) ++ [0, 0] ++ c.flatten ++ l.flatten

/-- TXN_EXPIRED (Table 4.9): no command to the transaction for its idle timeout. -/
def txnExpires (id : Nat) (p : Part) : Part :=
  match p.txn.open_.get? id with
  | some t => if t.lastUse + t.idle ≤ p.sys.now then raise evTxnExpired id 0 (closeTxn id p) else p
  | none => p

def execTxnExpired (t id : Nat) (s : State) : Host.Outcome State Fault Refusal :=
  onPart (timed t (guarded (fun p => !p.hrt.kilnReset) (txnExpires id))) s

end Sys2Proof.Machine
end

