-- ==== Sys2Proof/Machine/Identity.lean ====
section
/-! DEFINITION. Groups 0x00xx to 0x03xx of the command catalogue (Tables 14.5 to 14.8): identity and status, transactions,
fences, streams and flows, rate conversion. -/

namespace Sys2Proof.Machine

open Sys2Proof

/-! ### 0x00xx -/

/-- The orderable part number of Table 0.2, ASCII, zero-padded: CQL-3624-A1-C or -X (Table 14.5). -/
def partNumber : List Byte :=
  [0x43, 0x51, 0x4C, 0x2D, 0x33, 0x36, 0x32, 0x34, 0x2D, 0x41, 0x31, 0x2D, if Config.gradeX then 0x58 else 0x43, 0, 0, 0]

def identBytes (p : Part) : List Byte :=
  partNumber ++ [0xA1] ++ le 1 (b2n Config.gradeX) ++ le 1 (b2n p.sys.endB) ++ le 1 (roleCode p.pair.role) ++ le 4 p.sys.fw.toNat ++
    le 8 Config.uid.toNat ++ le 1 p.sys.bootSlot ++ [0, 0, 0] ++ le 6 Config.mac.toNat ++ [0, 0]

def execIdent (t : Nat) (pkt : CmdPkt) (s : State) : Host.Outcome State Fault Refusal :=
  execHost ruleQuery 0x0001 (plainQuery identBytes) t pkt s

def statusReply (p : Part) : List Byte :=
  le 1 p.sys.step ++ le 1 (roleCode p.pair.role) ++ le 1 (tbCode p.tb.state) ++
    le 1 (packBits [degraded p, faultLow p, p.maint.unlocked, slateShown p, p.comp.lowlat]) ++ le 6 p.fr.cfn ++ le 2 p.pair.epoch.toNat ++
    le 4 (logNewest p) ++ le 4 (logUngleaned p) ++ le 4 p.pwr.chip ++ leInt 2 p.sys.tj ++ [0, 0]

def execStatus (t : Nat) (pkt : CmdPkt) (s : State) : Host.Outcome State Fault Refusal :=
  execHost ruleQuery 0x0002 (plainQuery statusReply) t pkt s

/-- LSEQ after the last entry returned; the LSEQ asked from where none is. -/
def nextLseq (asked : Nat) (es : List LogEntry) : Nat := (es.getLast?.map fun e => e.lseq + 1).getD asked

/-- GLEAN (R323, Table 14.5): the ember log gives all 32 slots, empty ones as zeros behind those that hold an entry. -/
def gleanAct (b : List Byte) (p : Part) : Answer × Part :=
  let asked := leAt b 0 4
  let es := if bit (byteAt b 6) 1 then entriesFrom 0 p.log.ember else (entriesFrom asked (goodBank p)).take (leAt b 4 2)
  let count := if bit (byteAt b 6) 1 then 32 else es.length
  (okAnswer (le 4 (nextLseq asked es) ++ le 2 count ++ [0, 0] ++ padTo (32 * count) (es.flatMap encEntry)),
   if bit (byteAt b 6) 0 then gleanThem (es.map (·.lseq)) p else p)

def execGlean (t : Nat) (pkt : CmdPkt) (s : State) : Host.Outcome State Fault Refusal :=
  execHost ruleQuery 0x0003 (parsed (fun b => layout b 8 [within b 4 2 1 127, below b 6 4, zeros b 7 1] b) gleanAct) t pkt s

def execPing (t : Nat) (pkt : CmdPkt) (s : State) : Host.Outcome State Fault Refusal :=
  execHost ruleOwn 0x0004 (query fun b _ => .ok b) t pkt s

def timeReply (p : Part) : List Byte := le 8 p.sys.now ++ le 6 p.fr.cfn ++ [0, 0] ++ le 8 p.fr.lastFe

def execTime (t : Nat) (pkt : CmdPkt) (s : State) : Host.Outcome State Fault Refusal :=
  execHost ruleQuery 0x0005 (plainQuery timeReply) t pkt s

/-! ### 0x01xx -/

def execTxnOpen (t : Nat) (pkt : CmdPkt) (s : State) : Host.Outcome State Fault Refusal := execHost ruleTxn 0x0101 txnOpen t pkt s

def execTxnSeal (t : Nat) (pkt : CmdPkt) (s : State) : Host.Outcome State Fault Refusal :=
  execHost { ruleTxn with seal_ := true } 0x0102 txnSeal t pkt s

def execTxnAbort (t : Nat) (pkt : CmdPkt) (s : State) : Host.Outcome State Fault Refusal := execHost ruleTxn 0x0103 txnAbort t pkt s
def execTxnList (t : Nat) (pkt : CmdPkt) (s : State) : Host.Outcome State Fault Refusal :=
  execHost ruleQuery 0x0104 (plainQuery txnList) t pkt s
def execCommitList (t : Nat) (pkt : CmdPkt) (s : State) : Host.Outcome State Fault Refusal :=
  execHost ruleQuery 0x0105 (plainQuery commitList) t pkt s

def execFenceSet (t : Nat) (pkt : CmdPkt) (s : State) : Host.Outcome State Fault Refusal :=
  execHost ruleConfig 0x0106 (configCommand 0x0106) t pkt s
def execFenceAnc (t : Nat) (pkt : CmdPkt) (s : State) : Host.Outcome State Fault Refusal :=
  execHost ruleConfig 0x0107 (configCommand 0x0107) t pkt s

/-- Streams of a fence group, those in loss and those that run unfenced among them. -/
def groupStreams (p : Part) (g : Nat) : List Nat := p.cfg.boundStreams.filter fun n => (p.cfg.stream n).par.fenceGroup == g

/-- A member lags where its tag is older than the group's (R63). -/
def lagging (p : Part) (g n : Nat) : Bool :=
  (p.stream n).hasTag && (p.groupRt g).seen && serialNewer 32 (p.groupRt g).curG.toNat (p.stream n).curM.toNat

def fenceStatusBytes (p : Part) (g : Nat) : List Byte :=
  let ms := groupStreams p g
  let r := p.groupRt g
  le 4 r.curG.toNat ++ le 1 r.wait ++ le 1 ms.length ++ [0, 0] ++ le 4 r.timeouts ++ ms.flatMap fun n =>
    le 1 n ++ le 1 (packBits [(p.stream n).lost, lagging p g n, (p.stream n).unfenced]) ++ [0, 0] ++ le 4 (p.stream n).curM.toNat

def fenceStatus (b : List Byte) (p : Part) : Parse (List Byte) :=
  match layout b 4 [zeros b 2 2] (leAt b 0 2) with
  | .error e => .error e
  | .ok g => if p.cfg.groups.has g then .ok (fenceStatusBytes p g) else .error (stConflict, noOffset)

def execFenceStatus (t : Nat) (pkt : CmdPkt) (s : State) : Host.Outcome State Fault Refusal :=
  execHost ruleQuery 0x0108 (query fenceStatus) t pkt s

/-! ### 0x02xx -/

def execStreamSdi (t : Nat) (pkt : CmdPkt) (s : State) : Host.Outcome State Fault Refusal :=
  execHost ruleConfig 0x0201 (configCommand 0x0201) t pkt s
def execStreamIp (t : Nat) (pkt : CmdPkt) (s : State) : Host.Outcome State Fault Refusal :=
  execHost ruleConfig 0x0202 (configCommand 0x0202) t pkt s
def execStreamParams (t : Nat) (pkt : CmdPkt) (s : State) : Host.Outcome State Fault Refusal :=
  execHost ruleConfig 0x0203 (configCommand 0x0203) t pkt s
def execInputRemove (t : Nat) (pkt : CmdPkt) (s : State) : Host.Outcome State Fault Refusal :=
  execHost ruleConfig 0x0204 (configCommand 0x0204) t pkt s
def execAudFlow (t : Nat) (pkt : CmdPkt) (s : State) : Host.Outcome State Fault Refusal :=
  execHost ruleConfig 0x0205 (configCommand 0x0205) t pkt s
def execAncFlow (t : Nat) (pkt : CmdPkt) (s : State) : Host.Outcome State Fault Refusal :=
  execHost ruleConfig 0x0206 (configCommand 0x0206) t pkt s
def execEthSet (t : Nat) (pkt : CmdPkt) (s : State) : Host.Outcome State Fault Refusal :=
  execHost ruleConfig 0x0207 (configCommand 0x0207) t pkt s
def execPtpSet (t : Nat) (pkt : CmdPkt) (s : State) : Host.Outcome State Fault Refusal :=
  execHost ruleConfig 0x0208 (configCommand 0x0208) t pkt s

/-- FLAGS of a slot descriptor (Table 2.8). -/
def slotFlags (p : Part) (n k : Nat) (x : Slot) : Nat :=
  packBits [x.complete, x.incomplete, x.tagged, x.field, x.bottom, x.compressed, isPinned p n (k, x)]

/-- A slot descriptor (Table 2.8). -/
def slotBytesOf (p : Part) (n k : Nat) (x : Slot) : List Byte :=
  le 4 x.seq.toNat ++ le 4 x.tag.toNat ++ le 2 x.group ++ le 1 (slotFlags p n k x) ++ [0] ++ le 6 x.cfn ++ le 4 x.cycles ++ [0, 0] ++
    le 4 x.rtp.toNat ++ le 4 x.lost ++ le 2 x.w ++ le 2 x.h ++ le 4 x.pitch ++ le 8 x.addr.toNat ++ List.replicate 16 0

/-- Link order: byte `n` is the input that carries link `n` + 1 (Table 14.7). -/
def linkBytes (c : StreamCfg) (x : StreamRt) : List Byte :=
  match c.bind with
  | .sdi input links _ =>
    if links = 4 then (List.range 4).flatMap fun i => le 1 (x.order.getD i (input + i)) else le 1 input ++ [0xFF, 0xFF, 0xFF]
  | _ => [0xFF, 0xFF, 0xFF, 0xFF]

def streamStatusBytes (p : Part) (n : Nat) : List Byte :=
  let c := p.cfg.stream n
  let x := p.stream n
  le 1 (if !c.bound then 0 else if x.lost then 2 else 1) ++
    le 1 (packBits [x.reordered, x.mismatch, x.legLost.getD 0 false, x.legLost.getD 1 false]) ++ [0, 0] ++
    encFormat ((p.format n).getD VideoFormat.auto) ++ linkBytes c x ++ le 1 x.member ++ le 1 x.memberCount ++ [0, 0] ++
    ((List.range 5).flatMap fun i => le 4 (counter blkIngest n i p).toNat) ++ [0, 0, 0, 0] ++
    (List.range 4).flatMap fun k => slotBytesOf p n k (x.slots.getD k {})

def execStreamStatus (t : Nat) (pkt : CmdPkt) (s : State) : Host.Outcome State Fault Refusal :=
  execHost ruleQuery 0x0209 (query fun b p => layout b 4 [below b 0 48, zeros b 1 3] (streamStatusBytes p (byteAt b 0))) t pkt s

/-- Flow legs on a port. -/
def portFlows (c : Cfg) (n : Nat) : Nat := (c.flowLegs.filter fun l => l.1 == n).length

def portStatusBytes (p : Part) (kind n : Nat) : List Byte :=
  if kind = 0 then
    let x := p.inp.sdi.getD n {}
    let det := (streamOfInput p n).bind p.det
    le 1 (packBits [x.signal, x.cdr, x.trs, x.st352.isSome]) ++ [0, 0, 0] ++ le 4 ((x.st352.map (·.toNat)).getD 0) ++
      encFormat (det.getD VideoFormat.auto)
  else
    let x := p.inp.eth.getD n {}
    le 1 (packBits [x.link, ptpPort p == n]) ++ le 1 (portFlows p.cfg n) ++ [0, 0] ++ le 8 x.fecCorr ++ le 8 x.fecBad ++
      le 4 (counter blkIpin n 0 p).toNat

def execPortStatus (t : Nat) (pkt : CmdPkt) (s : State) : Host.Outcome State Fault Refusal :=
  execHost ruleQuery 0x020A (query fun b p => layout b 4 [below b 0 2, below b 1 (if byteAt b 0 = 0 then 16 else 4), zeros b 2 2]
    (portStatusBytes p (byteAt b 0) (byteAt b 1))) t pkt s

/-- The binding of a stream as its command's parameters (Table 14.7). -/
def bindBytes (n : Nat) : Binding → Nat × List Byte
  | .unbound => (0, [])
  | .sdi i l d => (1, le 1 n ++ le 1 i ++ le 1 l ++ le 1 d)
  | .ip b => (2, encIpBind n b)

def streamReadBytes (p : Part) (n : Nat) : List Byte :=
  let c := p.cfg.stream n
  le 1 (bindBytes n c.bind).1 ++ [0, 0, 0] ++ padTo 104 (bindBytes n c.bind).2 ++ encStreamParams n c.par

def execStreamRead (t : Nat) (pkt : CmdPkt) (s : State) : Host.Outcome State Fault Refusal :=
  execHost ruleQuery 0x020B (query fun b p => layout b 4 [below b 0 48, zeros b 1 3] (streamReadBytes p (byteAt b 0))) t pkt s

/-- FLOW_STATUS.  What the ports report of a single flow comes by no row of the table: its leg losses and counts are free
values (log entry 62). -/
def flowStatusBytes (c : Cfg) (kind n : Nat) (legs lost : DWord) : List Byte :=
  let bound := if kind = 1 then c.audFlows.has n else c.ancFlows.has n
  let par := if kind = 1 then (c.audFlows.get? n).map (encAudFlow n) else (c.ancFlows.get? n).map (encAncFlow n)
  le 1 (packBits [bound, bound && legs.getLsbD 0, bound && legs.getLsbD 1]) ++ [0, 0, 0] ++ padTo 92 (par.getD []) ++
    le 4 (if bound then lost.toNat % 2 ^ 32 else 0) ++ le 4 (if bound then lost.toNat / 2 ^ 32 else 0)

def flowStatus (k : Nat × Nat) (p : Part) : Answer × Part :=
  let (legs, p1) := freshFree p
  let (lost, p2) := freshFree p1
  (okAnswer (flowStatusBytes p.cfg k.1 k.2 legs lost), p2)

def execFlowStatus (t : Nat) (pkt : CmdPkt) (s : State) : Host.Outcome State Fault Refusal :=
  execHost ruleQuery 0x020C (parsed (fun b =>
    layout b 4 [within b 0 1 1 2, below b 1 (if byteAt b 0 = 1 then 64 else 48), zeros b 2 2] (byteAt b 0, byteAt b 1)) flowStatus) t pkt s

/-! ### 0x03xx -/

def execFrcSet (t : Nat) (pkt : CmdPkt) (s : State) : Host.Outcome State Fault Refusal :=
  execHost ruleConfig 0x0301 (configCommand 0x0301) t pkt s

def frcStatusBytes (p : Part) (n : Nat) : List Byte :=
  let c := p.cfg.conv n
  let r := p.conv n
  let fmt := c.stream.bind p.format
  le 1 (c.stream.getD 0xFF) ++ le 1 (packBits [r.lock.isSome, frcShed p]) ++
    le 1 ((fmt.map fun f => runningCadence f c r).getD 0) ++ [0] ++ le 4 ((fmt.map fun f => frcDelay f c / 625).getD 0) ++
    (List.range 6).flatMap fun i => le 4 (counter blkFrc n i p).toNat

def execFrcStatus (t : Nat) (pkt : CmdPkt) (s : State) : Host.Outcome State Fault Refusal :=
  execHost ruleQuery 0x0302 (query fun b p => layout b 4 [below b 0 8, zeros b 1 3] (frcStatusBytes p (byteAt b 0))) t pkt s

def execFrcRead (t : Nat) (pkt : CmdPkt) (s : State) : Host.Outcome State Fault Refusal :=
  execHost ruleQuery 0x0303 (query fun b p => layout b 4 [below b 0 8, zeros b 1 3] (encFrcSet (byteAt b 0) (p.cfg.conv (byteAt b 0)))) t pkt s

end Sys2Proof.Machine
end

