-- ==== Sys2Proof/Machine/Objects.lean ====
section
/-! DEFINITION. Groups 0x04xx and 0x05xx of the command catalogue (Tables 14.9, 14.10): regions, layers, coefficient sets,
stills and clips (R98 to R100), canvas, monitor outputs and slate. -/

namespace Sys2Proof.Machine

open Sys2Proof

/-! ### Regions, layers, coefficient sets -/

def execRegionSet (t : Nat) (pkt : CmdPkt) (s : State) : Host.Outcome State Fault Refusal :=
  execHost ruleConfig 0x0401 (configCommand 0x0401) t pkt s
def execRegionRemove (t : Nat) (pkt : CmdPkt) (s : State) : Host.Outcome State Fault Refusal :=
  execHost ruleConfig 0x0402 (configCommand 0x0402) t pkt s
def execLayerSet (t : Nat) (pkt : CmdPkt) (s : State) : Host.Outcome State Fault Refusal :=
  execHost ruleConfig 0x0403 (configCommand 0x0403) t pkt s
def execLayerRemove (t : Nat) (pkt : CmdPkt) (s : State) : Host.Outcome State Fault Refusal :=
  execHost ruleConfig 0x0404 (configCommand 0x0404) t pkt s
def execCoefLoad (t : Nat) (pkt : CmdPkt) (s : State) : Host.Outcome State Fault Refusal :=
  execHost ruleConfig 0x0405 (configCommand 0x0405) t pkt s

/-- COEF_READ; a set never loaded is a conflict. -/
def coefRead (b : List Byte) (p : Part) : Parse (List Byte) :=
  match layout b 4 [below b 0 64, zeros b 1 3] (byteAt b 0) with
  | .error e => .error e
  | .ok n => match coefSet p.cfg n with
    | some d => .ok d
    | none => .error (stConflict, noOffset)

def execCoefRead (t : Nat) (pkt : CmdPkt) (s : State) : Host.Outcome State Fault Refusal :=
  execHost ruleQuery 0x0406 (query coefRead) t pkt s

def regionReadBytes (p : Part) (n : Nat) : List Byte :=
  match p.cfg.regions.get? n with
  | some r => [1, 0, 0, 0] ++ encRegion n r
  | none => List.replicate 24 0

def execRegionRead (t : Nat) (pkt : CmdPkt) (s : State) : Host.Outcome State Fault Refusal :=
  execHost ruleQuery 0x040B (query fun b p => layout b 4 [zeros b 1 3] (regionReadBytes p (byteAt b 0))) t pkt s

def layerReadBytes (p : Part) (n : Nat) : List Byte :=
  match p.cfg.layers.get? n with
  | some l => le 1 (packBits [true, p.comp.skipped.contains n]) ++ [0, 0, 0] ++ encLayer n l
  | none => List.replicate 52 0

def execLayerRead (t : Nat) (pkt : CmdPkt) (s : State) : Host.Outcome State Fault Refusal :=
  execHost ruleQuery 0x040C (query fun b p => layout b 4 [within b 0 2 0 1023, zeros b 2 2] (layerReadBytes p (leAt b 0 2))) t pkt s

/-! ### Stills and clips -/

/-- The still and clip store (R17, R98). -/
abbrev storeBytes : Nat := 40 * 2 ^ 30

/-- Bytes an object holds: each frame rounded up to 64 KiB (R99). -/
def objBytes (o : Obj) : Nat := o.frames * roundUp (objFrameBytes o) 65536

def storeHeld (p : Part) : Nat := (p.comp.objs.map fun e => objBytes e.2).sum

/-- A layer shows object `k`. -/
def layerShows (k : Nat) (l : Layer) : Bool := l.source == .still k || l.source == .clip k

/-- A pending commit has a layer that shows object `k`. -/
def pendingShows (k : Nat) (x : Commit) : Bool :=
  x.cmds.any fun c => match c.cmd with | .layerSet _ l => layerShows k l | _ => false

/-- An object is in use (R100). -/
def objInUse (p : Part) (k : Nat) : Bool :=
  p.cfg.layers.any (fun e => layerShows k e.2) || p.txn.commits.any (pendingShows k) ||
  p.cfg.streams.any (fun e => e.2.bound && e.2.par.lossStill == some k && e.2.par.lossAction == 3) ||
  p.cfg.slate.still == some k

def objAt (b : List Byte) : Obj :=
  { clip := byteAt b 2 == 1, compressed := byteAt b 3 == 1, straight := byteAt b 4 == 1, w := leAt b 8 2, h := leAt b 10 2, frames := leAt b 12 4 }

/-- A pseudo-channel has failed with no spare left: an allocation in it fails (Table 12.7).  An object's first 64 KiB lie on
all 120 channels (R387; log entry 167). -/
def storeBroken (p : Part) : Bool := p.hrt.degradedUnits.any fun u => u.1 == .hbm

/-- OBJ_ALLOC (R98, R99). -/
def objAlloc (b : List Byte) (p : Part) : Answer × Part :=
  let o := objAt b
  if p.comp.objs.has (leAt b 0 2) then (refusal stConflict noOffset, p)
  else if storeBroken p || decide (storeBytes < storeHeld p + objBytes o) then (refusal stNoResource noOffset, p)
  else (okAnswer [], p.updComp fun c => { c with objs := c.objs.set (leAt b 0 2) o })

def execObjAlloc (t : Nat) (pkt : CmdPkt) (s : State) : Host.Outcome State Fault Refusal :=
  execHost ruleMirrored 0x0407 (parsed (fun b => layout b 16 [within b 0 2 0 4095, below b 2 2, below b 3 2, below b 4 2, zeros b 5 3,
    within b 8 2 8 16384, within b 10 2 4 8192, (if byteAt b 2 = 0 then leAt b 12 4 == 1 else (within b 12 4 1 65535).1, 12)] b) objAlloc) t pkt s

def loadLayout (b : List Byte) : Parse (List Byte) := layout b 32 [within b 0 2 0 4095, zeros b 2 2, zeros b 12 4] b

/-- Checks of an OBJ_LOAD against its object (Table 14.9, R100). -/
def objLoadFault (b : List Byte) (p : Part) : Option (Nat × Nat) :=
  match p.comp.objs.get? (leAt b 0 2) with
  | none => some (stConflict, noOffset)
  | some o =>
    if o.frames ≤ leAt b 4 4 then some (stBadParam, 4)
    else if o.frames < leAt b 4 4 + leAt b 8 4 then some (stBadParam, 8)
    else if leAt b 24 8 ≠ leAt b 8 4 * objFrameBytes o then some (stBadParam, 24)
    else if objInUse p (leAt b 0 2) then some (stConflict, noOffset)
    else none

/-- OBJ_LOAD: the primary's transfer starts; the standby's data comes in BULK frames (R359). -/
def objLoad : Handler := fun k p =>
  match loadLayout k.params with
  | .error (st, off) => (refusal st off, p)
  | .ok b => match objLoadFault b p with
    | some (st, off) => (refusal st off, p)
    | none =>
      if p.pair.role = .primary then
        ({ status := stPending, params := [], owes := some .other },
         p.updTxn fun x => { x with transfers := x.transfers ++ [{ tag := k.tag, opcode := 0x0408, params := b }] })
      else ({ status := stPending, params := [], owes := some .load },
            p.updTxn fun x => { x with transfers := x.transfers ++ [{ tag := k.tag, opcode := 0x0408, params := b }] })

def execObjLoad (t : Nat) (pkt : CmdPkt) (s : State) : Host.Outcome State Fault Refusal :=
  execHost { ruleMirrored with pends := true } 0x0408 objLoad t pkt s

/-- OBJ_RELEASE (R100). -/
def objRelease (k : Nat) (p : Part) : Answer × Part :=
  if !p.comp.objs.has k || objInUse p k then (refusal stConflict noOffset, p)
  else (okAnswer [], p.updComp fun c => { c with objs := c.objs.erase k })

def execObjRelease (t : Nat) (pkt : CmdPkt) (s : State) : Host.Outcome State Fault Refusal :=
  execHost ruleMirrored 0x0409 (parsed (fun b => layout b 4 [within b 0 2 0 4095, zeros b 2 2] (leAt b 0 2)) objRelease) t pkt s

/-- A load of object `k` is in progress. -/
def objLoading (p : Part) (k : Nat) : Bool := p.txn.transfers.any fun x => x.opcode == 0x0408 && leAt x.params 0 2 == k

def objStatusBytes (p : Part) (k : Nat) : List Byte :=
  if k = 0xFFFF then le 8 (storeHeld p) ++ le 8 (storeBytes - storeHeld p) ++ le 4 p.comp.objs.length ++ [0, 0, 0, 0]
  else match p.comp.objs.get? k with
    | some o => [1] ++ le 1 (b2n o.clip) ++ le 1 (b2n o.compressed) ++ le 1 (packBits [o.straight, objInUse p k, objLoading p k]) ++
        le 2 o.w ++ le 2 o.h ++ le 4 o.frames ++ le 8 (objBytes o) ++ [0, 0, 0, 0]
    | none => List.replicate 24 0

def execObjStatus (t : Nat) (pkt : CmdPkt) (s : State) : Host.Outcome State Fault Refusal :=
  execHost ruleQuery 0x040A (query fun b p => layout b 4 [(decide (leAt b 0 2 < 4096) || leAt b 0 2 == 0xFFFF, 0), zeros b 2 2]
    (objStatusBytes p (leAt b 0 2))) t pkt s

/-! ### 0x05xx -/

def execCanvasSet (t : Nat) (pkt : CmdPkt) (s : State) : Host.Outcome State Fault Refusal :=
  execHost ruleConfig 0x0501 (configCommand 0x0501) t pkt s
def execLowlatSet (t : Nat) (pkt : CmdPkt) (s : State) : Host.Outcome State Fault Refusal :=
  execHost ruleConfig 0x0502 (configCommand 0x0502) t pkt s
def execHoldSet (t : Nat) (pkt : CmdPkt) (s : State) : Host.Outcome State Fault Refusal :=
  execHost ruleConfig 0x0503 (configCommand 0x0503) t pkt s
def execMonSet (t : Nat) (pkt : CmdPkt) (s : State) : Host.Outcome State Fault Refusal :=
  execHost ruleConfig 0x0504 (configCommand 0x0504) t pkt s
def execSlateSet (t : Nat) (pkt : CmdPkt) (s : State) : Host.Outcome State Fault Refusal :=
  execHost ruleConfig 0x0505 (configCommand 0x0505) t pkt s
def execSlateShow (t : Nat) (pkt : CmdPkt) (s : State) : Host.Outcome State Fault Refusal :=
  execHost ruleConfig 0x0506 (configCommand 0x0506) t pkt s
def execSlateClear (t : Nat) (pkt : CmdPkt) (s : State) : Host.Outcome State Fault Refusal :=
  execHost ruleConfig 0x0507 (configCommand 0x0507) t pkt s

/-- SCAN_LATE over all furrows, as a 32-bit field holds it. -/
def scanLateSum (p : Part) : Nat := min 0xFFFFFFFF ((List.range 128).map fun f => (counter blkKlink f 17 p).toNat).sum

def canvasStatusBytes (p : Part) : List Byte :=
  let s := p.comp.slate
  le 6 p.fr.cfn ++ le 2 (packBits [p.comp.lowlat, s.shown, s.autoOn, s.pinOn, p.cfg.slateShow]) ++ le 4 (counter blkComp 0 0 p).toNat ++
    le 4 (scanLateSum p) ++ le 4 (counter blkCanvas 0 0 p).toNat ++ le 4 (counter blkCanvas 0 1 p).toNat ++
    le 4 (counter blkCanvas 0 2 p).toNat ++ le 4 (p.comp.load / 1000)

def execCanvasStatus (t : Nat) (pkt : CmdPkt) (s : State) : Host.Outcome State Fault Refusal :=
  execHost ruleQuery 0x0508 (plainQuery canvasStatusBytes) t pkt s

/-- BAND_SUMS: the newest frame with every band complete (R133). -/
def bandSumsBytes (p : Part) (first count : Nat) : List Byte :=
  let bands := (List.range count).map (first + ·)
  let there := fun b => p.comp.fullSums.has b && !p.comp.fullNoSum.contains b
  le 6 p.comp.fullCfn ++ le 2 count ++ (bands.flatMap fun b => le 8 (if there b then (p.comp.fullSums.getD b 0).toNat else 0)) ++
    padMul 4 (le (ceilDiv count 8) (packBits (bands.map there)))

def bandSums (b : List Byte) (p : Part) : Parse (List Byte) :=
  layout b 4 [(decide (leAt b 0 2 < bandCount p.cfg.canvas), 0),
    ((within b 2 2 1 480).1 && decide (leAt b 0 2 + leAt b 2 2 ≤ bandCount p.cfg.canvas), 2)]
    (bandSumsBytes p (leAt b 0 2) (leAt b 2 2))

def execBandSums (t : Nat) (pkt : CmdPkt) (s : State) : Host.Outcome State Fault Refusal :=
  execHost ruleQuery 0x0509 (query bandSums) t pkt s

def execCanvasRead (t : Nat) (pkt : CmdPkt) (s : State) : Host.Outcome State Fault Refusal :=
  execHost ruleQuery 0x050A (plainQuery fun p => encCanvas p.cfg.canvas) t pkt s

/-- MON_STATUS (R144): an output's transmitter idles while the pixel domain is gated. -/
def monStatusBytes (p : Part) (n : Nat) : List Byte :=
  let m := p.cfg.mon.getD n {}
  let r := p.comp.mon.getD n {}
  le 1 (packBits [m.enable, p.comp.monShed, !p.tb.rootLock]) ++ [0, 0, 0] ++ encMon n m ++ le 4 r.frames ++ le 6 r.cfn ++ [0, 0]

def execMonStatus (t : Nat) (pkt : CmdPkt) (s : State) : Host.Outcome State Fault Refusal :=
  execHost ruleQuery 0x050B (query fun b p => layout b 4 [below b 0 4, zeros b 1 3] (monStatusBytes p (byteAt b 0))) t pkt s

end Sys2Proof.Machine
end

