-- ==== Sys2Proof/Machine/Tiles.lean ====
section
/-! DEFINITION. Groups 0x06xx and 0x07xx of the command catalogue (Tables 14.11, 14.12): light stage, packages, feeders,
furrows and tiles. -/

namespace Sys2Proof.Machine

open Sys2Proof

/-! ### Light stage -/

def execLightSet (t : Nat) (pkt : CmdPkt) (s : State) : Host.Outcome State Fault Refusal :=
  execHost ruleConfig 0x0601 (configCommand 0x0601) t pkt s
def execTypeLoad (t : Nat) (pkt : CmdPkt) (s : State) : Host.Outcome State Fault Refusal :=
  execHost ruleConfig 0x0602 (configCommand 0x0602) t pkt s
def execFeederSet (t : Nat) (pkt : CmdPkt) (s : State) : Host.Outcome State Fault Refusal :=
  execHost ruleConfig 0x0606 (configCommand 0x0606) t pkt s

/-- Checks of a command of class L: its frame prefix, then its own layout. -/
def loadParams (p : Part) (k : CmdPkt) (f : List Byte → Parse (List Byte)) : Parse (List Byte) :=
  match prefixBad p k with
  | some off => badParam off
  | none => shiftOffset k (f (ownParams k))

/-- The load that a PKG_LOAD starts; a package that R157 refuses has no footprint and fails when its transfer ends. -/
def newLoad (p : Part) (k : CmdPkt) (bytes : List Byte) : Load :=
  { tag := k.tag, package := BitVec.ofNat 32 (leAt bytes 12 4), kind := byteAt bytes 5, bytes := bytes, reqCfn := prefixCfn k,
    footprint := if (packageFault p.cfg.canvas bytes).isNone then footprintOf p.cfg bytes else [], state := 0 }

/-- PKG_LOAD (R158, R159): an empty footprint is answered OK, and applies nothing. -/
def pkgLoad (memory : List Byte) : Handler := fun k p =>
  match loadParams p k fun b => layout b 16 [] b with
  | .error (st, off) => (refusal st off, p)
  | .ok b =>
    let l := newLoad p k (memory.take (leAt b 8 8))
    let params := commitBlock (applyCfn p l.reqCfn) ++ le 4 l.package.toNat
    if 8 ≤ p.txn.loads.length then (refusal stNoResource noOffset, p)
    else if l.footprint.isEmpty && (packageFault p.cfg.canvas l.bytes).isNone then (okAnswer params, p)
    else ({ status := stPending, params := params, owes := some .load }, if p.pair.role = .primary then queueLoad l p else p)

def execPkgLoad (t : Nat) (pkt : CmdPkt) (memory : List Byte) (s : State) : Host.Outcome State Fault Refusal :=
  execHost { cls := .load, mirrored := true } 0x0603 (pkgLoad memory) t pkt s

/-- WEAR_EXPORT (R163): the ledger is taken band by band from the apply CFN on. -/
def wearExport : Handler := fun k p =>
  match loadParams p k fun b => layout b 16 [(decide (exportLength p.cfg ≤ leAt b 8 8), 8)] b with
  | .error (st, off) => (refusal st off, p)
  | .ok b =>
    let n := applyCfn p (prefixCfn k)
    let j : WearJob := { tag := k.tag, kind := 2, bytes := [], apply := n, hostAddr := BitVec.ofNat 64 (leAt b 0 8) }
    ({ status := stPending, params := commitBlock n ++ le 8 0, owes := some .other }, p.updTxn fun x => { x with exports := x.exports ++ [j] })

def execWearExport (t : Nat) (pkt : CmdPkt) (s : State) : Host.Outcome State Fault Refusal :=
  execHost { cls := .load, pends := true } 0x0604 wearExport t pkt s

def loadStatusBytes (p : Part) : List Byte :=
  le 1 p.txn.loads.length ++ [0, 0, 0] ++ p.txn.loads.flatMap fun l =>
    le 4 l.package.toNat ++ le 4 l.tag.toNat ++ le 1 l.state ++ le 1 l.kind ++ le 6 (if l.state = 2 then l.apply else 0)

def execLoadStatus (t : Nat) (pkt : CmdPkt) (s : State) : Host.Outcome State Fault Refusal :=
  execHost ruleQuery 0x0605 (plainQuery loadStatusBytes) t pkt s

/-- Tiles of the map on a feeder. -/
def feederTiles (c : Cfg) (k : Nat) : Nat := (c.tiles.filter fun e => e.2.2.feeder == k).length

/-- One feeder of FEEDER_STATUS; the estimates are held in µW and shown in mW. -/
def feederBytes (p : Part) (k : Nat) : List Byte :=
  let r := p.feeder k
  le 8 (r.pu / 1000) ++ le 8 (r.pa / 1000) ++ le 2 r.g ++ le 2 r.greq ++ le 2 (feederTiles p.cfg k) ++
    le 2 (packBits [decide (r.g < 0x8000), r.floor]) ++ le 4 (counter blkLight k 0 p).toNat ++ [0, 0, 0, 0]

def execFeederStatus (t : Nat) (pkt : CmdPkt) (s : State) : Host.Outcome State Fault Refusal :=
  execHost ruleQuery 0x0607 (query fun b p =>
    layout b 4 [below b 0 64, ((within b 1 1 1 64).1 && decide (byteAt b 0 + byteAt b 1 ≤ 64), 1), zeros b 2 2]
      ((List.range (byteAt b 1)).flatMap fun i => feederBytes p (byteAt b 0 + i))) t pkt s

/-- CAL_READ (Table 14.11): the rectangle lies in the canvas in force and its section fits the buffer (log entry 64). -/
def calReadLayout (p : Part) (b : List Byte) : Parse (List Byte) :=
  layout b 24 [((within b 4 2 1 16384).1 && decide (leAt b 0 2 + leAt b 4 2 ≤ p.cfg.canvas.w), 4),
    ((within b 6 2 1 8192).1 && decide (leAt b 2 2 + leAt b 6 2 ≤ p.cfg.canvas.h), 6),
    (decide (16 + 16 * (leAt b 4 2 * leAt b 6 2) ≤ leAt b 16 8), 16)] b

def calRead : Handler := fun k p =>
  match calReadLayout p k.params with
  | .error (st, off) => (refusal st off, p)
  | .ok b => ({ status := stPending, params := [], owes := some .other },
      p.updTxn fun x => { x with transfers := x.transfers ++ [{ tag := k.tag, opcode := 0x0608, params := b }] })

def execCalRead (t : Nat) (pkt : CmdPkt) (s : State) : Host.Outcome State Fault Refusal :=
  execHost { ruleQuery with pends := true } 0x0608 calRead t pkt s

def typeRead (b : List Byte) (p : Part) : Parse (List Byte) :=
  match layout b 4 [below b 0 64, zeros b 1 3] (byteAt b 0) with
  | .error e => .error e
  | .ok n => match p.cfg.types.get? n with
    | some d => .ok d
    | none => .error (stConflict, noOffset)

def execTypeRead (t : Nat) (pkt : CmdPkt) (s : State) : Host.Outcome State Fault Refusal :=
  execHost ruleQuery 0x0609 (query typeRead) t pkt s

def execFeederRead (t : Nat) (pkt : CmdPkt) (s : State) : Host.Outcome State Fault Refusal :=
  execHost ruleQuery 0x060A (query fun b p => layout b 4 [below b 0 64, zeros b 1 3]
    (encFeeder (byteAt b 0) (p.cfg.feeders.getD (byteAt b 0) {}))) t pkt s

def execLightRead (t : Nat) (pkt : CmdPkt) (s : State) : Host.Outcome State Fault Refusal :=
  execHost ruleQuery 0x060B (plainQuery fun p => encLight p.cfg.light) t pkt s

/-! ### Furrows -/

def execFurrowSet (t : Nat) (pkt : CmdPkt) (s : State) : Host.Outcome State Fault Refusal :=
  execHost ruleConfig 0x0701 (configCommand 0x0701) t pkt s
def execLatchSet (t : Nat) (pkt : CmdPkt) (s : State) : Host.Outcome State Fault Refusal :=
  execHost ruleConfig 0x0702 (configCommand 0x0702) t pkt s
def execTilemapSet (t : Nat) (pkt : CmdPkt) (s : State) : Host.Outcome State Fault Refusal :=
  execHost ruleConfig 0x0703 (configCommand 0x0703) t pkt s
def execTileLevel (t : Nat) (pkt : CmdPkt) (s : State) : Host.Outcome State Fault Refusal :=
  execHost ruleConfig 0x0704 (configCommand 0x0704) t pkt s

def execFurrowStatus (t : Nat) (pkt : CmdPkt) (s : State) : Host.Outcome State Fault Refusal :=
  execHost ruleQuery 0x0705 (query fun b p => layout b 4 [below b 0 128, zeros b 1 3] (furrowStatusBytes p (byteAt b 0))) t pkt s

def execTileStatus (t : Nat) (pkt : CmdPkt) (s : State) : Host.Outcome State Fault Refusal :=
  execHost ruleQuery 0x0706 (query fun b p => layout b 4 [below b 0 128, within b 1 1 1 255, zeros b 2 2]
    (tileStatusBytes p (byteAt b 0) (byteAt b 1))) t pkt s

def tileCtrlLayout (b : List Byte) : Parse (List Byte) :=
  let n := byteAt b 4
  layout b (8 + roundUp n 4) [below b 0 128, within b 1 1 1 255, within b 2 2 0x8000 0xFFFF, within b 4 1 0 240, below b 5 2, zeros b 6 2,
    zeros b (8 + n) (roundUp n 4 - n)] b

/-- TILE_CTRL (R214): the packet joins the furrow's CTRL queue; a full queue refuses it (R206, log entry 65). -/
def tileCtrl : Handler := fun k p =>
  match tileCtrlLayout k.params with
  | .error (st, off) => (refusal st off, p)
  | .ok b =>
    if !(p.tile (byteAt b 0) (byteAt b 1)).inService then (refusal stConflict noOffset, p)
    else
      let c : Ctrl := { key := byteAt b 1, op := leAt b 2 2, reply := byteAt b 5 == 1, payload := bytesAt b 8 (byteAt b 4), why := .host k.tag }
      match pushCtrl (byteAt b 0) c p with
      | (q, true) => ({ status := stPending, params := [], owes := some .other }, q)
      | (q, false) => (refusal stNoResource noOffset, q)

def execTileCtrl (t : Nat) (pkt : CmdPkt) (s : State) : Host.Outcome State Fault Refusal :=
  execHost { ruleOwn with pends := true } 0x0707 tileCtrl t pkt s

/-- FURROW_RESCAN (R216). -/
def furrowRescan (f : Nat) (p : Part) : Answer × Part := (okAnswer [], startEnum f 0 p)

def execFurrowRescan (t : Nat) (pkt : CmdPkt) (s : State) : Host.Outcome State Fault Refusal :=
  execHost ruleOwn 0x0708 (parsed (fun b => layout b 4 [below b 0 128, zeros b 1 3] (byteAt b 0)) furrowRescan) t pkt s

def tilemapReadBytes (p : Part) (f first count : Nat) : List Byte :=
  let es := ((p.cfg.furrow f).map.filter fun e => decide (first ≤ e.1)).take count
  le 1 es.length ++ [0, 0, 0] ++ es.flatMap encMapEntry

def execTilemapRead (t : Nat) (pkt : CmdPkt) (s : State) : Host.Outcome State Fault Refusal :=
  execHost ruleQuery 0x0709 (query fun b p => layout b 4 [below b 0 128, within b 1 1 1 255, within b 2 1 1 203, zeros b 3 1]
    (tilemapReadBytes p (byteAt b 0) (byteAt b 1) (byteAt b 2))) t pkt s

/-- TILE_CLEAR (R218). -/
def tileClear (k : Nat × Nat) (p : Part) : Answer × Part :=
  if (p.cfg.furrow k.1).map.has k.2 then (okAnswer [], clearTile k.1 k.2 p) else (refusal stConflict noOffset, p)

def execTileClear (t : Nat) (pkt : CmdPkt) (s : State) : Host.Outcome State Fault Refusal :=
  execHost ruleOwn 0x070A (parsed (fun b => layout b 4 [below b 0 128, within b 1 1 1 255, zeros b 2 2] (byteAt b 0, byteAt b 1)) tileClear) t pkt s

end Sys2Proof.Machine
end

