-- ==== Sys2Proof/Machine/Upkeep.lean ====
section
/-! DEFINITION. Groups 0x08xx to 0x0Cxx of the command catalogue (Tables 14.13 to 14.17): audio, timebase, pair parameters and
status, maintenance, events and counters. -/

namespace Sys2Proof.Machine

open Sys2Proof

/-! ### Audio -/

def execAudChan (t : Nat) (pkt : CmdPkt) (s : State) : Host.Outcome State Fault Refusal :=
  execHost ruleConfig 0x0801 (configCommand 0x0801) t pkt s
def execAudPort (t : Nat) (pkt : CmdPkt) (s : State) : Host.Outcome State Fault Refusal :=
  execHost ruleConfig 0x0802 (configCommand 0x0802) t pkt s
def execAudMclk (t : Nat) (pkt : CmdPkt) (s : State) : Host.Outcome State Fault Refusal :=
  execHost ruleConfig 0x0803 (configCommand 0x0803) t pkt s
def execAudZc (t : Nat) (pkt : CmdPkt) (s : State) : Host.Outcome State Fault Refusal :=
  execHost ruleConfig 0x0804 (configCommand 0x0804) t pkt s

def execAudStatus (t : Nat) (pkt : CmdPkt) (s : State) : Host.Outcome State Fault Refusal :=
  execHost ruleQuery 0x0805 (query fun b p => layout b 4 [below b 0 2, below b 1 (if byteAt b 0 = 0 then 16 else 256), zeros b 2 2]
    (audStatusBytes p (byteAt b 0) (byteAt b 1))) t pkt s

def execAudRead (t : Nat) (pkt : CmdPkt) (s : State) : Host.Outcome State Fault Refusal :=
  execHost ruleQuery 0x0806 (query fun b p => layout b 4 [below b 0 3, below b 1 ([16, 256, 4].getD (byteAt b 0) 0), zeros b 2 2]
    (audReadBytes p (byteAt b 0) (byteAt b 1))) t pkt s

/-! ### Timebase -/

def execTbSlot (t : Nat) (pkt : CmdPkt) (s : State) : Host.Outcome State Fault Refusal :=
  execHost ruleConfig 0x0901 (configCommand 0x0901) t pkt s
def execTbSet (t : Nat) (pkt : CmdPkt) (s : State) : Host.Outcome State Fault Refusal :=
  execHost ruleConfig 0x0902 (configCommand 0x0902) t pkt s
def execCouSet (t : Nat) (pkt : CmdPkt) (s : State) : Host.Outcome State Fault Refusal :=
  execHost ruleConfig 0x0904 (configCommand 0x0904) t pkt s

/-- TB_STEER (R268). -/
def tbSteer (v : Int) (p : Part) : Answer × Part :=
  let (q, stored) := steerSet v p
  (okAnswer (le 1 (b2n stored) ++ [0, 0, 0]), q)

def execTbSteer (t : Nat) (pkt : CmdPkt) (s : State) : Host.Outcome State Fault Refusal :=
  execHost ruleMirrored 0x0903 (parsed (fun b => layout b 4 [withinInt b 0 4 (-200000000) 200000000] (leIntAt b 0 4)) tbSteer) t pkt s

def execTbStatus (t : Nat) (pkt : CmdPkt) (s : State) : Host.Outcome State Fault Refusal :=
  execHost ruleQuery 0x0905 (plainQuery tbStatusBytes) t pkt s
def execTbSlotStatus (t : Nat) (pkt : CmdPkt) (s : State) : Host.Outcome State Fault Refusal :=
  execHost ruleQuery 0x0906 (query fun b p => layout b 4 [below b 0 8, zeros b 1 3] (tbSlotStatusBytes p (byteAt b 0))) t pkt s
def execTbRead (t : Nat) (pkt : CmdPkt) (s : State) : Host.Outcome State Fault Refusal :=
  execHost ruleQuery 0x0907 (plainQuery tbReadBytes) t pkt s

/-! ### Pair -/

def pairCfgAt (b : List Byte) : PairCfg := { joinWaitMs := leAt b 0 4, mirrorTimeout := leAt b 4 2, witnessClaim := byteAt b 6 == 1 }

def encPairCfg (c : PairCfg) : List Byte := le 4 c.joinWaitMs ++ le 2 c.mirrorTimeout ++ le 1 (b2n c.witnessClaim) ++ [0]

/-- PAIR_SET acts on receipt (R276). -/
def pairSet (c : PairCfg) (p : Part) : Answer × Part := (okAnswer [], p.updPair fun x => { x with cfg := c })

def parsePairSet (b : List Byte) : Parse PairCfg :=
  layout b 8 [within b 0 4 500 60000, within b 4 2 20 1000, below b 6 2, zeros b 7 1] (pairCfgAt b)

def execPairSet (t : Nat) (pkt : CmdPkt) (s : State) : Host.Outcome State Fault Refusal :=
  execHost ruleMirrored 0x0A01 (parsed parsePairSet pairSet) t pkt s

/-- The partner is STANDBY on an UP link. -/
def standbyThere (p : Part) : Bool := anyLinkUp p && (p.pair.partner.map fun h => h.role == 2).getD false

/-- PAIR_SWITCH (R293): SWITCH is journalled for the first open frame. -/
def pairSwitch : Handler := fun k p =>
  if !k.params.isEmpty then (refusal stBadParam noOffset, p)
  else if !standbyThere p || p.pair.switchAt.isSome then (refusal stConflict noOffset, p)
  else
    let n := firstOpen p
    let q := writeJournal n 0 k.tag .switch (p.updPair fun x => { x with switchAt := some n, switchTag := some k.tag })
    ({ status := stPending, params := commitBlock n, owes := some .other }, q)

def execPairSwitch (t : Nat) (pkt : CmdPkt) (s : State) : Host.Outcome State Fault Refusal :=
  execHost { ruleOwn with pends := true } 0x0A02 pairSwitch t pkt s

/-- Witness counts of the four kinds of R228, over all furrows, 2 bytes each (Table 11.6). -/
def witnessBytes (p : Part) : List Byte :=
  let (a, b, c, d) := tenureCounts p
  le 2 a ++ le 2 b ++ le 2 c ++ le 2 d

def pairStatusBytes (p : Part) : List Byte :=
  le 1 (roleCode p.pair.role) ++ le 1 (b2n p.sys.endB) ++ le 2 p.pair.epoch.toNat ++
    le 1 (packBits [(p.pairLink false).up, (p.pairLink true).up, p.pair.split]) ++
    encNoneByte (if anyLinkUp p then p.pair.partner.map (·.role) else none) ++ le 1 (pairPins p) ++ [0] ++ le 4 p.txn.jseq ++
    le 4 ((p.pair.partner.map (·.jseq)).getD 0) ++ leInt 8 p.pair.dfe ++ witnessBytes p ++
    ((List.range 4).flatMap fun i => le 4 (counter blkPair 2 i p).toNat) ++ le 4 (counter blkPair 0 0 p).toNat ++ le 4 (counter blkPair 1 0 p).toNat

def execPairStatus (t : Nat) (pkt : CmdPkt) (s : State) : Host.Outcome State Fault Refusal :=
  execHost ruleQuery 0x0A03 (plainQuery pairStatusBytes) t pkt s

def execPairRead (t : Nat) (pkt : CmdPkt) (s : State) : Host.Outcome State Fault Refusal :=
  execHost ruleQuery 0x0A04 (plainQuery fun p => encPairCfg p.pair.cfg) t pkt s

/-! ### Firmware -/

/-- A handler that reads the flash. -/
def execHostFlash (rule : OpRule) (op : Nat) (h : Memory → Handler) (t : Nat) (k : CmdPkt) (s : State) : Host.Outcome State Fault Refusal :=
  onPartMem (fun _ flash => timed t (hostCommand rule op (h flash) k)) s

def addTransfer (tag : Word) (op : Nat) (b : List Byte) (p : Part) : Part :=
  p.updTxn fun x => { x with transfers := x.transfers ++ [{ tag := tag, opcode := op, params := b }] }

/-- FW_WRITE (R327, R409): a slot holds 32 MiB. -/
def fwWrite : Handler := fun k p =>
  let b := k.params
  match layout b 20 [below b 0 2, zeros b 1 3, (leAt b 4 4 % 4096 == 0 && decide (leAt b 4 4 < 0x2000000), 4),
      (leAt b 16 4 % 4096 == 0 && decide (leAt b 4 4 + leAt b 16 4 ≤ 0x2000000), 16)] () with
  | .error (st, off) => (refusal st off, p)
  | .ok () =>
    if byteAt b 0 = p.sys.bootSlot then (refusal stConflict noOffset, p)
    else ({ status := stPending, params := [], owes := some .other }, addTransfer k.tag 0x0B01 b p)

def execFwWrite (t : Nat) (pkt : CmdPkt) (s : State) : Host.Outcome State Fault Refusal :=
  execHost { ruleDagger with pends := true } 0x0B01 fwWrite t pkt s

/-- Result of FW_VERIFY: an erased header is empty; else the stepping, the header's other fields, the CRC (Table 14.16). -/
def verifyCode (flash : Memory) (slot : Nat) : Nat :=
  let h := flashBytes flash (imageBase slot) 64
  if h.all (· == 0xFF) then 1
  else if !imageFault flash slot then 0
  else if !headerFits h then 2
  else if byteAt h 5 ≠ 0xA1 then 4
  else 3

def fwVerify (flash : Memory) : Handler :=
  query fun b _ => layout b 4 [below b 0 2, zeros b 1 3] (le 1 (verifyCode flash (byteAt b 0)) ++ [0, 0, 0] ++ flashBytes flash (imageBase (byteAt b 0)) 64)

def execFwVerify (t : Nat) (pkt : CmdPkt) (s : State) : Host.Outcome State Fault Refusal := execHostFlash ruleMaint 0x0B02 fwVerify t pkt s

/-- What stands against a firmware switch (R327); the partner's running image is taken to write this head's journal format
(log entry 67). -/
def switchConflict (flash : Memory) (slot : Nat) (p : Part) : Bool :=
  !p.txn.open_.isEmpty || !p.txn.loads.isEmpty || recovering p || p.hrt.pendingTrial.isSome ||
  (anyLinkUp p && imageJournal flash slot != p.sys.fwJournal)

/-- FW_SWITCH (R327, R328). -/
def fwSwitch (flash : Memory) : Handler := fun k p =>
  let b := k.params
  match layout b 4 [below b 0 2, zeros b 1 1, within b 2 2 10 3600] () with
  | .error (st, off) => (refusal st off, p)
  | .ok () =>
    if imageFault flash (byteAt b 0) then (refusal stBadParam 0, p)
    else if switchConflict flash (byteAt b 0) p then (refusal stConflict noOffset, p)
    else (okAnswer [], p.updHrt fun h => { h with pendingTrial := some (byteAt b 0, leAt b 2 2) })

def execFwSwitch (t : Nat) (pkt : CmdPkt) (s : State) : Host.Outcome State Fault Refusal := execHostFlash ruleDagger 0x0B03 fwSwitch t pkt s

/-- BOOT_SELECT (R409): answered at once; the record is written by FLASH_WRITE_DONE. -/
def bootSelect (flash : Memory) : Handler := fun k p =>
  match layout k.params 4 [below k.params 0 2, zeros k.params 1 3] () with
  | .error (st, off) => (refusal st off, p)
  | .ok () =>
    if imageFault flash (byteAt k.params 0) then (refusal stBadParam 0, p) else (okAnswer [], addTransfer k.tag 0x0B04 k.params p)

def execBootSelect (t : Nat) (pkt : CmdPkt) (s : State) : Host.Outcome State Fault Refusal := execHostFlash ruleDagger 0x0B04 bootSelect t pkt s

/-! ### Units, thresholds, power -/

def kindOf (n : Nat) : UnitKind := [.ingest, .converter, .scaler, .lane, .hbm].getD n .hbm

/-- Logical instance that a physical one serves, of any kind. -/
def servedBy (p : Part) (k : UnitKind) (phys : Nat) : Option Nat :=
  if k = .hbm then (if pcLogical p phys = 127 ∨ 128 ≤ phys then none else some (pcLogical p phys)) else logicalOf p k phys

/-- A swap of this unit is planned or open already. -/
def swapWaits (p : Part) (k : UnitKind) (l : Nat) : Bool :=
  if k = .hbm then remapOpen p l else p.hrt.planned.any fun s => s.kind == k && s.logical == l

/-- SPARE_SWAP (R308, R398). -/
def spareSwap : Handler := fun k p =>
  let b := k.params
  match layout b 4 [below b 0 5, zeros b 1 1] (kindOf (byteAt b 0)) with
  | .error (st, off) => (refusal st off, p)
  | .ok kind =>
    match servedBy p kind (leAt b 2 2) with
    | none => (refusal stConflict noOffset, p)
    | some l =>
      if recovering p || swapWaits p kind l then (refusal stConflict noOffset, p)
      else if fallowCount p kind = 0 then (refusal stNoResource noOffset, p)
      else ({ status := stPending, params := [], owes := some .other },
            if kind = .hbm then startRemap l false (some k.tag) p else planSwap kind l (some k.tag) p)

def execSpareSwap (t : Nat) (pkt : CmdPkt) (s : State) : Host.Outcome State Fault Refusal :=
  execHost { ruleDagger with pends := true } 0x0B05 spareSwap t pkt s

/-- SELF_TEST (R303): answered by the unit's next self-test. -/
def selfTestCmd : Handler := fun k p =>
  let b := k.params
  match layout b 4 [below b 0 5, zeros b 1 1] (kindOf (byteAt b 0)) with
  | .error (st, off) => (refusal st off, p)
  | .ok kind =>
    if isFallow p kind (leAt b 2 2) then
      ({ status := stPending, params := [], owes := some .other }, p.updHrt fun h => { h with tests := h.tests ++ [(kind, leAt b 2 2, k.tag)] })
    else (refusal stConflict noOffset, p)

def execSelfTest (t : Nat) (pkt : CmdPkt) (s : State) : Host.Outcome State Fault Refusal :=
  execHost { ruleDagger with pends := true } 0x0B06 selfTestCmd t pkt s

def parsePowerCap (b : List Byte) : Parse Nat := layout b 4 [within b 0 2 80 188, zeros b 2 2] (leAt b 0 2)
def powerCap (w : Nat) (p : Part) : Answer × Part := (okAnswer [], p.updPwr fun x => { x with cap := w })

def execPowerCap (t : Nat) (pkt : CmdPkt) (s : State) : Host.Outcome State Fault Refusal :=
  execHost ruleMaint 0x0B07 (parsed parsePowerCap powerCap) t pkt s

def parseWearThresh (b : List Byte) : Parse Thresholds :=
  layout b 8 [within b 0 1 5 100, within b 1 1 50 100, within b 2 2 1 10000, within b 4 2 50 400, below b 6 2, zeros b 7 1]
    { slow := byteAt b 0, rows := byteAt b 1, ce := leAt b 2 2, eye := leAt b 4 2, autoSwap := byteAt b 6 == 1 }
def wearThresh (x : Thresholds) (p : Part) : Answer × Part := (okAnswer [], p.updHrt fun h => { h with thr := x })

def execWearThresh (t : Nat) (pkt : CmdPkt) (s : State) : Host.Outcome State Fault Refusal :=
  execHost ruleDagger 0x0B08 (parsed parseWearThresh wearThresh) t pkt s

/-- UART_RATE: the rate changes once the reply has been sent (R342). -/
def uartRate : Handler := fun k p =>
  match layout k.params 4 [below k.params 0 3, zeros k.params 1 3] ([115200, 921600, 3000000].getD (byteAt k.params 0) 115200) with
  | .error (st, off) => (refusal st off, p)
  | .ok rate => (okAnswer [], p.updHost fun h => { h with newBaud := some (k.tag, rate) })

def execUartRate (t : Nat) (pkt : CmdPkt) (s : State) : Host.Outcome State Fault Refusal := execHost ruleMaint 0x0B09 uartRate t pkt s

def watchdogSet (ms : Nat) (p : Part) : Answer × Part := (okAnswer [], p.updHrt fun h => { h with watchdogMs := ms })

def execWatchdog (t : Nat) (pkt : CmdPkt) (s : State) : Host.Outcome State Fault Refusal :=
  execHost ruleDagger 0x0B0A (parsed (fun b => layout b 4 [within b 0 2 10 1000, zeros b 2 2] (leAt b 0 2)) watchdogSet) t pkt s

/-- Log banks retired: of four, those neither in service, nor spare, nor being filled. -/
def banksRetired (l : Log) : Nat := 4 - l.spares - b2n (!l.failA) - b2n (!l.failB) - b2n l.copying.isSome

/-- HEADLAND_STATUS, the kinds of Table 12.2 in order; the counts of SRAM repair rows are free values (log entry 66). -/
def headlandBytes (rows : DWord) (p : Part) : List Byte :=
  let entry := fun (a b : Nat) => le 1 a ++ le 1 b ++ [0, 0]
  let of := fun k => entry (fallowCount p k) (retiredCount p k)
  let cores := p.hrt.coresFallow.length
  of .ingest ++ of .converter ++ of .scaler ++ of .lane ++ entry cores (3 - p.hrt.coresUp.length - cores) ++ of .hbm ++
    entry (rows.toNat % 256) (rows.toNat / 256 % 256) ++ entry p.log.spares (banksRetired p.log) ++ le 2 p.hrt.slowWorst ++ le 2 p.hrt.ceWorst ++
    le 1 p.hrt.rowsWorst ++ [0] ++ le 2 p.hrt.eyeWorst

def headlandStatus (_ : PUnit) (p : Part) : Answer × Part :=
  let (rows, q) := freshFree p
  (okAnswer (headlandBytes rows p), q)

def execHeadlandStatus (t : Nat) (pkt : CmdPkt) (s : State) : Host.Outcome State Fault Refusal :=
  execHost ruleMaint 0x0B0B (parsed (fun b => layout b 0 [] ()) headlandStatus) t pkt s

def powerStatusBytes (p : Part) : List Byte :=
  le 4 p.pwr.chip ++ le 4 p.pwr.telem ++ le 2 p.pwr.cap ++ le 1 p.pwr.shed ++ [0] ++ leInt 2 p.sys.tj ++ [0, 0]

def execPowerStatus (t : Nat) (pkt : CmdPkt) (s : State) : Host.Outcome State Fault Refusal :=
  execHost ruleMaint 0x0B0C (plainQuery powerStatusBytes) t pkt s

def hbmStatusBytes (p : Part) (phys : Nat) : List Byte :=
  le 4 (pcStatus p phys) ++ le 4 (p.pc phys).ce ++ le 4 (p.pc phys).ue ++ le 4 (p.fab.scrubDone * 1000 / 120)

def execHbmStatus (t : Nat) (pkt : CmdPkt) (s : State) : Host.Outcome State Fault Refusal :=
  execHost ruleMaint 0x0B0D (query fun b p => layout b 4 [below b 0 128, zeros b 1 3] (hbmStatusBytes p (byteAt b 0))) t pkt s

def scrubSet (h : Nat) (p : Part) : Answer × Part := (okAnswer [], p.updFab fun f => { f with scrubHours := h })

def execScrubSet (t : Nat) (pkt : CmdPkt) (s : State) : Host.Outcome State Fault Refusal :=
  execHost ruleDagger 0x0B0E (parsed (fun b => layout b 4 [within b 0 1 1 168, zeros b 1 3] (byteAt b 0)) scrubSet) t pkt s

/-! ### Events -/

def execEvStatus (t : Nat) (pkt : CmdPkt) (s : State) : Host.Outcome State Fault Refusal :=
  execHost ruleQuery 0x0C01 (plainQuery fun p => le 48 p.ev.pend.toNat ++ le 48 (p.ev.mask &&& definedEvents).toNat) t pkt s

def resignalAll (p : Part) : Part := (List.range 12).foldl (fun q b => resignalBank b q) p

/-- EV_CLEAR (R370). -/
def evClear (w : BitVec 384) (p : Part) : Answer × Part := (okAnswer [], clearPend w resignalAll p)

def execEvClear (t : Nat) (pkt : CmdPkt) (s : State) : Host.Outcome State Fault Refusal :=
  execHost ruleOwn 0x0C02 (parsed (fun b => layout b 48 [] (BitVec.ofNat 384 (leAt b 0 48))) evClear) t pkt s

/-- EV_MASK writes the mask and ring bits (R371). -/
def evMask (w : BitVec 384 × BitVec 384) (p : Part) : Answer × Part :=
  (okAnswer [], resignalAll (p.updEv fun e => { e with mask := w.1, ring := w.2 }))

def execEvMask (t : Nat) (pkt : CmdPkt) (s : State) : Host.Outcome State Fault Refusal :=
  execHost ruleOwn 0x0C07 (parsed (fun b => layout b 96 [] (BitVec.ofNat 384 (leAt b 0 48), BitVec.ofNat 384 (leAt b 48 48))) evMask) t pkt s

/-! ### Counters -/

/-- Instances of a block's counters, and how many an instance has (Table 15.4). -/
def counterShape : Nat → Option (Nat × (Nat → Nat))
  | 1 => some (8, fun _ => 2)
  | 3 => some (4, fun _ => 1)
  | 4 => some (48, fun _ => 6)
  | 5 => some (8, fun _ => 6)
  | 6 => some (4096, fun _ => 1)
  | 7 => some (1, fun _ => 1)
  | 8 => some (1, fun _ => 3)
  | 9 => some (64, fun _ => 1)
  | 10 => some (128, fun _ => 20)
  | 11 => some (16, fun _ => 5)
  | 12 => some (3, fun i => if i = 2 then 4 else 1)
  | 13 => some (1, fun _ => 2)
  | 15 => some (1, fun _ => 1)
  | 17 => some (177, fun _ => 1)
  | 20 => some (1, fun _ => 24)
  | 22 => some (1, fun _ => 4)
  | _ => none

/-- Block, instance, first counter and count of CNT_READ and CNT_CLEAR (Table 14.17). -/
def counterRange (b : List Byte) : Parse (Nat × Nat × Nat × Nat) :=
  let k := (byteAt b 0, leAt b 2 2, leAt b 4 2, leAt b 6 2)
  match layout b 8 [((counterShape k.1).isSome, 0), zeros b 1 1] (counterShape k.1) with
  | .error e => .error e
  | .ok none => badParam 0
  | .ok (some (insts, n)) =>
    if insts ≤ k.2.1 then badParam 2
    else if n k.2.1 ≤ k.2.2.1 then badParam 4
    else if k.2.2.2 = 0 ∨ 1000 < k.2.2.2 ∨ n k.2.1 < k.2.2.1 + k.2.2.2 then badParam 6
    else .ok k

def cntRead (b : List Byte) (p : Part) : Parse (List Byte) :=
  match counterRange b with
  | .error e => .error e
  | .ok (block, inst, first, n) => .ok ((List.range n).flatMap fun i => le 4 (counter block inst (first + i) p).toNat)

def execCntRead (t : Nat) (pkt : CmdPkt) (s : State) : Host.Outcome State Fault Refusal := execHost ruleQuery 0x0C03 (query cntRead) t pkt s

/-- CNT_CLEAR (R376). -/
def cntClear (k : Nat × Nat × Nat × Nat) (p : Part) : Answer × Part :=
  (okAnswer [], p.updCnt fun m => (List.range k.2.2.2).foldl (fun m i => m.erase (cntKey k.1 k.2.1 (k.2.2.1 + i))) m)

def execCntClear (t : Nat) (pkt : CmdPkt) (s : State) : Host.Outcome State Fault Refusal :=
  execHost ruleOwn 0x0C04 (parsed counterRange cntClear) t pkt s

def perfSnapshot (_ : PUnit) (p : Part) : Answer × Part :=
  let q := takeSnapshot p
  (okAnswer (le 6 q.perf.snapCfn ++ [0, 0] ++ le 8 q.perf.snapTime), q)

def execPerfSnapshot (t : Nat) (pkt : CmdPkt) (s : State) : Host.Outcome State Fault Refusal :=
  execHost ruleOwn 0x0C05 (parsed (fun b => layout b 0 [] ()) perfSnapshot) t pkt s

def logStatusBytes (p : Part) : List Byte :=
  le 4 (packBits [p.log.failA, p.log.failB, p.log.full, p.log.emberOn] + 16 * p.log.spares) ++ le 4 (logNewest p) ++ le 4 (logOldest p) ++
    le 4 (logUngleaned p) ++ (List.range 23).flatMap fun i => le 4 (counter blkLog 0 i p).toNat

def execLogStatus (t : Nat) (pkt : CmdPkt) (s : State) : Host.Outcome State Fault Refusal :=
  execHost ruleQuery 0x0C06 (plainQuery logStatusBytes) t pkt s

/-- PERF_SET: the selector, then PERF_CTRL (R377 to R381). -/
def perfSet (b : List Byte) (p : Part) : Answer × Part :=
  let q := updGroup (byteAt b 0) (fun x => { x with sel := x.sel.set (byteAt b 1) (BitVec.ofNat 32 (leAt b 4 4)) }) (perfSync p)
  let c := leAt b 8 4
  let r := (setFreeze (bit c 0) q).updPerf fun x => { x with snapFe := bit c 2 }
  (okAnswer [], if bit c 1 then takeSnapshot r else r)

def execPerfSet (t : Nat) (pkt : CmdPkt) (s : State) : Host.Outcome State Fault Refusal :=
  execHost ruleOwn 0x0C08 (parsed (fun b => layout b 12 [below b 0 10, below b 1 8, zeros b 2 2,
    (bits (leAt b 4 4) 15 13 == 0 && bits (leAt b 4 4) 31 24 == 0, 4), (decide (leAt b 8 4 < 8), 8)] b) perfSet) t pkt s

def perfReadBytes (p : Part) (g : Nat) (snap : Bool) : List Byte :=
  let x := (perfSync p).perf.groups.getD g ⟨0, [], [], 0, 0, []⟩
  le 8 (if snap then x.snapCycles else x.cycles).toNat ++
    ((List.range 8).flatMap fun c => le 4 ((if snap then x.snapCnt else x.cnt).getD c 0).toNat) ++ le 1 x.ovf.toNat ++ [0, 0, 0]

def execPerfRead (t : Nat) (pkt : CmdPkt) (s : State) : Host.Outcome State Fault Refusal :=
  execHost ruleQuery 0x0C09 (query fun b p => layout b 4 [below b 0 10, below b 1 2, zeros b 2 2] (perfReadBytes p (byteAt b 0) (byteAt b 1 == 1))) t pkt s

end Sys2Proof.Machine
end

