-- ==== Sys2Proof/Machine/Refused.lean ====
section
/-! DEFINITION. A popped command packet that fails its length, CRC, header or opcode check (Table 13.2, R332). -/

namespace Sys2Proof.Machine

open Sys2Proof

/-- Opcodes the catalogue defines: groups 0x00xx to 0x0Cxx with the numbers each holds. -/
def opcodeDefined (op : Nat) : Bool :=
  decide (1 ≤ op % 256) && decide (op % 256 ≤ [5, 8, 12, 3, 12, 11, 11, 10, 6, 7, 4, 14, 9].getD (op / 256) 0)

/-- The bytes hold a packet of the length its header gives: a UART frame exactly, a ring slot from its start (Table 13.2, step 1). -/
def lengthFits (uart : Bool) (b : List Byte) : Bool :=
  let (_, k, rest) := packetAt uart b
  decide (16 ≤ b.length) && lengthOk k && (!uart || rest.isEmpty)

/-- The packet fails one of the checks of this row. -/
def packetFails (uart : Bool) (b : List Byte) : Bool :=
  let (op, k, _) := packetAt uart b
  !lengthFits uart b || !crcOk op k || !headerOk k || !opcodeDefined op

/-- Discarded and counted, or answered CRC_FAIL, BAD_PARAM or BAD_OPCODE (R332). -/
def packetRefused (uart : Bool) (b : List Byte) (p : Part) : Part :=
  if !popsCommands uart p || !packetFails uart b then p
  else
    let (op, k, _) := packetAt uart b
    let q := perfSignal 8 0x11 0 1 (popped uart b p)
    if !lengthFits uart b then count blkHost 0 0 q
    else repliesGone (checked none op (fun _ r => (refusal stBadOpcode noOffset, r)) k q)

def execCommandPacketRefused (t : Nat) (uart : Bool) (bytes : List Byte) (s : State) : Host.Outcome State Fault Refusal :=
  onPart (timed t (packetRefused uart bytes)) s

end Sys2Proof.Machine
end

