-- ==== Sys2Proof/Machine/Frame.lean ====
section
/-! DEFINITION. The frame event (R21, Table 1.4): commits, gates, fences, synchronisers, converters, the light stage, the
start of composition, SOW and TENURE, and what a pair does at it; phase steps (R128 to R131) and the slate's triggers (R146,
R148, R149). -/

namespace Sys2Proof.Machine

open Sys2Proof

/-! ### The raster -/

/-- |e| exceeds V_a line periods (R130). -/
def bigStep (c : CanvasCfg) (e : Int) : Bool :=
  decide (c.va * (sec * c.rateDen) < e.natAbs * ((c.h + c.vb) * c.rateNum))

/-- The CFN becomes N (R18). -/
def cfnAdvances (fe n : Nat) (p : Part) : Part :=
  (p.updFr fun f => { f with cfn := n, first := false, lastFe := fe, stepFrame := false, moved := false }).updComp fun c =>
    { c with prevStep := p.fr.stepFrame }

/-- A phase step due in this frame is absorbed (R128 to R130). -/
def absorbStep (p : Part) : Part :=
  match p.fr.step with
  | none => p
  | some (e, m) =>
    if p.fr.cfn < m then p
    else
      let big := bigStep p.cfg.canvas e
      let q := p.updFr fun f => { f with
        origin := f.origin + e, step := none, moved := decide (e ≠ 0), lastStep := e, stepFrame := big }
      if big then raise evStepFrame 0 0 (count blkCanvas 0 1 q) else count blkCanvas 0 0 q

/-! ### What a commit changes -/

/-- A command of a commit takes effect; one that no longer fits changes nothing. -/
def applyLenient (n : Nat) (c : Cfg) (x : ConfigCmd) : Cfg :=
  match applyCmd n c x with
  | .ok d => d
  | .error _ => c

/-- Streams that a commit binds or rebinds. -/
def rebinds (cmds : List ConfigCmd) : List Nat :=
  cmds.filterMap fun x => match x with
    | .streamSdi n _ _ _ => some n
    | .streamIp n _ => some n
    | _ => none

/-- A stream bound or rebound starts with empty slots and SEQ 1 (Table 2.8); an unbound one holds nothing. -/
def streamsApplied (old : Cfg) (cmds : List ConfigCmd) (p : Part) : Part :=
  let gone := old.boundStreams.filter fun n => !(p.cfg.stream n).bound
  let p1 := gone.foldl (fun q n => updStream n (fun _ => {}) q) p
  let p2 := (rebinds cmds).foldl (fun q n =>
    if (q.cfg.stream n).bound then updStream n (fun _ => { running := true }) q else q) p1
  p.cfg.boundStreams.foldl (fun q n =>
    if (old.stream n).par.fenceGroup = (q.cfg.stream n).par.fenceGroup then q
    else updStream n (fun x => { x with hasTag := false, unfenced := false, rejoin := none, untagged := 0, fences := [] }) q) p2

/-- Fence groups that were removed or are new start without a tag. -/
def groupsApplied (old : Cfg) (p : Part) : Part :=
  (old.groups.keys ++ p.cfg.groups.keys).eraseDups.foldl (fun q g => if old.groups.has g == q.cfg.groups.has g then q else updGroupRt g (fun _ => {}) q) p

/-- A converter starts when its binding commits (R86); the four further slots go with the binding (R53). -/
def convertersApplied (old : Cfg) (p : Part) : Part :=
  let p1 := (List.range 8).foldl (fun q k =>
    if (old.conv k).stream = (q.cfg.conv k).stream then q else frcRestart k q) p
  p1.cfg.boundStreams.foldl (fun q n =>
    if (old.convOf n).isSome && (q.cfg.convOf n).isNone then
      updStream n (fun x => { x with
        slots := x.slots.filter fun e => e.1 < 4
        choice := x.choice.filter (· < 4)
        writing := x.writing.filter (· < 4) }) q
    else q) p1

/-- Resend marks of tiles whose type is loaded, or whose dither changes (R167, Table 5.4). -/
def typesApplied (old : Cfg) (cmds : List ConfigCmd) (p : Part) : Part :=
  let seed := decide (old.light.seed ≠ p.cfg.light.seed)
  setMarks (fun _ _ e => seed || cmds.any fun x => match x with | .typeLoad k _ => k == e.type | _ => false) p

/-- The offset of the raster, with the step that waits, from its reference's alignment points after a change of rate, or the
change of phase (R126 to R128, R258, R260; log entry 68). -/
def rasterApplied (fe : Nat) (old : Cfg) (p : Part) : Part :=
  let a := old.canvas
  let b := p.cfg.canvas
  if a.rateNum ≠ b.rateNum ∨ a.rateDen ≠ b.rateDen then
    let q := p.updFr fun f => { f with origin := (fe : Int), originCfn := f.cfn }
    match p.tb.align, p.tb.slot with
    | some x, some k => reportStep ((x : Int) - delayUnits (p.cfg.slot k) + phaseUnits b - fe - (p.fr.step.map (·.1)).getD 0) q
    | _, _ => q
  else if a.phase ≠ b.phase then reportStep (phaseUnits b - phaseUnits a) p
  else p

/-- LOWLAT_SET enters or leaves low-latency mode, or moves the phase for a new lead stream or lag (R30, R31, R128). -/
def lowlatApplied (old : Cfg) (cmds : List ConfigCmd) (p : Part) : Part :=
  if cmds.any fun x => match x with | .lowlatSet _ => true | _ => false then
    if p.cfg.lowlat.enable && !p.comp.lowlat then enterLowlat p
    else if !p.cfg.lowlat.enable && p.comp.lowlat then leaveLowlat p
    else if p.comp.lowlat && (old.lowlat.lead != p.cfg.lowlat.lead || old.lowlat.lag != p.cfg.lowlat.lag) then moveLowlat p
    else p
  else p

/-- SLATE_CLEAR ends the automatic trigger (R148); a changed pin trigger starts afresh. -/
def slateApplied (old : Cfg) (cmds : List ConfigCmd) (p : Part) : Part :=
  let clear := cmds.any fun x => match x with | .slateClear => true | _ => false
  let pin := decide (old.slate.pin ≠ p.cfg.slate.pin)
  p.updComp fun c => { c with slate := { c.slate with
    autoOn := c.slate.autoOn && !clear
    pinOn := c.slate.pinOn && !pin
    pinLeft := if pin then none else c.slate.pinLeft } }

/-- Monitor outputs that are switched off hold nothing; a PTP change starts the slave afresh. -/
def outputsApplied (old : Cfg) (p : Part) : Part :=
  let p1 := p.updComp fun c => { c with mon := c.mon.filter fun e => (p.cfg.mon.getD e.1 {}).enable }
  if old.ptp = p.cfg.ptp then p1 else updPtp (fun _ => {}) p1

/-- What applied commands do besides standing in the configuration. -/
def configApplied (fe : Nat) (old : Cfg) (cmds : List ConfigCmd) (p : Part) : Part :=
  let p1 := convertersApplied old (groupsApplied old (streamsApplied old cmds p))
  let p2 := (old.furrows.keys ++ p1.cfg.furrows.keys).eraseDups.foldl (furrowApplied fe old) (typesApplied old cmds p1)
  let p3 := if old.latchUs = p2.cfg.latchUs then p2 else setLatchAll p2
  let p4 := membershipChange old p3.cfg (tbApplied old p3)
  slateApplied old cmds (lowlatApplied old cmds (rasterApplied fe old (outputsApplied old p4)))

/-- A commit stands in the configuration from frame `n` on, and its final reply is computed (R116, R120, R305).  A clip it
starts counts from its apply CFN, gated or not (R101). -/
def commitStands (n : Nat) (p : Part) (x : Commit) : Part :=
  let q := p.updTxn fun t => { t with commits := t.commits.filter fun y => y.jseq != x.jseq }
  let r := (q.updCfg fun c => x.cmds.foldl (fun c y => applyLenient x.apply c y.cmd) c).updHrt fun h => { h with tableSet := !h.tableSet }
  if x.owes then finalCommit x.tag stOk n [] r else r

/-- Step 2: sealed commits and loads apply (R21, R23, R158). -/
def commitsApply (fe : Nat) (p : Part) : Part :=
  let n := p.fr.cfn
  let due := p.txn.commits.filter fun x => x.gate.isNone && decide (x.apply ≤ n)
  let q := due.foldl (commitStands n) p
  let r := if due.isEmpty then q else configApplied fe p.cfg (due.flatMap fun x => x.cmds.map (·.cmd)) q
  supplyFixed (supplyFrameEvent fe (loadsApply r))

/-! ### Gates -/

/-- A gated commit leaves with a final reply (Table 4.11, R122). -/
def gateLeaves (x : Commit) (st cfn : Nat) (p : Part) : Part :=
  let q := p.updTxn fun t => { t with commits := t.commits.filter fun y => y.jseq != x.jseq }
  if x.owes then finalCommit x.tag st cfn [] q else q

/-- The fence decision leaves the group's tag equal to T or newer (R122). -/
def gateMet (p : Part) (g : Gate) : Bool :=
  let r := p.groupRt g.group
  r.seen && (r.curG == g.tag || serialNewer 32 r.curG.toNat g.tag.toNat)

/-- A gate opens at this frame: the primary journals it, every head applies the commit (R120, R122). -/
def gateOpens (p : Part) (x : Commit) : Part :=
  let n := p.fr.cfn
  let q := commitStands n (writeJournal n x.txn x.tag (.gateOpen x.jseq) p) x
  q.updPair fun y => { y with gatesOpened := (y.gatesOpened.filter fun e => e.1 == n) ++ [(n, x.jseq)] }

/-- A commit whose gate may open now: from its apply CFN on; on a standby one that the journal opened earlier opens too. -/
def gateDue (p : Part) (x : Commit) : Bool :=
  match x.gate with
  | some g => decide (x.apply ≤ p.fr.cfn) && decide (p.fr.cfn ≤ x.apply + g.deadline) && gateMet p g ||
      p.pair.peerGates.any fun e => e.2 == x.jseq && decide (e.1 < p.fr.cfn)
  | none => false

/-- A gated commit at the end of its deadline (R122). -/
def gateExpired (p : Part) (x : Commit) : Bool := (x.gate.map fun g => decide (x.apply + g.deadline ≤ p.fr.cfn)).getD false

/-- The withdrawal of a gated commit at its deadline (R122), which the primary journals (R120). -/
def gateTimesOut (p : Part) (x : Commit) : Part :=
  match x.gate with
  | some g =>
    let f := x.apply + g.deadline
    raise evGateTimeout 0 g.group (gateLeaves x stTimeout f (writeJournal f x.txn x.tag (.withdraw x.jseq) p))
  | none => p

/-- A withdrawal that the journal brought a standby names the frame at which the deadline ends (R120, R122). -/
def deadlineEnds (p : Part) (x : Commit) : Bool :=
  p.pair.role == .standby && ((x.gate.map fun g => x.withdraw == some (x.apply + g.deadline)).getD false)

/-- A gated commit withdrawn from this frame or an earlier one goes (Table 4.11). -/
def gateWithdrawn (p : Part) (x : Commit) : Part :=
  if deadlineEnds p x then gateTimesOut p x else gateLeaves x stSuperseded (x.withdraw.getD 0) p

/-- Every gated commit whose withdrawal has come. -/
def gatesWithdraw (p : Part) : Part :=
  (p.txn.commits.filter fun x => x.gate.isSome && (x.withdraw.map fun f => decide (f ≤ p.fr.cfn)).getD false).foldl gateWithdrawn p

/-- Step 3 for the gated commits, after the fence decisions; a standby keeps what it started from (R288), and withdraws
nothing by its own decision (R120). -/
def gatesStep (p : Part) : Part :=
  let p0 := if p.pair.role = .standby then
      p.updPair fun y => { y with undo := some (p.fr.cfn, p.cfg, p.txn.commits) } else p
  let p1 := (p0.txn.commits.filter (gateDue p0)).foldl gateOpens p0
  if p.pair.role = .standby then p1 else (p1.txn.commits.filter (gateExpired p1)).foldl gateTimesOut p1

/-- Step 3: withdrawals, fence decisions with their timeouts, gates (log entry 69). -/
def fencesStep (fe : Nat) (p : Part) : Part :=
  let p0 := p.cfg.boundStreams.foldl returnStep (gatesWithdraw p)
  let p1 := p0.cfg.boundStreams.foldl (fenceRejoin fe) p0
  let p2 := p1.cfg.groups.keys.foldl (fun q g =>
    let r := fenceDecide fe q g
    if (r.groupRt g).due then fenceTimeout fe g q r else r) p1
  gatesStep p2

def execFenceTimeout (t group : Nat) (s : State) : Host.Outcome State Fault Refusal :=
  onPart (timed t (guarded (fun p => p.cfg.groups.has group && ((p.groupRt group).due ||
      decide (0 < (p.groupRt group).wait ∧ p.cfg.groups.getD group 3 ≤ (p.groupRt group).wait)))
    (fun p => fenceTimeout p.fr.lastFe group p p))) s

def execGateTimeout (t jseq : Nat) (s : State) : Host.Outcome State Fault Refusal :=
  onPart (timed t (guarded (fun p => p.pair.role != .standby) fun p =>
    match p.txn.commits.find? fun x => x.jseq == jseq && gateExpired p x with
    | some x => gateTimesOut p x
    | none => p)) s

/-! ### The slate -/

/-- Every stream that feeds an enabled layer in service, and there is one, is lost (Table 5.8). -/
def inputsLost (p : Part) : Bool :=
  let fed := (p.cfg.layers.map (·.2)).filter fun l => !layerSkipped p.cfg l
  let used := p.cfg.boundStreams.filter fun n => fed.any fun l => l.takesStream p.cfg n
  !used.isEmpty && used.all fun n => (p.stream n).lost

/-- Since when every used stream is lost. -/
def slateInputs (p : Part) : Part :=
  p.updComp fun c => { c with slate := { c.slate with
    lostSince := if inputsLost p then some (c.slate.lostSince.getD p.sys.now) else none } }

/-- The pin trigger as sampled at a frame event (R146). -/
def slatePin (p : Part) : Part :=
  match p.cfg.slate.pin with
  | none => p
  | some (k, high) =>
    let on := p.sys.gpioIn.getLsbD k == high
    p.updComp fun c => { c with slate := { c.slate with
      pinOn := on || c.slate.pinOn
      pinLeft := if on then none else if c.slate.pinOn then some (c.slate.pinLeft.getD p.sys.now) else none } }

/-- Triggers that hold: 0 automatic, 1 pin, 2 command (Table 5.8). -/
def slateTriggers (p : Part) : List Nat :=
  (if p.comp.slate.autoOn then [0] else []) ++ (if p.comp.slate.pinOn then [1] else []) ++ (if p.cfg.slateShow then [2] else [])

/-- Triggers by which this head brings the slate on by itself: a standby brings it on only while both pair links are lost,
and then only by its pin (R149). -/
def slateOwn (p : Part) : List Nat :=
  if p.pair.role = .standby then (slateTriggers p).filter fun k => k == 1 && !anyLinkUp p else slateTriggers p

/-- The slate comes on in this frame. -/
def slateOn (p : Part) : Part :=
  let n := p.fr.cfn
  raise evSlateOn 0 p.comp.slate.cause <| p.updComp fun c => { c with slate := { c.slate with shown := true, shownFrom := n, due := none } }

/-- The slate leaves in this frame; no trigger is left (R148). -/
def slateOff (p : Part) : Part :=
  raise evSlateOff 0 0 <| p.updComp fun c => { c with slate := { c.slate with shown := false, offDue := none, autoOn := false } }

/-- A trigger that is true brings the slate on two frames later; a primary journals that CFN (R146, R149). -/
def slateComes (cause : Nat) (p : Part) : Part :=
  let n := p.fr.cfn + 2
  writeJournal n 0 0 (.slate true) (p.updComp fun c => { c with slate := { c.slate with due := some n, cause := cause } })

/-- The slate at a frame event (R146, R148, R149). -/
def slateStep (p : Part) : Part :=
  let q := slatePin p
  let x := q.comp.slate
  let n := q.fr.cfn
  let follows := q.pair.role == .standby && anyLinkUp q
  match x.due with
  | some d => if d ≤ n then slateOn q else q
  | none => match slateOwn q with
    | c :: _ => if x.shown then q else slateComes c q
    | [] =>
      let leaves := if follows then (x.offDue.map fun d => decide (d ≤ n)).getD false else (slateTriggers q).isEmpty
      if x.shown && leaves then writeJournal n 0 0 (.slate false) (slateOff q) else q

/-- The automatic trigger may latch (Table 5.8): both conditions have held for the input delay. -/
def slateAutoDue (p : Part) : Bool :=
  let c := p.cfg.slate
  c.automatic && (p.comp.slate.lostSince.map fun x => decide (x + c.inputDelayMs * msec ≤ p.sys.now)).getD false &&
    decide (p.host.lastPacket + c.hostTimeout * sec + c.inputDelayMs * msec ≤ p.sys.now)

def execSlateAutoTrigger (t : Nat) (s : State) : Host.Outcome State Fault Refusal :=
  onPart (timed t (guarded (fun p => p.pair.role != .standby && slateAutoDue p)
    (fun p => p.updComp fun c => { c with slate := { c.slate with autoOn := true } }))) s

def execSlatePinRelease (t : Nat) (s : State) : Host.Outcome State Fault Refusal :=
  onPart (timed t (guarded
    (fun p => p.comp.slate.pinOn && (p.comp.slate.pinLeft.map fun x => decide (x + sec ≤ p.sys.now)).getD false)
    (fun p => p.updComp fun c => { c with slate := { c.slate with pinOn := false, pinLeft := none } }))) s

/-! ### Composition, light stage, furrows -/

/-- The frame before is done with: leftover lines and the estimate (R27, R172). -/
def frameEnds (s : Both) : Both :=
  let r := (scanClose s.2 s.1, s.2)
  let r := if r.1.light.scanned then estimatesDone r else r
  (r.1.updLight fun l => { l with opened := false, scanned := false, taken := false }, r.2)

/-- Step 6: limiter gains and derates (R21). -/
def lightStep (p : Part) : Part := derateFrameEvent ((List.range 64).foldl feederFrameEvent p)

/-- Shedding of interpolation follows the power manager at a frame event (R89). -/
def shedStep (p : Part) : Part :=
  let on := decide (2 ≤ p.pwr.shed)
  if on = p.pwr.frcShed then p else raise evFrcShed 0 (b2n on) (p.updPwr fun x => { x with frcShed := on })

/-- Step 7: composition starts; checksums are unavailable in a step frame and in a first frame (R130, R133). -/
def composeStarts (old : CanvasCfg) (first fresh : Bool) (p : Part) : Part :=
  let c := p.cfg
  let all := if p.fr.stepFrame || fresh then List.range (bandCount c.canvas) else []
  p.updComp fun x => { x with
    done := [], late := [], prevPlots := x.plots, plots := [], prevNoSum := x.noSum, noSum := all
    prevCanvas := if first then none else some (old.w, old.h, old.background)
    load := compLoad c, skipped := (c.layers.filter fun e => layerSkipped c e.2).map (·.1)
    behindRun := if x.behind then x.behindRun + 1 else 0, behind := false }

/-- Step 8: SOW with the CFN before, then TENURE, on every furrow this head serves (R190, R193, R225, R293). -/
def sowTenure (p : Part) : Part :=
  if inService p then
    let n := (p.fr.cfn + 2 ^ 48 - 1) % 2 ^ 48
    ((scannedFurrows p).filter fun f => (p.lane f).state == 7).foldl (fun q f =>
      let r := emit (.sow f n) (updLane f (fun l => { l with runDue := true }) q)
      if q.pair.tenureSkip = some q.fr.cfn then r else emit (.tenure f q.pair.epoch (cfnLow n)) r) p
  else p

/-! ### The pair -/

/-- A planned switch at its frame (R293). -/
def switchStep (p : Part) : Part :=
  match p.pair.switchAt with
  | none => p
  | some n =>
    if p.fr.cfn < n then p
    else
      let q := p.updPair fun x => { x with switchAt := none, switchTag := none }
      match p.pair.role with
      | .primary =>
        let r := releaseTenure (q.updPair fun x => { x with role := .standby, tenureSkip := some p.fr.cfn })
        match p.pair.switchTag with
        | some tag => finalReply tag stOk (commitBlock n) r
        | none => r
      | .standby => becomePrimary false q
      | _ => q

/-- The head is ready: it takes its role and begins its service (R406, Table 17.4). -/
def becomeReady (p : Part) : Part :=
  if p.sys.ready then p else raise evKindlingReady 0 0 (p.updSys fun y => { y with ready := true, step := 8 })

/-- BULK object numbers of the join data that a head must hold before it is ready (R160, R287; log entry 70). -/
def joinNeeds (c : Cfg) : List Nat := ((List.range 8).map (2 ^ 31 + ·)) ++ c.furrows.map fun f => 2 ^ 31 + 16 + f.1

/-- A joining head holds the join data and every entry up to the primary's JSEQ and its raster stands on the primary's (R287). -/
def joinHolds (p : Part) : Bool :=
  p.pair.role == .unsynced && p.pair.joining && p.pair.joinCfg && (joinNeeds p.cfg).all p.pair.joinGot.contains && anyLinkUp p && decide (p.pair.dfe.natAbs ≤ 40000) &&
    (p.pair.partner.map fun h => h.role == 1 && decide (h.jseq ≤ p.txn.jseq)).getD false

/-- The join ends: STANDBY, every tile marked (R287). -/
def joinStep (p : Part) : Part :=
  if joinHolds p then
    becomeReady (takeNamed (setMarks (fun _ _ _ => true) (p.updPair fun x => { x with role := .standby, joining := false, synced := true })))
  else p

/-- The mean of ΔFE over the frame's heartbeats: latch delays, or a phase step of the own raster (R289). -/
def offsetStep (p : Part) : Part :=
  if p.pair.dfeCount = 0 then p
  else
    let d := p.pair.dfeSum.tdiv p.pair.dfeCount
    let q := p.updPair fun x => { x with dfe := d, dfeSum := 0, dfeCount := 0 }
    if p.pair.role ≠ .standby ∧ !p.pair.joining then q
    else if 40000 < d.natAbs then
      if p.fr.step.isSome || p.fr.moved then q else raise evPairFeStep 0 0 (ownStep (-d) q)
    else if p.pair.role = .standby ∧ 60 < (d - p.pair.dfeSent).natAbs then
      setLatchAll (q.updPair fun x => { x with dfeSent := d })
    else q

/-- Tiles in service, and those whose STATUS shows the primary's end and epoch (R294). -/
def witnessCount (p : Part) : Nat × Nat :=
  let ts := (p.cfg.tiles.map fun e => p.tile e.1 e.2.1).filter (·.inService)
  let follows := fun (t : TileRt) => !t.silent && (t.status.map fun x =>
    !x.follow.getLsbD 1 && x.follow.getLsbD 0 == !p.sys.endB && x.epoch == p.pair.epoch).getD false
  ((ts.filter follows).length, ts.length)

/-- Consecutive frames in which the conditions of a witness claim held (R294). -/
def witnessStep (p : Part) : Part :=
  let (f, n) := witnessCount p
  let holds := p.pair.role == .standby && !anyLinkUp p && decide (0 < n) && decide (2 * f < n)
  p.updPair fun x => { x with witness := if holds then x.witness + 1 else 0, witnessCfn := p.fr.cfn }

/-- A stream shows the slot with a SEQ that the primary named, at the phase it named (R288). -/
def takeShown (p : Part) (e : SyncEntry) : Part :=
  let p1 := match (p.stream e.stream).slots.find? fun x => x.2.seq == e.seq with
    | some x => updStream e.stream (chosen x) p
    | none => p
  match p1.cfg.convOf e.stream with
  | some k => updConv k (fun r => { r with phi := e.phi }) p1
  | none => p1

/-- The frame from which the journal withdraws a commit, if it does. -/
def journalWithdrawn (p : Part) (js : Nat) : Option Nat :=
  p.txn.journal.findSome? fun e => if e.body = .withdraw js then some e.cfn else none

/-- The gates of the frame come out as the journal has them (R120, R288): the configuration from before the gates, with the
commits that the primary opened; one that it withdrew goes. -/
def gatesCorrect (n : Nat) (p : Part) : Part :=
  let ours := (p.pair.gatesOpened.filter fun e => e.1 == n).map (·.2)
  let theirs := (p.pair.peerGates.filter fun e => e.1 == n).map (·.2)
  match p.pair.undo with
  | some (m, c, cs) =>
    if m ≠ n ∨ ours = theirs then p
    else
      let back := (cs.filter fun x => ours.contains x.jseq && !theirs.contains x.jseq).map fun x =>
        { x with withdraw := journalWithdrawn p x.jseq }
      let opened := (cs.filter fun x => theirs.contains x.jseq)
      let q := (p.updCfg fun _ => c).updTxn fun t => { t with commits := back ++ t.commits }
      gatesWithdraw ((opened.foldl (fun r x => commitStands n r x) q).updPair fun y =>
        { y with gatesOpened := theirs.map fun j => (n, j) })
  | none => p

/-- A SYNC that came late corrects the state at the next frame event (R288). -/
def lateStep (p : Part) : Part :=
  match p.pair.missed with
  | none => p
  | some n =>
    let q := if p.pair.syncSeen = some n then p.pair.lateSync.foldl takeShown (gatesCorrect n p) else p
    q.updPair fun y => { y with missed := none, lateSync := [] }

/-- What this head shows of a stream, as SYNC carries it (R288). -/
def syncEntries (p : Part) : List SyncEntry :=
  p.cfg.boundStreams.filterMap fun n => (p.stream n).choice.map fun _ =>
    { stream := n, phi := ((p.cfg.convOf n).map fun k => (p.conv k).phi).getD 0, seq := (p.stream n).choiceSeq }

/-- A yielding head has recovered: no fault stands, it has root lock, and it is cool again (R292, R419). -/
def yieldStep (p : Part) : Part :=
  if p.pair.role = .yielding ∧ p.sys.faults = 0 ∧ !p.hrt.split ∧ !p.pwr.thermal then unyield p else p

/-- SYNC, by the primary (R288). -/
def syncStep (p : Part) : Part :=
  if p.pair.role = .primary then toPartner p.fr.cfn (.sync (syncEntries p)) p else p

/-- What the pair's bookkeeping keeps from one frame to the next. -/
def pairFrame (p : Part) : Part :=
  let n := p.fr.cfn
  p.updPair fun y => { y with
    undo := none
    gatesOpened := y.gatesOpened.filter fun e => decide (n ≤ e.1)
    peerGates := y.peerGates.filter fun e => decide (n ≤ e.1 + 1)
    peerSums := y.peerSums.filter fun e => decide (n ≤ e.1 + 1) }

/-! ### FE(N) -/

/-- Steps 1 to 3 of Table 1.4. -/
def firstSteps (fe n : Nat) (p : Part) : Part :=
  let p1 := lateStep (absorbStep (cfnAdvances fe n p))
  let p2 := pairFrame (joinStep (switchStep (yieldStep (offsetStep p1))))
  fencesStep fe (plannedFrameEvent (shedStep (commitsApply fe p2)))

/-- Steps 4 to 6. -/
def middleSteps (prevFe fe : Nat) (old : Cfg) (p : Part) : Part :=
  let p1 := p.cfg.boundStreams.foldl (streamFrameEvent fe) (slateStep p)
  let p2 := slateInputs (p1.cfg.frc.foldl (convFrameEvent fe) p1)
  lightStep (audioFrameEvent prevFe fe old p2)

/-- Steps 7 to 9, with the ledger's schedule, the monitors, and the clock output units. -/
def lastSteps (hbm : Memory) (fe : Nat) (old : Cfg) (first fresh : Bool) (p : Part) : Part :=
  let p1 := ledgerSchedule (composeStarts old.canvas first fresh (monitorCapture hbm old first p))
  let p2 := couFrameEvent p.fr.moved fe (tbFrameEvent (monitorDue fe (wearDone p1)))
  let p3 := witnessStep (syncStep (sowTenure p2))
  if p3.perf.snapFe then takeSnapshot p3 else p3

/-- The frame event (R21). -/
def frameEvent (s : Both) : Both :=
  let p := s.1
  let n := nextCfn p
  let fe := feInstant p n
  let fresh := decide (n = p.fr.originCfn)
  let (p0, hbm) := frameEnds (advance fe p, s.2)
  (lastSteps hbm fe p.cfg p.fr.first fresh (middleSteps p.fr.lastFe fe p.cfg (firstSteps fe n p0)), hbm)

/-- The raster runs: no frame event occurs while the pixel domain is gated (R20). -/
def rasterRuns (p : Part) : Bool := p.alive && p.fr.started && p.tb.rootLock && !p.sys.stopped

def execFrameEvent (gpio : BitVec 16) (s : State) : Host.Outcome State Fault Refusal :=
  if rasterRuns s.m then
    let r := frameEvent (s.m.updSys fun y => { y with gpioIn := gpio }, s.hbm)
    .next { s with m := r.1, hbm := r.2 }
  else .next s

end Sys2Proof.Machine
end

