-- ==== Sys2Proof/Machine/Join.lean ====
section
/-! DEFINITION. What a primary sends a joining head (R287; log entry 70): its configuration as command packets, its commits,
transactions, tags, bank bits and gains; and the role a head takes at READY (R277). -/

namespace Sys2Proof.Machine

open Sys2Proof

/-! ### The configuration as packets -/

/-- A packet that carries a layout between the heads. -/
def plainPacket (b : List Byte) : CmdPkt :=
  { uart := false, flags := 0, hver := 1, tag := 0, paramLen := BitVec.ofNat 16 b.length, txn := 0, crc := 0, params := b }

def encStreamBind (n : Nat) : Binding → Option (Nat × List Byte)
  | .sdi i l d => some (0x0201, [n, i, l, d].map (BitVec.ofNat 8 ·))
  | .ip b => some (0x0202, encIpBind n b)
  | .unbound => none

def encEth (n : Nat) (e : EthCfg) : List Byte :=
  le 2 n ++ le 2 e.vlan ++ e.ipv4 ++ le 1 e.plen4 ++ le 1 e.plen6 ++ le 2 0 ++ e.ipv6

def encSlate (s : SlateCfg) : List Byte :=
  encNoneHalf s.still ++ le 2 s.sx ++ le 2 s.sy ++ le 2 0 ++ encRgba s.background ++ le 2 s.blinkMs ++ le 1 (b2n s.automatic) ++
    le 1 (match s.pin with | some (k, h) => 128 + k + 16 * b2n h | none => 0) ++ le 2 s.hostTimeout ++ [0, 0] ++ le 4 s.inputDelayMs

def encCou (n : Nat) (c : CouCfg) : List Byte :=
  le 1 n ++ le 1 (b2n c.enable) ++ le 1 (b2n c.free) ++ [0] ++ le 2 (if n < 4 then c.n else 0) ++ le 2 c.delay ++
    le 4 (if n < 4 then c.f else 0) ++ le 4 (if n < 4 then c.m else 0) ++ le 4 c.seed.toNat

/-- Entries of a furrow's map as one TILEMAP_SET. -/
def encMap (n mode : Nat) (m : Tab TileEntry) : Nat × List Byte :=
  (0x0703, le 1 n ++ le 1 mode ++ le 1 m.length ++ [0] ++ m.flatMap encMapEntry)

/-- The map of a furrow: one TILEMAP_SET that replaces it, and for a map of more than 203 tiles one that merges the rest (Table
14.12). -/
def encMaps (n : Nat) (m : Tab TileEntry) : List (Nat × List Byte) :=
  encMap n 0 (m.take 203) :: if m.length ≤ 203 then [] else [encMap n 1 (m.drop 203)]

def inputPackets (c : Cfg) : List (Nat × List Byte) :=
  (c.groups.map fun e => (0x0106, le 2 e.1 ++ le 1 e.2 ++ [0])) ++ [(0x0107, [c.did, c.sdid, 0, 0])] ++
  (c.streams.flatMap fun e => (encStreamBind e.1 e.2.bind).toList ++ if e.2.bound then [(0x0203, encStreamParams e.1 e.2.par)] else []) ++
  (c.audFlows.map fun e => (0x0205, encAudFlow e.1 e.2)) ++ (c.ancFlows.map fun e => (0x0206, encAncFlow e.1 e.2)) ++
  (c.eth.map fun e => (0x0207, encEth e.1 e.2)) ++
  [(0x0208, le 1 c.ptp.port ++ encNoneByte c.ptp.backup ++ le 1 c.ptp.domain ++ [0])] ++
  (c.frc.map fun e => (0x0301, encFrcSet e.1 e.2))

def picturePackets (c : Cfg) : List (Nat × List Byte) :=
  [(0x0501, encCanvas c.canvas)] ++ (c.coefs.map fun e => (0x0405, le 1 e.1 ++ [0, 0, 0] ++ e.2)) ++
  (c.regions.map fun e => (0x0401, encRegion e.1 e.2)) ++ (c.layers.map fun e => (0x0403, encLayer e.1 e.2)) ++
  [(0x0502, le 1 (b2n c.lowlat.enable) ++ le 1 c.lowlat.lead ++ le 2 c.lowlat.lag),
   (0x0503, le 1 (b2n c.hold.enable) ++ le 1 c.hold.still ++ le 1 c.hold.errorRefresh ++ [0] ++ le 4 c.hold.refreshMs)] ++
  (c.mon.map fun e => (0x0504, encMon e.1 e.2)) ++ [(0x0505, encSlate c.slate), (if c.slateShow then 0x0506 else 0x0507, [])]

def outputPackets (c : Cfg) : List (Nat × List Byte) :=
  [(0x0601, encLight c.light)] ++ (c.types.map fun e => (0x0602, le 1 e.1 ++ [0, 0, 0] ++ e.2)) ++
  (c.feeders.map fun e => (0x0606, encFeeder e.1 e.2)) ++ [(0x0702, le 4 c.latchUs)] ++
  (c.furrows.flatMap fun e => (0x0701, encFurrow e.1 e.2) :: encMaps e.1 e.2.map) ++
  (c.chans.map fun e => (0x0801, encChan e.1 e.2)) ++ (c.ports.map fun e => (0x0802, encPort e.1 e.2)) ++
  (c.mclk.map fun e => (0x0803, le 1 e.1 ++ [0, 0, 0] ++ le 4 e.2)) ++ [(0x0804, le 1 c.zcMs ++ [0, 0, 0])] ++
  (c.slots.map fun e => (0x0901, encSlot e.1 e.2)) ++ [(0x0902, encTbSet c.tb)] ++ (c.cou.map fun e => (0x0904, encCou e.1 e.2))

/-- The configuration in force as the packets that set it. -/
def configPackets (c : Cfg) : List (Nat × CmdPkt) :=
  (inputPackets c ++ picturePackets c ++ outputPackets c).map fun e => (e.1, plainPacket e.2)

/-- The configuration that some packets set on the defaults. -/
def configFrom (cmds : List (Nat × CmdPkt)) : Cfg :=
  cmds.foldl (fun c k => match parseConfig k.1 k.2 with
    | .ok x => applyLenient 0 c x
    | .error _ => c) {}

/-! ### Join data -/

/-- A pending commit as its journal entry. -/
def commitEntry (x : Commit) : JournalEntry :=
  { jseq := x.jseq, txn := x.txn, cfn := x.apply, tag := x.tag,
    body := .seal (x.cmds.map fun c => (c.opcode, c.pkt)) (journalGate x.gate) }

def owedCode : Option OwedKind → Nat
  | none => 0
  | some .commit => 1
  | some .load => 2
  | some .other => 3

def owedOf : Nat → Option OwedKind
  | 1 => some .commit
  | 2 => some .load
  | 3 => some .other
  | _ => none

def tagBulk (e : TagEntry) : TagBulk :=
  { tag := e.tag, opcode := e.opcode, crc := e.crc, flags := e.flags, reply := e.reply, owes := owedCode e.owes }

/-- An address of the calibration banks or the ledger (Table 16.3). -/
def onBoard (a : Nat) : Bool := decide (0x80000000 ≤ a ∧ a < 0x1A0000000)

def slateBulk (x : SlateRt) : BulkData := .slate x.shown x.shownFrom x.autoOn x.cause x.due x.offDue

/-- Everything a joining head takes by BULK, object by object (R160, R287; log entry 70). -/
def joinData (hbm : Memory) (p : Part) : List BulkData :=
  [.config (configPackets p.cfg) p.txn.jseq, .commits (p.txn.commits.map commitEntry),
   .transactions (p.txn.open_.map fun e => (e.1, e.2.idle, e.2.staged.map fun s => (s.opcode, s.pkt))),
   .tags (p.host.tags.map tagBulk),
   .gains ((List.range 64).map fun k => (p.feeder k).g), slateBulk p.comp.slate,
   .objects (p.comp.objs.map fun o => (o.1, (o.2.clip, o.2.compressed, o.2.straight), o.2.w, o.2.h, o.2.frames)),
   .image ((hbm.filter fun c => onBoard c.1).map fun c => (c.1, c.2))] ++
  (p.cfg.furrows.map fun f => .bankBits f.1 (f.2.map.keys.map fun k => (k, (p.tile f.1 k).bank))) ++
  p.comp.objs.flatMap fun o => o.2.data.map fun d => .object d.1 d.2

/-- BULK object number of an item of the join data. -/
def joinObject : BulkData → Nat
  | .config _ _ => 2 ^ 31
  | .commits _ => 2 ^ 31 + 1
  | .transactions _ => 2 ^ 31 + 2
  | .tags _ => 2 ^ 31 + 3
  | .gains _ => 2 ^ 31 + 4
  | .slate .. => 2 ^ 31 + 5
  | .objects _ => 2 ^ 31 + 6
  | .image _ => 2 ^ 31 + 7
  | .bankBits f _ => 2 ^ 31 + 16 + f
  | _ => 2 ^ 31 + 8

/-- The primary sends the join data once to each head that joins, each item in one message whatever frames carry it (R287). -/
def sendJoin (hbm : Memory) (p : Part) : Part :=
  (joinData hbm p).foldl (fun q d => sendAcked 7 (joinObject d) (.bulk (joinObject d) (joinObject d) d) q)
    (p.updPair fun x => { x with joinSent := true })

/-! ### The role at READY -/

/-- The newest epoch that a tile's STATUS shows, plus 1; 1 where none does (R277). -/
def firstEpoch (p : Part) : Half :=
  let es := (p.cfg.tiles.map fun e => p.tile e.1 e.2.1).filterMap fun t => t.status.map (·.epoch)
  match es with
  | [] => 1
  | e :: r => r.foldl (fun a b => if serialNewer 16 b.toNat a.toNat then b else a) e + 1

/-- Staged commands from the packets of a SEAL entry. -/
def stagedOf (cmds : List (Nat × CmdPkt)) : List Staged :=
  cmds.filterMap fun e => match parseConfig e.1 e.2 with
    | .ok c => some { tag := e.2.tag, opcode := e.1, pkt := e.2, cmd := c }
    | .error _ => none

/-- A commit of the boot configuration applies at CFN 0 (R412). -/
def bootCommit (x : Commit) : Commit := { x with apply := 0 }

/-- The commands of the boot configuration that wait for step 8 are sealed as one transaction with apply CFN 0; a seal that
fails R117 applies nothing and is reported (R412). -/
def sealBoot (p : Part) : Part :=
  let q := p.updSys fun y => { y with bootCmds := [] }
  let cmds := stagedOf p.sys.bootCmds
  if cmds.isEmpty then q
  else match judgeSeal q 0 0 cmds none (some 0) with
    | .error _ => report blkKiln 0 0x8000 1 0 0 q
    | .ok s => sealCommit { s with commit := bootCommit s.commit } q

/-- The head is PRIMARY at READY: it drives PAIR_TENURE, its raster starts at CFN 0 (R19, R277). -/
def primaryAtReady (p : Part) : Part :=
  let p1 := p.updPair fun x => { x with role := .primary, epoch := firstEpoch p, driveTenure := true, readTenureLow := true }
  let p2 := sealBoot (startRaster 0 p1)
  becomeReady (setMarks (fun _ _ _ => true) p2)

/-- The head joins its partner before it is ready (R277, R287). -/
def joinAtReady (p : Part) : Part :=
  p.updPair fun x => { x with role := .unsynced, joining := true, joinCfg := false, joinGot := [] }

/-- UNSYNCED and isolated: ready, out of service (R277). -/
def isolatedAtReady (p : Part) : Part :=
  becomeReady (setLevel evPairIsolated 0 true (p.updPair fun x => { x with role := .unsynced }))

/-- The role is still open: step 8 runs and no role has been taken. -/
def roleOpen (p : Part) : Bool := p.sys.step == 8 && !p.sys.stopped && !p.sys.ready && p.pair.role == .kindling

/-- Takes the first outcome of Table 11.3 that fits; `waited` once the join wait has ended. -/
def joinDecide (waited : Bool) (p : Part) : Part :=
  if !roleOpen p then p
  else
    match (if anyLinkUp p then p.pair.partner else none) with
    | some h =>
      if h.role = 1 ∨ h.role = 2 then joinAtReady p
      else if h.role = 0 ∨ h.role = 3 then (if p.sys.endB then joinAtReady p else primaryAtReady p)
      else primaryAtReady p
    | none =>
      if !waited then p
      else if p.pair.readTenureLow then isolatedAtReady p
      else primaryAtReady p

def execJoinWaitExpiry (t : Nat) (s : State) : Host.Outcome State Fault Refusal :=
  onPart (timed t (guarded (fun p => roleOpen p && decide (p.sys.stepAt + p.pair.cfg.joinWaitMs * msec ≤ p.sys.now)) (joinDecide true))) s

end Sys2Proof.Machine
end

