-- ==== Sys2Proof/Machine/Pairing.lean ====
section
/-! DEFINITION. Pair operation (chapter 11): links and heartbeats (R280, R282, R289), the frames that keep a standby in step
(R283 to R288), the shadow check (R291), and switchover (R292 to R295). -/

namespace Sys2Proof.Machine

open Sys2Proof

/-! ### Heartbeats out -/

/-- The heartbeat of a link as it leaves now (Table 11.6). -/
def heartbeatNow (b : Bool) (p : Part) : Heartbeat :=
  let l := p.pairLink b
  let (w1, w2, w3, w4) := tenureCounts p
  { role := roleCode p.pair.role, endB := p.sys.endB, epoch := p.pair.epoch, pins := BitVec.ofNat 8 (pairPins p)
    tb := BitVec.ofNat 8 (tbByte p), health := BitVec.ofNat 8 (health p), jseq := p.txn.jseq, txTime := p.sys.now
    echoTime := l.lastHb, echoDwell := p.sys.now - l.arrived, feCfnLow := cfnLow p.fr.cfn, lastFe := p.fr.lastFe
    witness := [w1, w2, w3, w4] }

/-- Sends a heartbeat on a link (R282); it also leaves on a link that is not UP, so that the partner can count eight. -/
def heartbeatOut (p : Part) (b : Bool) : Part :=
  sendPair b p.fr.cfn (.heartbeat (heartbeatNow b p)) (updPairLink b (fun l => { l with lastTx := p.sys.now }) p)

def execHeartbeatSend (t : Nat) (s : State) : Host.Outcome State Fault Refusal :=
  onPart (timed t (guarded (fun p => p.tb.rootLock && decide (7 ≤ p.sys.step) && !p.sys.stopped)
    (fun p => heartbeatOut (heartbeatOut p false) true))) s

/-! ### Links -/

/-- Releases what waits for a partner that is gone: replies held for a mirror, final replies of OBJ_LOAD (R284, R359). -/
def releaseWaits (p0 : Part) : Part :=
  let p := releaseJoin (p0.updPair fun x => { x with joinSent := false })
  let p1 := p.pair.waits.foldl (fun q w => sendReply w.reply (mirrorStale q)) (p.updPair fun x => { x with waits := [] })
  p1.pair.bulkWaits.foldl (fun q w => finalReply w.1 stOk [] q) (p1.updPair fun x => { x with bulkWaits := [] })

/-- No link is UP any more (R284, R292, R294). -/
def allLinksLost (p : Part) : Part :=
  let p1 := releaseWaits p
  match p1.pair.role with
  | .primary => setLevel evPairIsolated 0 true p1
  | .standby => if !p1.pair.readTenureLow && !p1.pair.wireFault then becomePrimary false p1 else p1
  | .unsynced => if !p1.pair.readTenureLow && !p1.pair.wireFault then becomeReady (becomePrimary false p1) else p1
  | _ => p1

/-- A link leaves UP, or stops counting towards it (R280). -/
def linkLost (b : Bool) (p : Part) : Part :=
  let was := (p.pairLink b).up
  let p1 := updPairLink b (fun l => { l with up := false, hbRun := 0, unacked := [] }) p
  if !was then p1
  else
    let p2 := raise evPairLinkLost (b2n b) 0 p1
    if anyLinkUp p2 then p2 else allLinksLost p2

def execPairLinkLost (t : Nat) (linkB : Bool) (s : State) : Host.Outcome State Fault Refusal :=
  onPart (timed t (linkLost linkB)) s

/-- Journal entries that the partner has not, sent again where they are held (R283, R295). -/
def replayJournal (theirs : Nat) (p : Part) : Part :=
  (p.txn.journal.filter fun e => decide (theirs < e.jseq)).foldl (fun q e => sendAcked 3 e.jseq (.journal e) q) p

/-- Packages that the partner does not hold go to it again (R158). -/
def resendStale (p : Part) : Part :=
  p.txn.stale.foldl (fun r l => sendPackage l r) (p.updTxn fun x => { x with stale := [] })

/-- A link comes UP (R280, R295). -/
def linkUp (b : Bool) (hb : Heartbeat) (p : Part) : Part :=
  let first := !anyLinkUp p
  let p1 := raise evPairLinkUp (b2n b) 0 (updPairLink b (fun l => { l with up := true }) p)
  let p2 := setLevel evPairIsolated 0 false p1
  if first && p2.pair.role == .primary && hb.role == 2 then replayJournal hb.jseq (resendStale p2)
  else if p2.pair.role = .standby ∧ hb.role = 1 then
    if p2.txn.jseq + 4096 < hb.jseq then losesStep p2
    else if first then p2.updPair fun x => { x with replayTo := hb.jseq }
    else p2
  else p2

/-- A valid heartbeat on a link: the eighth in a row brings it UP (R280). -/
def linkHeard (b : Bool) (hb : Heartbeat) (p : Part) : Part :=
  let l := p.pairLink b
  let run := if l.hbRun = 0 ∨ l.arrived + 52 * usec < p.sys.now then 1 else l.hbRun + 1
  let q := updPairLink b (fun l => { l with hbRun := run, lastHb := hb.txTime, arrived := p.sys.now }) p
  let lanes := laneWorks p (144 + 2 * b2n b) && laneWorks p (145 + 2 * b2n b)
  if !l.up && lanes && decide (8 ≤ run) then linkUp b hb q else q

/-! ### Heartbeats in -/

/-- The offset of the partner's counter, and ΔFE of the same CFN, from one heartbeat (R289). -/
def offsetMeasured (b : Bool) (hb : Heartbeat) (p : Part) : Part :=
  let lowest := if (p.pairLink false).up then !b else b
  if !lowest || !(p.pairLink b).up || hb.echoTime == 0 || !p.fr.started then p
  else
    let theta := (((hb.txTime : Int) - hb.echoDwell - hb.echoTime) - ((p.sys.now : Int) - hb.txTime)).tdiv 2
    let ahead := (hb.feCfnLow - cfnLow p.fr.cfn).toInt
    let own : Int := (p.fr.lastFe : Int) + ahead * framePeriod p.cfg.canvas
    let dfe := own - ((hb.lastFe : Int) - theta)
    p.updPair fun x => { x with theta := theta, dfeSum := x.dfeSum + dfe, dfeCount := x.dfeCount + 1 }

/-- A joining head counts on from the partner's CFN, on the partner's raster (R19, R287). -/
def joinRaster (cfn : Nat) (hb : Heartbeat) (p : Part) : Part :=
  if hb.echoTime = 0 then p
  else
    let theta := (((hb.txTime : Int) - hb.echoDwell - hb.echoTime) - ((p.sys.now : Int) - hb.txTime)).tdiv 2
    let fe : Int := (hb.lastFe : Int) - theta
    if p.fr.started && decide (cfn ≤ p.fr.cfn + 1) && decide (p.fr.cfn ≤ cfn + 1) then p
    else p.updFr fun f => { f with
      started := true, first := true, cfn := cfn + 1, lastFe := fe.toNat, origin := fe + framePeriod p.cfg.canvas
      originCfn := cfn + 1, step := none }

/-- Two primaries meet again (R295). -/
def reMeet (hb : Heartbeat) (p : Part) : Part :=
  let stays := serialNewer 16 p.pair.epoch.toNat hb.epoch.toNat || (p.pair.epoch == hb.epoch && !p.sys.endB)
  if stays then p.updPair fun x => { x with split := false } else demoted hb.epoch p

/-- The pins that a heartbeat reports as read agree with the drives of both heads (R292). -/
def pinsAgree (p : Part) (hb : Heartbeat) : Bool :=
  bit hb.pins.toNat 1 == (p.pair.driveTenure || bit hb.pins.toNat 0) && bit hb.pins.toNat 3 == (p.pair.driveYield || bit hb.pins.toNat 2)

/-- The wait of Table 11.9 for a heartbeat is over: the wire is faulty, or the role is taken. -/
def tenureHeard (hb : Heartbeat) (p : Part) : Part :=
  if p.pair.tenureWait.isNone then p
  else if hb.role = 1 ∧ bit hb.pins.toNat 0 then
    raise evPairWireFault 0 0 (p.updPair fun x => { x with tenureWait := none, wireFault := true, pinsOkSince := none })
  else becomePrimary false p

/-- A standby follows the slot in use of its primary, from the first heartbeat that names it as such (R290). -/
def followSlot (before : Option Heartbeat) (hb : Heartbeat) (p : Part) : Part :=
  if (before.map fun h => (h.role, hbSlot h)) = some (hb.role, hbSlot hb) then p else takeNamed p

/-- What a heartbeat means for this head's role (R277, R287, R290, R292, R295). -/
def roleHeard (hbm : Memory) (before : Option Heartbeat) (cfn : Nat) (hb : Heartbeat) (p : Part) : Part :=
  match p.pair.role with
  | .primary =>
    if hb.role = 1 then reMeet hb p
    else if hb.role = 3 ∧ !p.pair.joinSent then sendJoin hbm p
    else if hb.role = 2 then releaseJoin (p.updPair fun x => { x with joinSent := false, synced := true, staleRaised := x.staleRaised && x.synced })
    else p
  | .standby =>
    if hb.role = 4 then becomePrimary false p
    else
      let q := tenureHeard hb p
      if q.pair.role = .standby ∧ hb.role = 1 then followSlot before hb (q.updPair fun x => { x with epoch := hb.epoch }) else q
  | .unsynced =>
    if hb.role = 4 then becomeReady (becomePrimary false p)
    else
      let q := tenureHeard hb p
      if q.pair.role = .unsynced ∧ hb.role = 1 then
        joinRaster cfn hb (q.updPair fun x => { x with epoch := hb.epoch, joining := true })
      else q
  | .kindling => joinDecide false p
  | .yielding => p

/-- A heartbeat arrives (R280, R282). -/
def heartbeatReceived (hbm : Memory) (b : Bool) (cfn : Nat) (hb : Heartbeat) (p : Part) : Part :=
  let before := p.pair.partner
  let p1 := linkHeard b hb p
  let p2 := pinsFollow (p1.updPair fun x => { x with
    partner := some hb, partnerCfn := cfn
    pinsOkSince := if !x.wireFault || !pinsAgree p1 hb then none else some (x.pinsOkSince.getD p1.sys.now) })
  let p3 := offsetMeasured b hb p2
  if anyLinkUp p3 then roleHeard hbm before cfn hb p3 else p3

def execHeartbeatReceived (t : Nat) (linkB : Bool) (cfn : Nat) (hb : Heartbeat) (s : State) : Host.Outcome State Fault Refusal :=
  onPartMem (fun hbm _ => timed t (guarded (fun p => p.tb.rootLock) (heartbeatReceived hbm linkB cfn hb))) s

/-! ### Acknowledgements -/

/-- A frame was acknowledged on a link (R283): a mirrored command's reply goes out, an OBJ_LOAD is done (R284, R359). -/
def ackReceived (b : Bool) (kind seq : Nat) (p : Part) : Part :=
  let p1 := updPairLink b (fun l => { l with unacked := l.unacked.filter fun f => !(f.kind == kind && f.seq == seq) }) p
  if kind = 2 then
    let due := p1.pair.waits.filter fun w => w.mseq == seq
    due.foldl (fun q w => configReply w.reply q) (p1.updPair fun x => { x with waits := x.waits.filter fun w => w.mseq != seq })
  else if kind = 7 then
    let due := p1.pair.bulkWaits.filter fun w => w.2 == seq
    due.foldl (fun q w => finalReply w.1 stOk [] q) (p1.updPair fun x => { x with bulkWaits := x.bulkWaits.filter fun w => w.2 != seq })
  else p1

def execPairAckReceived (t : Nat) (linkB : Bool) (kind seq : Nat) (s : State) : Host.Outcome State Fault Refusal :=
  onPart (timed t (guarded (fun p => (p.pairLink linkB).up) (ackReceived linkB kind seq))) s

/-- A frame that no acknowledgement has reached within 20 µs is sent again (R283). -/
def pairResend (b : Bool) (kind seq : Nat) (p : Part) : Part :=
  let due := fun (f : PairFrame) => f.kind == kind && f.seq == seq && decide (f.sentAt + 20 * usec ≤ p.sys.now)
  let l := p.pairLink b
  if l.up then
    (l.unacked.filter due).foldl (fun q f => sendPair b p.fr.cfn f.what q)
      (updPairLink b (fun l => { l with unacked := l.unacked.map fun f => if due f then { f with sentAt := p.sys.now } else f }) p)
  else p

def execPairResend (t : Nat) (linkB : Bool) (kind seq : Nat) (s : State) : Host.Outcome State Fault Refusal :=
  onPart (timed t (pairResend linkB kind seq)) s

/-- The mirror timeout: the reply goes out, and the standby is out of date (R284). -/
def mirrorTimesOut (mseq : Nat) (p : Part) : Part :=
  let due := p.pair.waits.filter fun w => w.mseq == mseq && decide (w.deadline ≤ p.sys.now)
  due.foldl (fun q w => configReply w.reply (mirrorStale q))
    (p.updPair fun x => { x with waits := x.waits.filter fun w => !due.contains w })

def execMirrorTimeout (t mseq : Nat) (s : State) : Host.Outcome State Fault Refusal :=
  onPart (timed t (mirrorTimesOut mseq)) s

def execPairFrameDiscarded (t : Nat) (linkB : Bool) (s : State) : Host.Outcome State Fault Refusal :=
  onPart (timed t (count blkPair (b2n linkB) 0)) s

/-! ### Frames at the standby -/

/-- This head takes the primary's frames: a standby, or a head that holds the configuration it joins with. -/
def inStep (p : Part) : Bool := p.pair.role == .standby || (p.pair.role == .unsynced && p.pair.joining && p.pair.joinCfg)

/-- Rule and handler of a mirrored opcode (R284). -/
def mirroredCommand (op : Nat) : Option (OpRule × Handler) :=
  if op = 0x0101 then some (ruleTxn, txnOpen)
  else if op = 0x0102 then some ({ ruleTxn with seal_ := true }, txnSeal)
  else if op = 0x0103 then some (ruleTxn, txnAbort)
  else if op = 0x0407 then some (ruleMirrored, parsed (fun b => if b.length = 16 then .ok b else badParam noOffset) objAlloc)
  else if op = 0x0408 then some (ruleMirrored, objLoad)
  else if op = 0x0409 then some (ruleMirrored, parsed (fun b => layout b 4 [] (leAt b 0 2)) objRelease)
  else if op = 0x0603 then some ({ cls := .load, mirrored := true }, pkgLoad [])
  else if op = 0x0903 then some (ruleMirrored, parsed (fun b => layout b 4 [] (leIntAt b 0 4)) tbSteer)
  else if op = 0x0A01 then some (ruleMirrored, parsed parsePairSet pairSet)
  else if (configParser op).isSome then some (ruleConfig, configCommand op)
  else none

/-- A mirrored command is checked and staged as the primary did; a different result loses step (R284). -/
def mirrorTaken (op : Nat) (k : CmdPkt) (p : Part) : Part :=
  match mirroredCommand op with
  | none => losesStep p
  | some (r, h) =>
    let k' := { k with flags := k.flags &&& 0xF7 }
    let (a, q) := handle r h k' p
    let st := settle q a.status
    let q1 := recordTag { tag := k.tag, opcode := op, crc := k.crc, uart := k.uart, flags := k'.flags,
                          reply := some (BitVec.ofNat 16 st, a.params), owes := a.owes } q
    if accepted st then q1 else losesStep q1

/-- The first copy of a frame is acted on, and every copy acknowledged (R283). -/
def acted (b : Bool) (kind seq : Nat) (f : Part → Part) (p : Part) : Part :=
  let q := if p.pair.seen.contains (kind, seq) then p
    else f (p.updPair fun x => { x with seen := (x.seen ++ [(kind, seq)]).drop (x.seen.length + 1 - 4096) })
  sendPair b p.fr.cfn (.ack kind seq) q

def execMirrorReceived (t : Nat) (linkB : Bool) (mseq opcode : Nat) (pkt : CmdPkt) (s : State) : Host.Outcome State Fault Refusal :=
  onPart (timed t (guarded (fun p => (p.pairLink linkB).up && inStep p && !p.hrt.kilnReset)
    (acted linkB 2 mseq (mirrorTaken opcode pkt)))) s

/-! #### The journal -/

def gateFrom (g : Option (Nat × Word × Nat)) : Option Gate := g.map fun x => { group := x.1, tag := x.2.1, deadline := x.2.2 }

/-- A seal from the journal becomes a pending commit (R120). -/
def sealFrom (e : JournalEntry) (cmds : List (Nat × CmdPkt)) (gate : Option (Nat × Word × Nat)) (p : Part) : Part :=
  let staged := stagedOf cmds
  let x : Commit := { jseq := e.jseq, txn := e.txn, tag := e.tag, cmds := staged, apply := e.cfn, gate := gateFrom gate,
                      touches := touches e.cfn (staged.map (·.cmd)) (projected p e.cfn) }
  addCommit x p

/-- The frame of a journal entry has begun on a standby, which can no longer follow it (R295). -/
def entryLate (e : JournalEntry) (p : Part) : Bool := p.pair.role == .standby && p.fr.started && decide (e.cfn ≤ p.fr.cfn)

/-- A seal: the apply CFN that this head computed must agree, and must not have passed (R284, R295). -/
def journalSeal (e : JournalEntry) (cmds : List (Nat × CmdPkt)) (gate : Option (Nat × Word × Nat)) (p : Part) : Part :=
  let mine := p.txn.expect.find? fun x => x.1 == e.tag && x.2.1 == e.txn
  let q := p.updTxn fun x => { x with expect := x.expect.filter fun y => !(y.1 == e.tag && y.2.1 == e.txn) }
  if (mine.any fun x => x.2.2 != e.cfn) || (gate.isNone && entryLate e p) then losesStep q
  else sealFrom e cmds gate q

/-- A withdrawal: a commit without a gate goes at once, a gated one at FE(F) (Table 4.11). -/
def journalWithdraw (e : JournalEntry) (js : Nat) (p : Part) : Part :=
  match p.txn.commits.find? fun x => x.jseq == js with
  | none => p
  | some x =>
    if x.gate.isSome then
      let q := p.updTxn fun t => { t with commits := t.commits.map fun y => if y.jseq = js then { y with withdraw := some e.cfn } else y }
      if e.cfn ≤ p.fr.cfn then gatesWithdraw q else q
    else gateLeaves x stSuperseded e.cfn p

/-- The bands of the present frame are discarded and composed again (R288). -/
def composeAgain (p : Part) : Part := p.updComp fun c => { c with done := [], plots := [] }

/-- The trigger behind a slate that the primary brings on: a SLATE entry names none, so that with neither the command nor the
pin true here it is the automatic one, latched (R146, R149; log entry 135). -/
def slateCause (p : Part) : Part :=
  p.updComp fun c => { c with slate := { c.slate with
    autoOn := c.slate.autoOn || !(p.cfg.slateShow || c.slate.pinOn)
    cause := if p.cfg.slateShow then 2 else if c.slate.pinOn then 1 else 0 } }

/-- A change of the slate at a CFN; one that has come already acts in the frame that runs (R149). -/
def journalSlate (on : Bool) (cfn : Nat) (p : Part) : Part :=
  if cfn ≤ p.fr.cfn then
    if on == p.comp.slate.shown then p else composeAgain (if on then slateOn (slateCause p) else slateOff p)
  else if on then slateCause (p.updComp fun c => { c with slate := { c.slate with due := some cfn } })
  else p.updComp fun c => { c with slate := { c.slate with offDue := some cfn } }

/-- A load is sealed: its package applies at the CFN (R158). -/
def journalLoad (package : Word) (cfn : Nat) (p : Part) : Part :=
  match p.txn.loads.find? fun l => l.package == package && l.state == 1 with
  | none => p
  | some l => p.updTxn fun x => { x with
      loads := x.loads.map fun y => if y.tag == l.tag then { y with state := 2, apply := cfn } else y
      wear := if l.kind = 1 then x.wear else x.wear ++ [{ tag := l.tag, kind := l.kind, bytes := l.bytes, apply := cfn }] }

/-- What a journal entry makes this head do (Table 11.7). -/
def journalTaken (e : JournalEntry) (p : Part) : Part :=
  match e.body with
  | .seal cmds gate => journalSeal e cmds gate p
  | .withdraw js => journalWithdraw e js p
  | .gateOpen js => p.updPair fun x => { x with peerGates := x.peerGates ++ [(e.cfn, js)] }
  | .phaseStep d =>
    if entryLate e p then losesStep p else p.updFr fun f => { f with step := some (reduceStep p.cfg.canvas d, e.cfn) }
  | .align start => p.updTb fun b => { b with align := some ((start : Int) - p.pair.theta).toNat }
  | .slate on => journalSlate on e.cfn p
  | .loadSeal package => if entryLate e p then losesStep p else journalLoad package e.cfn p
  | .switch => if entryLate e p then losesStep p else p.updPair fun x => { x with switchAt := some e.cfn }

/-- An entry that this standby missed while no link was UP comes when its CFN has passed; an ALIGN entry has none (R286,
R295). -/
def missedLate (e : JournalEntry) (p : Part) : Bool :=
  entryLate e p && decide (e.jseq ≤ p.pair.replayTo) && match e.body with
    | .align _ => false
    | _ => true

/-- A journal entry arrives: entries are taken in JSEQ order; one that leaves a gap waits to be sent again, without an
acknowledgement (log entry 71). -/
def journalReceived (b : Bool) (e : JournalEntry) (p : Part) : Part :=
  if p.txn.jseq + 1 < e.jseq then p
  else
    let q := if e.jseq ≤ p.txn.jseq then p
      else (if missedLate e p then losesStep else journalTaken e) (p.updTxn fun x => { x with jseq := e.jseq, journal := (x.journal ++ [e]).drop (x.journal.length + 1 - 4096) })
    sendPair b p.fr.cfn (.ack 3 e.jseq) q

def execJournalReceived (t : Nat) (linkB : Bool) (entry : JournalEntry) (s : State) : Host.Outcome State Fault Refusal :=
  onPart (timed t (guarded (fun p => (p.pairLink linkB).up && inStep p) (journalReceived linkB entry))) s

/-! #### BULK -/

/-- A joining head takes the primary's configuration and journal position (R287). -/
def joinConfig (cmds : List (Nat × CmdPkt)) (jseq : Nat) (p : Part) : Part :=
  let old := p.cfg
  let q := (p.updCfg fun _ => configFrom cmds).updTxn fun x => { x with jseq := jseq, commits := [], open_ := [], expect := [] }
  configApplied p.fr.lastFe old (stagedOf cmds |>.map (·.cmd)) (q.updPair fun x => { x with joinCfg := true })

def joinTxn (now : Nat) (e : Nat × Nat × List (Nat × CmdPkt)) : Nat × Txn :=
  (e.1, { idle := e.2.1, lastUse := now, staged := stagedOf e.2.2 })

def joinTag (e : TagBulk) : TagEntry :=
  { tag := e.tag, opcode := e.opcode, crc := e.crc, uart := false, flags := e.flags, reply := e.reply, owes := owedOf e.owes }

/-- The standby has the command of a load mirrored: a load is owed under the tag (R284). -/
def loadMirrored (p : Part) (tag : Word) : Bool :=
  p.host.tags.any fun e => e.tag == tag && e.opcode == 0x0603 && e.owes == some .load

/-- A package from the primary, checked as the primary checks it, is staged in the banks that are not live; one that R157
refuses changes nothing (R157, R158). -/
def packageHeld (tag : Word) (bytes : List Byte) (s : State) : State :=
  if !loadMirrored s.m tag || (packageFault s.m.cfg.canvas bytes).isSome || s.m.txn.loads.any (fun l => l.tag == tag && l.state == 2)
  then s
  else
    let l : Load := { tag := tag, package := BitVec.ofNat 32 (leAt bytes 12 4), kind := byteAt bytes 5, bytes := bytes, reqCfn := none,
                      footprint := footprintOf s.m.cfg bytes, state := 1 }
    { s with
      m := s.m.updTxn fun x => { x with loads := x.loads.filter (fun y => y.tag != tag) ++ [l] }
      hbm := if l.kind = 1 then stageCal s.m l.bytes l.footprint s.hbm else s.hbm }

/-- A frame of a still or clip from the primary; the last of an OBJ_LOAD ends the mirrored command (R359). -/
def objectFrame (object frame : Nat) (bytes : List Byte) (p : Part) : Part :=
  let q := setObject object (fun o => { o with data := o.data.set frame bytes }) p
  match q.txn.transfers.find? fun x => x.opcode == 0x0408 && leAt x.params 0 2 == object &&
      leAt x.params 4 4 + leAt x.params 8 4 == frame + 1 with
  | some x => finalReply x.tag stOk [] (dropTransfer x.tag q)
  | none => q

/-- A commit of the primary that has not taken effect. -/
def joinCommit (p : Part) (e : JournalEntry) : Part :=
  match e.body with
  | .seal cmds gate => sealFrom e cmds gate p
  | _ => p

/-- The bank bit of a tile. -/
def joinBank (f : Nat) (p : Part) (e : Nat × Bool) : Part := updTile f e.1 (fun t => { t with bank := e.2 }) p

/-- The gain the primary would report of a feeder. -/
def joinGain (g : List Nat) (p : Part) (k : Nat) : Part :=
  p.updLight fun x => { x with feeders := x.feeders.upd k {} fun r => { r with g := g.getD k 0x8000 } }

/-- The calibration banks and the ledger become the primary's (R160). -/
def joinImage (cells : List (Nat × Byte)) (hbm : Memory) : Memory :=
  (cells.filter fun c => onBoard c.1).foldl (fun m c => Memory.writeBytes Memory.hbmDefault m c.1 [c.2]) (hbm.filter fun c => !onBoard c.1)

def joinSlate (shown : Bool) (since : Nat) (auto : Bool) (cause : Nat) (due offDue : Option Nat) (p : Part) : Part :=
  p.updComp fun c => { c with slate := { c.slate with
    shown := shown, shownFrom := since, autoOn := auto, cause := cause, due := due, offDue := offDue } }

/-- What a BULK frame brings (R158, R287, R359, Table 12.4). -/
def bulkTaken (object offset : Nat) (data : BulkData) (s : State) : State :=
  match data with
  | .config cmds jseq => if s.m.pair.role = .unsynced then { s with m := joinConfig cmds jseq s.m } else s
  | .commits es => { s with m := es.foldl joinCommit s.m }
  | .transactions l => { s with m := s.m.updTxn fun x => { x with open_ := l.map (joinTxn s.m.sys.now) } }
  | .tags l => { s with m := s.m.updHost fun h => { h with tags := l.map joinTag } }
  | .image cells => { s with hbm := joinImage cells s.hbm }
  | .hbm b => { s with hbm := Memory.writeBytes Memory.hbmDefault s.hbm offset b }
  | .package tag b => packageHeld tag b s
  | .objects l => { s with m := s.m.updComp fun c => { c with objs := l.foldl (fun t o => t.set o.1
      { clip := o.2.1.1, compressed := o.2.1.2.1, straight := o.2.1.2.2, w := o.2.2.1, h := o.2.2.2.1, frames := o.2.2.2.2 }) [] } }
  | .object f b => { s with m := objectFrame object f b s.m }
  | .bankBits f l => { s with m := l.foldl (joinBank f) s.m }
  | .gains g => { s with m := (List.range 64).foldl (joinGain g) s.m }
  | .slate on since auto cause due offDue => { s with m := joinSlate on since auto cause due offDue s.m }

/-- A joining head notes which of the join data it holds (R287). -/
def joinNoted (object : Nat) (p : Part) : Part :=
  if p.pair.role = .unsynced ∧ p.pair.joining then p.updPair fun x => { x with joinGot := object :: x.joinGot } else p

def bulkReceived (b : Bool) (object offset : Nat) (data : BulkData) (s : State) : State :=
  let r := bulkTaken object offset data s
  { r with m := sendPair b r.m.fr.cfn (.ack 7 offset) (joinNoted object r.m) }

def execBulkReceived (t : Nat) (linkB : Bool) (object offset : Nat) (data : BulkData) (s : State) : Host.Outcome State Fault Refusal :=
  if s.m.alive then
    let s1 := { s with m := advance t s.m }
    if (s1.m.pairLink linkB).up then .next (bulkReceived linkB object offset data s1) else .next s1
  else .next s

/-! #### SYNC -/

/-- Own outcomes differ from the primary's (R288). -/
def outcomesDiffer (n : Nat) (shown : List SyncEntry) (p : Part) : Bool :=
  let gates := fun (l : List (Nat × Nat)) => (l.filter fun e => e.1 == n).map (·.2)
  decide (syncEntries p ≠ shown) || decide (gates p.pair.gatesOpened ≠ gates p.pair.peerGates)

/-- SYNC of the frame that runs: the primary's outcomes are taken, and the bands composed again (R288). -/
def syncTaken (n : Nat) (shown : List SyncEntry) (p : Part) : Part :=
  let q := p.updPair fun x => { x with syncSeen := some n }
  if outcomesDiffer n shown q && p.pair.recomposed != some n then
    count blkPair 2 0 (composeAgain (shown.foldl takeShown (gatesCorrect n (q.updPair fun x => { x with recomposed := some n }))))
  else q

/-- SYNC arrives; one more than 10 µs after its frame event corrects the state from the next one on (R288). -/
def syncReceived (n : Nat) (shown : List SyncEntry) (p : Part) : Part :=
  if p.pair.syncSeen = some n ∨ n ≠ p.fr.cfn then p
  else if p.pair.missed = some n ∨ p.fr.lastFe + 10 * usec < p.sys.now then
    p.updPair fun x => { x with syncSeen := some n, missed := some n, lateSync := shown }
  else syncTaken n shown p

def execSyncReceived (t cfn : Nat) (shown : List SyncEntry) (s : State) : Host.Outcome State Fault Refusal :=
  onPart (timed t (guarded (fun p => p.pair.role == .standby && anyLinkUp p) (syncReceived cfn shown))) s

/-- No SYNC 10 µs after the frame event (R288). -/
def syncOverdue (p : Part) : Bool :=
  p.pair.role == .standby && p.fr.started && p.pair.syncSeen != some p.fr.cfn && p.pair.missed != some p.fr.cfn &&
    decide (p.fr.lastFe + 10 * usec ≤ p.sys.now)

def execSyncMiss (t : Nat) (s : State) : Host.Outcome State Fault Refusal :=
  onPart (timed t (guarded syncOverdue
    (fun p => count blkPair 2 1 (p.updPair fun x => { x with missed := some p.fr.cfn, lateSync := [] })))) s

/-! ### The shadow check -/

/-- INPUT_DIVERGENCE, at most once per second, with the first band and the count of bands since (Table 11.8). -/
def inputDiverges (band : Nat) (p : Part) : Part :=
  let first := if p.pair.divergeCount = 0 then band else p.pair.divergeBand
  let n := p.pair.divergeCount + 1
  if (p.pair.divergeAt.map fun d => decide (d + sec ≤ p.sys.now)).getD true then
    raise evInputDivergence 0 (first + 65536 * n) (p.updPair fun x => { x with divergeAt := some p.sys.now, divergeBand := 0, divergeCount := 0 })
  else p.updPair fun x => { x with divergeBand := first, divergeCount := n }

/-- The outcome of Table 11.8. -/
def shadowOutcome (band own theirs : Nat) (p : Part) : Part :=
  if own = 1 then unitFault .lane (band % 16) false (raise evShadowSelfFault (band % 16) band p)
  else if own = 0 ∧ theirs = 0 then inputDiverges band p
  else if own = 0 ∧ theirs = 1 then count blkPair 2 2 p
  else count blkPair 2 3 p

/-- A mismatch is settled with the verdicts held. -/
def shadowEnds (cfn band theirs : Nat) (p : Part) : Part :=
  match p.pair.shadows.find? fun x => x.cfn == cfn && x.band == band with
  | some x => shadowOutcome band x.own theirs (p.updPair fun y => { y with
      shadows := y.shadows.filter fun z => !(z.cfn == cfn && z.band == band)
      verdicts := y.verdicts.filter fun z => !(z.1 == cfn && z.2.1 == band) })
  | none => p

/-- A band's checksums differ: it is composed again into scratch memory where its sources are held, and a VERDICT goes out
(R291). -/
def shadowStarts (cfn band : Nat) (p : Part) : Part :=
  if p.pair.shadows.any fun x => x.cfn == cfn && x.band == band then p
  else
    let held := decide (cfn = p.fr.cfn)
    let own := if held then (if Config.recomposeAgrees p.free then 0 else 1) else 2
    let q := (if held then p.updFree (· + 1) else p).updPair fun y => { y with
      shadows := y.shadows ++ [{ cfn := cfn, band := band, own := own, sentAt := p.sys.now }] }
    let r := toPartner cfn (.verdict band own) q
    match p.pair.verdicts.find? fun v => v.1 == cfn && v.2.1 == band with
    | some v => shadowEnds cfn band v.2.2 r
    | none => r

/-- This head's checksum of a band, where it holds one that is available: of the frame that runs, or of the newest frame
with every band complete. -/
def ownSum (p : Part) (cfn band : Nat) : Option DWord :=
  if cfn = p.fr.cfn then
    (if p.comp.done.contains band && !p.comp.noSum.contains band then p.comp.sums.get? band else none)
  else if cfn = p.comp.fullCfn then (if p.comp.fullNoSum.contains band then none else p.comp.fullSums.get? band)
  else none

/-- Compares a band where both heads hold its checksum (R291). -/
def compareBand (cfn band : Nat) (p : Part) : Part :=
  match ownSum p cfn band, (p.pair.peerSums.find? fun x => x.1 == cfn && x.2.1 == band).bind (·.2.2) with
  | some a, some b => if a = b then p else shadowStarts cfn band p
  | _, _ => p

/-- A lane completes a band; scan-out comes up to it and goes on with it, and the pair compares it (R24, R26, R291). -/
def execBandComposed (t band : Nat) (behind : Bool) (s : State) : Host.Outcome State Fault Refusal :=
  let p := advance t s.m
  if bandOpen band behind p then
    let r := bandComposed band behind { s with m := scanTo s.hbm t p }
    let (q, hbm) := if p.light.opened then scanOn (r.m, r.hbm) else (r.m, r.hbm)
    .next { r with m := if anyLinkUp q then compareBand q.fr.cfn band q else q, hbm := hbm }
  else if s.m.alive then .next { s with m := p } else .next s

/-- The partner's checksums of some bands (R291). -/
def bandsumReceived (cfn first : Nat) (sums : List (Option DWord)) (p : Part) : Part :=
  (List.range sums.length).foldl (fun q i =>
    compareBand cfn (first + i) (q.updPair fun x => { x with
      peerSums := (x.peerSums.filter fun y => !(y.1 == cfn && y.2.1 == first + i)) ++ [(cfn, first + i, sums.getD i none)] })) p

def execBandsumReceived (t cfn first : Nat) (sums : List (Option DWord)) (s : State) : Host.Outcome State Fault Refusal :=
  onPart (timed t (guarded (fun p => anyLinkUp p && decide (p.fr.cfn ≤ cfn + 1)) (bandsumReceived cfn first sums))) s

/-- The partner's verdict: it settles the mismatch, or waits for this head's own (R291). -/
def verdictReceived (cfn band result : Nat) (p : Part) : Part :=
  if p.pair.shadows.any fun x => x.cfn == cfn && x.band == band then shadowEnds cfn band result p
  else p.updPair fun x => { x with
    verdicts := (x.verdicts.filter fun v => decide (p.fr.cfn ≤ v.1 + 2) && !(v.1 == cfn && v.2.1 == band)) ++ [(cfn, band, result)] }

def execVerdictReceived (t cfn band result : Nat) (s : State) : Host.Outcome State Fault Refusal :=
  onPart (timed t (guarded (fun p => anyLinkUp p) (verdictReceived cfn band result))) s

/-- 2 ms after its own verdict a head takes the outcome without the partner's, which counts as 2 (R291). -/
def execVerdictTimeout (t cfn band : Nat) (s : State) : Host.Outcome State Fault Refusal :=
  onPart (timed t (guarded
    (fun p => p.pair.shadows.any fun x => x.cfn == cfn && x.band == band && decide (x.sentAt + 2 * msec ≤ p.sys.now))
    (shadowEnds cfn band 2))) s

/-! ### Switchover -/

/-- A head that may take the primary role (Table 11.9). -/
def mayTake (p : Part) : Bool := p.pair.role == .standby || p.pair.role == .unsynced

/-- Takes the role; a head that was joining before READY is ready with it (R292). -/
def takesRole (split : Bool) (p : Part) : Part := becomeReady (becomePrimary split p)

/-- PAIR_YIELD_N reads low while not driven by this head (Table 11.9). -/
def yieldLow (p : Part) : Part :=
  let q := p.updPair fun x => { x with readYieldLow := true }
  if mayTake p && !p.pair.driveYield then takesRole false q else q

def execPairYieldLow (t : Nat) (s : State) : Host.Outcome State Fault Refusal := onPart (timed t yieldLow) s

/-- PAIR_TENURE reads high (Table 11.9). -/
def tenureHigh (p : Part) : Part :=
  if p.pair.driveTenure then p
  else
    let q := p.updPair fun x => { x with readTenureLow := false }
    if !mayTake p then q
    else if anyLinkUp p then q.updPair fun x => { x with tenureWait := some (x.tenureWait.getD (p.sys.now + 12 * usec)) }
    else if p.pair.wireFault then q
    else takesRole false q

def execPairTenureHigh (t : Nat) (s : State) : Host.Outcome State Fault Refusal := onPart (timed t tenureHigh) s

def execTenureWaitExpiry (t : Nat) (s : State) : Host.Outcome State Fault Refusal :=
  onPart (timed t (guarded (fun p => mayTake p && (p.pair.tenureWait.map fun d => decide (d ≤ p.sys.now)).getD false)
    (takesRole false))) s

def execWireUnmark (t : Nat) (s : State) : Host.Outcome State Fault Refusal :=
  onPart (timed t (guarded (fun p => p.pair.wireFault && (p.pair.pinsOkSince.map fun x => decide (x + sec ≤ p.sys.now)).getD false)
    (fun p => p.updPair fun x => { x with wireFault := false, pinsOkSince := none }))) s

/-- The conditions of a witness claim (R294). -/
def mayClaim (p : Part) : Bool :=
  p.pair.role == .standby && !anyLinkUp p && p.pair.cfg.witnessClaim && !(p.pair.readTenureLow && !p.pair.wireFault) &&
    decide (3 ≤ p.pair.witness)

def execWitnessClaim (t : Nat) (s : State) : Host.Outcome State Fault Refusal :=
  onPart (timed t (guarded mayClaim (fun p => raise evPairSplitClaim 0 0 (becomePrimary true p)))) s

end Sys2Proof.Machine
end

