-- ==== Sys2Proof/WellFormed.lean ====
section
/-! DEFINITION. The operand ranges of the commands: an instance number within its array (Table 18.1), a CFN of
48 bits (R18), a packet whose parameters have the length its header gives (R329). -/

namespace Sys2Proof

/-- A packet's parameters fill its PARAM_LEN, a multiple of 4 up to 4,080 (R329). -/
def CmdPkt.wellFormed (p : CmdPkt) : Bool :=
  p.params.length == p.paramLen.toNat && p.paramLen.toNat % 4 == 0 && decide (p.paramLen.toNat ≤ 4080)

def AudDomain.wellFormed : AudDomain → Bool
  | .sdi n => decide (n < 48)
  | .flow n => decide (n < 64)
  | .i2s n => decide (n < 16)

/-- Channels of an audio source (Table 9.1): 1 to 32, 1 to 8, or left 0 and right 1. -/
def AudDomain.channelOk (channel : Nat) : AudDomain → Bool
  | .sdi _ => decide (1 ≤ channel ∧ channel ≤ 32)
  | .flow _ => decide (1 ≤ channel ∧ channel ≤ 8)
  | .i2s _ => decide (channel < 2)

/-- Logical units in service of each kind (Table 1.1), and pseudo-channels (R385). -/
def UnitKind.inService : UnitKind → Nat
  | .ingest => 48
  | .converter => 8
  | .scaler => 32
  | .lane => 16
  | .hbm => 120

/-- Physical units of each kind, fallow ones included. -/
def UnitKind.physical : UnitKind → Nat
  | .ingest => 52
  | .converter => 9
  | .scaler => 34
  | .lane => 17
  | .hbm => 128

/-- The operands lie in their ranges. -/
def Instr.wellFormed : Instr → Bool
  | .frameEvent _ => true
  | .gateTimeout _ jseq => decide (jseq < 2 ^ 32)
  | .fenceTimeout _ group => decide (group < 2 ^ 16)
  | .scanWindowOpen _ _ => true
  | .scanWindowClose _ => true
  | .feederEstimateDone _ => true
  | .bandComposed _ band _ => decide (band < 512)
  | .lowlatExit _ => true
  | .monOutputFrame _ output => decide (output < 4)
  | .inputFrameStart _ stream _ => decide (stream < 48)
  | .frameStored _ stream _ => decide (stream < 48)
  | .fenceMemberLost _ stream => decide (stream < 48)
  | .fencePacket _ stream _ => decide (stream < 48)
  | .st352Received _ input _ => decide (input < 16)
  | .formatDetected _ stream _ => decide (stream < 48)
  | .streamLost _ stream _ => decide (stream < 48)
  | .streamRestored _ stream => decide (stream < 48)
  | .holdTimeExpiry _ stream => decide (stream < 48)
  | .rtpPacketReceived _ stream leg _ => decide (stream < 48) && decide (leg < 2)
  | .legLost _ stream leg => decide (stream < 48) && decide (leg < 2)
  | .networkRequest _ port _ => decide (port < 4)
  | .membershipQuery _ port _ => decide (port < 4)
  | .ptpMessage _ port _ => decide (port < 4)
  | .vectorEstimateDone _ conv _ blocks => decide (conv < 8) && blocks.all fun v =>
    decide (v.dx.natAbs ≤ 1024) && decide (v.dy.natAbs ≤ 512) && decide (v.conf ≤ 255) && decide (v.flag ≤ 2)
  | .tempUnknown _ furrow position => decide (furrow < 128) && decide (position < 256)
  | .calTransferDone _ _ _ _ => true
  | .loadDequeue _ _ => true
  | .wearExportDone _ _ => true
  | .klinkSignalDetect _ furrow => decide (furrow < 128)
  | .klinkCdrLock _ furrow => decide (furrow < 128)
  | .klinkCommaAlign _ furrow => decide (furrow < 128)
  | .klinkTsReceived _ furrow _ => decide (furrow < 128)
  | .klinkTrainTimeout _ furrow => decide (furrow < 128)
  | .klinkLos _ furrow => decide (furrow < 128)
  | .klinkLol _ furrow => decide (furrow < 128)
  | .klinkAlignLost _ furrow => decide (furrow < 128)
  | .balkOpenerSend _ furrow => decide (furrow < 128)
  | .statusRun _ furrow => decide (furrow < 128)
  | .ctrlSend _ furrow => decide (furrow < 128)
  | .tileStatusReceived _ furrow _ _ => decide (furrow < 128)
  | .ackReceived _ furrow _ _ => decide (furrow < 128)
  | .ctrlReplyReceived _ furrow _ _ => decide (furrow < 128)
  | .alarmReceived _ furrow _ _ => decide (furrow < 128)
  | .foreignPacket _ furrow _ _ => decide (furrow < 128)
  | .replayTimeout _ furrow key => decide (furrow < 128) && decide (key < 1024)
  | .tileLost _ furrow position => decide (furrow < 128) && decide (position < 256)
  | .tilePowerStuck _ furrow position => decide (furrow < 128) && decide (position < 256)
  | .audSampleIn _ src channel _ => src.wellFormed && src.channelOk channel
  | .audSampleOut _ port _ _ _ => decide (port < 16)
  | .audSlip _ src => src.wellFormed
  | .zcTimeout _ channel => decide (channel < 256)
  | .audSourceLost _ src => src.wellFormed
  | .refActivityLoss _ slot => decide (slot < 8)
  | .freqGate _ slot _ => decide (slot < 8)
  | .refQualified _ slot => decide (slot < 8)
  | .phaseDetectorSample _ slot _ => decide (slot < 8)
  | .bandSearchDone _ band fine => decide (band < 64) && decide (fine.natAbs ≤ 960000000)
  | .bandSearchFail _ => true
  | .bypassWaitExpiry _ => true
  | .switchHoldoffExpiry _ => true
  | .acquisitionTimeout _ => true
  | .dwellComplete _ _ => true
  | .holdoverSecond _ _ => true
  | .referenceWaitExpiry _ => true
  | .rootLockLost _ => true
  | .xoFail _ => true
  | .heartbeatSend _ => true
  | .heartbeatReceived _ _ cfn _ => decide (cfn < 2 ^ 48)
  | .pairLinkLost _ _ => true
  | .mirrorReceived _ _ mseq opcode pkt => decide (mseq < 2 ^ 32) && decide (opcode < 2 ^ 16) && pkt.wellFormed
  | .journalReceived _ _ _ => true
  | .bulkReceived _ _ object offset _ => decide (object < 2 ^ 64) && decide (offset < 2 ^ 64)
  | .pairAckReceived _ _ kind seq => decide (kind < 256) && decide (seq < 2 ^ 32)
  | .pairResend _ _ kind seq => decide (kind < 256) && decide (seq < 2 ^ 32)
  | .mirrorTimeout _ mseq => decide (mseq < 2 ^ 32)
  | .syncReceived _ cfn _ => decide (cfn < 2 ^ 48)
  | .syncMiss _ => true
  | .bandsumReceived _ cfn first _ => decide (cfn < 2 ^ 48) && decide (first < 512)
  | .verdictReceived _ cfn band result => decide (cfn < 2 ^ 48) && decide (band < 512) && decide (result < 4)
  | .verdictTimeout _ cfn band => decide (cfn < 2 ^ 48) && decide (band < 512)
  | .pairYieldLow _ => true
  | .pairTenureHigh _ => true
  | .tenureWaitExpiry _ => true
  | .wireUnmark _ => true
  | .witnessClaim _ => true
  | .joinWaitExpiry _ => true
  | .unitFault _ kind logical _ => decide (logical < kind.inService)
  | .progressWatchdog _ kind logical => decide (logical < kind.inService)
  | .hearthSwap _ => true
  | .plannedSwap _ kind logical => decide (logical < kind.inService)
  | .furrowFault _ furrow _ => decide (furrow < 128)
  | .kilnLockstepMismatch _ _ => true
  | .kilnWatchdog _ _ => true
  | .kilnRestored _ => true
  | .hearthCopyDisagree _ copy _ => decide (copy < 3)
  | .selfTestDuty _ kind physical _ => decide (physical < kind.physical)
  | .wearTrendSample _ _ => true
  | .memFault _ logical segment => decide (logical < 120) && decide (segment < 60 * 2 ^ 22)
  | .memRemap _ => true
  | .patrolScrub _ logical _ => decide (logical < 120)
  | .fabricDecerr _ master => decide (master.channel < 177) && decide (master.furrow < 8)
  | .logWindowClose _ source inst code => decide (source < 23) && decide (inst < 2 ^ 16) && decide (code < 2 ^ 16)
  | .logWrite _ => true
  | .logLostEntry _ => true
  | .logBankFail _ _ => true
  | .logBankCopyDone _ => true
  | .fwTrialEnd _ => true
  | .txnExpired _ id => decide (id < 2 ^ 16)
  | .eventRingWrite _ => true
  | .evqLostEntry _ => true
  | .slateAutoTrigger _ => true
  | .slatePinRelease _ => true
  | .cmdDoorbell _ _ => true
  | .cmdFetch _ _ => true
  | .replyWrite _ => true
  | .rplHeadWrite _ _ => true
  | .evrHeadWrite _ _ => true
  | .cmdEn _ _ => true
  | .rplEn _ _ => true
  | .evrEn _ _ => true
  | .wbEn _ _ => true
  | .ringErr _ => true
  | .dmaErr _ => true
  | .hostDmaErr _ _ => true
  | .replyModExpiry _ => true
  | .uartFrame _ _ => true
  | .uartByteTimeout _ => true
  | .uartBreak _ => true
  | .perstN _ => true
  | .resetNAssert _ => true
  | .pwrOkLow _ => true
  | .resetNRelease _ _ _ _ => true
  | .kindlingStepDone _ _ => true
  | .energyTick _ _ _ sensor => decide (sensor < 16)
  | .powerCapExceeded _ => true
  | .pmbusPoll _ _ => true
  | .pmbusAlert _ _ _ => true
  | .thermCrit _ _ sensor => decide (sensor < 16)
  | .damped _ _ sensor => decide (sensor < 16)
  | .maintUnlockKey _ _ => true
  | .relock _ => true
  | .maintDisable _ => true
  | .maintTimeout _ => true
  | .gpioLock _ => true
  | .gpio15Maint _ _ => true
  | .eventPendWrite _ bank _ => decide (bank < 12)
  | .eventMaskWrite _ bank _ => decide (bank < 12)
  | .regLoRead _ _ offset => decide (offset < 2 ^ 24)
  | .globalFreeze _ _ => true
  | .snap _ => true
  | .snapFe _ _ => true
  | .perfOvfClear _ group _ => decide (group < 10)
  | .perfCounterWrite _ group counter _ => decide (group < 10) && decide (counter < 8)
  | .registerWrite _ offset _ _ => decide (offset < 2 ^ 24)
  | .ident _ pkt => pkt.wellFormed
  | .status _ pkt => pkt.wellFormed
  | .glean _ pkt => pkt.wellFormed
  | .ping _ pkt => pkt.wellFormed
  | .time _ pkt => pkt.wellFormed
  | .txnOpen _ pkt => pkt.wellFormed
  | .txnSeal _ pkt => pkt.wellFormed
  | .txnAbort _ pkt => pkt.wellFormed
  | .txnList _ pkt => pkt.wellFormed
  | .commitList _ pkt => pkt.wellFormed
  | .fenceSet _ pkt => pkt.wellFormed
  | .fenceAnc _ pkt => pkt.wellFormed
  | .fenceStatus _ pkt => pkt.wellFormed
  | .streamSdi _ pkt => pkt.wellFormed
  | .streamIp _ pkt => pkt.wellFormed
  | .streamParams _ pkt => pkt.wellFormed
  | .inputRemove _ pkt => pkt.wellFormed
  | .audFlow _ pkt => pkt.wellFormed
  | .ancFlow _ pkt => pkt.wellFormed
  | .ethSet _ pkt => pkt.wellFormed
  | .ptpSet _ pkt => pkt.wellFormed
  | .streamStatus _ pkt => pkt.wellFormed
  | .portStatus _ pkt => pkt.wellFormed
  | .streamRead _ pkt => pkt.wellFormed
  | .flowStatus _ pkt => pkt.wellFormed
  | .frcSet _ pkt => pkt.wellFormed
  | .frcStatus _ pkt => pkt.wellFormed
  | .frcRead _ pkt => pkt.wellFormed
  | .regionSet _ pkt => pkt.wellFormed
  | .regionRemove _ pkt => pkt.wellFormed
  | .layerSet _ pkt => pkt.wellFormed
  | .layerRemove _ pkt => pkt.wellFormed
  | .coefLoad _ pkt => pkt.wellFormed
  | .coefRead _ pkt => pkt.wellFormed
  | .objAlloc _ pkt => pkt.wellFormed
  | .objLoad _ pkt => pkt.wellFormed
  | .objRelease _ pkt => pkt.wellFormed
  | .objStatus _ pkt => pkt.wellFormed
  | .regionRead _ pkt => pkt.wellFormed
  | .layerRead _ pkt => pkt.wellFormed
  | .canvasSet _ pkt => pkt.wellFormed
  | .lowlatSet _ pkt => pkt.wellFormed
  | .holdSet _ pkt => pkt.wellFormed
  | .monSet _ pkt => pkt.wellFormed
  | .slateSet _ pkt => pkt.wellFormed
  | .slateShow _ pkt => pkt.wellFormed
  | .slateClear _ pkt => pkt.wellFormed
  | .canvasStatus _ pkt => pkt.wellFormed
  | .bandSums _ pkt => pkt.wellFormed
  | .canvasRead _ pkt => pkt.wellFormed
  | .monStatus _ pkt => pkt.wellFormed
  | .lightSet _ pkt => pkt.wellFormed
  | .typeLoad _ pkt => pkt.wellFormed
  | .pkgLoad _ pkt _ => pkt.wellFormed
  | .wearExport _ pkt => pkt.wellFormed
  | .loadStatus _ pkt => pkt.wellFormed
  | .feederSet _ pkt => pkt.wellFormed
  | .feederStatus _ pkt => pkt.wellFormed
  | .calRead _ pkt => pkt.wellFormed
  | .typeRead _ pkt => pkt.wellFormed
  | .feederRead _ pkt => pkt.wellFormed
  | .lightRead _ pkt => pkt.wellFormed
  | .furrowSet _ pkt => pkt.wellFormed
  | .latchSet _ pkt => pkt.wellFormed
  | .tilemapSet _ pkt => pkt.wellFormed
  | .tileLevel _ pkt => pkt.wellFormed
  | .furrowStatus _ pkt => pkt.wellFormed
  | .tileStatus _ pkt => pkt.wellFormed
  | .tileCtrl _ pkt => pkt.wellFormed
  | .furrowRescan _ pkt => pkt.wellFormed
  | .tilemapRead _ pkt => pkt.wellFormed
  | .tileClear _ pkt => pkt.wellFormed
  | .audChan _ pkt => pkt.wellFormed
  | .audPort _ pkt => pkt.wellFormed
  | .audMclk _ pkt => pkt.wellFormed
  | .audZc _ pkt => pkt.wellFormed
  | .audStatus _ pkt => pkt.wellFormed
  | .audRead _ pkt => pkt.wellFormed
  | .tbSlot _ pkt => pkt.wellFormed
  | .tbSet _ pkt => pkt.wellFormed
  | .tbSteer _ pkt => pkt.wellFormed
  | .couSet _ pkt => pkt.wellFormed
  | .tbStatus _ pkt => pkt.wellFormed
  | .tbSlotStatus _ pkt => pkt.wellFormed
  | .tbRead _ pkt => pkt.wellFormed
  | .pairSet _ pkt => pkt.wellFormed
  | .pairSwitch _ pkt => pkt.wellFormed
  | .pairStatus _ pkt => pkt.wellFormed
  | .pairRead _ pkt => pkt.wellFormed
  | .fwWrite _ pkt => pkt.wellFormed
  | .fwVerify _ pkt => pkt.wellFormed
  | .fwSwitch _ pkt => pkt.wellFormed
  | .bootSelect _ pkt => pkt.wellFormed
  | .spareSwap _ pkt => pkt.wellFormed
  | .selfTest _ pkt => pkt.wellFormed
  | .powerCap _ pkt => pkt.wellFormed
  | .wearThresh _ pkt => pkt.wellFormed
  | .uartRate _ pkt => pkt.wellFormed
  | .watchdog _ pkt => pkt.wellFormed
  | .headlandStatus _ pkt => pkt.wellFormed
  | .powerStatus _ pkt => pkt.wellFormed
  | .hbmStatus _ pkt => pkt.wellFormed
  | .scrubSet _ pkt => pkt.wellFormed
  | .evStatus _ pkt => pkt.wellFormed
  | .evClear _ pkt => pkt.wellFormed
  | .cntRead _ pkt => pkt.wellFormed
  | .cntClear _ pkt => pkt.wellFormed
  | .perfSnapshot _ pkt => pkt.wellFormed
  | .logStatus _ pkt => pkt.wellFormed
  | .evMask _ pkt => pkt.wellFormed
  | .perfSet _ pkt => pkt.wellFormed
  | .perfRead _ pkt => pkt.wellFormed
  | .commandPacketRefused _ _ _ => true
  | .klinkPacketDiscarded _ furrow _ => decide (furrow < 128)
  | .klinkSymbolError _ furrow => decide (furrow < 128)
  | .pairFrameDiscarded _ _ => true
  | .ethLinkDown _ port => decide (port < 4)
  | .ethLinkUp _ port => decide (port < 4)
  | .xoRestored _ => true
  | .thermWarn _ _ sensor => decide (sensor < 16)
  | .perfCounterWrap _ group counter => decide (group < 10) && decide (counter < 8)
  | .hostTransferDone _ _ _ _ => true
  | .flashWriteDone _ _ _ _ => true
  | .jtagTapOperation _ _ => true

end Sys2Proof
end

