-- ==== Sys2Proof/Machine/Kindling.lean ====
section
/-! DEFINITION. Kindling, reset and power-good (R402, R403, R406 to R412), the kindling reference wait (R264), the TAP (R445). -/

namespace Sys2Proof.Machine

open Sys2Proof

/-! ### Reset (R402, R403) -/

/-- The part in reset: everything is lost but the ember log and LOG_EMBER_NEXT, the timestamp counter included (R424, log entry
27); the TAP is no part of what is reset. -/
def partInReset (p : Part) : Part :=
  let r : Part := {}
  let sys : Sys := { pwrOk := p.sys.pwrOk, jtag := p.sys.jtag }
  { r with sys := sys, log := { r.log with ember := p.log.ember, emberNext := p.log.emberNext }, out := p.out, free := p.free }

/-- RESET_N falls: the part and its HBM lose their state; the boot flash is outside the part. -/
def resetFalls (s : State) : State := { s with m := partInReset s.m, hbm := [] }

def execResetNAssert (t : Nat) (s : State) : Host.Outcome State Fault Refusal := .next (resetFalls { s with m := advance t s.m })

/-- PWR_OK low for 1 µs has the effect of RESET_N low (R402). -/
def pwrOkFalls (s : State) : State := resetFalls { s with m := s.m.updSys fun y => { y with pwrOk := false } }

def execPwrOkLow (t : Nat) (s : State) : Host.Outcome State Fault Refusal := .next (pwrOkFalls { s with m := advance t s.m })

/-- Step 2 starts: the part drives the xSPI pins, resets the flash, and talks to it in 1S-1S-1S mode (R410, R442). -/
def xspiStarts (p : Part) : Part := emit .xspiReset (p.updSys fun y => { y with xspi := .s1, xspiDriven := true })

/-- The JESD216 parameters are read; a device that reports octal DTR is switched to it, and any other stays in 1S-1S-1S mode
throughout (R442). -/
def xspiSwitches (octal : Bool) (p : Part) : Part :=
  let q := emit .xspiParameters p
  if octal then emit .xspiOctal (q.updSys fun y => { y with xspi := .d8 }) else q

/-- RESET_N rises, with PWR_OK high (R402): the straps are sampled, the clocks start and step 2 with them; a test instruction of the TAP
ends (R403, R406, R445). -/
def resetRises (endB host : Bool) (boot : BitVec 2) (p : Part) : Part :=
  xspiStarts ((p.updSys fun y => { y with
    resetN := true, pwrOk := true, endB := endB, strapHost := host, boot := boot, step := 2, stepAt := y.now,
    jtagTest := false }).updPerf fun x => { x with since := p.sys.now })

def execResetNRelease (t : Nat) (endB host : Bool) (boot : BitVec 2) (s : State) : Host.Outcome State Fault Refusal :=
  onPart (fun p => guarded (fun q => !q.sys.resetN) (resetRises endB host boot) (advance t p)) s

/-! ### Steps 2 and 3: cores, image, boot configuration -/

/-- The step ends and another starts. -/
def enterStep (n : Nat) (p : Part) : Part := p.updSys fun y => { y with step := n, stepAt := y.now }

/-- Step 2 ends; fewer than two Kiln cores stop kindling. The cores that pass count from 0 (log entry 72). -/
def coresPassed (cores : Nat) (octal : Bool) (p : Part) : Part :=
  if cores < 2 then kindlingStops 1 p
  else enterStep 3 <| xspiSwitches octal (p.updHrt fun h => { h with coresUp := [0, 1], coresFallow := if 3 ≤ cores then [2] else [] })

/-- The slot tried first (R410); none where the straps name no image. -/
def firstSlot (boot : BitVec 2) (flash : Memory) : Option Nat :=
  match boot.toNat with
  | 0 => some (((bootRecord flash).1.map (·.1)).getD 0)
  | 1 => some 0
  | 2 => some 1
  | _ => none

/-- The image that runs, and whether the first slot's failed (R410). -/
def chosenSlot (boot : BitVec 2) (flash : Memory) : Option (Nat × Bool) :=
  match firstSlot boot flash with
  | none => none
  | some n =>
    if !imageFault flash n then some (n, false)
    else if !imageFault flash (1 - n) then some (1 - n, true)
    else none

/-- The boot configuration section of an image (Tables 12.11, 17.7). -/
def bootSection (flash : Memory) (slot : Nat) : List Byte :=
  let h := flashBytes flash (imageBase slot) 64
  flashBytes flash (imageBase slot + leAt h 24 4) (leAt h 28 4)

/-- Its header is as Table 17.7 has it. -/
def bootHeaderOk (b : List Byte) : Bool :=
  b.take 4 == [0x43, 0x51, 0x42, 0x43] && byteAt b 4 == 1 && decide (byteAt b 5 ≤ 16) && leAt b 6 2 == 0 && leAt b 12 4 == 0 &&
    decide (144 + leAt b 8 4 ≤ b.length)

/-- A regulator entry (Table 17.7). -/
def regulatorAt (b : List Byte) (i : Nat) : Regulator :=
  let o := 16 + 8 * i
  { addr := byteAt b o, page := byteAt b (o + 1), rail := byteAt b (o + 2), pout := bit (byteAt b (o + 3)) 0 }

/-- The packets of a section, one after another, and whether the last was whole. -/
def bootPackets : Nat → List Byte → List (Nat × CmdPkt) × Bool
  | 0, b => ([], b.isEmpty)
  | fuel + 1, b =>
    if b.isEmpty then ([], true)
    else
      let (op, k, rest) := packetAt false b
      if b.length < 16 || !lengthOk k then ([], false)
      else
        let (l, ok) := bootPackets fuel rest
        ((op, k) :: l, ok)

/-- A packet of the boot configuration is skipped and logged at WARN (R412). -/
def bootSkips (op : Nat) (p : Part) : Part := report blkKiln 0 0x8000 1 0 (op % 65536) p

/-- Opcodes of class C that act in step 3 (R412). -/
def actsAtOnce (op : Nat) : Bool := op == 0x0901 || op == 0x0902 || op == 0x0904

/-- How the header of a packet of the boot configuration is checked (R332, Table 14.3). -/
def bootRule (op : Nat) : OpRule := if op = 0x0A01 then ruleMirrored else if op = 0x0B07 then ruleMaint else ruleConfig

/-- A command of class C that takes effect in step 3, unless a check of R117 refuses it (R412; log entry 170). -/
def bootApplies (op : Nat) (c : ConfigCmd) (p : Part) : Part :=
  match applyCmd 0 p.cfg c with
  | .ok d => if (firstBroken (limits p p.cfg d [])).isSome then bootSkips op p else { p with cfg := d }
  | .error _ => bootSkips op p

/-- One packet of the boot configuration (R412). -/
def bootPacket (p : Part) (e : Nat × CmdPkt) : Part :=
  if !(crcOk e.1 e.2 && headerOk e.2 && classOk (bootRule e.1) e.2) then bootSkips e.1 p
  else if e.1 = 0x0A01 then
    match parsePairSet e.2.params with
    | .ok c => (pairSet c p).2
    | .error _ => bootSkips e.1 p
  else if e.1 = 0x0B07 then
    match parsePowerCap e.2.params with
    | .ok w => (powerCap w p).2
    | .error _ => bootSkips e.1 p
  else
    match parseConfig e.1 e.2 with
    | .error _ => bootSkips e.1 p
    | .ok c =>
      if actsAtOnce e.1 then bootApplies e.1 c p
      else p.updSys fun y => { y with bootCmds := y.bootCmds ++ [e] }

/-- The boot configuration is read, and reference monitoring starts (R262, R411, R412). -/
def readBoot (flash : Memory) (slot : Nat) (p : Part) : Part :=
  let b := bootSection flash slot
  if b.isEmpty then p
  else if !bootHeaderOk b then bootSkips 0 p
  else
    let (l, whole) := bootPackets (leAt b 8 4) ((b.drop 144).take (leAt b 8 4))
    let p1 := p.updSys fun y => { y with regulators := (List.range (byteAt b 5)).map (regulatorAt b) }
    let p2 := l.foldl bootPacket p1
    tbApplied p.cfg (if whole then p2 else bootSkips 0 p2)

/-- The first slot's image failed and the other slot is tried: logged at WARN (R410). -/
def otherImage (first : Nat) (p : Part) : Part := report blkKiln 0 0x8002 1 0 first p

/-- Step 3 ends: the image chosen runs, and its boot configuration acts (R410 to R412). -/
def imageRuns (flash : Memory) (p : Part) : Part :=
  match chosenSlot p.sys.boot flash with
  | none => kindlingStops 2 (match firstSlot p.sys.boot flash with
    | some n => otherImage n p
    | none => p)
  | some (slot, other) =>
    let q := runImage flash slot (if other then otherImage (1 - slot) p else p)
    (enterStep 4 (readBoot flash slot q)).updSys fun y => { y with xspiDriven := false }

/-! ### Step 5: memory and the headland -/

/-- A passing fallow channel in place of a failed one, as R398 chooses it; `free` holds those left (R387). -/
def substitutePc (failed : List Nat) (a : Tab Nat × List Nat) (l : Nat) : Tab Nat × List Nat :=
  let d := 16 * (l % 8) + l / 8
  if !failed.contains d then a
  else match (match a.2.find? fun k => k / 16 == d / 16 with
      | some k => some k
      | none => a.2.head?) with
    | some k => (a.1.set l k, a.2.filter (· != k))
    | none => a

/-- The remap table and the state of every pseudo-channel after training (R387). -/
def trainedFabric (failed : List Nat) (f : Fabric) : Fabric :=
  let spare := ((List.range 8).map fun k => 16 * k + 15).filter fun k => !failed.contains k
  let r := (List.range 120).foldl (substitutePc failed) ([], spare)
  { f with
    remap := r.1
    pcs := (List.range 128).map fun k => (k, { state := if failed.contains k then 3 else if r.2.contains k then 1 else 0 }) }

/-- The passing units of a kind serve its logical instances in order; a failed one's place goes to the lowest passing fallow
unit (R302, R304; log entry 73). -/
def substituteUnit (failed : List Nat) (a : List (Nat × Nat) × List Nat) (l : Nat) : List (Nat × Nat) × List Nat :=
  if !failed.contains l then (a.1 ++ [(l, l)], a.2)
  else match a.2 with
    | k :: rest => (a.1 ++ [(k, l)], rest)
    | [] => a

/-- Where a physical unit stands when the headland has been built. -/
def builtUnit (kind : UnitKind) (failed : List Nat) (serve : List (Nat × Nat)) (now n : Nat) : Unit :=
  { kind := kind, phys := n, testedAt := now
    state := if failed.contains n then .retired
      else match serve.find? fun e => e.1 == n with
        | some e => .service e.2
        | none => .fallow }

/-- The units of a kind (R302). -/
def builtUnits (now : Nat) (failed : List (UnitKind × Nat)) (kind : UnitKind) : List Unit :=
  let f := (failed.filter fun e => e.1 == kind).map (·.2)
  let spare := ((List.range kind.physical).filter fun n => decide (kind.inService ≤ n)).filter fun n => !f.contains n
  let serve := ((List.range kind.inService).foldl (substituteUnit f) ([], spare)).1
  (List.range kind.physical).map (builtUnit kind f serve now)

/-- Passing units of a kind. -/
def passing (failed : List (UnitKind × Nat)) (kind : UnitKind) : Nat :=
  ((List.range kind.physical).filter fun n => !failed.contains (kind, n)).length

def headlandKinds : List UnitKind := [.ingest, .converter, .scaler, .lane]

/-- Step 5 ends: HBM, headland, identity calibration and an empty ledger (R155, R161, R387, Table 17.4). -/
def memoryReady (pcFailed : List Nat) (unitFailed : List (UnitKind × Nat)) (s : State) : State :=
  if ((List.range 128).filter fun k => !pcFailed.contains k).length < 120 then { s with m := kindlingStops 3 s.m }
  else if headlandKinds.any fun k => decide (passing unitFailed k < k.inService) then { s with m := kindlingStops 4 s.m }
  else
    let p1 := s.m.updFab (trainedFabric pcFailed)
    let p2 := p1.updHrt fun h => { h with units := headlandKinds.flatMap (builtUnits p1.sys.now unitFailed) }
    { s with m := enterStep 6 p2, hbm := [] }

/-! ### Steps 6 to 8 -/

/-- A lane failed its calibration: logged at WARN; a Kralys lane's furrow is FAULTED (R406). -/
def laneFails (p : Part) (n : Nat) : Part :=
  let q := report blkKiln 0 0x8003 1 0 n (p.updSys fun y => { y with lanesFailed := y.lanesFailed ++ [n] })
  if n < 128 then updLane n (fun l => { l with faulted := true, serdesOk := false }) q else q

/-- Step 6 ends; step 7 starts the band search (R254, Table 10.7). -/
def lanesCalibrated (failed : List Nat) (p : Part) : Part :=
  let q := enterStep 7 (failed.foldl laneFails p)
  if q.tb.xoFail then q else enterTb .search q

/-- Step 8 starts: the Kiln has filled the band table (R254), and the role is taken as soon as Table 11.3 settles it (R277). -/
def roleStep (p : Part) : Part := joinDecide false (enterStep 8 (bandsFollow p))

/-- The step that runs ends (Table 17.4); step 7 ends at LOCKED, and step 8 as R277 and R287 have it. -/
def kindlingStep (r : KindlingReport) (s : State) : State :=
  match s.m.sys.step with
  | 2 => { s with m := coresPassed r.cores r.octal s.m }
  | 3 => { s with m := imageRuns s.flash s.m }
  | 4 => { s with m := if r.powerGood then enterStep 5 s.m else kindlingStops 5 s.m }
  | 5 => memoryReady r.pcFailed r.unitFailed s
  | 6 => { s with m := lanesCalibrated r.laneFailed s.m }
  | 7 => { s with m := if s.m.tb.state = .locked then roleStep s.m else s.m }
  | _ => { s with m := joinDecide false s.m }

def execKindlingStepDone (t : Nat) (report : KindlingReport) (s : State) : Host.Outcome State Fault Refusal :=
  if s.m.alive && !s.m.sys.stopped && !s.m.sys.ready then .next (kindlingStep report { s with m := advance t s.m })
  else if s.m.alive then .next { s with m := advance t s.m }
  else .next s

/-- The kindling reference wait has run from the start of step 7 (R264). -/
def waitEnds (p : Part) : Bool :=
  p.sys.step == 7 && !p.sys.stopped && !p.sys.ready && decide (p.sys.stepAt + p.cfg.tb.refWait * sec ≤ p.sys.now)

def execReferenceWaitExpiry (t : Nat) (s : State) : Host.Outcome State Fault Refusal :=
  onPart (timed t (guarded waitEnds roleStep)) s

/-! ### The TAP (R445) -/

/-- A test instruction, which acts only while RESET_N is low. -/
def tapTests : TapOp → Bool
  | .extest | .extestPulse | .extestTrain | .intest | .clamp => true
  | .bypass | .idcode | .sample | .other _ | .testLogicReset => false

/-- The instruction as it acts; every one that does not act behaves as BYPASS. -/
def tapActs (resetN : Bool) (op : TapOp) : TapOp :=
  match op with
  | .idcode => .idcode
  | .testLogicReset => .idcode
  | .sample => .sample
  | .bypass => .bypass
  | .other _ => .bypass
  | .extest | .extestPulse | .extestTrain | .intest | .clamp => if resetN then .bypass else op

/-- What the data register that an instruction selects has captured: IDCODE 0x13624A57, or 0 of the bypass register; the
boundary register's contents are the pins' (log entry 74). -/
def tapOut (op : TapOp) (p : Part) : Part :=
  match op with
  | .idcode => emit (.tdo 0x13624A57) p
  | .bypass => emit (.tdo 0) p
  | _ => p

/-- The TAP takes an instruction, or Test-Logic-Reset. -/
def tapOperation (op : TapOp) (p : Part) : Part :=
  tapOut (tapActs p.sys.resetN op) (p.updSys fun y => { y with
    jtag := if op = .testLogicReset then .idcode else op, jtagTest := tapTests op && !y.resetN })

def execJtagTapOperation (t : Nat) (op : TapOp) (s : State) : Host.Outcome State Fault Refusal :=
  onPart (fun p => tapOperation op (advance t p)) s

end Sys2Proof.Machine
end

