-- ==== Sys2Proof/Machine/Dispatch.lean ====
section
/-! DEFINITION. The one dispatcher: a direct call of its meaning for every command. -/

namespace Sys2Proof.Machine

def exec (i : Instr) (s : State) : Host.Outcome State Fault Refusal :=
  match i with
  | .frameEvent gpio => Sys2Proof.Machine.execFrameEvent gpio s
  | .gateTimeout t jseq => Sys2Proof.Machine.execGateTimeout t jseq s
  | .fenceTimeout t group => Sys2Proof.Machine.execFenceTimeout t group s
  | .scanWindowOpen t short => Sys2Proof.Machine.execScanWindowOpen t short s
  | .scanWindowClose t => Sys2Proof.Machine.execScanWindowClose t s
  | .feederEstimateDone t => Sys2Proof.Machine.execFeederEstimateDone t s
  | .bandComposed t band behind => Sys2Proof.Machine.execBandComposed t band behind s
  | .lowlatExit t => Sys2Proof.Machine.execLowlatExit t s
  | .monOutputFrame t output => Sys2Proof.Machine.execMonOutputFrame t output s
  | .inputFrameStart t stream lines => Sys2Proof.Machine.execInputFrameStart t stream lines s
  | .frameStored t stream frame => Sys2Proof.Machine.execFrameStored t stream frame s
  | .fenceMemberLost t stream => Sys2Proof.Machine.execFenceMemberLost t stream s
  | .fencePacket t stream pkt => Sys2Proof.Machine.execFencePacket t stream pkt s
  | .st352Received t input id => Sys2Proof.Machine.execSt352Received t input id s
  | .formatDetected t stream fmt => Sys2Proof.Machine.execFormatDetected t stream fmt s
  | .streamLost t stream cause => Sys2Proof.Machine.execStreamLost t stream cause s
  | .streamRestored t stream => Sys2Proof.Machine.execStreamRestored t stream s
  | .holdTimeExpiry t stream => Sys2Proof.Machine.execHoldTimeExpiry t stream s
  | .rtpPacketReceived t stream leg pkt => Sys2Proof.Machine.execRtpPacketReceived t stream leg pkt s
  | .legLost t stream leg => Sys2Proof.Machine.execLegLost t stream leg s
  | .networkRequest t port req => Sys2Proof.Machine.execNetworkRequest t port req s
  | .membershipQuery t port v6 => Sys2Proof.Machine.execMembershipQuery t port v6 s
  | .ptpMessage t port msg => Sys2Proof.Machine.execPtpMessage t port msg s
  | .vectorEstimateDone t conv seqB blocks => Sys2Proof.Machine.execVectorEstimateDone t conv seqB blocks s
  | .tempUnknown t furrow position => Sys2Proof.Machine.execTempUnknown t furrow position s
  | .calTransferDone t tag ok partnerHolds => Sys2Proof.Machine.execCalTransferDone t tag ok partnerHolds s
  | .loadDequeue t tag => Sys2Proof.Machine.execLoadDequeue t tag s
  | .wearExportDone t tag => Sys2Proof.Machine.execWearExportDone t tag s
  | .klinkSignalDetect t furrow => Sys2Proof.Machine.execKlinkSignalDetect t furrow s
  | .klinkCdrLock t furrow => Sys2Proof.Machine.execKlinkCdrLock t furrow s
  | .klinkCommaAlign t furrow => Sys2Proof.Machine.execKlinkCommaAlign t furrow s
  | .klinkTsReceived t furrow sets => Sys2Proof.Machine.execKlinkTsReceived t furrow sets s
  | .klinkTrainTimeout t furrow => Sys2Proof.Machine.execKlinkTrainTimeout t furrow s
  | .klinkLos t furrow => Sys2Proof.Machine.execKlinkLos t furrow s
  | .klinkLol t furrow => Sys2Proof.Machine.execKlinkLol t furrow s
  | .klinkAlignLost t furrow => Sys2Proof.Machine.execKlinkAlignLost t furrow s
  | .balkOpenerSend t furrow => Sys2Proof.Machine.execBalkOpenerSend t furrow s
  | .statusRun t furrow => Sys2Proof.Machine.execStatusRun t furrow s
  | .ctrlSend t furrow => Sys2Proof.Machine.execCtrlSend t furrow s
  | .tileStatusReceived t furrow hdr status => Sys2Proof.Machine.execTileStatusReceived t furrow hdr status s
  | .ackReceived t furrow hdr next => Sys2Proof.Machine.execAckReceived t furrow hdr next s
  | .ctrlReplyReceived t furrow hdr reply => Sys2Proof.Machine.execCtrlReplyReceived t furrow hdr reply s
  | .alarmReceived t furrow hdr alarm => Sys2Proof.Machine.execAlarmReceived t furrow hdr alarm s
  | .foreignPacket t furrow hdr isSow => Sys2Proof.Machine.execForeignPacket t furrow hdr isSow s
  | .replayTimeout t furrow key => Sys2Proof.Machine.execReplayTimeout t furrow key s
  | .tileLost t furrow position => Sys2Proof.Machine.execTileLost t furrow position s
  | .tilePowerStuck t furrow position => Sys2Proof.Machine.execTilePowerStuck t furrow position s
  | .audSampleIn t src channel sample => Sys2Proof.Machine.execAudSampleIn t src channel sample s
  | .audSampleOut t port right push pop => Sys2Proof.Machine.execAudSampleOut t port right push pop s
  | .audSlip t src => Sys2Proof.Machine.execAudSlip t src s
  | .zcTimeout t channel => Sys2Proof.Machine.execZcTimeout t channel s
  | .audSourceLost t src => Sys2Proof.Machine.execAudSourceLost t src s
  | .refActivityLoss t slot => Sys2Proof.Machine.execRefActivityLoss t slot s
  | .freqGate t slot offset => Sys2Proof.Machine.execFreqGate t slot offset s
  | .refQualified t slot => Sys2Proof.Machine.execRefQualified t slot s
  | .phaseDetectorSample t slot sample => Sys2Proof.Machine.execPhaseDetectorSample t slot sample s
  | .bandSearchDone t band fine => Sys2Proof.Machine.execBandSearchDone t band fine s
  | .bandSearchFail t => Sys2Proof.Machine.execBandSearchFail t s
  | .bypassWaitExpiry t => Sys2Proof.Machine.execBypassWaitExpiry t s
  | .switchHoldoffExpiry t => Sys2Proof.Machine.execSwitchHoldoffExpiry t s
  | .acquisitionTimeout t => Sys2Proof.Machine.execAcquisitionTimeout t s
  | .dwellComplete t within => Sys2Proof.Machine.execDwellComplete t within s
  | .holdoverSecond t mean => Sys2Proof.Machine.execHoldoverSecond t mean s
  | .referenceWaitExpiry t => Sys2Proof.Machine.execReferenceWaitExpiry t s
  | .rootLockLost t => Sys2Proof.Machine.execRootLockLost t s
  | .xoFail t => Sys2Proof.Machine.execXoFail t s
  | .heartbeatSend t => Sys2Proof.Machine.execHeartbeatSend t s
  | .heartbeatReceived t linkB cfn hb => Sys2Proof.Machine.execHeartbeatReceived t linkB cfn hb s
  | .pairLinkLost t linkB => Sys2Proof.Machine.execPairLinkLost t linkB s
  | .mirrorReceived t linkB mseq opcode pkt => Sys2Proof.Machine.execMirrorReceived t linkB mseq opcode pkt s
  | .journalReceived t linkB entry => Sys2Proof.Machine.execJournalReceived t linkB entry s
  | .bulkReceived t linkB object offset data => Sys2Proof.Machine.execBulkReceived t linkB object offset data s
  | .pairAckReceived t linkB kind seq => Sys2Proof.Machine.execPairAckReceived t linkB kind seq s
  | .pairResend t linkB kind seq => Sys2Proof.Machine.execPairResend t linkB kind seq s
  | .mirrorTimeout t mseq => Sys2Proof.Machine.execMirrorTimeout t mseq s
  | .syncReceived t cfn shown => Sys2Proof.Machine.execSyncReceived t cfn shown s
  | .syncMiss t => Sys2Proof.Machine.execSyncMiss t s
  | .bandsumReceived t cfn first sums => Sys2Proof.Machine.execBandsumReceived t cfn first sums s
  | .verdictReceived t cfn band result => Sys2Proof.Machine.execVerdictReceived t cfn band result s
  | .verdictTimeout t cfn band => Sys2Proof.Machine.execVerdictTimeout t cfn band s
  | .pairYieldLow t => Sys2Proof.Machine.execPairYieldLow t s
  | .pairTenureHigh t => Sys2Proof.Machine.execPairTenureHigh t s
  | .tenureWaitExpiry t => Sys2Proof.Machine.execTenureWaitExpiry t s
  | .wireUnmark t => Sys2Proof.Machine.execWireUnmark t s
  | .witnessClaim t => Sys2Proof.Machine.execWitnessClaim t s
  | .joinWaitExpiry t => Sys2Proof.Machine.execJoinWaitExpiry t s
  | .unitFault t kind logical single => Sys2Proof.Machine.execUnitFault t kind logical single s
  | .progressWatchdog t kind logical => Sys2Proof.Machine.execProgressWatchdog t kind logical s
  | .hearthSwap t => Sys2Proof.Machine.execHearthSwap t s
  | .plannedSwap t kind logical => Sys2Proof.Machine.execPlannedSwap t kind logical s
  | .furrowFault t furrow serdesOk => Sys2Proof.Machine.execFurrowFault t furrow serdesOk s
  | .kilnLockstepMismatch t failing => Sys2Proof.Machine.execKilnLockstepMismatch t failing s
  | .kilnWatchdog t failing => Sys2Proof.Machine.execKilnWatchdog t failing s
  | .kilnRestored t => Sys2Proof.Machine.execKilnRestored t s
  | .hearthCopyDisagree t copy majority => Sys2Proof.Machine.execHearthCopyDisagree t copy majority s
  | .selfTestDuty t kind physical pass => Sys2Proof.Machine.execSelfTestDuty t kind physical pass s
  | .wearTrendSample t sample => Sys2Proof.Machine.execWearTrendSample t sample s
  | .memFault t logical segment => Sys2Proof.Machine.execMemFault t logical segment s
  | .memRemap t => Sys2Proof.Machine.execMemRemap t s
  | .patrolScrub t logical corrected => Sys2Proof.Machine.execPatrolScrub t logical corrected s
  | .fabricDecerr t master => Sys2Proof.Machine.execFabricDecerr t master s
  | .logWindowClose t source inst code => Sys2Proof.Machine.execLogWindowClose t source inst code s
  | .logWrite t => Sys2Proof.Machine.execLogWrite t s
  | .logLostEntry t => Sys2Proof.Machine.execLogLostEntry t s
  | .logBankFail t bankB => Sys2Proof.Machine.execLogBankFail t bankB s
  | .logBankCopyDone t => Sys2Proof.Machine.execLogBankCopyDone t s
  | .fwTrialEnd t => Sys2Proof.Machine.execFwTrialEnd t s
  | .txnExpired t id => Sys2Proof.Machine.execTxnExpired t id s
  | .eventRingWrite t => Sys2Proof.Machine.execEventRingWrite t s
  | .evqLostEntry t => Sys2Proof.Machine.execEvqLostEntry t s
  | .slateAutoTrigger t => Sys2Proof.Machine.execSlateAutoTrigger t s
  | .slatePinRelease t => Sys2Proof.Machine.execSlatePinRelease t s
  | .cmdDoorbell t value => Sys2Proof.Machine.execCmdDoorbell t value s
  | .cmdFetch t slot => Sys2Proof.Machine.execCmdFetch t slot s
  | .replyWrite t => Sys2Proof.Machine.execReplyWrite t s
  | .rplHeadWrite t value => Sys2Proof.Machine.execRplHeadWrite t value s
  | .evrHeadWrite t value => Sys2Proof.Machine.execEvrHeadWrite t value s
  | .cmdEn t on => Sys2Proof.Machine.execCmdEn t on s
  | .rplEn t on => Sys2Proof.Machine.execRplEn t on s
  | .evrEn t on => Sys2Proof.Machine.execEvrEn t on s
  | .wbEn t on => Sys2Proof.Machine.execWbEn t on s
  | .ringErr t => Sys2Proof.Machine.execRingErr t s
  | .dmaErr t => Sys2Proof.Machine.execDmaErr t s
  | .hostDmaErr t ring => Sys2Proof.Machine.execHostDmaErr t ring s
  | .replyModExpiry t => Sys2Proof.Machine.execReplyModExpiry t s
  | .uartFrame t raw => Sys2Proof.Machine.execUartFrame t raw s
  | .uartByteTimeout t => Sys2Proof.Machine.execUartByteTimeout t s
  | .uartBreak t => Sys2Proof.Machine.execUartBreak t s
  | .perstN t => Sys2Proof.Machine.execPerstN t s
  | .resetNAssert t => Sys2Proof.Machine.execResetNAssert t s
  | .pwrOkLow t => Sys2Proof.Machine.execPwrOkLow t s
  | .resetNRelease t endB host boot => Sys2Proof.Machine.execResetNRelease t endB host boot s
  | .kindlingStepDone t report => Sys2Proof.Machine.execKindlingStepDone t report s
  | .energyTick t estimate tj sensor => Sys2Proof.Machine.execEnergyTick t estimate tj sensor s
  | .powerCapExceeded t => Sys2Proof.Machine.execPowerCapExceeded t s
  | .pmbusPoll t readings => Sys2Proof.Machine.execPmbusPoll t readings s
  | .pmbusAlert t low words => Sys2Proof.Machine.execPmbusAlert t low words s
  | .thermCrit t tj sensor => Sys2Proof.Machine.execThermCrit t tj sensor s
  | .damped t tj sensor => Sys2Proof.Machine.execDamped t tj sensor s
  | .maintUnlockKey t key => Sys2Proof.Machine.execMaintUnlockKey t key s
  | .relock t => Sys2Proof.Machine.execRelock t s
  | .maintDisable t => Sys2Proof.Machine.execMaintDisable t s
  | .maintTimeout t => Sys2Proof.Machine.execMaintTimeout t s
  | .gpioLock t => Sys2Proof.Machine.execGpioLock t s
  | .gpio15Maint t level => Sys2Proof.Machine.execGpio15Maint t level s
  | .eventPendWrite t bank value => Sys2Proof.Machine.execEventPendWrite t bank value s
  | .eventMaskWrite t bank value => Sys2Proof.Machine.execEventMaskWrite t bank value s
  | .regLoRead t kilnPath offset => Sys2Proof.Machine.execRegLoRead t kilnPath offset s
  | .globalFreeze t on => Sys2Proof.Machine.execGlobalFreeze t on s
  | .snap t => Sys2Proof.Machine.execSnap t s
  | .snapFe t on => Sys2Proof.Machine.execSnapFe t on s
  | .perfOvfClear t group bits => Sys2Proof.Machine.execPerfOvfClear t group bits s
  | .perfCounterWrite t group counter value => Sys2Proof.Machine.execPerfCounterWrite t group counter value s
  | .registerWrite t offset value enables => Sys2Proof.Machine.execRegisterWrite t offset value enables s
  | .ident t pkt => Sys2Proof.Machine.execIdent t pkt s
  | .status t pkt => Sys2Proof.Machine.execStatus t pkt s
  | .glean t pkt => Sys2Proof.Machine.execGlean t pkt s
  | .ping t pkt => Sys2Proof.Machine.execPing t pkt s
  | .time t pkt => Sys2Proof.Machine.execTime t pkt s
  | .txnOpen t pkt => Sys2Proof.Machine.execTxnOpen t pkt s
  | .txnSeal t pkt => Sys2Proof.Machine.execTxnSeal t pkt s
  | .txnAbort t pkt => Sys2Proof.Machine.execTxnAbort t pkt s
  | .txnList t pkt => Sys2Proof.Machine.execTxnList t pkt s
  | .commitList t pkt => Sys2Proof.Machine.execCommitList t pkt s
  | .fenceSet t pkt => Sys2Proof.Machine.execFenceSet t pkt s
  | .fenceAnc t pkt => Sys2Proof.Machine.execFenceAnc t pkt s
  | .fenceStatus t pkt => Sys2Proof.Machine.execFenceStatus t pkt s
  | .streamSdi t pkt => Sys2Proof.Machine.execStreamSdi t pkt s
  | .streamIp t pkt => Sys2Proof.Machine.execStreamIp t pkt s
  | .streamParams t pkt => Sys2Proof.Machine.execStreamParams t pkt s
  | .inputRemove t pkt => Sys2Proof.Machine.execInputRemove t pkt s
  | .audFlow t pkt => Sys2Proof.Machine.execAudFlow t pkt s
  | .ancFlow t pkt => Sys2Proof.Machine.execAncFlow t pkt s
  | .ethSet t pkt => Sys2Proof.Machine.execEthSet t pkt s
  | .ptpSet t pkt => Sys2Proof.Machine.execPtpSet t pkt s
  | .streamStatus t pkt => Sys2Proof.Machine.execStreamStatus t pkt s
  | .portStatus t pkt => Sys2Proof.Machine.execPortStatus t pkt s
  | .streamRead t pkt => Sys2Proof.Machine.execStreamRead t pkt s
  | .flowStatus t pkt => Sys2Proof.Machine.execFlowStatus t pkt s
  | .frcSet t pkt => Sys2Proof.Machine.execFrcSet t pkt s
  | .frcStatus t pkt => Sys2Proof.Machine.execFrcStatus t pkt s
  | .frcRead t pkt => Sys2Proof.Machine.execFrcRead t pkt s
  | .regionSet t pkt => Sys2Proof.Machine.execRegionSet t pkt s
  | .regionRemove t pkt => Sys2Proof.Machine.execRegionRemove t pkt s
  | .layerSet t pkt => Sys2Proof.Machine.execLayerSet t pkt s
  | .layerRemove t pkt => Sys2Proof.Machine.execLayerRemove t pkt s
  | .coefLoad t pkt => Sys2Proof.Machine.execCoefLoad t pkt s
  | .coefRead t pkt => Sys2Proof.Machine.execCoefRead t pkt s
  | .objAlloc t pkt => Sys2Proof.Machine.execObjAlloc t pkt s
  | .objLoad t pkt => Sys2Proof.Machine.execObjLoad t pkt s
  | .objRelease t pkt => Sys2Proof.Machine.execObjRelease t pkt s
  | .objStatus t pkt => Sys2Proof.Machine.execObjStatus t pkt s
  | .regionRead t pkt => Sys2Proof.Machine.execRegionRead t pkt s
  | .layerRead t pkt => Sys2Proof.Machine.execLayerRead t pkt s
  | .canvasSet t pkt => Sys2Proof.Machine.execCanvasSet t pkt s
  | .lowlatSet t pkt => Sys2Proof.Machine.execLowlatSet t pkt s
  | .holdSet t pkt => Sys2Proof.Machine.execHoldSet t pkt s
  | .monSet t pkt => Sys2Proof.Machine.execMonSet t pkt s
  | .slateSet t pkt => Sys2Proof.Machine.execSlateSet t pkt s
  | .slateShow t pkt => Sys2Proof.Machine.execSlateShow t pkt s
  | .slateClear t pkt => Sys2Proof.Machine.execSlateClear t pkt s
  | .canvasStatus t pkt => Sys2Proof.Machine.execCanvasStatus t pkt s
  | .bandSums t pkt => Sys2Proof.Machine.execBandSums t pkt s
  | .canvasRead t pkt => Sys2Proof.Machine.execCanvasRead t pkt s
  | .monStatus t pkt => Sys2Proof.Machine.execMonStatus t pkt s
  | .lightSet t pkt => Sys2Proof.Machine.execLightSet t pkt s
  | .typeLoad t pkt => Sys2Proof.Machine.execTypeLoad t pkt s
  | .pkgLoad t pkt memory => Sys2Proof.Machine.execPkgLoad t pkt memory s
  | .wearExport t pkt => Sys2Proof.Machine.execWearExport t pkt s
  | .loadStatus t pkt => Sys2Proof.Machine.execLoadStatus t pkt s
  | .feederSet t pkt => Sys2Proof.Machine.execFeederSet t pkt s
  | .feederStatus t pkt => Sys2Proof.Machine.execFeederStatus t pkt s
  | .calRead t pkt => Sys2Proof.Machine.execCalRead t pkt s
  | .typeRead t pkt => Sys2Proof.Machine.execTypeRead t pkt s
  | .feederRead t pkt => Sys2Proof.Machine.execFeederRead t pkt s
  | .lightRead t pkt => Sys2Proof.Machine.execLightRead t pkt s
  | .furrowSet t pkt => Sys2Proof.Machine.execFurrowSet t pkt s
  | .latchSet t pkt => Sys2Proof.Machine.execLatchSet t pkt s
  | .tilemapSet t pkt => Sys2Proof.Machine.execTilemapSet t pkt s
  | .tileLevel t pkt => Sys2Proof.Machine.execTileLevel t pkt s
  | .furrowStatus t pkt => Sys2Proof.Machine.execFurrowStatus t pkt s
  | .tileStatus t pkt => Sys2Proof.Machine.execTileStatus t pkt s
  | .tileCtrl t pkt => Sys2Proof.Machine.execTileCtrl t pkt s
  | .furrowRescan t pkt => Sys2Proof.Machine.execFurrowRescan t pkt s
  | .tilemapRead t pkt => Sys2Proof.Machine.execTilemapRead t pkt s
  | .tileClear t pkt => Sys2Proof.Machine.execTileClear t pkt s
  | .audChan t pkt => Sys2Proof.Machine.execAudChan t pkt s
  | .audPort t pkt => Sys2Proof.Machine.execAudPort t pkt s
  | .audMclk t pkt => Sys2Proof.Machine.execAudMclk t pkt s
  | .audZc t pkt => Sys2Proof.Machine.execAudZc t pkt s
  | .audStatus t pkt => Sys2Proof.Machine.execAudStatus t pkt s
  | .audRead t pkt => Sys2Proof.Machine.execAudRead t pkt s
  | .tbSlot t pkt => Sys2Proof.Machine.execTbSlot t pkt s
  | .tbSet t pkt => Sys2Proof.Machine.execTbSet t pkt s
  | .tbSteer t pkt => Sys2Proof.Machine.execTbSteer t pkt s
  | .couSet t pkt => Sys2Proof.Machine.execCouSet t pkt s
  | .tbStatus t pkt => Sys2Proof.Machine.execTbStatus t pkt s
  | .tbSlotStatus t pkt => Sys2Proof.Machine.execTbSlotStatus t pkt s
  | .tbRead t pkt => Sys2Proof.Machine.execTbRead t pkt s
  | .pairSet t pkt => Sys2Proof.Machine.execPairSet t pkt s
  | .pairSwitch t pkt => Sys2Proof.Machine.execPairSwitch t pkt s
  | .pairStatus t pkt => Sys2Proof.Machine.execPairStatus t pkt s
  | .pairRead t pkt => Sys2Proof.Machine.execPairRead t pkt s
  | .fwWrite t pkt => Sys2Proof.Machine.execFwWrite t pkt s
  | .fwVerify t pkt => Sys2Proof.Machine.execFwVerify t pkt s
  | .fwSwitch t pkt => Sys2Proof.Machine.execFwSwitch t pkt s
  | .bootSelect t pkt => Sys2Proof.Machine.execBootSelect t pkt s
  | .spareSwap t pkt => Sys2Proof.Machine.execSpareSwap t pkt s
  | .selfTest t pkt => Sys2Proof.Machine.execSelfTest t pkt s
  | .powerCap t pkt => Sys2Proof.Machine.execPowerCap t pkt s
  | .wearThresh t pkt => Sys2Proof.Machine.execWearThresh t pkt s
  | .uartRate t pkt => Sys2Proof.Machine.execUartRate t pkt s
  | .watchdog t pkt => Sys2Proof.Machine.execWatchdog t pkt s
  | .headlandStatus t pkt => Sys2Proof.Machine.execHeadlandStatus t pkt s
  | .powerStatus t pkt => Sys2Proof.Machine.execPowerStatus t pkt s
  | .hbmStatus t pkt => Sys2Proof.Machine.execHbmStatus t pkt s
  | .scrubSet t pkt => Sys2Proof.Machine.execScrubSet t pkt s
  | .evStatus t pkt => Sys2Proof.Machine.execEvStatus t pkt s
  | .evClear t pkt => Sys2Proof.Machine.execEvClear t pkt s
  | .cntRead t pkt => Sys2Proof.Machine.execCntRead t pkt s
  | .cntClear t pkt => Sys2Proof.Machine.execCntClear t pkt s
  | .perfSnapshot t pkt => Sys2Proof.Machine.execPerfSnapshot t pkt s
  | .logStatus t pkt => Sys2Proof.Machine.execLogStatus t pkt s
  | .evMask t pkt => Sys2Proof.Machine.execEvMask t pkt s
  | .perfSet t pkt => Sys2Proof.Machine.execPerfSet t pkt s
  | .perfRead t pkt => Sys2Proof.Machine.execPerfRead t pkt s
  | .commandPacketRefused t uart bytes => Sys2Proof.Machine.execCommandPacketRefused t uart bytes s
  | .klinkPacketDiscarded t furrow crc => Sys2Proof.Machine.execKlinkPacketDiscarded t furrow crc s
  | .klinkSymbolError t furrow => Sys2Proof.Machine.execKlinkSymbolError t furrow s
  | .pairFrameDiscarded t linkB => Sys2Proof.Machine.execPairFrameDiscarded t linkB s
  | .ethLinkDown t port => Sys2Proof.Machine.execEthLinkDown t port s
  | .ethLinkUp t port => Sys2Proof.Machine.execEthLinkUp t port s
  | .xoRestored t => Sys2Proof.Machine.execXoRestored t s
  | .thermWarn t tj sensor => Sys2Proof.Machine.execThermWarn t tj sensor s
  | .perfCounterWrap t group counter => Sys2Proof.Machine.execPerfCounterWrap t group counter s
  | .hostTransferDone t tag ok data => Sys2Proof.Machine.execHostTransferDone t tag ok data s
  | .flashWriteDone t tag ok data => Sys2Proof.Machine.execFlashWriteDone t tag ok data s
  | .jtagTapOperation t op => Sys2Proof.Machine.execJtagTapOperation t op s

end Sys2Proof.Machine
end

