-- ==== Sys2Proof/Laws/State.lean ====
section
/-! SUPPORT. What each group update leaves and gives, one lemma per field and update. -/

namespace Sys2Proof.Machine

@[simp] theorem Part.updSys_sys (p : Part) (g : Sys → Sys) : (p.updSys g).sys = g p.sys := rfl
@[simp] theorem Part.updSys_maint (p : Part) (g : Sys → Sys) : (p.updSys g).maint = p.maint := rfl
@[simp] theorem Part.updSys_ev (p : Part) (g : Sys → Sys) : (p.updSys g).ev = p.ev := rfl
@[simp] theorem Part.updSys_log (p : Part) (g : Sys → Sys) : (p.updSys g).log = p.log := rfl
@[simp] theorem Part.updSys_host (p : Part) (g : Sys → Sys) : (p.updSys g).host = p.host := rfl
@[simp] theorem Part.updSys_txn (p : Part) (g : Sys → Sys) : (p.updSys g).txn = p.txn := rfl
@[simp] theorem Part.updSys_cfg (p : Part) (g : Sys → Sys) : (p.updSys g).cfg = p.cfg := rfl
@[simp] theorem Part.updSys_inp (p : Part) (g : Sys → Sys) : (p.updSys g).inp = p.inp := rfl
@[simp] theorem Part.updSys_frc (p : Part) (g : Sys → Sys) : (p.updSys g).frc = p.frc := rfl
@[simp] theorem Part.updSys_comp (p : Part) (g : Sys → Sys) : (p.updSys g).comp = p.comp := rfl
@[simp] theorem Part.updSys_fr (p : Part) (g : Sys → Sys) : (p.updSys g).fr = p.fr := rfl
@[simp] theorem Part.updSys_light (p : Part) (g : Sys → Sys) : (p.updSys g).light = p.light := rfl
@[simp] theorem Part.updSys_kl (p : Part) (g : Sys → Sys) : (p.updSys g).kl = p.kl := rfl
@[simp] theorem Part.updSys_aud (p : Part) (g : Sys → Sys) : (p.updSys g).aud = p.aud := rfl
@[simp] theorem Part.updSys_tb (p : Part) (g : Sys → Sys) : (p.updSys g).tb = p.tb := rfl
@[simp] theorem Part.updSys_pair (p : Part) (g : Sys → Sys) : (p.updSys g).pair = p.pair := rfl
@[simp] theorem Part.updSys_hrt (p : Part) (g : Sys → Sys) : (p.updSys g).hrt = p.hrt := rfl
@[simp] theorem Part.updSys_fab (p : Part) (g : Sys → Sys) : (p.updSys g).fab = p.fab := rfl
@[simp] theorem Part.updSys_pwr (p : Part) (g : Sys → Sys) : (p.updSys g).pwr = p.pwr := rfl
@[simp] theorem Part.updSys_perf (p : Part) (g : Sys → Sys) : (p.updSys g).perf = p.perf := rfl
@[simp] theorem Part.updSys_cnt (p : Part) (g : Sys → Sys) : (p.updSys g).cnt = p.cnt := rfl
@[simp] theorem Part.updSys_out (p : Part) (g : Sys → Sys) : (p.updSys g).out = p.out := rfl
@[simp] theorem Part.updSys_free (p : Part) (g : Sys → Sys) : (p.updSys g).free = p.free := rfl

@[simp] theorem Part.updMaint_maint (p : Part) (g : Maint → Maint) : (p.updMaint g).maint = g p.maint := rfl
@[simp] theorem Part.updMaint_sys (p : Part) (g : Maint → Maint) : (p.updMaint g).sys = p.sys := rfl
@[simp] theorem Part.updMaint_ev (p : Part) (g : Maint → Maint) : (p.updMaint g).ev = p.ev := rfl
@[simp] theorem Part.updMaint_log (p : Part) (g : Maint → Maint) : (p.updMaint g).log = p.log := rfl
@[simp] theorem Part.updMaint_host (p : Part) (g : Maint → Maint) : (p.updMaint g).host = p.host := rfl
@[simp] theorem Part.updMaint_txn (p : Part) (g : Maint → Maint) : (p.updMaint g).txn = p.txn := rfl
@[simp] theorem Part.updMaint_cfg (p : Part) (g : Maint → Maint) : (p.updMaint g).cfg = p.cfg := rfl
@[simp] theorem Part.updMaint_inp (p : Part) (g : Maint → Maint) : (p.updMaint g).inp = p.inp := rfl
@[simp] theorem Part.updMaint_frc (p : Part) (g : Maint → Maint) : (p.updMaint g).frc = p.frc := rfl
@[simp] theorem Part.updMaint_comp (p : Part) (g : Maint → Maint) : (p.updMaint g).comp = p.comp := rfl
@[simp] theorem Part.updMaint_fr (p : Part) (g : Maint → Maint) : (p.updMaint g).fr = p.fr := rfl
@[simp] theorem Part.updMaint_light (p : Part) (g : Maint → Maint) : (p.updMaint g).light = p.light := rfl
@[simp] theorem Part.updMaint_kl (p : Part) (g : Maint → Maint) : (p.updMaint g).kl = p.kl := rfl
@[simp] theorem Part.updMaint_aud (p : Part) (g : Maint → Maint) : (p.updMaint g).aud = p.aud := rfl
@[simp] theorem Part.updMaint_tb (p : Part) (g : Maint → Maint) : (p.updMaint g).tb = p.tb := rfl
@[simp] theorem Part.updMaint_pair (p : Part) (g : Maint → Maint) : (p.updMaint g).pair = p.pair := rfl
@[simp] theorem Part.updMaint_hrt (p : Part) (g : Maint → Maint) : (p.updMaint g).hrt = p.hrt := rfl
@[simp] theorem Part.updMaint_fab (p : Part) (g : Maint → Maint) : (p.updMaint g).fab = p.fab := rfl
@[simp] theorem Part.updMaint_pwr (p : Part) (g : Maint → Maint) : (p.updMaint g).pwr = p.pwr := rfl
@[simp] theorem Part.updMaint_perf (p : Part) (g : Maint → Maint) : (p.updMaint g).perf = p.perf := rfl
@[simp] theorem Part.updMaint_cnt (p : Part) (g : Maint → Maint) : (p.updMaint g).cnt = p.cnt := rfl
@[simp] theorem Part.updMaint_out (p : Part) (g : Maint → Maint) : (p.updMaint g).out = p.out := rfl
@[simp] theorem Part.updMaint_free (p : Part) (g : Maint → Maint) : (p.updMaint g).free = p.free := rfl

@[simp] theorem Part.updEv_ev (p : Part) (g : Ev → Ev) : (p.updEv g).ev = g p.ev := rfl
@[simp] theorem Part.updEv_sys (p : Part) (g : Ev → Ev) : (p.updEv g).sys = p.sys := rfl
@[simp] theorem Part.updEv_maint (p : Part) (g : Ev → Ev) : (p.updEv g).maint = p.maint := rfl
@[simp] theorem Part.updEv_log (p : Part) (g : Ev → Ev) : (p.updEv g).log = p.log := rfl
@[simp] theorem Part.updEv_host (p : Part) (g : Ev → Ev) : (p.updEv g).host = p.host := rfl
@[simp] theorem Part.updEv_txn (p : Part) (g : Ev → Ev) : (p.updEv g).txn = p.txn := rfl
@[simp] theorem Part.updEv_cfg (p : Part) (g : Ev → Ev) : (p.updEv g).cfg = p.cfg := rfl
@[simp] theorem Part.updEv_inp (p : Part) (g : Ev → Ev) : (p.updEv g).inp = p.inp := rfl
@[simp] theorem Part.updEv_frc (p : Part) (g : Ev → Ev) : (p.updEv g).frc = p.frc := rfl
@[simp] theorem Part.updEv_comp (p : Part) (g : Ev → Ev) : (p.updEv g).comp = p.comp := rfl
@[simp] theorem Part.updEv_fr (p : Part) (g : Ev → Ev) : (p.updEv g).fr = p.fr := rfl
@[simp] theorem Part.updEv_light (p : Part) (g : Ev → Ev) : (p.updEv g).light = p.light := rfl
@[simp] theorem Part.updEv_kl (p : Part) (g : Ev → Ev) : (p.updEv g).kl = p.kl := rfl
@[simp] theorem Part.updEv_aud (p : Part) (g : Ev → Ev) : (p.updEv g).aud = p.aud := rfl
@[simp] theorem Part.updEv_tb (p : Part) (g : Ev → Ev) : (p.updEv g).tb = p.tb := rfl
@[simp] theorem Part.updEv_pair (p : Part) (g : Ev → Ev) : (p.updEv g).pair = p.pair := rfl
@[simp] theorem Part.updEv_hrt (p : Part) (g : Ev → Ev) : (p.updEv g).hrt = p.hrt := rfl
@[simp] theorem Part.updEv_fab (p : Part) (g : Ev → Ev) : (p.updEv g).fab = p.fab := rfl
@[simp] theorem Part.updEv_pwr (p : Part) (g : Ev → Ev) : (p.updEv g).pwr = p.pwr := rfl
@[simp] theorem Part.updEv_perf (p : Part) (g : Ev → Ev) : (p.updEv g).perf = p.perf := rfl
@[simp] theorem Part.updEv_cnt (p : Part) (g : Ev → Ev) : (p.updEv g).cnt = p.cnt := rfl
@[simp] theorem Part.updEv_out (p : Part) (g : Ev → Ev) : (p.updEv g).out = p.out := rfl
@[simp] theorem Part.updEv_free (p : Part) (g : Ev → Ev) : (p.updEv g).free = p.free := rfl

@[simp] theorem Part.updLog_log (p : Part) (g : Log → Log) : (p.updLog g).log = g p.log := rfl
@[simp] theorem Part.updLog_sys (p : Part) (g : Log → Log) : (p.updLog g).sys = p.sys := rfl
@[simp] theorem Part.updLog_maint (p : Part) (g : Log → Log) : (p.updLog g).maint = p.maint := rfl
@[simp] theorem Part.updLog_ev (p : Part) (g : Log → Log) : (p.updLog g).ev = p.ev := rfl
@[simp] theorem Part.updLog_host (p : Part) (g : Log → Log) : (p.updLog g).host = p.host := rfl
@[simp] theorem Part.updLog_txn (p : Part) (g : Log → Log) : (p.updLog g).txn = p.txn := rfl
@[simp] theorem Part.updLog_cfg (p : Part) (g : Log → Log) : (p.updLog g).cfg = p.cfg := rfl
@[simp] theorem Part.updLog_inp (p : Part) (g : Log → Log) : (p.updLog g).inp = p.inp := rfl
@[simp] theorem Part.updLog_frc (p : Part) (g : Log → Log) : (p.updLog g).frc = p.frc := rfl
@[simp] theorem Part.updLog_comp (p : Part) (g : Log → Log) : (p.updLog g).comp = p.comp := rfl
@[simp] theorem Part.updLog_fr (p : Part) (g : Log → Log) : (p.updLog g).fr = p.fr := rfl
@[simp] theorem Part.updLog_light (p : Part) (g : Log → Log) : (p.updLog g).light = p.light := rfl
@[simp] theorem Part.updLog_kl (p : Part) (g : Log → Log) : (p.updLog g).kl = p.kl := rfl
@[simp] theorem Part.updLog_aud (p : Part) (g : Log → Log) : (p.updLog g).aud = p.aud := rfl
@[simp] theorem Part.updLog_tb (p : Part) (g : Log → Log) : (p.updLog g).tb = p.tb := rfl
@[simp] theorem Part.updLog_pair (p : Part) (g : Log → Log) : (p.updLog g).pair = p.pair := rfl
@[simp] theorem Part.updLog_hrt (p : Part) (g : Log → Log) : (p.updLog g).hrt = p.hrt := rfl
@[simp] theorem Part.updLog_fab (p : Part) (g : Log → Log) : (p.updLog g).fab = p.fab := rfl
@[simp] theorem Part.updLog_pwr (p : Part) (g : Log → Log) : (p.updLog g).pwr = p.pwr := rfl
@[simp] theorem Part.updLog_perf (p : Part) (g : Log → Log) : (p.updLog g).perf = p.perf := rfl
@[simp] theorem Part.updLog_cnt (p : Part) (g : Log → Log) : (p.updLog g).cnt = p.cnt := rfl
@[simp] theorem Part.updLog_out (p : Part) (g : Log → Log) : (p.updLog g).out = p.out := rfl
@[simp] theorem Part.updLog_free (p : Part) (g : Log → Log) : (p.updLog g).free = p.free := rfl

@[simp] theorem Part.updHost_host (p : Part) (g : HostIf → HostIf) : (p.updHost g).host = g p.host := rfl
@[simp] theorem Part.updHost_sys (p : Part) (g : HostIf → HostIf) : (p.updHost g).sys = p.sys := rfl
@[simp] theorem Part.updHost_maint (p : Part) (g : HostIf → HostIf) : (p.updHost g).maint = p.maint := rfl
@[simp] theorem Part.updHost_ev (p : Part) (g : HostIf → HostIf) : (p.updHost g).ev = p.ev := rfl
@[simp] theorem Part.updHost_log (p : Part) (g : HostIf → HostIf) : (p.updHost g).log = p.log := rfl
@[simp] theorem Part.updHost_txn (p : Part) (g : HostIf → HostIf) : (p.updHost g).txn = p.txn := rfl
@[simp] theorem Part.updHost_cfg (p : Part) (g : HostIf → HostIf) : (p.updHost g).cfg = p.cfg := rfl
@[simp] theorem Part.updHost_inp (p : Part) (g : HostIf → HostIf) : (p.updHost g).inp = p.inp := rfl
@[simp] theorem Part.updHost_frc (p : Part) (g : HostIf → HostIf) : (p.updHost g).frc = p.frc := rfl
@[simp] theorem Part.updHost_comp (p : Part) (g : HostIf → HostIf) : (p.updHost g).comp = p.comp := rfl
@[simp] theorem Part.updHost_fr (p : Part) (g : HostIf → HostIf) : (p.updHost g).fr = p.fr := rfl
@[simp] theorem Part.updHost_light (p : Part) (g : HostIf → HostIf) : (p.updHost g).light = p.light := rfl
@[simp] theorem Part.updHost_kl (p : Part) (g : HostIf → HostIf) : (p.updHost g).kl = p.kl := rfl
@[simp] theorem Part.updHost_aud (p : Part) (g : HostIf → HostIf) : (p.updHost g).aud = p.aud := rfl
@[simp] theorem Part.updHost_tb (p : Part) (g : HostIf → HostIf) : (p.updHost g).tb = p.tb := rfl
@[simp] theorem Part.updHost_pair (p : Part) (g : HostIf → HostIf) : (p.updHost g).pair = p.pair := rfl
@[simp] theorem Part.updHost_hrt (p : Part) (g : HostIf → HostIf) : (p.updHost g).hrt = p.hrt := rfl
@[simp] theorem Part.updHost_fab (p : Part) (g : HostIf → HostIf) : (p.updHost g).fab = p.fab := rfl
@[simp] theorem Part.updHost_pwr (p : Part) (g : HostIf → HostIf) : (p.updHost g).pwr = p.pwr := rfl
@[simp] theorem Part.updHost_perf (p : Part) (g : HostIf → HostIf) : (p.updHost g).perf = p.perf := rfl
@[simp] theorem Part.updHost_cnt (p : Part) (g : HostIf → HostIf) : (p.updHost g).cnt = p.cnt := rfl
@[simp] theorem Part.updHost_out (p : Part) (g : HostIf → HostIf) : (p.updHost g).out = p.out := rfl
@[simp] theorem Part.updHost_free (p : Part) (g : HostIf → HostIf) : (p.updHost g).free = p.free := rfl

@[simp] theorem Part.updTxn_txn (p : Part) (g : TxnSt → TxnSt) : (p.updTxn g).txn = g p.txn := rfl
@[simp] theorem Part.updTxn_sys (p : Part) (g : TxnSt → TxnSt) : (p.updTxn g).sys = p.sys := rfl
@[simp] theorem Part.updTxn_maint (p : Part) (g : TxnSt → TxnSt) : (p.updTxn g).maint = p.maint := rfl
@[simp] theorem Part.updTxn_ev (p : Part) (g : TxnSt → TxnSt) : (p.updTxn g).ev = p.ev := rfl
@[simp] theorem Part.updTxn_log (p : Part) (g : TxnSt → TxnSt) : (p.updTxn g).log = p.log := rfl
@[simp] theorem Part.updTxn_host (p : Part) (g : TxnSt → TxnSt) : (p.updTxn g).host = p.host := rfl
@[simp] theorem Part.updTxn_cfg (p : Part) (g : TxnSt → TxnSt) : (p.updTxn g).cfg = p.cfg := rfl
@[simp] theorem Part.updTxn_inp (p : Part) (g : TxnSt → TxnSt) : (p.updTxn g).inp = p.inp := rfl
@[simp] theorem Part.updTxn_frc (p : Part) (g : TxnSt → TxnSt) : (p.updTxn g).frc = p.frc := rfl
@[simp] theorem Part.updTxn_comp (p : Part) (g : TxnSt → TxnSt) : (p.updTxn g).comp = p.comp := rfl
@[simp] theorem Part.updTxn_fr (p : Part) (g : TxnSt → TxnSt) : (p.updTxn g).fr = p.fr := rfl
@[simp] theorem Part.updTxn_light (p : Part) (g : TxnSt → TxnSt) : (p.updTxn g).light = p.light := rfl
@[simp] theorem Part.updTxn_kl (p : Part) (g : TxnSt → TxnSt) : (p.updTxn g).kl = p.kl := rfl
@[simp] theorem Part.updTxn_aud (p : Part) (g : TxnSt → TxnSt) : (p.updTxn g).aud = p.aud := rfl
@[simp] theorem Part.updTxn_tb (p : Part) (g : TxnSt → TxnSt) : (p.updTxn g).tb = p.tb := rfl
@[simp] theorem Part.updTxn_pair (p : Part) (g : TxnSt → TxnSt) : (p.updTxn g).pair = p.pair := rfl
@[simp] theorem Part.updTxn_hrt (p : Part) (g : TxnSt → TxnSt) : (p.updTxn g).hrt = p.hrt := rfl
@[simp] theorem Part.updTxn_fab (p : Part) (g : TxnSt → TxnSt) : (p.updTxn g).fab = p.fab := rfl
@[simp] theorem Part.updTxn_pwr (p : Part) (g : TxnSt → TxnSt) : (p.updTxn g).pwr = p.pwr := rfl
@[simp] theorem Part.updTxn_perf (p : Part) (g : TxnSt → TxnSt) : (p.updTxn g).perf = p.perf := rfl
@[simp] theorem Part.updTxn_cnt (p : Part) (g : TxnSt → TxnSt) : (p.updTxn g).cnt = p.cnt := rfl
@[simp] theorem Part.updTxn_out (p : Part) (g : TxnSt → TxnSt) : (p.updTxn g).out = p.out := rfl
@[simp] theorem Part.updTxn_free (p : Part) (g : TxnSt → TxnSt) : (p.updTxn g).free = p.free := rfl

@[simp] theorem Part.updCfg_cfg (p : Part) (g : Cfg → Cfg) : (p.updCfg g).cfg = g p.cfg := rfl
@[simp] theorem Part.updCfg_sys (p : Part) (g : Cfg → Cfg) : (p.updCfg g).sys = p.sys := rfl
@[simp] theorem Part.updCfg_maint (p : Part) (g : Cfg → Cfg) : (p.updCfg g).maint = p.maint := rfl
@[simp] theorem Part.updCfg_ev (p : Part) (g : Cfg → Cfg) : (p.updCfg g).ev = p.ev := rfl
@[simp] theorem Part.updCfg_log (p : Part) (g : Cfg → Cfg) : (p.updCfg g).log = p.log := rfl
@[simp] theorem Part.updCfg_host (p : Part) (g : Cfg → Cfg) : (p.updCfg g).host = p.host := rfl
@[simp] theorem Part.updCfg_txn (p : Part) (g : Cfg → Cfg) : (p.updCfg g).txn = p.txn := rfl
@[simp] theorem Part.updCfg_inp (p : Part) (g : Cfg → Cfg) : (p.updCfg g).inp = p.inp := rfl
@[simp] theorem Part.updCfg_frc (p : Part) (g : Cfg → Cfg) : (p.updCfg g).frc = p.frc := rfl
@[simp] theorem Part.updCfg_comp (p : Part) (g : Cfg → Cfg) : (p.updCfg g).comp = p.comp := rfl
@[simp] theorem Part.updCfg_fr (p : Part) (g : Cfg → Cfg) : (p.updCfg g).fr = p.fr := rfl
@[simp] theorem Part.updCfg_light (p : Part) (g : Cfg → Cfg) : (p.updCfg g).light = p.light := rfl
@[simp] theorem Part.updCfg_kl (p : Part) (g : Cfg → Cfg) : (p.updCfg g).kl = p.kl := rfl
@[simp] theorem Part.updCfg_aud (p : Part) (g : Cfg → Cfg) : (p.updCfg g).aud = p.aud := rfl
@[simp] theorem Part.updCfg_tb (p : Part) (g : Cfg → Cfg) : (p.updCfg g).tb = p.tb := rfl
@[simp] theorem Part.updCfg_pair (p : Part) (g : Cfg → Cfg) : (p.updCfg g).pair = p.pair := rfl
@[simp] theorem Part.updCfg_hrt (p : Part) (g : Cfg → Cfg) : (p.updCfg g).hrt = p.hrt := rfl
@[simp] theorem Part.updCfg_fab (p : Part) (g : Cfg → Cfg) : (p.updCfg g).fab = p.fab := rfl
@[simp] theorem Part.updCfg_pwr (p : Part) (g : Cfg → Cfg) : (p.updCfg g).pwr = p.pwr := rfl
@[simp] theorem Part.updCfg_perf (p : Part) (g : Cfg → Cfg) : (p.updCfg g).perf = p.perf := rfl
@[simp] theorem Part.updCfg_cnt (p : Part) (g : Cfg → Cfg) : (p.updCfg g).cnt = p.cnt := rfl
@[simp] theorem Part.updCfg_out (p : Part) (g : Cfg → Cfg) : (p.updCfg g).out = p.out := rfl
@[simp] theorem Part.updCfg_free (p : Part) (g : Cfg → Cfg) : (p.updCfg g).free = p.free := rfl

@[simp] theorem Part.updInp_inp (p : Part) (g : Inputs → Inputs) : (p.updInp g).inp = g p.inp := rfl
@[simp] theorem Part.updInp_sys (p : Part) (g : Inputs → Inputs) : (p.updInp g).sys = p.sys := rfl
@[simp] theorem Part.updInp_maint (p : Part) (g : Inputs → Inputs) : (p.updInp g).maint = p.maint := rfl
@[simp] theorem Part.updInp_ev (p : Part) (g : Inputs → Inputs) : (p.updInp g).ev = p.ev := rfl
@[simp] theorem Part.updInp_log (p : Part) (g : Inputs → Inputs) : (p.updInp g).log = p.log := rfl
@[simp] theorem Part.updInp_host (p : Part) (g : Inputs → Inputs) : (p.updInp g).host = p.host := rfl
@[simp] theorem Part.updInp_txn (p : Part) (g : Inputs → Inputs) : (p.updInp g).txn = p.txn := rfl
@[simp] theorem Part.updInp_cfg (p : Part) (g : Inputs → Inputs) : (p.updInp g).cfg = p.cfg := rfl
@[simp] theorem Part.updInp_frc (p : Part) (g : Inputs → Inputs) : (p.updInp g).frc = p.frc := rfl
@[simp] theorem Part.updInp_comp (p : Part) (g : Inputs → Inputs) : (p.updInp g).comp = p.comp := rfl
@[simp] theorem Part.updInp_fr (p : Part) (g : Inputs → Inputs) : (p.updInp g).fr = p.fr := rfl
@[simp] theorem Part.updInp_light (p : Part) (g : Inputs → Inputs) : (p.updInp g).light = p.light := rfl
@[simp] theorem Part.updInp_kl (p : Part) (g : Inputs → Inputs) : (p.updInp g).kl = p.kl := rfl
@[simp] theorem Part.updInp_aud (p : Part) (g : Inputs → Inputs) : (p.updInp g).aud = p.aud := rfl
@[simp] theorem Part.updInp_tb (p : Part) (g : Inputs → Inputs) : (p.updInp g).tb = p.tb := rfl
@[simp] theorem Part.updInp_pair (p : Part) (g : Inputs → Inputs) : (p.updInp g).pair = p.pair := rfl
@[simp] theorem Part.updInp_hrt (p : Part) (g : Inputs → Inputs) : (p.updInp g).hrt = p.hrt := rfl
@[simp] theorem Part.updInp_fab (p : Part) (g : Inputs → Inputs) : (p.updInp g).fab = p.fab := rfl
@[simp] theorem Part.updInp_pwr (p : Part) (g : Inputs → Inputs) : (p.updInp g).pwr = p.pwr := rfl
@[simp] theorem Part.updInp_perf (p : Part) (g : Inputs → Inputs) : (p.updInp g).perf = p.perf := rfl
@[simp] theorem Part.updInp_cnt (p : Part) (g : Inputs → Inputs) : (p.updInp g).cnt = p.cnt := rfl
@[simp] theorem Part.updInp_out (p : Part) (g : Inputs → Inputs) : (p.updInp g).out = p.out := rfl
@[simp] theorem Part.updInp_free (p : Part) (g : Inputs → Inputs) : (p.updInp g).free = p.free := rfl

@[simp] theorem Part.updFrc_frc (p : Part) (g : Tab FrcRt → Tab FrcRt) : (p.updFrc g).frc = g p.frc := rfl
@[simp] theorem Part.updFrc_sys (p : Part) (g : Tab FrcRt → Tab FrcRt) : (p.updFrc g).sys = p.sys := rfl
@[simp] theorem Part.updFrc_maint (p : Part) (g : Tab FrcRt → Tab FrcRt) : (p.updFrc g).maint = p.maint := rfl
@[simp] theorem Part.updFrc_ev (p : Part) (g : Tab FrcRt → Tab FrcRt) : (p.updFrc g).ev = p.ev := rfl
@[simp] theorem Part.updFrc_log (p : Part) (g : Tab FrcRt → Tab FrcRt) : (p.updFrc g).log = p.log := rfl
@[simp] theorem Part.updFrc_host (p : Part) (g : Tab FrcRt → Tab FrcRt) : (p.updFrc g).host = p.host := rfl
@[simp] theorem Part.updFrc_txn (p : Part) (g : Tab FrcRt → Tab FrcRt) : (p.updFrc g).txn = p.txn := rfl
@[simp] theorem Part.updFrc_cfg (p : Part) (g : Tab FrcRt → Tab FrcRt) : (p.updFrc g).cfg = p.cfg := rfl
@[simp] theorem Part.updFrc_inp (p : Part) (g : Tab FrcRt → Tab FrcRt) : (p.updFrc g).inp = p.inp := rfl
@[simp] theorem Part.updFrc_comp (p : Part) (g : Tab FrcRt → Tab FrcRt) : (p.updFrc g).comp = p.comp := rfl
@[simp] theorem Part.updFrc_fr (p : Part) (g : Tab FrcRt → Tab FrcRt) : (p.updFrc g).fr = p.fr := rfl
@[simp] theorem Part.updFrc_light (p : Part) (g : Tab FrcRt → Tab FrcRt) : (p.updFrc g).light = p.light := rfl
@[simp] theorem Part.updFrc_kl (p : Part) (g : Tab FrcRt → Tab FrcRt) : (p.updFrc g).kl = p.kl := rfl
@[simp] theorem Part.updFrc_aud (p : Part) (g : Tab FrcRt → Tab FrcRt) : (p.updFrc g).aud = p.aud := rfl
@[simp] theorem Part.updFrc_tb (p : Part) (g : Tab FrcRt → Tab FrcRt) : (p.updFrc g).tb = p.tb := rfl
@[simp] theorem Part.updFrc_pair (p : Part) (g : Tab FrcRt → Tab FrcRt) : (p.updFrc g).pair = p.pair := rfl
@[simp] theorem Part.updFrc_hrt (p : Part) (g : Tab FrcRt → Tab FrcRt) : (p.updFrc g).hrt = p.hrt := rfl
@[simp] theorem Part.updFrc_fab (p : Part) (g : Tab FrcRt → Tab FrcRt) : (p.updFrc g).fab = p.fab := rfl
@[simp] theorem Part.updFrc_pwr (p : Part) (g : Tab FrcRt → Tab FrcRt) : (p.updFrc g).pwr = p.pwr := rfl
@[simp] theorem Part.updFrc_perf (p : Part) (g : Tab FrcRt → Tab FrcRt) : (p.updFrc g).perf = p.perf := rfl
@[simp] theorem Part.updFrc_cnt (p : Part) (g : Tab FrcRt → Tab FrcRt) : (p.updFrc g).cnt = p.cnt := rfl
@[simp] theorem Part.updFrc_out (p : Part) (g : Tab FrcRt → Tab FrcRt) : (p.updFrc g).out = p.out := rfl
@[simp] theorem Part.updFrc_free (p : Part) (g : Tab FrcRt → Tab FrcRt) : (p.updFrc g).free = p.free := rfl

@[simp] theorem Part.updComp_comp (p : Part) (g : Comp → Comp) : (p.updComp g).comp = g p.comp := rfl
@[simp] theorem Part.updComp_sys (p : Part) (g : Comp → Comp) : (p.updComp g).sys = p.sys := rfl
@[simp] theorem Part.updComp_maint (p : Part) (g : Comp → Comp) : (p.updComp g).maint = p.maint := rfl
@[simp] theorem Part.updComp_ev (p : Part) (g : Comp → Comp) : (p.updComp g).ev = p.ev := rfl
@[simp] theorem Part.updComp_log (p : Part) (g : Comp → Comp) : (p.updComp g).log = p.log := rfl
@[simp] theorem Part.updComp_host (p : Part) (g : Comp → Comp) : (p.updComp g).host = p.host := rfl
@[simp] theorem Part.updComp_txn (p : Part) (g : Comp → Comp) : (p.updComp g).txn = p.txn := rfl
@[simp] theorem Part.updComp_cfg (p : Part) (g : Comp → Comp) : (p.updComp g).cfg = p.cfg := rfl
@[simp] theorem Part.updComp_inp (p : Part) (g : Comp → Comp) : (p.updComp g).inp = p.inp := rfl
@[simp] theorem Part.updComp_frc (p : Part) (g : Comp → Comp) : (p.updComp g).frc = p.frc := rfl
@[simp] theorem Part.updComp_fr (p : Part) (g : Comp → Comp) : (p.updComp g).fr = p.fr := rfl
@[simp] theorem Part.updComp_light (p : Part) (g : Comp → Comp) : (p.updComp g).light = p.light := rfl
@[simp] theorem Part.updComp_kl (p : Part) (g : Comp → Comp) : (p.updComp g).kl = p.kl := rfl
@[simp] theorem Part.updComp_aud (p : Part) (g : Comp → Comp) : (p.updComp g).aud = p.aud := rfl
@[simp] theorem Part.updComp_tb (p : Part) (g : Comp → Comp) : (p.updComp g).tb = p.tb := rfl
@[simp] theorem Part.updComp_pair (p : Part) (g : Comp → Comp) : (p.updComp g).pair = p.pair := rfl
@[simp] theorem Part.updComp_hrt (p : Part) (g : Comp → Comp) : (p.updComp g).hrt = p.hrt := rfl
@[simp] theorem Part.updComp_fab (p : Part) (g : Comp → Comp) : (p.updComp g).fab = p.fab := rfl
@[simp] theorem Part.updComp_pwr (p : Part) (g : Comp → Comp) : (p.updComp g).pwr = p.pwr := rfl
@[simp] theorem Part.updComp_perf (p : Part) (g : Comp → Comp) : (p.updComp g).perf = p.perf := rfl
@[simp] theorem Part.updComp_cnt (p : Part) (g : Comp → Comp) : (p.updComp g).cnt = p.cnt := rfl
@[simp] theorem Part.updComp_out (p : Part) (g : Comp → Comp) : (p.updComp g).out = p.out := rfl
@[simp] theorem Part.updComp_free (p : Part) (g : Comp → Comp) : (p.updComp g).free = p.free := rfl

@[simp] theorem Part.updFr_fr (p : Part) (g : Frames → Frames) : (p.updFr g).fr = g p.fr := rfl
@[simp] theorem Part.updFr_sys (p : Part) (g : Frames → Frames) : (p.updFr g).sys = p.sys := rfl
@[simp] theorem Part.updFr_maint (p : Part) (g : Frames → Frames) : (p.updFr g).maint = p.maint := rfl
@[simp] theorem Part.updFr_ev (p : Part) (g : Frames → Frames) : (p.updFr g).ev = p.ev := rfl
@[simp] theorem Part.updFr_log (p : Part) (g : Frames → Frames) : (p.updFr g).log = p.log := rfl
@[simp] theorem Part.updFr_host (p : Part) (g : Frames → Frames) : (p.updFr g).host = p.host := rfl
@[simp] theorem Part.updFr_txn (p : Part) (g : Frames → Frames) : (p.updFr g).txn = p.txn := rfl
@[simp] theorem Part.updFr_cfg (p : Part) (g : Frames → Frames) : (p.updFr g).cfg = p.cfg := rfl
@[simp] theorem Part.updFr_inp (p : Part) (g : Frames → Frames) : (p.updFr g).inp = p.inp := rfl
@[simp] theorem Part.updFr_frc (p : Part) (g : Frames → Frames) : (p.updFr g).frc = p.frc := rfl
@[simp] theorem Part.updFr_comp (p : Part) (g : Frames → Frames) : (p.updFr g).comp = p.comp := rfl
@[simp] theorem Part.updFr_light (p : Part) (g : Frames → Frames) : (p.updFr g).light = p.light := rfl
@[simp] theorem Part.updFr_kl (p : Part) (g : Frames → Frames) : (p.updFr g).kl = p.kl := rfl
@[simp] theorem Part.updFr_aud (p : Part) (g : Frames → Frames) : (p.updFr g).aud = p.aud := rfl
@[simp] theorem Part.updFr_tb (p : Part) (g : Frames → Frames) : (p.updFr g).tb = p.tb := rfl
@[simp] theorem Part.updFr_pair (p : Part) (g : Frames → Frames) : (p.updFr g).pair = p.pair := rfl
@[simp] theorem Part.updFr_hrt (p : Part) (g : Frames → Frames) : (p.updFr g).hrt = p.hrt := rfl
@[simp] theorem Part.updFr_fab (p : Part) (g : Frames → Frames) : (p.updFr g).fab = p.fab := rfl
@[simp] theorem Part.updFr_pwr (p : Part) (g : Frames → Frames) : (p.updFr g).pwr = p.pwr := rfl
@[simp] theorem Part.updFr_perf (p : Part) (g : Frames → Frames) : (p.updFr g).perf = p.perf := rfl
@[simp] theorem Part.updFr_cnt (p : Part) (g : Frames → Frames) : (p.updFr g).cnt = p.cnt := rfl
@[simp] theorem Part.updFr_out (p : Part) (g : Frames → Frames) : (p.updFr g).out = p.out := rfl
@[simp] theorem Part.updFr_free (p : Part) (g : Frames → Frames) : (p.updFr g).free = p.free := rfl

@[simp] theorem Part.updLight_light (p : Part) (g : Light → Light) : (p.updLight g).light = g p.light := rfl
@[simp] theorem Part.updLight_sys (p : Part) (g : Light → Light) : (p.updLight g).sys = p.sys := rfl
@[simp] theorem Part.updLight_maint (p : Part) (g : Light → Light) : (p.updLight g).maint = p.maint := rfl
@[simp] theorem Part.updLight_ev (p : Part) (g : Light → Light) : (p.updLight g).ev = p.ev := rfl
@[simp] theorem Part.updLight_log (p : Part) (g : Light → Light) : (p.updLight g).log = p.log := rfl
@[simp] theorem Part.updLight_host (p : Part) (g : Light → Light) : (p.updLight g).host = p.host := rfl
@[simp] theorem Part.updLight_txn (p : Part) (g : Light → Light) : (p.updLight g).txn = p.txn := rfl
@[simp] theorem Part.updLight_cfg (p : Part) (g : Light → Light) : (p.updLight g).cfg = p.cfg := rfl
@[simp] theorem Part.updLight_inp (p : Part) (g : Light → Light) : (p.updLight g).inp = p.inp := rfl
@[simp] theorem Part.updLight_frc (p : Part) (g : Light → Light) : (p.updLight g).frc = p.frc := rfl
@[simp] theorem Part.updLight_comp (p : Part) (g : Light → Light) : (p.updLight g).comp = p.comp := rfl
@[simp] theorem Part.updLight_fr (p : Part) (g : Light → Light) : (p.updLight g).fr = p.fr := rfl
@[simp] theorem Part.updLight_kl (p : Part) (g : Light → Light) : (p.updLight g).kl = p.kl := rfl
@[simp] theorem Part.updLight_aud (p : Part) (g : Light → Light) : (p.updLight g).aud = p.aud := rfl
@[simp] theorem Part.updLight_tb (p : Part) (g : Light → Light) : (p.updLight g).tb = p.tb := rfl
@[simp] theorem Part.updLight_pair (p : Part) (g : Light → Light) : (p.updLight g).pair = p.pair := rfl
@[simp] theorem Part.updLight_hrt (p : Part) (g : Light → Light) : (p.updLight g).hrt = p.hrt := rfl
@[simp] theorem Part.updLight_fab (p : Part) (g : Light → Light) : (p.updLight g).fab = p.fab := rfl
@[simp] theorem Part.updLight_pwr (p : Part) (g : Light → Light) : (p.updLight g).pwr = p.pwr := rfl
@[simp] theorem Part.updLight_perf (p : Part) (g : Light → Light) : (p.updLight g).perf = p.perf := rfl
@[simp] theorem Part.updLight_cnt (p : Part) (g : Light → Light) : (p.updLight g).cnt = p.cnt := rfl
@[simp] theorem Part.updLight_out (p : Part) (g : Light → Light) : (p.updLight g).out = p.out := rfl
@[simp] theorem Part.updLight_free (p : Part) (g : Light → Light) : (p.updLight g).free = p.free := rfl

@[simp] theorem Part.updKl_kl (p : Part) (g : Klink → Klink) : (p.updKl g).kl = g p.kl := rfl
@[simp] theorem Part.updKl_sys (p : Part) (g : Klink → Klink) : (p.updKl g).sys = p.sys := rfl
@[simp] theorem Part.updKl_maint (p : Part) (g : Klink → Klink) : (p.updKl g).maint = p.maint := rfl
@[simp] theorem Part.updKl_ev (p : Part) (g : Klink → Klink) : (p.updKl g).ev = p.ev := rfl
@[simp] theorem Part.updKl_log (p : Part) (g : Klink → Klink) : (p.updKl g).log = p.log := rfl
@[simp] theorem Part.updKl_host (p : Part) (g : Klink → Klink) : (p.updKl g).host = p.host := rfl
@[simp] theorem Part.updKl_txn (p : Part) (g : Klink → Klink) : (p.updKl g).txn = p.txn := rfl
@[simp] theorem Part.updKl_cfg (p : Part) (g : Klink → Klink) : (p.updKl g).cfg = p.cfg := rfl
@[simp] theorem Part.updKl_inp (p : Part) (g : Klink → Klink) : (p.updKl g).inp = p.inp := rfl
@[simp] theorem Part.updKl_frc (p : Part) (g : Klink → Klink) : (p.updKl g).frc = p.frc := rfl
@[simp] theorem Part.updKl_comp (p : Part) (g : Klink → Klink) : (p.updKl g).comp = p.comp := rfl
@[simp] theorem Part.updKl_fr (p : Part) (g : Klink → Klink) : (p.updKl g).fr = p.fr := rfl
@[simp] theorem Part.updKl_light (p : Part) (g : Klink → Klink) : (p.updKl g).light = p.light := rfl
@[simp] theorem Part.updKl_aud (p : Part) (g : Klink → Klink) : (p.updKl g).aud = p.aud := rfl
@[simp] theorem Part.updKl_tb (p : Part) (g : Klink → Klink) : (p.updKl g).tb = p.tb := rfl
@[simp] theorem Part.updKl_pair (p : Part) (g : Klink → Klink) : (p.updKl g).pair = p.pair := rfl
@[simp] theorem Part.updKl_hrt (p : Part) (g : Klink → Klink) : (p.updKl g).hrt = p.hrt := rfl
@[simp] theorem Part.updKl_fab (p : Part) (g : Klink → Klink) : (p.updKl g).fab = p.fab := rfl
@[simp] theorem Part.updKl_pwr (p : Part) (g : Klink → Klink) : (p.updKl g).pwr = p.pwr := rfl
@[simp] theorem Part.updKl_perf (p : Part) (g : Klink → Klink) : (p.updKl g).perf = p.perf := rfl
@[simp] theorem Part.updKl_cnt (p : Part) (g : Klink → Klink) : (p.updKl g).cnt = p.cnt := rfl
@[simp] theorem Part.updKl_out (p : Part) (g : Klink → Klink) : (p.updKl g).out = p.out := rfl
@[simp] theorem Part.updKl_free (p : Part) (g : Klink → Klink) : (p.updKl g).free = p.free := rfl

@[simp] theorem Part.updAud_aud (p : Part) (g : Audio → Audio) : (p.updAud g).aud = g p.aud := rfl
@[simp] theorem Part.updAud_sys (p : Part) (g : Audio → Audio) : (p.updAud g).sys = p.sys := rfl
@[simp] theorem Part.updAud_maint (p : Part) (g : Audio → Audio) : (p.updAud g).maint = p.maint := rfl
@[simp] theorem Part.updAud_ev (p : Part) (g : Audio → Audio) : (p.updAud g).ev = p.ev := rfl
@[simp] theorem Part.updAud_log (p : Part) (g : Audio → Audio) : (p.updAud g).log = p.log := rfl
@[simp] theorem Part.updAud_host (p : Part) (g : Audio → Audio) : (p.updAud g).host = p.host := rfl
@[simp] theorem Part.updAud_txn (p : Part) (g : Audio → Audio) : (p.updAud g).txn = p.txn := rfl
@[simp] theorem Part.updAud_cfg (p : Part) (g : Audio → Audio) : (p.updAud g).cfg = p.cfg := rfl
@[simp] theorem Part.updAud_inp (p : Part) (g : Audio → Audio) : (p.updAud g).inp = p.inp := rfl
@[simp] theorem Part.updAud_frc (p : Part) (g : Audio → Audio) : (p.updAud g).frc = p.frc := rfl
@[simp] theorem Part.updAud_comp (p : Part) (g : Audio → Audio) : (p.updAud g).comp = p.comp := rfl
@[simp] theorem Part.updAud_fr (p : Part) (g : Audio → Audio) : (p.updAud g).fr = p.fr := rfl
@[simp] theorem Part.updAud_light (p : Part) (g : Audio → Audio) : (p.updAud g).light = p.light := rfl
@[simp] theorem Part.updAud_kl (p : Part) (g : Audio → Audio) : (p.updAud g).kl = p.kl := rfl
@[simp] theorem Part.updAud_tb (p : Part) (g : Audio → Audio) : (p.updAud g).tb = p.tb := rfl
@[simp] theorem Part.updAud_pair (p : Part) (g : Audio → Audio) : (p.updAud g).pair = p.pair := rfl
@[simp] theorem Part.updAud_hrt (p : Part) (g : Audio → Audio) : (p.updAud g).hrt = p.hrt := rfl
@[simp] theorem Part.updAud_fab (p : Part) (g : Audio → Audio) : (p.updAud g).fab = p.fab := rfl
@[simp] theorem Part.updAud_pwr (p : Part) (g : Audio → Audio) : (p.updAud g).pwr = p.pwr := rfl
@[simp] theorem Part.updAud_perf (p : Part) (g : Audio → Audio) : (p.updAud g).perf = p.perf := rfl
@[simp] theorem Part.updAud_cnt (p : Part) (g : Audio → Audio) : (p.updAud g).cnt = p.cnt := rfl
@[simp] theorem Part.updAud_out (p : Part) (g : Audio → Audio) : (p.updAud g).out = p.out := rfl
@[simp] theorem Part.updAud_free (p : Part) (g : Audio → Audio) : (p.updAud g).free = p.free := rfl

@[simp] theorem Part.updTb_tb (p : Part) (g : Tb → Tb) : (p.updTb g).tb = g p.tb := rfl
@[simp] theorem Part.updTb_sys (p : Part) (g : Tb → Tb) : (p.updTb g).sys = p.sys := rfl
@[simp] theorem Part.updTb_maint (p : Part) (g : Tb → Tb) : (p.updTb g).maint = p.maint := rfl
@[simp] theorem Part.updTb_ev (p : Part) (g : Tb → Tb) : (p.updTb g).ev = p.ev := rfl
@[simp] theorem Part.updTb_log (p : Part) (g : Tb → Tb) : (p.updTb g).log = p.log := rfl
@[simp] theorem Part.updTb_host (p : Part) (g : Tb → Tb) : (p.updTb g).host = p.host := rfl
@[simp] theorem Part.updTb_txn (p : Part) (g : Tb → Tb) : (p.updTb g).txn = p.txn := rfl
@[simp] theorem Part.updTb_cfg (p : Part) (g : Tb → Tb) : (p.updTb g).cfg = p.cfg := rfl
@[simp] theorem Part.updTb_inp (p : Part) (g : Tb → Tb) : (p.updTb g).inp = p.inp := rfl
@[simp] theorem Part.updTb_frc (p : Part) (g : Tb → Tb) : (p.updTb g).frc = p.frc := rfl
@[simp] theorem Part.updTb_comp (p : Part) (g : Tb → Tb) : (p.updTb g).comp = p.comp := rfl
@[simp] theorem Part.updTb_fr (p : Part) (g : Tb → Tb) : (p.updTb g).fr = p.fr := rfl
@[simp] theorem Part.updTb_light (p : Part) (g : Tb → Tb) : (p.updTb g).light = p.light := rfl
@[simp] theorem Part.updTb_kl (p : Part) (g : Tb → Tb) : (p.updTb g).kl = p.kl := rfl
@[simp] theorem Part.updTb_aud (p : Part) (g : Tb → Tb) : (p.updTb g).aud = p.aud := rfl
@[simp] theorem Part.updTb_pair (p : Part) (g : Tb → Tb) : (p.updTb g).pair = p.pair := rfl
@[simp] theorem Part.updTb_hrt (p : Part) (g : Tb → Tb) : (p.updTb g).hrt = p.hrt := rfl
@[simp] theorem Part.updTb_fab (p : Part) (g : Tb → Tb) : (p.updTb g).fab = p.fab := rfl
@[simp] theorem Part.updTb_pwr (p : Part) (g : Tb → Tb) : (p.updTb g).pwr = p.pwr := rfl
@[simp] theorem Part.updTb_perf (p : Part) (g : Tb → Tb) : (p.updTb g).perf = p.perf := rfl
@[simp] theorem Part.updTb_cnt (p : Part) (g : Tb → Tb) : (p.updTb g).cnt = p.cnt := rfl
@[simp] theorem Part.updTb_out (p : Part) (g : Tb → Tb) : (p.updTb g).out = p.out := rfl
@[simp] theorem Part.updTb_free (p : Part) (g : Tb → Tb) : (p.updTb g).free = p.free := rfl

@[simp] theorem Part.updPair_pair (p : Part) (g : Pair → Pair) : (p.updPair g).pair = g p.pair := rfl
@[simp] theorem Part.updPair_sys (p : Part) (g : Pair → Pair) : (p.updPair g).sys = p.sys := rfl
@[simp] theorem Part.updPair_maint (p : Part) (g : Pair → Pair) : (p.updPair g).maint = p.maint := rfl
@[simp] theorem Part.updPair_ev (p : Part) (g : Pair → Pair) : (p.updPair g).ev = p.ev := rfl
@[simp] theorem Part.updPair_log (p : Part) (g : Pair → Pair) : (p.updPair g).log = p.log := rfl
@[simp] theorem Part.updPair_host (p : Part) (g : Pair → Pair) : (p.updPair g).host = p.host := rfl
@[simp] theorem Part.updPair_txn (p : Part) (g : Pair → Pair) : (p.updPair g).txn = p.txn := rfl
@[simp] theorem Part.updPair_cfg (p : Part) (g : Pair → Pair) : (p.updPair g).cfg = p.cfg := rfl
@[simp] theorem Part.updPair_inp (p : Part) (g : Pair → Pair) : (p.updPair g).inp = p.inp := rfl
@[simp] theorem Part.updPair_frc (p : Part) (g : Pair → Pair) : (p.updPair g).frc = p.frc := rfl
@[simp] theorem Part.updPair_comp (p : Part) (g : Pair → Pair) : (p.updPair g).comp = p.comp := rfl
@[simp] theorem Part.updPair_fr (p : Part) (g : Pair → Pair) : (p.updPair g).fr = p.fr := rfl
@[simp] theorem Part.updPair_light (p : Part) (g : Pair → Pair) : (p.updPair g).light = p.light := rfl
@[simp] theorem Part.updPair_kl (p : Part) (g : Pair → Pair) : (p.updPair g).kl = p.kl := rfl
@[simp] theorem Part.updPair_aud (p : Part) (g : Pair → Pair) : (p.updPair g).aud = p.aud := rfl
@[simp] theorem Part.updPair_tb (p : Part) (g : Pair → Pair) : (p.updPair g).tb = p.tb := rfl
@[simp] theorem Part.updPair_hrt (p : Part) (g : Pair → Pair) : (p.updPair g).hrt = p.hrt := rfl
@[simp] theorem Part.updPair_fab (p : Part) (g : Pair → Pair) : (p.updPair g).fab = p.fab := rfl
@[simp] theorem Part.updPair_pwr (p : Part) (g : Pair → Pair) : (p.updPair g).pwr = p.pwr := rfl
@[simp] theorem Part.updPair_perf (p : Part) (g : Pair → Pair) : (p.updPair g).perf = p.perf := rfl
@[simp] theorem Part.updPair_cnt (p : Part) (g : Pair → Pair) : (p.updPair g).cnt = p.cnt := rfl
@[simp] theorem Part.updPair_out (p : Part) (g : Pair → Pair) : (p.updPair g).out = p.out := rfl
@[simp] theorem Part.updPair_free (p : Part) (g : Pair → Pair) : (p.updPair g).free = p.free := rfl

@[simp] theorem Part.updHrt_hrt (p : Part) (g : Hearth → Hearth) : (p.updHrt g).hrt = g p.hrt := rfl
@[simp] theorem Part.updHrt_sys (p : Part) (g : Hearth → Hearth) : (p.updHrt g).sys = p.sys := rfl
@[simp] theorem Part.updHrt_maint (p : Part) (g : Hearth → Hearth) : (p.updHrt g).maint = p.maint := rfl
@[simp] theorem Part.updHrt_ev (p : Part) (g : Hearth → Hearth) : (p.updHrt g).ev = p.ev := rfl
@[simp] theorem Part.updHrt_log (p : Part) (g : Hearth → Hearth) : (p.updHrt g).log = p.log := rfl
@[simp] theorem Part.updHrt_host (p : Part) (g : Hearth → Hearth) : (p.updHrt g).host = p.host := rfl
@[simp] theorem Part.updHrt_txn (p : Part) (g : Hearth → Hearth) : (p.updHrt g).txn = p.txn := rfl
@[simp] theorem Part.updHrt_cfg (p : Part) (g : Hearth → Hearth) : (p.updHrt g).cfg = p.cfg := rfl
@[simp] theorem Part.updHrt_inp (p : Part) (g : Hearth → Hearth) : (p.updHrt g).inp = p.inp := rfl
@[simp] theorem Part.updHrt_frc (p : Part) (g : Hearth → Hearth) : (p.updHrt g).frc = p.frc := rfl
@[simp] theorem Part.updHrt_comp (p : Part) (g : Hearth → Hearth) : (p.updHrt g).comp = p.comp := rfl
@[simp] theorem Part.updHrt_fr (p : Part) (g : Hearth → Hearth) : (p.updHrt g).fr = p.fr := rfl
@[simp] theorem Part.updHrt_light (p : Part) (g : Hearth → Hearth) : (p.updHrt g).light = p.light := rfl
@[simp] theorem Part.updHrt_kl (p : Part) (g : Hearth → Hearth) : (p.updHrt g).kl = p.kl := rfl
@[simp] theorem Part.updHrt_aud (p : Part) (g : Hearth → Hearth) : (p.updHrt g).aud = p.aud := rfl
@[simp] theorem Part.updHrt_tb (p : Part) (g : Hearth → Hearth) : (p.updHrt g).tb = p.tb := rfl
@[simp] theorem Part.updHrt_pair (p : Part) (g : Hearth → Hearth) : (p.updHrt g).pair = p.pair := rfl
@[simp] theorem Part.updHrt_fab (p : Part) (g : Hearth → Hearth) : (p.updHrt g).fab = p.fab := rfl
@[simp] theorem Part.updHrt_pwr (p : Part) (g : Hearth → Hearth) : (p.updHrt g).pwr = p.pwr := rfl
@[simp] theorem Part.updHrt_perf (p : Part) (g : Hearth → Hearth) : (p.updHrt g).perf = p.perf := rfl
@[simp] theorem Part.updHrt_cnt (p : Part) (g : Hearth → Hearth) : (p.updHrt g).cnt = p.cnt := rfl
@[simp] theorem Part.updHrt_out (p : Part) (g : Hearth → Hearth) : (p.updHrt g).out = p.out := rfl
@[simp] theorem Part.updHrt_free (p : Part) (g : Hearth → Hearth) : (p.updHrt g).free = p.free := rfl

@[simp] theorem Part.updFab_fab (p : Part) (g : Fabric → Fabric) : (p.updFab g).fab = g p.fab := rfl
@[simp] theorem Part.updFab_sys (p : Part) (g : Fabric → Fabric) : (p.updFab g).sys = p.sys := rfl
@[simp] theorem Part.updFab_maint (p : Part) (g : Fabric → Fabric) : (p.updFab g).maint = p.maint := rfl
@[simp] theorem Part.updFab_ev (p : Part) (g : Fabric → Fabric) : (p.updFab g).ev = p.ev := rfl
@[simp] theorem Part.updFab_log (p : Part) (g : Fabric → Fabric) : (p.updFab g).log = p.log := rfl
@[simp] theorem Part.updFab_host (p : Part) (g : Fabric → Fabric) : (p.updFab g).host = p.host := rfl
@[simp] theorem Part.updFab_txn (p : Part) (g : Fabric → Fabric) : (p.updFab g).txn = p.txn := rfl
@[simp] theorem Part.updFab_cfg (p : Part) (g : Fabric → Fabric) : (p.updFab g).cfg = p.cfg := rfl
@[simp] theorem Part.updFab_inp (p : Part) (g : Fabric → Fabric) : (p.updFab g).inp = p.inp := rfl
@[simp] theorem Part.updFab_frc (p : Part) (g : Fabric → Fabric) : (p.updFab g).frc = p.frc := rfl
@[simp] theorem Part.updFab_comp (p : Part) (g : Fabric → Fabric) : (p.updFab g).comp = p.comp := rfl
@[simp] theorem Part.updFab_fr (p : Part) (g : Fabric → Fabric) : (p.updFab g).fr = p.fr := rfl
@[simp] theorem Part.updFab_light (p : Part) (g : Fabric → Fabric) : (p.updFab g).light = p.light := rfl
@[simp] theorem Part.updFab_kl (p : Part) (g : Fabric → Fabric) : (p.updFab g).kl = p.kl := rfl
@[simp] theorem Part.updFab_aud (p : Part) (g : Fabric → Fabric) : (p.updFab g).aud = p.aud := rfl
@[simp] theorem Part.updFab_tb (p : Part) (g : Fabric → Fabric) : (p.updFab g).tb = p.tb := rfl
@[simp] theorem Part.updFab_pair (p : Part) (g : Fabric → Fabric) : (p.updFab g).pair = p.pair := rfl
@[simp] theorem Part.updFab_hrt (p : Part) (g : Fabric → Fabric) : (p.updFab g).hrt = p.hrt := rfl
@[simp] theorem Part.updFab_pwr (p : Part) (g : Fabric → Fabric) : (p.updFab g).pwr = p.pwr := rfl
@[simp] theorem Part.updFab_perf (p : Part) (g : Fabric → Fabric) : (p.updFab g).perf = p.perf := rfl
@[simp] theorem Part.updFab_cnt (p : Part) (g : Fabric → Fabric) : (p.updFab g).cnt = p.cnt := rfl
@[simp] theorem Part.updFab_out (p : Part) (g : Fabric → Fabric) : (p.updFab g).out = p.out := rfl
@[simp] theorem Part.updFab_free (p : Part) (g : Fabric → Fabric) : (p.updFab g).free = p.free := rfl

@[simp] theorem Part.updPwr_pwr (p : Part) (g : Power → Power) : (p.updPwr g).pwr = g p.pwr := rfl
@[simp] theorem Part.updPwr_sys (p : Part) (g : Power → Power) : (p.updPwr g).sys = p.sys := rfl
@[simp] theorem Part.updPwr_maint (p : Part) (g : Power → Power) : (p.updPwr g).maint = p.maint := rfl
@[simp] theorem Part.updPwr_ev (p : Part) (g : Power → Power) : (p.updPwr g).ev = p.ev := rfl
@[simp] theorem Part.updPwr_log (p : Part) (g : Power → Power) : (p.updPwr g).log = p.log := rfl
@[simp] theorem Part.updPwr_host (p : Part) (g : Power → Power) : (p.updPwr g).host = p.host := rfl
@[simp] theorem Part.updPwr_txn (p : Part) (g : Power → Power) : (p.updPwr g).txn = p.txn := rfl
@[simp] theorem Part.updPwr_cfg (p : Part) (g : Power → Power) : (p.updPwr g).cfg = p.cfg := rfl
@[simp] theorem Part.updPwr_inp (p : Part) (g : Power → Power) : (p.updPwr g).inp = p.inp := rfl
@[simp] theorem Part.updPwr_frc (p : Part) (g : Power → Power) : (p.updPwr g).frc = p.frc := rfl
@[simp] theorem Part.updPwr_comp (p : Part) (g : Power → Power) : (p.updPwr g).comp = p.comp := rfl
@[simp] theorem Part.updPwr_fr (p : Part) (g : Power → Power) : (p.updPwr g).fr = p.fr := rfl
@[simp] theorem Part.updPwr_light (p : Part) (g : Power → Power) : (p.updPwr g).light = p.light := rfl
@[simp] theorem Part.updPwr_kl (p : Part) (g : Power → Power) : (p.updPwr g).kl = p.kl := rfl
@[simp] theorem Part.updPwr_aud (p : Part) (g : Power → Power) : (p.updPwr g).aud = p.aud := rfl
@[simp] theorem Part.updPwr_tb (p : Part) (g : Power → Power) : (p.updPwr g).tb = p.tb := rfl
@[simp] theorem Part.updPwr_pair (p : Part) (g : Power → Power) : (p.updPwr g).pair = p.pair := rfl
@[simp] theorem Part.updPwr_hrt (p : Part) (g : Power → Power) : (p.updPwr g).hrt = p.hrt := rfl
@[simp] theorem Part.updPwr_fab (p : Part) (g : Power → Power) : (p.updPwr g).fab = p.fab := rfl
@[simp] theorem Part.updPwr_perf (p : Part) (g : Power → Power) : (p.updPwr g).perf = p.perf := rfl
@[simp] theorem Part.updPwr_cnt (p : Part) (g : Power → Power) : (p.updPwr g).cnt = p.cnt := rfl
@[simp] theorem Part.updPwr_out (p : Part) (g : Power → Power) : (p.updPwr g).out = p.out := rfl
@[simp] theorem Part.updPwr_free (p : Part) (g : Power → Power) : (p.updPwr g).free = p.free := rfl

@[simp] theorem Part.updPerf_perf (p : Part) (g : Perf → Perf) : (p.updPerf g).perf = g p.perf := rfl
@[simp] theorem Part.updPerf_sys (p : Part) (g : Perf → Perf) : (p.updPerf g).sys = p.sys := rfl
@[simp] theorem Part.updPerf_maint (p : Part) (g : Perf → Perf) : (p.updPerf g).maint = p.maint := rfl
@[simp] theorem Part.updPerf_ev (p : Part) (g : Perf → Perf) : (p.updPerf g).ev = p.ev := rfl
@[simp] theorem Part.updPerf_log (p : Part) (g : Perf → Perf) : (p.updPerf g).log = p.log := rfl
@[simp] theorem Part.updPerf_host (p : Part) (g : Perf → Perf) : (p.updPerf g).host = p.host := rfl
@[simp] theorem Part.updPerf_txn (p : Part) (g : Perf → Perf) : (p.updPerf g).txn = p.txn := rfl
@[simp] theorem Part.updPerf_cfg (p : Part) (g : Perf → Perf) : (p.updPerf g).cfg = p.cfg := rfl
@[simp] theorem Part.updPerf_inp (p : Part) (g : Perf → Perf) : (p.updPerf g).inp = p.inp := rfl
@[simp] theorem Part.updPerf_frc (p : Part) (g : Perf → Perf) : (p.updPerf g).frc = p.frc := rfl
@[simp] theorem Part.updPerf_comp (p : Part) (g : Perf → Perf) : (p.updPerf g).comp = p.comp := rfl
@[simp] theorem Part.updPerf_fr (p : Part) (g : Perf → Perf) : (p.updPerf g).fr = p.fr := rfl
@[simp] theorem Part.updPerf_light (p : Part) (g : Perf → Perf) : (p.updPerf g).light = p.light := rfl
@[simp] theorem Part.updPerf_kl (p : Part) (g : Perf → Perf) : (p.updPerf g).kl = p.kl := rfl
@[simp] theorem Part.updPerf_aud (p : Part) (g : Perf → Perf) : (p.updPerf g).aud = p.aud := rfl
@[simp] theorem Part.updPerf_tb (p : Part) (g : Perf → Perf) : (p.updPerf g).tb = p.tb := rfl
@[simp] theorem Part.updPerf_pair (p : Part) (g : Perf → Perf) : (p.updPerf g).pair = p.pair := rfl
@[simp] theorem Part.updPerf_hrt (p : Part) (g : Perf → Perf) : (p.updPerf g).hrt = p.hrt := rfl
@[simp] theorem Part.updPerf_fab (p : Part) (g : Perf → Perf) : (p.updPerf g).fab = p.fab := rfl
@[simp] theorem Part.updPerf_pwr (p : Part) (g : Perf → Perf) : (p.updPerf g).pwr = p.pwr := rfl
@[simp] theorem Part.updPerf_cnt (p : Part) (g : Perf → Perf) : (p.updPerf g).cnt = p.cnt := rfl
@[simp] theorem Part.updPerf_out (p : Part) (g : Perf → Perf) : (p.updPerf g).out = p.out := rfl
@[simp] theorem Part.updPerf_free (p : Part) (g : Perf → Perf) : (p.updPerf g).free = p.free := rfl

@[simp] theorem Part.updCnt_cnt (p : Part) (g : Tab Word → Tab Word) : (p.updCnt g).cnt = g p.cnt := rfl
@[simp] theorem Part.updCnt_sys (p : Part) (g : Tab Word → Tab Word) : (p.updCnt g).sys = p.sys := rfl
@[simp] theorem Part.updCnt_maint (p : Part) (g : Tab Word → Tab Word) : (p.updCnt g).maint = p.maint := rfl
@[simp] theorem Part.updCnt_ev (p : Part) (g : Tab Word → Tab Word) : (p.updCnt g).ev = p.ev := rfl
@[simp] theorem Part.updCnt_log (p : Part) (g : Tab Word → Tab Word) : (p.updCnt g).log = p.log := rfl
@[simp] theorem Part.updCnt_host (p : Part) (g : Tab Word → Tab Word) : (p.updCnt g).host = p.host := rfl
@[simp] theorem Part.updCnt_txn (p : Part) (g : Tab Word → Tab Word) : (p.updCnt g).txn = p.txn := rfl
@[simp] theorem Part.updCnt_cfg (p : Part) (g : Tab Word → Tab Word) : (p.updCnt g).cfg = p.cfg := rfl
@[simp] theorem Part.updCnt_inp (p : Part) (g : Tab Word → Tab Word) : (p.updCnt g).inp = p.inp := rfl
@[simp] theorem Part.updCnt_frc (p : Part) (g : Tab Word → Tab Word) : (p.updCnt g).frc = p.frc := rfl
@[simp] theorem Part.updCnt_comp (p : Part) (g : Tab Word → Tab Word) : (p.updCnt g).comp = p.comp := rfl
@[simp] theorem Part.updCnt_fr (p : Part) (g : Tab Word → Tab Word) : (p.updCnt g).fr = p.fr := rfl
@[simp] theorem Part.updCnt_light (p : Part) (g : Tab Word → Tab Word) : (p.updCnt g).light = p.light := rfl
@[simp] theorem Part.updCnt_kl (p : Part) (g : Tab Word → Tab Word) : (p.updCnt g).kl = p.kl := rfl
@[simp] theorem Part.updCnt_aud (p : Part) (g : Tab Word → Tab Word) : (p.updCnt g).aud = p.aud := rfl
@[simp] theorem Part.updCnt_tb (p : Part) (g : Tab Word → Tab Word) : (p.updCnt g).tb = p.tb := rfl
@[simp] theorem Part.updCnt_pair (p : Part) (g : Tab Word → Tab Word) : (p.updCnt g).pair = p.pair := rfl
@[simp] theorem Part.updCnt_hrt (p : Part) (g : Tab Word → Tab Word) : (p.updCnt g).hrt = p.hrt := rfl
@[simp] theorem Part.updCnt_fab (p : Part) (g : Tab Word → Tab Word) : (p.updCnt g).fab = p.fab := rfl
@[simp] theorem Part.updCnt_pwr (p : Part) (g : Tab Word → Tab Word) : (p.updCnt g).pwr = p.pwr := rfl
@[simp] theorem Part.updCnt_perf (p : Part) (g : Tab Word → Tab Word) : (p.updCnt g).perf = p.perf := rfl
@[simp] theorem Part.updCnt_out (p : Part) (g : Tab Word → Tab Word) : (p.updCnt g).out = p.out := rfl
@[simp] theorem Part.updCnt_free (p : Part) (g : Tab Word → Tab Word) : (p.updCnt g).free = p.free := rfl

@[simp] theorem Part.updOut_out (p : Part) (g : List Out → List Out) : (p.updOut g).out = g p.out := rfl
@[simp] theorem Part.updOut_sys (p : Part) (g : List Out → List Out) : (p.updOut g).sys = p.sys := rfl
@[simp] theorem Part.updOut_maint (p : Part) (g : List Out → List Out) : (p.updOut g).maint = p.maint := rfl
@[simp] theorem Part.updOut_ev (p : Part) (g : List Out → List Out) : (p.updOut g).ev = p.ev := rfl
@[simp] theorem Part.updOut_log (p : Part) (g : List Out → List Out) : (p.updOut g).log = p.log := rfl
@[simp] theorem Part.updOut_host (p : Part) (g : List Out → List Out) : (p.updOut g).host = p.host := rfl
@[simp] theorem Part.updOut_txn (p : Part) (g : List Out → List Out) : (p.updOut g).txn = p.txn := rfl
@[simp] theorem Part.updOut_cfg (p : Part) (g : List Out → List Out) : (p.updOut g).cfg = p.cfg := rfl
@[simp] theorem Part.updOut_inp (p : Part) (g : List Out → List Out) : (p.updOut g).inp = p.inp := rfl
@[simp] theorem Part.updOut_frc (p : Part) (g : List Out → List Out) : (p.updOut g).frc = p.frc := rfl
@[simp] theorem Part.updOut_comp (p : Part) (g : List Out → List Out) : (p.updOut g).comp = p.comp := rfl
@[simp] theorem Part.updOut_fr (p : Part) (g : List Out → List Out) : (p.updOut g).fr = p.fr := rfl
@[simp] theorem Part.updOut_light (p : Part) (g : List Out → List Out) : (p.updOut g).light = p.light := rfl
@[simp] theorem Part.updOut_kl (p : Part) (g : List Out → List Out) : (p.updOut g).kl = p.kl := rfl
@[simp] theorem Part.updOut_aud (p : Part) (g : List Out → List Out) : (p.updOut g).aud = p.aud := rfl
@[simp] theorem Part.updOut_tb (p : Part) (g : List Out → List Out) : (p.updOut g).tb = p.tb := rfl
@[simp] theorem Part.updOut_pair (p : Part) (g : List Out → List Out) : (p.updOut g).pair = p.pair := rfl
@[simp] theorem Part.updOut_hrt (p : Part) (g : List Out → List Out) : (p.updOut g).hrt = p.hrt := rfl
@[simp] theorem Part.updOut_fab (p : Part) (g : List Out → List Out) : (p.updOut g).fab = p.fab := rfl
@[simp] theorem Part.updOut_pwr (p : Part) (g : List Out → List Out) : (p.updOut g).pwr = p.pwr := rfl
@[simp] theorem Part.updOut_perf (p : Part) (g : List Out → List Out) : (p.updOut g).perf = p.perf := rfl
@[simp] theorem Part.updOut_cnt (p : Part) (g : List Out → List Out) : (p.updOut g).cnt = p.cnt := rfl
@[simp] theorem Part.updOut_free (p : Part) (g : List Out → List Out) : (p.updOut g).free = p.free := rfl

@[simp] theorem Part.updFree_free (p : Part) (g : Nat → Nat) : (p.updFree g).free = g p.free := rfl
@[simp] theorem Part.updFree_sys (p : Part) (g : Nat → Nat) : (p.updFree g).sys = p.sys := rfl
@[simp] theorem Part.updFree_maint (p : Part) (g : Nat → Nat) : (p.updFree g).maint = p.maint := rfl
@[simp] theorem Part.updFree_ev (p : Part) (g : Nat → Nat) : (p.updFree g).ev = p.ev := rfl
@[simp] theorem Part.updFree_log (p : Part) (g : Nat → Nat) : (p.updFree g).log = p.log := rfl
@[simp] theorem Part.updFree_host (p : Part) (g : Nat → Nat) : (p.updFree g).host = p.host := rfl
@[simp] theorem Part.updFree_txn (p : Part) (g : Nat → Nat) : (p.updFree g).txn = p.txn := rfl
@[simp] theorem Part.updFree_cfg (p : Part) (g : Nat → Nat) : (p.updFree g).cfg = p.cfg := rfl
@[simp] theorem Part.updFree_inp (p : Part) (g : Nat → Nat) : (p.updFree g).inp = p.inp := rfl
@[simp] theorem Part.updFree_frc (p : Part) (g : Nat → Nat) : (p.updFree g).frc = p.frc := rfl
@[simp] theorem Part.updFree_comp (p : Part) (g : Nat → Nat) : (p.updFree g).comp = p.comp := rfl
@[simp] theorem Part.updFree_fr (p : Part) (g : Nat → Nat) : (p.updFree g).fr = p.fr := rfl
@[simp] theorem Part.updFree_light (p : Part) (g : Nat → Nat) : (p.updFree g).light = p.light := rfl
@[simp] theorem Part.updFree_kl (p : Part) (g : Nat → Nat) : (p.updFree g).kl = p.kl := rfl
@[simp] theorem Part.updFree_aud (p : Part) (g : Nat → Nat) : (p.updFree g).aud = p.aud := rfl
@[simp] theorem Part.updFree_tb (p : Part) (g : Nat → Nat) : (p.updFree g).tb = p.tb := rfl
@[simp] theorem Part.updFree_pair (p : Part) (g : Nat → Nat) : (p.updFree g).pair = p.pair := rfl
@[simp] theorem Part.updFree_hrt (p : Part) (g : Nat → Nat) : (p.updFree g).hrt = p.hrt := rfl
@[simp] theorem Part.updFree_fab (p : Part) (g : Nat → Nat) : (p.updFree g).fab = p.fab := rfl
@[simp] theorem Part.updFree_pwr (p : Part) (g : Nat → Nat) : (p.updFree g).pwr = p.pwr := rfl
@[simp] theorem Part.updFree_perf (p : Part) (g : Nat → Nat) : (p.updFree g).perf = p.perf := rfl
@[simp] theorem Part.updFree_cnt (p : Part) (g : Nat → Nat) : (p.updFree g).cnt = p.cnt := rfl
@[simp] theorem Part.updFree_out (p : Part) (g : Nat → Nat) : (p.updFree g).out = p.out := rfl

end Sys2Proof.Machine
end

