-- ==== Sys2Proof/Laws/Ops.lean ====
section
/-! SUPPORT. What the shared operations leave alone: raising, reporting, counting and emitting change nothing but the events,
the log, the counters and what stands on the ports. -/

namespace Sys2Proof.Machine

open Sys2Proof

/-- The part without its events, log, counters and ports. -/
def Part.rest (p : Part) : Part := { p with ev := {}, log := {}, cnt := [], out := [] }

@[simp] theorem Part.updEv_rest (p : Part) (g : Ev → Ev) : (p.updEv g).rest = p.rest := rfl
@[simp] theorem Part.updLog_rest (p : Part) (g : Log → Log) : (p.updLog g).rest = p.rest := rfl
@[simp] theorem Part.updCnt_rest (p : Part) (g : Tab Word → Tab Word) : (p.updCnt g).rest = p.rest := rfl
@[simp] theorem Part.updOut_rest (p : Part) (g : List Out → List Out) : (p.updOut g).rest = p.rest := rfl

@[simp] theorem emit_rest (o : Out) (p : Part) : (emit o p).rest = p.rest := rfl
@[simp] theorem countBy_rest (b i x n : Nat) (p : Part) : (countBy b i x n p).rest = p.rest := rfl
@[simp] theorem count_rest (b i x : Nat) (p : Part) : (count b i x p).rest = p.rest := rfl

@[simp] theorem signalVector_rest (v : Nat) (p : Part) : (signalVector v p).rest = p.rest := by
  unfold signalVector; split <;> simp

@[simp] theorem setPend_rest (n : Nat) (p : Part) : (setPend n p).rest = p.rest := by
  unfold setPend; dsimp only; split <;> simp

@[simp] theorem pushEvent_rest (x : EvEntry) (p : Part) : (pushEvent x p).rest = p.rest := by
  unfold pushEvent; split <;> simp

@[simp] theorem raiseEvent_rest (n i a : Nat) (p : Part) : (raiseEvent n i a p).rest = p.rest := by
  unfold raiseEvent; dsimp only; split <;> simp

@[simp] theorem closeWindow_rest (w : LogWindow) (p : Part) : (closeWindow w p).rest = p.rest := rfl

@[simp] theorem pushIntake_rest (x : LogEntry) (p : Part) : (pushIntake x p).rest = p.rest := by
  unfold pushIntake; split <;> simp

@[simp] theorem report_rest (s i c v k a : Nat) (p : Part) : (report s i c v k a p).rest = p.rest := by
  unfold report
  dsimp only
  split
  · simp
  · simp only [pushIntake_rest, Part.updLog_rest]
    split <;> (try split) <;> (try split) <;> simp

@[simp] theorem raiseAs_rest (v k n i a : Nat) (p : Part) : (raiseAs v k n i a p).rest = p.rest := by
  unfold raiseAs; dsimp only; split <;> simp

/-- Raising an event changes the events, the log, the counters and the ports, and nothing else. -/
@[simp] theorem raise_rest (n i a : Nat) (p : Part) : (raise n i a p).rest = p.rest := raiseAs_rest ..

@[simp] theorem setLevel_rest (n i : Nat) (on : Bool) (p : Part) : (setLevel n i on p).rest = p.rest := by
  unfold setLevel; dsimp only; split <;> (try split) <;> simp

theorem foldl_rest {α : Type} (f : Part → α → Part) (h : ∀ p a, (f p a).rest = p.rest) (l : List α) : ∀ p, (l.foldl f p).rest = p.rest := by
  induction l with
  | nil => intro p; rfl
  | cons x r ih => intro p; rw [List.foldl_cons, ih, h]

theorem clearPend_rest (b : BitVec 384) (again : Part → Part) (h : ∀ q, (again q).rest = q.rest) (p : Part) :
    (clearPend b again p).rest = p.rest := by
  unfold clearPend; rw [foldl_rest _ (by simp), h]; rfl

@[simp] theorem resignalBank_rest (b : Nat) (p : Part) : (resignalBank b p).rest = p.rest := by
  unfold resignalBank; split <;> simp

theorem Part.sys_of_rest {p q : Part} (h : p.rest = q.rest) : p.sys = q.sys := (congrArg Part.sys h : p.rest.sys = q.rest.sys)
theorem Part.maint_of_rest {p q : Part} (h : p.rest = q.rest) : p.maint = q.maint := (congrArg Part.maint h : p.rest.maint = q.rest.maint)
theorem Part.host_of_rest {p q : Part} (h : p.rest = q.rest) : p.host = q.host := (congrArg Part.host h : p.rest.host = q.rest.host)
theorem Part.txn_of_rest {p q : Part} (h : p.rest = q.rest) : p.txn = q.txn := (congrArg Part.txn h : p.rest.txn = q.rest.txn)
theorem Part.cfg_of_rest {p q : Part} (h : p.rest = q.rest) : p.cfg = q.cfg := (congrArg Part.cfg h : p.rest.cfg = q.rest.cfg)
theorem Part.inp_of_rest {p q : Part} (h : p.rest = q.rest) : p.inp = q.inp := (congrArg Part.inp h : p.rest.inp = q.rest.inp)
theorem Part.frc_of_rest {p q : Part} (h : p.rest = q.rest) : p.frc = q.frc := (congrArg Part.frc h : p.rest.frc = q.rest.frc)
theorem Part.comp_of_rest {p q : Part} (h : p.rest = q.rest) : p.comp = q.comp := (congrArg Part.comp h : p.rest.comp = q.rest.comp)
theorem Part.fr_of_rest {p q : Part} (h : p.rest = q.rest) : p.fr = q.fr := (congrArg Part.fr h : p.rest.fr = q.rest.fr)
theorem Part.light_of_rest {p q : Part} (h : p.rest = q.rest) : p.light = q.light := (congrArg Part.light h : p.rest.light = q.rest.light)
theorem Part.kl_of_rest {p q : Part} (h : p.rest = q.rest) : p.kl = q.kl := (congrArg Part.kl h : p.rest.kl = q.rest.kl)
theorem Part.aud_of_rest {p q : Part} (h : p.rest = q.rest) : p.aud = q.aud := (congrArg Part.aud h : p.rest.aud = q.rest.aud)
theorem Part.tb_of_rest {p q : Part} (h : p.rest = q.rest) : p.tb = q.tb := (congrArg Part.tb h : p.rest.tb = q.rest.tb)
theorem Part.pair_of_rest {p q : Part} (h : p.rest = q.rest) : p.pair = q.pair := (congrArg Part.pair h : p.rest.pair = q.rest.pair)
theorem Part.hrt_of_rest {p q : Part} (h : p.rest = q.rest) : p.hrt = q.hrt := (congrArg Part.hrt h : p.rest.hrt = q.rest.hrt)
theorem Part.fab_of_rest {p q : Part} (h : p.rest = q.rest) : p.fab = q.fab := (congrArg Part.fab h : p.rest.fab = q.rest.fab)
theorem Part.pwr_of_rest {p q : Part} (h : p.rest = q.rest) : p.pwr = q.pwr := (congrArg Part.pwr h : p.rest.pwr = q.rest.pwr)
theorem Part.perf_of_rest {p q : Part} (h : p.rest = q.rest) : p.perf = q.perf := (congrArg Part.perf h : p.rest.perf = q.rest.perf)
theorem Part.free_of_rest {p q : Part} (h : p.rest = q.rest) : p.free = q.free := (congrArg Part.free h : p.rest.free = q.rest.free)

@[simp] theorem emit_sys (o : Out) (p : Part) : (emit o p).sys = p.sys := Part.sys_of_rest (emit_rest o p)
@[simp] theorem emit_maint (o : Out) (p : Part) : (emit o p).maint = p.maint := Part.maint_of_rest (emit_rest o p)
@[simp] theorem emit_host (o : Out) (p : Part) : (emit o p).host = p.host := Part.host_of_rest (emit_rest o p)
@[simp] theorem emit_txn (o : Out) (p : Part) : (emit o p).txn = p.txn := Part.txn_of_rest (emit_rest o p)
@[simp] theorem emit_cfg (o : Out) (p : Part) : (emit o p).cfg = p.cfg := Part.cfg_of_rest (emit_rest o p)
@[simp] theorem emit_inp (o : Out) (p : Part) : (emit o p).inp = p.inp := Part.inp_of_rest (emit_rest o p)
@[simp] theorem emit_frc (o : Out) (p : Part) : (emit o p).frc = p.frc := Part.frc_of_rest (emit_rest o p)
@[simp] theorem emit_comp (o : Out) (p : Part) : (emit o p).comp = p.comp := Part.comp_of_rest (emit_rest o p)
@[simp] theorem emit_fr (o : Out) (p : Part) : (emit o p).fr = p.fr := Part.fr_of_rest (emit_rest o p)
@[simp] theorem emit_light (o : Out) (p : Part) : (emit o p).light = p.light := Part.light_of_rest (emit_rest o p)
@[simp] theorem emit_kl (o : Out) (p : Part) : (emit o p).kl = p.kl := Part.kl_of_rest (emit_rest o p)
@[simp] theorem emit_aud (o : Out) (p : Part) : (emit o p).aud = p.aud := Part.aud_of_rest (emit_rest o p)
@[simp] theorem emit_tb (o : Out) (p : Part) : (emit o p).tb = p.tb := Part.tb_of_rest (emit_rest o p)
@[simp] theorem emit_pair (o : Out) (p : Part) : (emit o p).pair = p.pair := Part.pair_of_rest (emit_rest o p)
@[simp] theorem emit_hrt (o : Out) (p : Part) : (emit o p).hrt = p.hrt := Part.hrt_of_rest (emit_rest o p)
@[simp] theorem emit_fab (o : Out) (p : Part) : (emit o p).fab = p.fab := Part.fab_of_rest (emit_rest o p)
@[simp] theorem emit_pwr (o : Out) (p : Part) : (emit o p).pwr = p.pwr := Part.pwr_of_rest (emit_rest o p)
@[simp] theorem emit_perf (o : Out) (p : Part) : (emit o p).perf = p.perf := Part.perf_of_rest (emit_rest o p)
@[simp] theorem emit_free (o : Out) (p : Part) : (emit o p).free = p.free := Part.free_of_rest (emit_rest o p)

@[simp] theorem countBy_sys (b i x n : Nat) (p : Part) : (countBy b i x n p).sys = p.sys := Part.sys_of_rest (countBy_rest b i x n p)
@[simp] theorem countBy_maint (b i x n : Nat) (p : Part) : (countBy b i x n p).maint = p.maint := Part.maint_of_rest (countBy_rest b i x n p)
@[simp] theorem countBy_host (b i x n : Nat) (p : Part) : (countBy b i x n p).host = p.host := Part.host_of_rest (countBy_rest b i x n p)
@[simp] theorem countBy_txn (b i x n : Nat) (p : Part) : (countBy b i x n p).txn = p.txn := Part.txn_of_rest (countBy_rest b i x n p)
@[simp] theorem countBy_cfg (b i x n : Nat) (p : Part) : (countBy b i x n p).cfg = p.cfg := Part.cfg_of_rest (countBy_rest b i x n p)
@[simp] theorem countBy_inp (b i x n : Nat) (p : Part) : (countBy b i x n p).inp = p.inp := Part.inp_of_rest (countBy_rest b i x n p)
@[simp] theorem countBy_frc (b i x n : Nat) (p : Part) : (countBy b i x n p).frc = p.frc := Part.frc_of_rest (countBy_rest b i x n p)
@[simp] theorem countBy_comp (b i x n : Nat) (p : Part) : (countBy b i x n p).comp = p.comp := Part.comp_of_rest (countBy_rest b i x n p)
@[simp] theorem countBy_fr (b i x n : Nat) (p : Part) : (countBy b i x n p).fr = p.fr := Part.fr_of_rest (countBy_rest b i x n p)
@[simp] theorem countBy_light (b i x n : Nat) (p : Part) : (countBy b i x n p).light = p.light := Part.light_of_rest (countBy_rest b i x n p)
@[simp] theorem countBy_kl (b i x n : Nat) (p : Part) : (countBy b i x n p).kl = p.kl := Part.kl_of_rest (countBy_rest b i x n p)
@[simp] theorem countBy_aud (b i x n : Nat) (p : Part) : (countBy b i x n p).aud = p.aud := Part.aud_of_rest (countBy_rest b i x n p)
@[simp] theorem countBy_tb (b i x n : Nat) (p : Part) : (countBy b i x n p).tb = p.tb := Part.tb_of_rest (countBy_rest b i x n p)
@[simp] theorem countBy_pair (b i x n : Nat) (p : Part) : (countBy b i x n p).pair = p.pair := Part.pair_of_rest (countBy_rest b i x n p)
@[simp] theorem countBy_hrt (b i x n : Nat) (p : Part) : (countBy b i x n p).hrt = p.hrt := Part.hrt_of_rest (countBy_rest b i x n p)
@[simp] theorem countBy_fab (b i x n : Nat) (p : Part) : (countBy b i x n p).fab = p.fab := Part.fab_of_rest (countBy_rest b i x n p)
@[simp] theorem countBy_pwr (b i x n : Nat) (p : Part) : (countBy b i x n p).pwr = p.pwr := Part.pwr_of_rest (countBy_rest b i x n p)
@[simp] theorem countBy_perf (b i x n : Nat) (p : Part) : (countBy b i x n p).perf = p.perf := Part.perf_of_rest (countBy_rest b i x n p)
@[simp] theorem countBy_free (b i x n : Nat) (p : Part) : (countBy b i x n p).free = p.free := Part.free_of_rest (countBy_rest b i x n p)

@[simp] theorem count_sys (b i x : Nat) (p : Part) : (count b i x p).sys = p.sys := Part.sys_of_rest (count_rest b i x p)
@[simp] theorem count_maint (b i x : Nat) (p : Part) : (count b i x p).maint = p.maint := Part.maint_of_rest (count_rest b i x p)
@[simp] theorem count_host (b i x : Nat) (p : Part) : (count b i x p).host = p.host := Part.host_of_rest (count_rest b i x p)
@[simp] theorem count_txn (b i x : Nat) (p : Part) : (count b i x p).txn = p.txn := Part.txn_of_rest (count_rest b i x p)
@[simp] theorem count_cfg (b i x : Nat) (p : Part) : (count b i x p).cfg = p.cfg := Part.cfg_of_rest (count_rest b i x p)
@[simp] theorem count_inp (b i x : Nat) (p : Part) : (count b i x p).inp = p.inp := Part.inp_of_rest (count_rest b i x p)
@[simp] theorem count_frc (b i x : Nat) (p : Part) : (count b i x p).frc = p.frc := Part.frc_of_rest (count_rest b i x p)
@[simp] theorem count_comp (b i x : Nat) (p : Part) : (count b i x p).comp = p.comp := Part.comp_of_rest (count_rest b i x p)
@[simp] theorem count_fr (b i x : Nat) (p : Part) : (count b i x p).fr = p.fr := Part.fr_of_rest (count_rest b i x p)
@[simp] theorem count_light (b i x : Nat) (p : Part) : (count b i x p).light = p.light := Part.light_of_rest (count_rest b i x p)
@[simp] theorem count_kl (b i x : Nat) (p : Part) : (count b i x p).kl = p.kl := Part.kl_of_rest (count_rest b i x p)
@[simp] theorem count_aud (b i x : Nat) (p : Part) : (count b i x p).aud = p.aud := Part.aud_of_rest (count_rest b i x p)
@[simp] theorem count_tb (b i x : Nat) (p : Part) : (count b i x p).tb = p.tb := Part.tb_of_rest (count_rest b i x p)
@[simp] theorem count_pair (b i x : Nat) (p : Part) : (count b i x p).pair = p.pair := Part.pair_of_rest (count_rest b i x p)
@[simp] theorem count_hrt (b i x : Nat) (p : Part) : (count b i x p).hrt = p.hrt := Part.hrt_of_rest (count_rest b i x p)
@[simp] theorem count_fab (b i x : Nat) (p : Part) : (count b i x p).fab = p.fab := Part.fab_of_rest (count_rest b i x p)
@[simp] theorem count_pwr (b i x : Nat) (p : Part) : (count b i x p).pwr = p.pwr := Part.pwr_of_rest (count_rest b i x p)
@[simp] theorem count_perf (b i x : Nat) (p : Part) : (count b i x p).perf = p.perf := Part.perf_of_rest (count_rest b i x p)
@[simp] theorem count_free (b i x : Nat) (p : Part) : (count b i x p).free = p.free := Part.free_of_rest (count_rest b i x p)

@[simp] theorem signalVector_sys (v : Nat) (p : Part) : (signalVector v p).sys = p.sys := Part.sys_of_rest (signalVector_rest v p)
@[simp] theorem signalVector_maint (v : Nat) (p : Part) : (signalVector v p).maint = p.maint := Part.maint_of_rest (signalVector_rest v p)
@[simp] theorem signalVector_host (v : Nat) (p : Part) : (signalVector v p).host = p.host := Part.host_of_rest (signalVector_rest v p)
@[simp] theorem signalVector_txn (v : Nat) (p : Part) : (signalVector v p).txn = p.txn := Part.txn_of_rest (signalVector_rest v p)
@[simp] theorem signalVector_cfg (v : Nat) (p : Part) : (signalVector v p).cfg = p.cfg := Part.cfg_of_rest (signalVector_rest v p)
@[simp] theorem signalVector_inp (v : Nat) (p : Part) : (signalVector v p).inp = p.inp := Part.inp_of_rest (signalVector_rest v p)
@[simp] theorem signalVector_frc (v : Nat) (p : Part) : (signalVector v p).frc = p.frc := Part.frc_of_rest (signalVector_rest v p)
@[simp] theorem signalVector_comp (v : Nat) (p : Part) : (signalVector v p).comp = p.comp := Part.comp_of_rest (signalVector_rest v p)
@[simp] theorem signalVector_fr (v : Nat) (p : Part) : (signalVector v p).fr = p.fr := Part.fr_of_rest (signalVector_rest v p)
@[simp] theorem signalVector_light (v : Nat) (p : Part) : (signalVector v p).light = p.light := Part.light_of_rest (signalVector_rest v p)
@[simp] theorem signalVector_kl (v : Nat) (p : Part) : (signalVector v p).kl = p.kl := Part.kl_of_rest (signalVector_rest v p)
@[simp] theorem signalVector_aud (v : Nat) (p : Part) : (signalVector v p).aud = p.aud := Part.aud_of_rest (signalVector_rest v p)
@[simp] theorem signalVector_tb (v : Nat) (p : Part) : (signalVector v p).tb = p.tb := Part.tb_of_rest (signalVector_rest v p)
@[simp] theorem signalVector_pair (v : Nat) (p : Part) : (signalVector v p).pair = p.pair := Part.pair_of_rest (signalVector_rest v p)
@[simp] theorem signalVector_hrt (v : Nat) (p : Part) : (signalVector v p).hrt = p.hrt := Part.hrt_of_rest (signalVector_rest v p)
@[simp] theorem signalVector_fab (v : Nat) (p : Part) : (signalVector v p).fab = p.fab := Part.fab_of_rest (signalVector_rest v p)
@[simp] theorem signalVector_pwr (v : Nat) (p : Part) : (signalVector v p).pwr = p.pwr := Part.pwr_of_rest (signalVector_rest v p)
@[simp] theorem signalVector_perf (v : Nat) (p : Part) : (signalVector v p).perf = p.perf := Part.perf_of_rest (signalVector_rest v p)
@[simp] theorem signalVector_free (v : Nat) (p : Part) : (signalVector v p).free = p.free := Part.free_of_rest (signalVector_rest v p)

@[simp] theorem setPend_sys (n : Nat) (p : Part) : (setPend n p).sys = p.sys := Part.sys_of_rest (setPend_rest n p)
@[simp] theorem setPend_maint (n : Nat) (p : Part) : (setPend n p).maint = p.maint := Part.maint_of_rest (setPend_rest n p)
@[simp] theorem setPend_host (n : Nat) (p : Part) : (setPend n p).host = p.host := Part.host_of_rest (setPend_rest n p)
@[simp] theorem setPend_txn (n : Nat) (p : Part) : (setPend n p).txn = p.txn := Part.txn_of_rest (setPend_rest n p)
@[simp] theorem setPend_cfg (n : Nat) (p : Part) : (setPend n p).cfg = p.cfg := Part.cfg_of_rest (setPend_rest n p)
@[simp] theorem setPend_inp (n : Nat) (p : Part) : (setPend n p).inp = p.inp := Part.inp_of_rest (setPend_rest n p)
@[simp] theorem setPend_frc (n : Nat) (p : Part) : (setPend n p).frc = p.frc := Part.frc_of_rest (setPend_rest n p)
@[simp] theorem setPend_comp (n : Nat) (p : Part) : (setPend n p).comp = p.comp := Part.comp_of_rest (setPend_rest n p)
@[simp] theorem setPend_fr (n : Nat) (p : Part) : (setPend n p).fr = p.fr := Part.fr_of_rest (setPend_rest n p)
@[simp] theorem setPend_light (n : Nat) (p : Part) : (setPend n p).light = p.light := Part.light_of_rest (setPend_rest n p)
@[simp] theorem setPend_kl (n : Nat) (p : Part) : (setPend n p).kl = p.kl := Part.kl_of_rest (setPend_rest n p)
@[simp] theorem setPend_aud (n : Nat) (p : Part) : (setPend n p).aud = p.aud := Part.aud_of_rest (setPend_rest n p)
@[simp] theorem setPend_tb (n : Nat) (p : Part) : (setPend n p).tb = p.tb := Part.tb_of_rest (setPend_rest n p)
@[simp] theorem setPend_pair (n : Nat) (p : Part) : (setPend n p).pair = p.pair := Part.pair_of_rest (setPend_rest n p)
@[simp] theorem setPend_hrt (n : Nat) (p : Part) : (setPend n p).hrt = p.hrt := Part.hrt_of_rest (setPend_rest n p)
@[simp] theorem setPend_fab (n : Nat) (p : Part) : (setPend n p).fab = p.fab := Part.fab_of_rest (setPend_rest n p)
@[simp] theorem setPend_pwr (n : Nat) (p : Part) : (setPend n p).pwr = p.pwr := Part.pwr_of_rest (setPend_rest n p)
@[simp] theorem setPend_perf (n : Nat) (p : Part) : (setPend n p).perf = p.perf := Part.perf_of_rest (setPend_rest n p)
@[simp] theorem setPend_free (n : Nat) (p : Part) : (setPend n p).free = p.free := Part.free_of_rest (setPend_rest n p)

@[simp] theorem raiseEvent_sys (n i a : Nat) (p : Part) : (raiseEvent n i a p).sys = p.sys := Part.sys_of_rest (raiseEvent_rest n i a p)
@[simp] theorem raiseEvent_maint (n i a : Nat) (p : Part) : (raiseEvent n i a p).maint = p.maint := Part.maint_of_rest (raiseEvent_rest n i a p)
@[simp] theorem raiseEvent_host (n i a : Nat) (p : Part) : (raiseEvent n i a p).host = p.host := Part.host_of_rest (raiseEvent_rest n i a p)
@[simp] theorem raiseEvent_txn (n i a : Nat) (p : Part) : (raiseEvent n i a p).txn = p.txn := Part.txn_of_rest (raiseEvent_rest n i a p)
@[simp] theorem raiseEvent_cfg (n i a : Nat) (p : Part) : (raiseEvent n i a p).cfg = p.cfg := Part.cfg_of_rest (raiseEvent_rest n i a p)
@[simp] theorem raiseEvent_inp (n i a : Nat) (p : Part) : (raiseEvent n i a p).inp = p.inp := Part.inp_of_rest (raiseEvent_rest n i a p)
@[simp] theorem raiseEvent_frc (n i a : Nat) (p : Part) : (raiseEvent n i a p).frc = p.frc := Part.frc_of_rest (raiseEvent_rest n i a p)
@[simp] theorem raiseEvent_comp (n i a : Nat) (p : Part) : (raiseEvent n i a p).comp = p.comp := Part.comp_of_rest (raiseEvent_rest n i a p)
@[simp] theorem raiseEvent_fr (n i a : Nat) (p : Part) : (raiseEvent n i a p).fr = p.fr := Part.fr_of_rest (raiseEvent_rest n i a p)
@[simp] theorem raiseEvent_light (n i a : Nat) (p : Part) : (raiseEvent n i a p).light = p.light := Part.light_of_rest (raiseEvent_rest n i a p)
@[simp] theorem raiseEvent_kl (n i a : Nat) (p : Part) : (raiseEvent n i a p).kl = p.kl := Part.kl_of_rest (raiseEvent_rest n i a p)
@[simp] theorem raiseEvent_aud (n i a : Nat) (p : Part) : (raiseEvent n i a p).aud = p.aud := Part.aud_of_rest (raiseEvent_rest n i a p)
@[simp] theorem raiseEvent_tb (n i a : Nat) (p : Part) : (raiseEvent n i a p).tb = p.tb := Part.tb_of_rest (raiseEvent_rest n i a p)
@[simp] theorem raiseEvent_pair (n i a : Nat) (p : Part) : (raiseEvent n i a p).pair = p.pair := Part.pair_of_rest (raiseEvent_rest n i a p)
@[simp] theorem raiseEvent_hrt (n i a : Nat) (p : Part) : (raiseEvent n i a p).hrt = p.hrt := Part.hrt_of_rest (raiseEvent_rest n i a p)
@[simp] theorem raiseEvent_fab (n i a : Nat) (p : Part) : (raiseEvent n i a p).fab = p.fab := Part.fab_of_rest (raiseEvent_rest n i a p)
@[simp] theorem raiseEvent_pwr (n i a : Nat) (p : Part) : (raiseEvent n i a p).pwr = p.pwr := Part.pwr_of_rest (raiseEvent_rest n i a p)
@[simp] theorem raiseEvent_perf (n i a : Nat) (p : Part) : (raiseEvent n i a p).perf = p.perf := Part.perf_of_rest (raiseEvent_rest n i a p)
@[simp] theorem raiseEvent_free (n i a : Nat) (p : Part) : (raiseEvent n i a p).free = p.free := Part.free_of_rest (raiseEvent_rest n i a p)

@[simp] theorem report_sys (s i c v k a : Nat) (p : Part) : (report s i c v k a p).sys = p.sys := Part.sys_of_rest (report_rest s i c v k a p)
@[simp] theorem report_maint (s i c v k a : Nat) (p : Part) : (report s i c v k a p).maint = p.maint := Part.maint_of_rest (report_rest s i c v k a p)
@[simp] theorem report_host (s i c v k a : Nat) (p : Part) : (report s i c v k a p).host = p.host := Part.host_of_rest (report_rest s i c v k a p)
@[simp] theorem report_txn (s i c v k a : Nat) (p : Part) : (report s i c v k a p).txn = p.txn := Part.txn_of_rest (report_rest s i c v k a p)
@[simp] theorem report_cfg (s i c v k a : Nat) (p : Part) : (report s i c v k a p).cfg = p.cfg := Part.cfg_of_rest (report_rest s i c v k a p)
@[simp] theorem report_inp (s i c v k a : Nat) (p : Part) : (report s i c v k a p).inp = p.inp := Part.inp_of_rest (report_rest s i c v k a p)
@[simp] theorem report_frc (s i c v k a : Nat) (p : Part) : (report s i c v k a p).frc = p.frc := Part.frc_of_rest (report_rest s i c v k a p)
@[simp] theorem report_comp (s i c v k a : Nat) (p : Part) : (report s i c v k a p).comp = p.comp := Part.comp_of_rest (report_rest s i c v k a p)
@[simp] theorem report_fr (s i c v k a : Nat) (p : Part) : (report s i c v k a p).fr = p.fr := Part.fr_of_rest (report_rest s i c v k a p)
@[simp] theorem report_light (s i c v k a : Nat) (p : Part) : (report s i c v k a p).light = p.light := Part.light_of_rest (report_rest s i c v k a p)
@[simp] theorem report_kl (s i c v k a : Nat) (p : Part) : (report s i c v k a p).kl = p.kl := Part.kl_of_rest (report_rest s i c v k a p)
@[simp] theorem report_aud (s i c v k a : Nat) (p : Part) : (report s i c v k a p).aud = p.aud := Part.aud_of_rest (report_rest s i c v k a p)
@[simp] theorem report_tb (s i c v k a : Nat) (p : Part) : (report s i c v k a p).tb = p.tb := Part.tb_of_rest (report_rest s i c v k a p)
@[simp] theorem report_pair (s i c v k a : Nat) (p : Part) : (report s i c v k a p).pair = p.pair := Part.pair_of_rest (report_rest s i c v k a p)
@[simp] theorem report_hrt (s i c v k a : Nat) (p : Part) : (report s i c v k a p).hrt = p.hrt := Part.hrt_of_rest (report_rest s i c v k a p)
@[simp] theorem report_fab (s i c v k a : Nat) (p : Part) : (report s i c v k a p).fab = p.fab := Part.fab_of_rest (report_rest s i c v k a p)
@[simp] theorem report_pwr (s i c v k a : Nat) (p : Part) : (report s i c v k a p).pwr = p.pwr := Part.pwr_of_rest (report_rest s i c v k a p)
@[simp] theorem report_perf (s i c v k a : Nat) (p : Part) : (report s i c v k a p).perf = p.perf := Part.perf_of_rest (report_rest s i c v k a p)
@[simp] theorem report_free (s i c v k a : Nat) (p : Part) : (report s i c v k a p).free = p.free := Part.free_of_rest (report_rest s i c v k a p)

@[simp] theorem raiseAs_sys (v k n i a : Nat) (p : Part) : (raiseAs v k n i a p).sys = p.sys := Part.sys_of_rest (raiseAs_rest v k n i a p)
@[simp] theorem raiseAs_maint (v k n i a : Nat) (p : Part) : (raiseAs v k n i a p).maint = p.maint := Part.maint_of_rest (raiseAs_rest v k n i a p)
@[simp] theorem raiseAs_host (v k n i a : Nat) (p : Part) : (raiseAs v k n i a p).host = p.host := Part.host_of_rest (raiseAs_rest v k n i a p)
@[simp] theorem raiseAs_txn (v k n i a : Nat) (p : Part) : (raiseAs v k n i a p).txn = p.txn := Part.txn_of_rest (raiseAs_rest v k n i a p)
@[simp] theorem raiseAs_cfg (v k n i a : Nat) (p : Part) : (raiseAs v k n i a p).cfg = p.cfg := Part.cfg_of_rest (raiseAs_rest v k n i a p)
@[simp] theorem raiseAs_inp (v k n i a : Nat) (p : Part) : (raiseAs v k n i a p).inp = p.inp := Part.inp_of_rest (raiseAs_rest v k n i a p)
@[simp] theorem raiseAs_frc (v k n i a : Nat) (p : Part) : (raiseAs v k n i a p).frc = p.frc := Part.frc_of_rest (raiseAs_rest v k n i a p)
@[simp] theorem raiseAs_comp (v k n i a : Nat) (p : Part) : (raiseAs v k n i a p).comp = p.comp := Part.comp_of_rest (raiseAs_rest v k n i a p)
@[simp] theorem raiseAs_fr (v k n i a : Nat) (p : Part) : (raiseAs v k n i a p).fr = p.fr := Part.fr_of_rest (raiseAs_rest v k n i a p)
@[simp] theorem raiseAs_light (v k n i a : Nat) (p : Part) : (raiseAs v k n i a p).light = p.light := Part.light_of_rest (raiseAs_rest v k n i a p)
@[simp] theorem raiseAs_kl (v k n i a : Nat) (p : Part) : (raiseAs v k n i a p).kl = p.kl := Part.kl_of_rest (raiseAs_rest v k n i a p)
@[simp] theorem raiseAs_aud (v k n i a : Nat) (p : Part) : (raiseAs v k n i a p).aud = p.aud := Part.aud_of_rest (raiseAs_rest v k n i a p)
@[simp] theorem raiseAs_tb (v k n i a : Nat) (p : Part) : (raiseAs v k n i a p).tb = p.tb := Part.tb_of_rest (raiseAs_rest v k n i a p)
@[simp] theorem raiseAs_pair (v k n i a : Nat) (p : Part) : (raiseAs v k n i a p).pair = p.pair := Part.pair_of_rest (raiseAs_rest v k n i a p)
@[simp] theorem raiseAs_hrt (v k n i a : Nat) (p : Part) : (raiseAs v k n i a p).hrt = p.hrt := Part.hrt_of_rest (raiseAs_rest v k n i a p)
@[simp] theorem raiseAs_fab (v k n i a : Nat) (p : Part) : (raiseAs v k n i a p).fab = p.fab := Part.fab_of_rest (raiseAs_rest v k n i a p)
@[simp] theorem raiseAs_pwr (v k n i a : Nat) (p : Part) : (raiseAs v k n i a p).pwr = p.pwr := Part.pwr_of_rest (raiseAs_rest v k n i a p)
@[simp] theorem raiseAs_perf (v k n i a : Nat) (p : Part) : (raiseAs v k n i a p).perf = p.perf := Part.perf_of_rest (raiseAs_rest v k n i a p)
@[simp] theorem raiseAs_free (v k n i a : Nat) (p : Part) : (raiseAs v k n i a p).free = p.free := Part.free_of_rest (raiseAs_rest v k n i a p)

@[simp] theorem raise_sys (n i a : Nat) (p : Part) : (raise n i a p).sys = p.sys := Part.sys_of_rest (raise_rest n i a p)
@[simp] theorem raise_maint (n i a : Nat) (p : Part) : (raise n i a p).maint = p.maint := Part.maint_of_rest (raise_rest n i a p)
@[simp] theorem raise_host (n i a : Nat) (p : Part) : (raise n i a p).host = p.host := Part.host_of_rest (raise_rest n i a p)
@[simp] theorem raise_txn (n i a : Nat) (p : Part) : (raise n i a p).txn = p.txn := Part.txn_of_rest (raise_rest n i a p)
@[simp] theorem raise_cfg (n i a : Nat) (p : Part) : (raise n i a p).cfg = p.cfg := Part.cfg_of_rest (raise_rest n i a p)
@[simp] theorem raise_inp (n i a : Nat) (p : Part) : (raise n i a p).inp = p.inp := Part.inp_of_rest (raise_rest n i a p)
@[simp] theorem raise_frc (n i a : Nat) (p : Part) : (raise n i a p).frc = p.frc := Part.frc_of_rest (raise_rest n i a p)
@[simp] theorem raise_comp (n i a : Nat) (p : Part) : (raise n i a p).comp = p.comp := Part.comp_of_rest (raise_rest n i a p)
@[simp] theorem raise_fr (n i a : Nat) (p : Part) : (raise n i a p).fr = p.fr := Part.fr_of_rest (raise_rest n i a p)
@[simp] theorem raise_light (n i a : Nat) (p : Part) : (raise n i a p).light = p.light := Part.light_of_rest (raise_rest n i a p)
@[simp] theorem raise_kl (n i a : Nat) (p : Part) : (raise n i a p).kl = p.kl := Part.kl_of_rest (raise_rest n i a p)
@[simp] theorem raise_aud (n i a : Nat) (p : Part) : (raise n i a p).aud = p.aud := Part.aud_of_rest (raise_rest n i a p)
@[simp] theorem raise_tb (n i a : Nat) (p : Part) : (raise n i a p).tb = p.tb := Part.tb_of_rest (raise_rest n i a p)
@[simp] theorem raise_pair (n i a : Nat) (p : Part) : (raise n i a p).pair = p.pair := Part.pair_of_rest (raise_rest n i a p)
@[simp] theorem raise_hrt (n i a : Nat) (p : Part) : (raise n i a p).hrt = p.hrt := Part.hrt_of_rest (raise_rest n i a p)
@[simp] theorem raise_fab (n i a : Nat) (p : Part) : (raise n i a p).fab = p.fab := Part.fab_of_rest (raise_rest n i a p)
@[simp] theorem raise_pwr (n i a : Nat) (p : Part) : (raise n i a p).pwr = p.pwr := Part.pwr_of_rest (raise_rest n i a p)
@[simp] theorem raise_perf (n i a : Nat) (p : Part) : (raise n i a p).perf = p.perf := Part.perf_of_rest (raise_rest n i a p)
@[simp] theorem raise_free (n i a : Nat) (p : Part) : (raise n i a p).free = p.free := Part.free_of_rest (raise_rest n i a p)

@[simp] theorem setLevel_sys (n i : Nat) (on : Bool) (p : Part) : (setLevel n i on p).sys = p.sys := Part.sys_of_rest (setLevel_rest n i on p)
@[simp] theorem setLevel_maint (n i : Nat) (on : Bool) (p : Part) : (setLevel n i on p).maint = p.maint := Part.maint_of_rest (setLevel_rest n i on p)
@[simp] theorem setLevel_host (n i : Nat) (on : Bool) (p : Part) : (setLevel n i on p).host = p.host := Part.host_of_rest (setLevel_rest n i on p)
@[simp] theorem setLevel_txn (n i : Nat) (on : Bool) (p : Part) : (setLevel n i on p).txn = p.txn := Part.txn_of_rest (setLevel_rest n i on p)
@[simp] theorem setLevel_cfg (n i : Nat) (on : Bool) (p : Part) : (setLevel n i on p).cfg = p.cfg := Part.cfg_of_rest (setLevel_rest n i on p)
@[simp] theorem setLevel_inp (n i : Nat) (on : Bool) (p : Part) : (setLevel n i on p).inp = p.inp := Part.inp_of_rest (setLevel_rest n i on p)
@[simp] theorem setLevel_frc (n i : Nat) (on : Bool) (p : Part) : (setLevel n i on p).frc = p.frc := Part.frc_of_rest (setLevel_rest n i on p)
@[simp] theorem setLevel_comp (n i : Nat) (on : Bool) (p : Part) : (setLevel n i on p).comp = p.comp := Part.comp_of_rest (setLevel_rest n i on p)
@[simp] theorem setLevel_fr (n i : Nat) (on : Bool) (p : Part) : (setLevel n i on p).fr = p.fr := Part.fr_of_rest (setLevel_rest n i on p)
@[simp] theorem setLevel_light (n i : Nat) (on : Bool) (p : Part) : (setLevel n i on p).light = p.light := Part.light_of_rest (setLevel_rest n i on p)
@[simp] theorem setLevel_kl (n i : Nat) (on : Bool) (p : Part) : (setLevel n i on p).kl = p.kl := Part.kl_of_rest (setLevel_rest n i on p)
@[simp] theorem setLevel_aud (n i : Nat) (on : Bool) (p : Part) : (setLevel n i on p).aud = p.aud := Part.aud_of_rest (setLevel_rest n i on p)
@[simp] theorem setLevel_tb (n i : Nat) (on : Bool) (p : Part) : (setLevel n i on p).tb = p.tb := Part.tb_of_rest (setLevel_rest n i on p)
@[simp] theorem setLevel_pair (n i : Nat) (on : Bool) (p : Part) : (setLevel n i on p).pair = p.pair := Part.pair_of_rest (setLevel_rest n i on p)
@[simp] theorem setLevel_hrt (n i : Nat) (on : Bool) (p : Part) : (setLevel n i on p).hrt = p.hrt := Part.hrt_of_rest (setLevel_rest n i on p)
@[simp] theorem setLevel_fab (n i : Nat) (on : Bool) (p : Part) : (setLevel n i on p).fab = p.fab := Part.fab_of_rest (setLevel_rest n i on p)
@[simp] theorem setLevel_pwr (n i : Nat) (on : Bool) (p : Part) : (setLevel n i on p).pwr = p.pwr := Part.pwr_of_rest (setLevel_rest n i on p)
@[simp] theorem setLevel_perf (n i : Nat) (on : Bool) (p : Part) : (setLevel n i on p).perf = p.perf := Part.perf_of_rest (setLevel_rest n i on p)
@[simp] theorem setLevel_free (n i : Nat) (on : Bool) (p : Part) : (setLevel n i on p).free = p.free := Part.free_of_rest (setLevel_rest n i on p)

@[simp] theorem advance_maint (t : Nat) (p : Part) : (advance t p).maint = p.maint := rfl
@[simp] theorem advance_ev (t : Nat) (p : Part) : (advance t p).ev = p.ev := rfl
@[simp] theorem advance_log (t : Nat) (p : Part) : (advance t p).log = p.log := rfl
@[simp] theorem advance_host (t : Nat) (p : Part) : (advance t p).host = p.host := rfl
@[simp] theorem advance_txn (t : Nat) (p : Part) : (advance t p).txn = p.txn := rfl
@[simp] theorem advance_cfg (t : Nat) (p : Part) : (advance t p).cfg = p.cfg := rfl
@[simp] theorem advance_inp (t : Nat) (p : Part) : (advance t p).inp = p.inp := rfl
@[simp] theorem advance_frc (t : Nat) (p : Part) : (advance t p).frc = p.frc := rfl
@[simp] theorem advance_comp (t : Nat) (p : Part) : (advance t p).comp = p.comp := rfl
@[simp] theorem advance_fr (t : Nat) (p : Part) : (advance t p).fr = p.fr := rfl
@[simp] theorem advance_light (t : Nat) (p : Part) : (advance t p).light = p.light := rfl
@[simp] theorem advance_kl (t : Nat) (p : Part) : (advance t p).kl = p.kl := rfl
@[simp] theorem advance_aud (t : Nat) (p : Part) : (advance t p).aud = p.aud := rfl
@[simp] theorem advance_tb (t : Nat) (p : Part) : (advance t p).tb = p.tb := rfl
@[simp] theorem advance_pair (t : Nat) (p : Part) : (advance t p).pair = p.pair := rfl
@[simp] theorem advance_hrt (t : Nat) (p : Part) : (advance t p).hrt = p.hrt := rfl
@[simp] theorem advance_fab (t : Nat) (p : Part) : (advance t p).fab = p.fab := rfl
@[simp] theorem advance_pwr (t : Nat) (p : Part) : (advance t p).pwr = p.pwr := rfl
@[simp] theorem advance_perf (t : Nat) (p : Part) : (advance t p).perf = p.perf := rfl
@[simp] theorem advance_cnt (t : Nat) (p : Part) : (advance t p).cnt = p.cnt := rfl
@[simp] theorem advance_out (t : Nat) (p : Part) : (advance t p).out = p.out := rfl
@[simp] theorem advance_free (t : Nat) (p : Part) : (advance t p).free = p.free := rfl

@[simp] theorem faultOn_maint (p : Part) : (faultOn p).maint = p.maint := rfl
@[simp] theorem faultOn_ev (p : Part) : (faultOn p).ev = p.ev := rfl
@[simp] theorem faultOn_log (p : Part) : (faultOn p).log = p.log := rfl
@[simp] theorem faultOn_host (p : Part) : (faultOn p).host = p.host := rfl
@[simp] theorem faultOn_txn (p : Part) : (faultOn p).txn = p.txn := rfl
@[simp] theorem faultOn_cfg (p : Part) : (faultOn p).cfg = p.cfg := rfl
@[simp] theorem faultOn_inp (p : Part) : (faultOn p).inp = p.inp := rfl
@[simp] theorem faultOn_frc (p : Part) : (faultOn p).frc = p.frc := rfl
@[simp] theorem faultOn_comp (p : Part) : (faultOn p).comp = p.comp := rfl
@[simp] theorem faultOn_fr (p : Part) : (faultOn p).fr = p.fr := rfl
@[simp] theorem faultOn_light (p : Part) : (faultOn p).light = p.light := rfl
@[simp] theorem faultOn_kl (p : Part) : (faultOn p).kl = p.kl := rfl
@[simp] theorem faultOn_aud (p : Part) : (faultOn p).aud = p.aud := rfl
@[simp] theorem faultOn_tb (p : Part) : (faultOn p).tb = p.tb := rfl
@[simp] theorem faultOn_pair (p : Part) : (faultOn p).pair = p.pair := rfl
@[simp] theorem faultOn_hrt (p : Part) : (faultOn p).hrt = p.hrt := rfl
@[simp] theorem faultOn_fab (p : Part) : (faultOn p).fab = p.fab := rfl
@[simp] theorem faultOn_pwr (p : Part) : (faultOn p).pwr = p.pwr := rfl
@[simp] theorem faultOn_perf (p : Part) : (faultOn p).perf = p.perf := rfl
@[simp] theorem faultOn_cnt (p : Part) : (faultOn p).cnt = p.cnt := rfl
@[simp] theorem faultOn_out (p : Part) : (faultOn p).out = p.out := rfl
@[simp] theorem faultOn_free (p : Part) : (faultOn p).free = p.free := rfl

@[simp] theorem faultOff_maint (p : Part) : (faultOff p).maint = p.maint := rfl
@[simp] theorem faultOff_ev (p : Part) : (faultOff p).ev = p.ev := rfl
@[simp] theorem faultOff_log (p : Part) : (faultOff p).log = p.log := rfl
@[simp] theorem faultOff_host (p : Part) : (faultOff p).host = p.host := rfl
@[simp] theorem faultOff_txn (p : Part) : (faultOff p).txn = p.txn := rfl
@[simp] theorem faultOff_cfg (p : Part) : (faultOff p).cfg = p.cfg := rfl
@[simp] theorem faultOff_inp (p : Part) : (faultOff p).inp = p.inp := rfl
@[simp] theorem faultOff_frc (p : Part) : (faultOff p).frc = p.frc := rfl
@[simp] theorem faultOff_comp (p : Part) : (faultOff p).comp = p.comp := rfl
@[simp] theorem faultOff_fr (p : Part) : (faultOff p).fr = p.fr := rfl
@[simp] theorem faultOff_light (p : Part) : (faultOff p).light = p.light := rfl
@[simp] theorem faultOff_kl (p : Part) : (faultOff p).kl = p.kl := rfl
@[simp] theorem faultOff_aud (p : Part) : (faultOff p).aud = p.aud := rfl
@[simp] theorem faultOff_tb (p : Part) : (faultOff p).tb = p.tb := rfl
@[simp] theorem faultOff_pair (p : Part) : (faultOff p).pair = p.pair := rfl
@[simp] theorem faultOff_hrt (p : Part) : (faultOff p).hrt = p.hrt := rfl
@[simp] theorem faultOff_fab (p : Part) : (faultOff p).fab = p.fab := rfl
@[simp] theorem faultOff_pwr (p : Part) : (faultOff p).pwr = p.pwr := rfl
@[simp] theorem faultOff_perf (p : Part) : (faultOff p).perf = p.perf := rfl
@[simp] theorem faultOff_cnt (p : Part) : (faultOff p).cnt = p.cnt := rfl
@[simp] theorem faultOff_out (p : Part) : (faultOff p).out = p.out := rfl
@[simp] theorem faultOff_free (p : Part) : (faultOff p).free = p.free := rfl

/-- Time moves on, and nothing else of this group. -/
theorem advance_sys (t : Nat) (p : Part) : (advance t p).sys = { p.sys with now := max p.sys.now t } := rfl

@[simp] theorem advance_now (t : Nat) (p : Part) : (advance t p).sys.now = max p.sys.now t := rfl
@[simp] theorem advance_alive (t : Nat) (p : Part) : (advance t p).alive = p.alive := rfl

@[simp] theorem timed_alive {t : Nat} {f : Part → Part} {p : Part} (h : p.alive = true) : timed t f p = f (advance t p) := by simp [timed, h]
@[simp] theorem timed_dead {t : Nat} {f : Part → Part} {p : Part} (h : p.alive = false) : timed t f p = p := by simp [timed, h]
@[simp] theorem guarded_on {c : Part → Bool} {f : Part → Part} {p : Part} (h : c p = true) : guarded c f p = f p := by simp [guarded, h]
@[simp] theorem guarded_off {c : Part → Bool} {f : Part → Part} {p : Part} (h : c p = false) : guarded c f p = p := by simp [guarded, h]

end Sys2Proof.Machine
end

