-- ==== Sys2Proof/Laws/Tab.lean ====
section
/-! SUPPORT. Finite tables: a read after a write gives the value written, and every other entry stands. -/

namespace Sys2Proof.Tab

@[simp] theorem get?_set {α : Type} (m : Tab α) (n k : Nat) (v : α) : (m.set n v).get? k = if k = n then some v else m.get? k := by
  induction m with
  | nil => simp only [set, get?, eq_comm]
  | cons e r ih =>
    obtain ⟨j, w⟩ := e
    simp only [set]
    split
    · simp only [get?, eq_comm]
    · split
      · subst_vars; by_cases h : k = j <;> simp [get?, h, eq_comm]
      · rw [get?, get?, ih]; by_cases h : j = k
        · subst h; simp [show ¬ j = n by omega]
        · simp [h]

@[simp] theorem getD_set {α : Type} (m : Tab α) (n k : Nat) (v d : α) : (m.set n v).getD k d = if k = n then v else m.getD k d := by
  unfold getD; rw [get?_set]; split <;> rfl

@[simp] theorem getD_upd {α : Type} (m : Tab α) (n k : Nat) (d e : α) (f : α → α) :
    (m.upd n d f).getD k e = if k = n then f (m.getD n d) else m.getD k e := getD_set ..

@[simp] theorem get?_upd {α : Type} (m : Tab α) (n k : Nat) (d : α) (f : α → α) :
    (m.upd n d f).get? k = if k = n then some (f (m.getD n d)) else m.get? k := get?_set ..

@[simp] theorem has_set {α : Type} (m : Tab α) (n k : Nat) (v : α) : (m.set n v).has k = (decide (k = n) || m.has k) := by
  unfold has; rw [get?_set]; split <;> simp [*]

@[simp] theorem get?_erase {α : Type} (m : Tab α) (n k : Nat) : (m.erase n).get? k = if k = n then none else m.get? k := by
  induction m with
  | nil => simp [erase, get?]
  | cons e r ih =>
    obtain ⟨j, w⟩ := e
    simp only [erase]
    split
    · rw [ih]; subst_vars; by_cases h : k = j <;> simp [get?, h, eq_comm]
    · rw [get?, get?, ih]; by_cases h : j = k
      · subst h; simp [*]
      · simp [h]

@[simp] theorem has_erase {α : Type} (m : Tab α) (n k : Nat) : (m.erase n).has k = (!decide (k = n) && m.has k) := by
  unfold has; rw [get?_erase]; split <;> simp [*]

@[simp] theorem get?_mapVals {α : Type} (m : Tab α) (f : Nat → α → α) (k : Nat) : (m.mapVals f).get? k = (m.get? k).map (f k) := by
  induction m with
  | nil => rfl
  | cons e r ih =>
    obtain ⟨j, w⟩ := e
    simp only [mapVals, List.map_cons, get?] at *
    split
    · subst_vars; rfl
    · exact ih

end Sys2Proof.Tab
end

