-- ==== Sys2Proof/Laws/Furrows.lean ====
section
/-! SUPPORT. Updates of a lane, a tile and a tile's link: each changes its own entry and nothing else of the part. -/

namespace Sys2Proof.Machine

open Sys2Proof

@[simp] theorem updLane_lane (f g : Nat) (h : Lane → Lane) (p : Part) : (updLane f h p).lane g = if g = f then h (p.lane f) else p.lane g := by
  simp [updLane, Part.lane]
@[simp] theorem updLane_tile (f g k : Nat) (h : Lane → Lane) (p : Part) : (updLane f h p).tile g k = p.tile g k := rfl
@[simp] theorem updLane_link (f g k : Nat) (h : Lane → Lane) (p : Part) : (updLane f h p).link g k = p.link g k := rfl

@[simp] theorem updTile_lane (f k g : Nat) (h : TileRt → TileRt) (p : Part) : (updTile f k h p).lane g = p.lane g := rfl
@[simp] theorem updTile_link (f k g j : Nat) (h : TileRt → TileRt) (p : Part) : (updTile f k h p).link g j = p.link g j := rfl
@[simp] theorem updTile_tile (f k g j : Nat) (h : TileRt → TileRt) (p : Part) :
    (updTile f k h p).tile g j = if tileKey g j = tileKey f k then h (p.tile f k) else p.tile g j := by
  simp [updTile, Part.tile]

@[simp] theorem updLink_lane (f k g : Nat) (h : LinkSt → LinkSt) (p : Part) : (updLink f k h p).lane g = p.lane g := rfl
@[simp] theorem updLink_tile (f k g j : Nat) (h : LinkSt → LinkSt) (p : Part) : (updLink f k h p).tile g j = p.tile g j := rfl
@[simp] theorem updLink_link (f k g j : Nat) (h : LinkSt → LinkSt) (p : Part) :
    (updLink f k h p).link g j = if linkKey g j = linkKey f k then h (p.link f k) else p.link g j := by
  simp [updLink, Part.link]

theorem Part.lane_of_kl {p q : Part} (h : p.kl = q.kl) (f : Nat) : p.lane f = q.lane f := by unfold Part.lane; rw [h]
theorem Part.tile_of_kl {p q : Part} (h : p.kl = q.kl) (f k : Nat) : p.tile f k = q.tile f k := by unfold Part.tile; rw [h]
theorem Part.link_of_kl {p q : Part} (h : p.kl = q.kl) (f k : Nat) : p.link f k = q.link f k := by unfold Part.link; rw [h]

@[simp] theorem raise_lane (n i a : Nat) (p : Part) (f : Nat) : (raise n i a p).lane f = p.lane f := Part.lane_of_kl (by simp) f
@[simp] theorem raise_tile (n i a : Nat) (p : Part) (f k : Nat) : (raise n i a p).tile f k = p.tile f k := Part.tile_of_kl (by simp) f k
@[simp] theorem raise_link (n i a : Nat) (p : Part) (f k : Nat) : (raise n i a p).link f k = p.link f k := Part.link_of_kl (by simp) f k
@[simp] theorem setLevel_lane (n i : Nat) (on : Bool) (p : Part) (f : Nat) : (setLevel n i on p).lane f = p.lane f := Part.lane_of_kl (by simp) f
@[simp] theorem setLevel_tile (n i : Nat) (on : Bool) (p : Part) (f k : Nat) : (setLevel n i on p).tile f k = p.tile f k :=
  Part.tile_of_kl (by simp) f k
@[simp] theorem laneCount_lane (f i g : Nat) (p : Part) : (laneCount f i p).lane g = p.lane g := rfl
@[simp] theorem laneCount_tile (f i g k : Nat) (p : Part) : (laneCount f i p).tile g k = p.tile g k := rfl
@[simp] theorem laneCount_link (f i g k : Nat) (p : Part) : (laneCount f i p).link g k = p.link g k := rfl
@[simp] theorem emit_lane (o : Out) (p : Part) (g : Nat) : (emit o p).lane g = p.lane g := rfl
@[simp] theorem emit_tile (o : Out) (p : Part) (g k : Nat) : (emit o p).tile g k = p.tile g k := rfl
@[simp] theorem emit_link (o : Out) (p : Part) (g k : Nat) : (emit o p).link g k = p.link g k := rfl

end Sys2Proof.Machine
end

