-- ==== Sys2Proof/Laws/Memory.lean ====
section
/-! SUPPORT. The byte memories keep their canonical form, and reads follow writes. -/

namespace Sys2Proof.Memory

theorem wfFrom_mono {d : Nat → Byte} {lo lo' : Nat} {m : Memory} (h : lo' ≤ lo) (hm : wfFrom d lo m = true) : wfFrom d lo' m = true := by
  cases m with
  | nil => rfl
  | cons c r => obtain ⟨k, v⟩ := c; simp [wfFrom] at *; exact ⟨⟨by omega, hm.1.2⟩, hm.2⟩

theorem write_wfFrom (d : Nat → Byte) (v : Byte) (a : Nat) : ∀ (m : Memory) (lo : Nat), lo ≤ a → wfFrom d lo m = true →
    wfFrom d lo (write d m a v) = true
  | [], lo, h, _ => by unfold write; split <;> simp_all [wfFrom]
  | (k, w) :: r, lo, h, hm => by
    simp only [wfFrom, Bool.and_eq_true, decide_eq_true_eq] at hm
    unfold write
    split
    · split
      · simp [wfFrom, hm]
      · simp_all [wfFrom]
    · split
      · subst_vars
        split
        · exact wfFrom_mono (by omega) hm.2
        · simp_all [wfFrom]
      · have ih := write_wfFrom d v a r (k + 1) (by omega) hm.2
        simp [wfFrom, hm, ih]

/-- A write keeps the canonical form. -/
theorem write_wf {d : Nat → Byte} {m : Memory} (a : Nat) (v : Byte) (h : wf d m = true) : wf d (write d m a v) = true :=
  write_wfFrom d v a m 0 (Nat.zero_le a) h

/-- So does a write of several bytes. -/
theorem writeBytes_wf {d : Nat → Byte} (b : List Byte) : ∀ {m : Memory} (a : Nat), wf d m = true → wf d (writeBytes d m a b) = true := by
  induction b with
  | nil => intro m a h; exact h
  | cons x r ih => intro m a h; exact ih (a + 1) (write_wf a x h)

theorem filter_wfFrom (d : Nat → Byte) (p : Host.Cell → Bool) : ∀ (m : Memory) (lo : Nat), wfFrom d lo m = true → wfFrom d lo (m.filter p) = true
  | [], _, _ => rfl
  | (k, v) :: r, lo, h => by
    simp only [wfFrom, Bool.and_eq_true, decide_eq_true_eq] at h
    have ih := filter_wfFrom d p r (k + 1) h.2
    by_cases hp : p (k, v) = true
    · simp only [List.filter_cons, hp, if_true, wfFrom, Bool.and_eq_true, decide_eq_true_eq]; exact ⟨h.1, ih⟩
    · simp only [List.filter_cons, hp]; exact wfFrom_mono (by omega) ih

/-- Clearing a range keeps the canonical form. -/
theorem clearRange_wf {d : Nat → Byte} {m : Memory} (lo hi : Nat) (h : wf d m = true) : wf d (clearRange m lo hi) = true :=
  filter_wfFrom d _ m 0 h

theorem read_of_lt {d : Nat → Byte} : ∀ {m : Memory} {lo a : Nat}, wfFrom d lo m = true → a < lo → read d m a = d a
  | [], _, _, _, _ => rfl
  | (k, v) :: r, lo, a, h, ha => by
    simp only [wfFrom, Bool.and_eq_true, decide_eq_true_eq] at h
    unfold read
    rw [if_neg (by omega)]
    exact read_of_lt h.2 (by omega)

theorem read_write_from (d : Nat → Byte) (a : Nat) (v : Byte) (b : Nat) : ∀ (m : Memory) (lo : Nat), wfFrom d lo m = true →
    read d (write d m a v) b = if b = a then v else read d m b
  | [], lo, _ => by
    unfold write
    split
    · by_cases h : b = a <;> simp_all [read]
    · by_cases h : b = a <;> simp [read, h, Ne.symm]
  | (k, w) :: r, lo, hm => by
    simp only [wfFrom, Bool.and_eq_true, decide_eq_true_eq] at hm
    unfold write
    by_cases h1 : a < k
    · rw [if_pos h1]
      by_cases h2 : v = d a
      · rw [if_pos h2]
        by_cases h : b = a
        · subst h
          have : read d ((k, w) :: r) b = d b := read_of_lt (lo := k) (by simp [wfFrom, hm]) h1
          rw [this, if_pos rfl, h2]
        · rw [if_neg h]
      · rw [if_neg h2]
        by_cases h : b = a
        · subst h; simp [read]
        · rw [if_neg h]; conv_lhs => unfold read
          rw [if_neg (fun e => h e.symm)]
    · rw [if_neg h1]
      by_cases h2 : a = k
      · rw [if_pos h2]
        by_cases h3 : v = d a
        · rw [if_pos h3]
          by_cases h : b = a
          · rw [if_pos h, h, read_of_lt hm.2 (by omega), h3]
          · rw [if_neg h]; conv_rhs => unfold read
            rw [if_neg (by omega)]
        · rw [if_neg h3]
          by_cases h : b = a
          · rw [if_pos h]; unfold read; rw [if_pos h.symm]
          · rw [if_neg h]; unfold read; rw [if_neg (fun e => h e.symm), if_neg (by omega)]
      · rw [if_neg h2]
        unfold read
        by_cases h3 : k = b
        · rw [if_pos h3, if_pos h3, if_neg (by omega)]
        · rw [if_neg h3, if_neg h3]
          exact read_write_from d a v b r (k + 1) hm.2

/-- The byte written reads back; every other byte reads as before. -/
theorem read_write {d : Nat → Byte} {m : Memory} (h : wf d m = true) (a : Nat) (v : Byte) (b : Nat) :
    read d (write d m a v) b = if b = a then v else read d m b :=
  read_write_from d a v b m 0 h

/-- A write of several bytes leaves every byte outside them. -/
theorem read_writeBytes_other {d : Nat → Byte} (l : List Byte) : ∀ {m : Memory} {a b : Nat}, wf d m = true → (b < a ∨ a + l.length ≤ b) →
    read d (writeBytes d m a l) b = read d m b := by
  induction l with
  | nil => intro m a b _ _; rfl
  | cons x r ih =>
    intro m a b h hb
    simp only [List.length_cons] at hb
    rw [writeBytes, ih (write_wf a x h) (by omega), read_write h, if_neg (by omega)]

end Sys2Proof.Memory
end

