-- ==== Sys2Proof/Machine/Pins.lean ====
section
/-! DEFINITION. What the discrete pins show (Tables 17.3, 18.3; R403, R405, R410, R439): a view of the state, which no meaning
writes. -/

namespace Sys2Proof.Machine

open Sys2Proof

/-- The discrete pins of Table 17.3. -/
inductive Pin where
  | resetN
  | pwrOk
  | ready
  | faultN
  | irqN
  | pairTenure
  | pairYieldN
  | strap
  | reference
  | clkout (n : Nat)
  | audMclk (n : Nat)
  | audSck (n : Nat)
  | audWs (n : Nat)
  | audSd (n : Nat)
  | pmbScl
  | pmbSda
  | pmbAlertN
  | maintTx
  | maintRx
  | gpio (n : Nat)
  | xspi
  deriving DecidableEq, Repr

/-- What a pin does: it is an input, is left in high-impedance, is driven to a level, or carries its unit's signal. -/
inductive PinState where
  | input
  | highZ
  | low
  | high
  | signal
  deriving DecidableEq, Repr

def pinLevel (on : Bool) : PinState := if on then .high else .low

/-- An open-drain pin never drives high (R439). -/
def openDrain (low : Bool) : PinState := if low then .low else .highZ

/-- Pins that are inputs in every state of the part. -/
def Pin.inputOnly : Pin → Bool
  | .resetN | .pwrOk | .strap | .reference | .pmbAlertN | .maintRx => true
  | _ => false

/-- What FUNC has the pin show (Table 18.3); none for an input. -/
def gpioShows (p : Part) (func : Nat) : Option Bool :=
  match func with
  | 1 => some (p.pair.role == .primary)
  | 2 => some p.sys.ready
  | 3 => some (faultLow p)
  | 4 => some p.comp.slate.shown
  | 5 => some (p.sys.ready && decide (p.fr.lastFe ≤ p.sys.now ∧ p.sys.now < p.fr.lastFe + usec))
  | 6 => some false
  | 7 => some true
  | _ => none

/-- GPIO *n*; GPIO15 of a head without BAR0 is the maintenance input (R426). -/
def gpioState (p : Part) (n : Nat) : PinState :=
  if n = 15 && !p.sys.strapHost then .input
  else match gpioShows p (p.sys.gpioFunc.getD n 0) with
    | none => .highZ
    | some on => if p.sys.gpioOd.getD n false then openDrain (!on) else pinLevel on

/-- A clock output: driven low from kindling step 4 until its unit runs (R270). -/
def clockPin (p : Part) (unit : Nat) : PinState :=
  if p.sys.step < 4 then .highZ else if (p.tb.cou.getD unit {}).running then .signal else .low

/-- An I²S pin: in high-impedance until the port is configured; an input where the port receives it (R241). -/
def i2sPin (p : Part) (n : Nat) (drives : PortCfg → Bool) : PinState :=
  let c := p.cfg.ports.getD n {}
  if c.direction = 0 then .highZ else if drives c then .signal else .input

/-- What a pin does while the part is out of reset. -/
def pinRuns (p : Part) : Pin → PinState
  | .ready => if p.sys.step < 2 then .highZ else pinLevel p.sys.ready
  | .faultN => openDrain (faultLow p)
  | .irqN => openDrain (decide (3 ≤ p.sys.step) && irqLow p)
  | .pairTenure => openDrain p.pair.driveTenure
  | .pairYieldN => openDrain p.pair.driveYield
  | .clkout n => clockPin p n
  | .audMclk n => clockPin p (4 + n)
  | .audSck n | .audWs n => i2sPin p n fun c => !c.slave
  | .audSd n => i2sPin p n fun c => c.direction == 2
  | .pmbScl | .pmbSda => if p.sys.step < 4 then .highZ else .signal
  | .maintTx => if p.sys.step < 3 then .highZ else .high
  | .gpio n => gpioState p n
  | .xspi =>
    if p.sys.xspiDriven || p.txn.transfers.any (fun x => x.opcode == 0x0B01 || x.opcode == 0x0B04) then .signal else .highZ
  | .resetN | .pwrOk | .strap | .reference | .pmbAlertN | .maintRx => .input

/-- What a pin does (Table 17.3): outputs are in high-impedance in reset, and in the damped state all but FAULT_N
(Table 17.9). -/
def pinState (p : Part) (pin : Pin) : PinState :=
  if pin.inputOnly then .input
  else if p.sys.damped && pin == .faultN then .low
  else if !p.alive then .highZ
  else pinRuns p pin

end Sys2Proof.Machine
end

