-- ==== Sys2Proof/Safety.lean ====
section
/-! DEFINITION. What counts as a safe state: byte memories in their canonical form, and every waiting command
with its operands in range. -/

namespace Sys2Proof.Machine

/-- Both byte memories are in canonical form. -/
def State.memWf (s : State) : Prop :=
  Memory.wf Memory.hbmDefault s.hbm = true ∧ Memory.wf Memory.flashDefault s.flash = true

/-- Every waiting command has its operands in range. -/
def State.queueWf (s : State) : Prop := s.pending.all Sys2Proof.Instr.wellFormed = true

/-- A state the statements call safe. -/
def State.safe (s : State) : Prop := s.memWf ∧ s.queueWf

end Sys2Proof.Machine
end

