-- ==== Sys2Proof/Certificates/Slice0/Obligations.lean ====
section
/-! DEFINITION. The statements for the provers: what the commands of the block do, by the numbered rules of the spec. Where a
command's instant lies before the part's time, the part's time stands (log entry 27); a row acts only where its condition holds
(log entry 26), so each clause names that condition. -/

open Sys2Proof Sys2Proof.Machine

/-! ### The machine -/

/-- A step takes the command at the front of the queue and runs it with the queue's rest; with no command waiting the block
idles (the idling is the model's choice, log entry 30). -/
def Obligations.StepTakesFront : Prop :=
  (∀ (c : Instr) (rest : List Instr) (s : State), step { s with pending := c :: rest } = exec c { s with pending := rest }) ∧
  ∀ s : State, s.pending = [] → step s = .next s

/-- No command stops the block, and none touches the queue of the commands that wait. -/
def Obligations.QueueKept : Prop :=
  ∀ (c : Instr) (s : State), ∃ t, exec c s = .next t ∧ t.pending = s.pending

namespace Sys2Proof.Machine

/-- A command that acts on a head in reset: the reset pins, power-good, and the TAP. -/
def actsInReset : Instr → Bool
  | .resetNAssert _ => true
  | .pwrOkLow _ => true
  | .resetNRelease _ _ _ _ => true
  | .jtagTapOperation _ _ => true
  | _ => false

end Sys2Proof.Machine

/-- While the part is in reset, without power-good, or damped, every clock stands still: no command but RESET_N, PWR_OK and
the TAP changes anything (R402, R403, Table 17.9; that a damped head also ignores its board's other inputs is log entry 60).
-/
def Obligations.StoppedClocks : Prop :=
  ∀ (c : Instr) (s : State), s.m.alive = false → actsInReset c = false → exec c s = .next s

/-- Both byte memories keep their canonical form over every step, from every state that has it. -/
def Obligations.MemoryStaysCanonical : Prop :=
  ∀ s t : State, s.memWf → step s = .next t → t.memWf

/-- The canonical form holds at reset. -/
def Obligations.ResetMemoryCanonical : Prop := State.reset.memWf

/-- What reset leaves (R323, R370, R402, R403, R424): no clock runs, not ready, every discrete output in high-impedance, no
pair role, every event masked, nothing queued, the log and the ember log empty, every lane OFF. -/
def Obligations.ResetLeaves : Prop :=
  State.reset.m.alive = false ∧ State.reset.m.sys.ready = false ∧ faultLow State.reset.m = false ∧
  State.reset.m.pair.role = .kindling ∧ State.reset.m.tb.state = .bypass ∧ State.reset.m.tb.rootLock = false ∧
  State.reset.m.ev.mask = BitVec.allOnes 384 ∧ State.reset.m.ev.queue = [] ∧
  State.reset.m.txn.commits = [] ∧ State.reset.m.txn.open_ = [] ∧ State.reset.m.maint.unlocked = false ∧
  (∀ f, (State.reset.m.lane f).state = 0) ∧ State.reset.pending = [] ∧
  ∀ pin : Pin, pinState State.reset.m pin = if pin.inputOnly then .input else .highZ

namespace Sys2Proof.Machine

/-- The commands that may write the HBM: those with which the light stage goes on and keeps its ledger, loads of calibration,
kindling, lost segments, the pair's BULK, and the loss of power or RESET_N. -/
def writesHbm : Instr → Bool
  | .frameEvent .. => true
  | .bandComposed .. => true
  | .scanWindowOpen .. => true
  | .feederEstimateDone .. => true
  | .calTransferDone .. => true
  | .kindlingStepDone .. => true
  | .memFault .. => true
  | .bulkReceived .. => true
  | .resetNAssert .. => true
  | .pwrOkLow .. => true
  | _ => false

/-- The commands that may write the boot flash: the end of a flash write, and of a firmware trial. -/
def writesFlash : Instr → Bool
  | .flashWriteDone .. => true
  | .fwTrialEnd .. => true
  | _ => false

end Sys2Proof.Machine

/-- No other command changes a byte of the HBM or of the boot flash. -/
def Obligations.StoresWrittenBy : Prop :=
  ∀ (c : Instr) (s u : State), exec c s = .next u →
    (writesHbm c = false → u.hbm = s.hbm) ∧ (writesFlash c = false → u.flash = s.flash)

/-! ### Reset and kindling -/

/-- RESET_N low, and PWR_OK low, lose all state but the ember log, LOG_EMBER_NEXT and the flash, and put every discrete output
in high-impedance (R402, R403). These forms complete here: resetNAssert, pwrOkLow. -/
def Obligations.ResetKeepsEmber : Prop :=
  ∀ (t : Nat) (s : State) (c : Instr), (c = .resetNAssert t ∨ c = .pwrOkLow t) →
    ∃ u, exec c s = .next u ∧ u.m.alive = false ∧ u.m.log.ember = s.m.log.ember ∧ u.m.log.emberNext = s.m.log.emberNext ∧
      u.m.log = { ({} : Log) with ember := s.m.log.ember, emberNext := s.m.log.emberNext } ∧
      u.m.maint = {} ∧ u.m.ev = {} ∧ u.m.host = {} ∧ u.m.txn = {} ∧ u.m.cfg = {} ∧ u.m.inp = {} ∧ u.m.frc = [] ∧
      u.m.comp = {} ∧ u.m.fr = {} ∧ u.m.light = {} ∧ u.m.kl = {} ∧ u.m.aud = {} ∧ u.m.tb = {} ∧ u.m.pair = {} ∧
      u.m.hrt = {} ∧ u.m.fab = {} ∧ u.m.pwr = {} ∧ u.m.perf = {} ∧ u.m.cnt = [] ∧
      (∀ pin : Pin, pinState u.m pin = if pin.inputOnly then .input else .highZ) ∧
      u.hbm = [] ∧ u.flash = s.flash ∧ u.pending = s.pending

namespace Sys2Proof.Machine

/-- A head that kindles: out of reset, not stopped, not ready, in a step of Table 17.4. -/
abbrev kindles (n : Nat) (s : State) : Prop := s.m.alive = true ∧ s.m.sys.stopped = false ∧ s.m.sys.ready = false ∧ s.m.sys.step = n

end Sys2Proof.Machine

/-- The end of step 2 starts step 3 where two Kiln cores pass, the boot flash in octal DTR mode where it reports it (R442),
that of step 4 starts step 5 with every island's power good, and that of step 6 starts step 7 and the band search with every
lane calibrated (Tables 17.4, 10.7). Where kindling stops: fewer than two Kiln cores, STRAP_BOOT 0b11, an island without
power-good, fewer than 120 pseudo-channels. The part drives FAULT_N low, keeps READY low and stays in its step (R407, R410).
This form completes here: kindlingStepDone. -/
def Obligations.KindlingSteps : Prop :=
  (∀ (t : Nat) (r : KindlingReport) (s : State),
     (kindles 2 s → 2 ≤ r.cores → ∃ u, exec (.kindlingStepDone t r) s = .next u ∧ u.m.sys.step = 3 ∧ u.m.sys.stopped = false ∧
       u.m.hrt.coresUp.length = 2 ∧ u.m.sys.xspi = (if r.octal then .d8 else s.m.sys.xspi) ∧ u.hbm = s.hbm ∧ u.flash = s.flash) ∧
     (kindles 4 s → r.powerGood = true → ∃ u, exec (.kindlingStepDone t r) s = .next u ∧ u.m.sys.step = 5 ∧
       u.m.sys.stopped = false ∧ u.hbm = s.hbm ∧ u.flash = s.flash) ∧
     (kindles 6 s → r.laneFailed = [] → s.m.tb.xoFail = false → ∃ u, exec (.kindlingStepDone t r) s = .next u ∧ u.m.sys.step = 7 ∧
       u.m.tb.state = .search ∧ u.m.sys.stopped = false ∧ u.m.kl = s.m.kl ∧ u.hbm = s.hbm ∧ u.flash = s.flash)) ∧
  (∀ (t : Nat) (r : KindlingReport) (s : State),
     ((kindles 2 s ∧ r.cores < 2) ∨ (kindles 3 s ∧ s.m.sys.boot = 3) ∨ (kindles 4 s ∧ r.powerGood = false) ∨
       (kindles 5 s ∧ ((List.range 128).filter fun k => !r.pcFailed.contains k).length < 120)) →
     ∃ u, exec (.kindlingStepDone t r) s = .next u ∧ u.m.sys.stopped = true ∧ pinState u.m .faultN = .low ∧ pinState u.m .ready = .low ∧
       faultLow u.m = true ∧ u.m.sys.ready = false ∧
       u.m.sys.step = s.m.sys.step ∧ u.m.pair = s.m.pair ∧ u.m.tb = s.m.tb ∧ u.hbm = s.hbm ∧ u.flash = s.flash)

/-- When every pseudo-channel and unit passes, step 5 ends with the default remap table, channel 15 of every port fallow, and
every calibration record the identity (R155, R387). Every HBM segment lies in a physical pseudo-channel of its own under the
default table: different logical channels map to different physical ones, none of them fallow (R387). -/
def Obligations.DefaultRemap : Prop :=
  (∀ (t : Nat) (r : KindlingReport) (s : State), kindles 5 s → r.pcFailed = [] → r.unitFailed = [] →
     ∃ u, exec (.kindlingStepDone t r) s = .next u ∧ u.m.sys.step = 6 ∧
       (∀ l, l < 120 → remapOf u.m l = 16 * (l % 8) + l / 8) ∧
       (∀ k, k < 128 → pcState u.m k = if k % 16 = 15 then 1 else 0) ∧
       (∀ a, Memory.read Memory.hbmDefault u.hbm a = Memory.hbmDefault a) ∧ u.flash = s.flash) ∧
  (∀ (p : Part), p.fab.remap = [] → ∀ a b, a < 120 → b < 120 → remapOf p a = remapOf p b → a = b)

/-- The kindling reference wait ends step 7, whatever state the timebase holds; with no pair link up and the join wait still
to run, the head waits in step 8 (Tables 10.6, 17.4). With no heartbeat heard by the end of the join wait and PAIR_TENURE
high, the head becomes PRIMARY, drives PAIR_TENURE and raises READY (R277, Table 11.3, R406). These forms complete here:
referenceWaitExpiry, joinWaitExpiry. -/
def Obligations.RoleAtReady : Prop :=
  (∀ (t : Nat) (s : State), kindles 7 s → anyLinkUp s.m = false → s.m.sys.stepAt + s.m.cfg.tb.refWait * sec ≤ t →
     ∃ u, exec (.referenceWaitExpiry t) s = .next u ∧ u.m.sys.step = 8 ∧ u.m.sys.stepAt = max s.m.sys.now t ∧
       u.m.sys.ready = false ∧ u.m.tb.state = s.m.tb.state ∧ u.m.tb.slot = s.m.tb.slot ∧ u.m.tb.w = s.m.tb.w ∧
       u.m.cfg = s.m.cfg ∧ u.m.pair = s.m.pair ∧ u.hbm = s.hbm ∧ u.flash = s.flash) ∧
  (∀ (t : Nat) (s : State), kindles 8 s → s.m.pair.role = .kindling → anyLinkUp s.m = false → s.m.pair.readTenureLow = false →
     s.m.sys.stepAt + s.m.pair.cfg.joinWaitMs * msec ≤ t →
     ∃ u, exec (.joinWaitExpiry t) s = .next u ∧ u.m.pair.role = .primary ∧ u.m.pair.driveTenure = true ∧
       u.m.pair.epoch = firstEpoch s.m ∧ u.m.sys.ready = true ∧ u.m.fr.started = true ∧ u.m.fr.cfn = 0 ∧ u.m.fr.first = true ∧
       u.hbm = s.hbm ∧ u.flash = s.flash)

/-- The release of RESET_N samples the straps and starts kindling step 2, with a reset pulse on the xSPI port and the port in
1S-1S-1S mode (R442); nothing else of the part changes. While RESET_N is high only BYPASS, IDCODE and SAMPLE act and every
other instruction behaves as BYPASS; the test instructions act only while RESET_N is low; Test-Logic-Reset ends them (R445).
These forms complete here: resetNRelease, jtagTapOperation. -/
def Obligations.StrapsAndTap : Prop :=
  (∀ (t : Nat) (endB host : Bool) (boot : BitVec 2) (s : State), s.m.sys.resetN = false →
     ∃ u, exec (.resetNRelease t endB host boot) s = .next u ∧
       u.m.sys.resetN = true ∧ u.m.sys.step = 2 ∧ u.m.sys.stepAt = max s.m.sys.now t ∧ u.m.sys.now = max s.m.sys.now t ∧
       u.m.sys.endB = endB ∧ u.m.sys.strapHost = host ∧ u.m.sys.boot = boot ∧ u.m.sys.jtagTest = false ∧
       u.m.sys.ready = s.m.sys.ready ∧ u.m.sys.stopped = s.m.sys.stopped ∧ u.m.sys.xspi = .s1 ∧ u.m.sys.xspiDriven = true ∧
       u = { s with m := { s.m with
         sys := u.m.sys, perf := { s.m.perf with since := max s.m.sys.now t }, out := s.m.out ++ [.xspiReset] } }) ∧
  (∀ (t : Nat) (op : TapOp) (s : State), ∃ u, exec (.jtagTapOperation t op) s = .next u ∧
     (u.m.sys.jtagTest = true → s.m.sys.resetN = false) ∧
     (op = .idcode ∨ op = .testLogicReset → u.m.out = s.m.out ++ [.tdo 0x13624A57]) ∧
     (op ≠ .idcode → op ≠ .testLogicReset → op ≠ .sample → s.m.sys.resetN = true → u.m.out = s.m.out ++ [.tdo 0]) ∧
     (op = .extest ∨ op = .extestPulse ∨ op = .extestTrain ∨ op = .intest ∨ op = .clamp →
       s.m.sys.resetN = false → u.m.sys.jtagTest = true) ∧
     (op = .testLogicReset → u.m.sys.jtagTest = false ∧ u.m.sys.jtag = .idcode) ∧
     u.m.rest = { s.m with sys := u.m.sys }.rest ∧ u.hbm = s.hbm ∧ u.flash = s.flash)

/-! ### The timebase -/

namespace Sys2Proof.Machine

/-- The part lives, its time stands at `t` or before it, so that a command of instant `t` acts at `t`. -/
abbrev livesAt (t : Nat) (s : State) : Prop := s.m.alive = true ∧ s.m.sys.now ≤ t

/-- What a command of the timebase leaves: configuration, transactions, both byte memories, the queue. -/
def tbFrame (s u : State) : Prop :=
  u.m.cfg = s.m.cfg ∧ u.m.txn.open_ = s.m.txn.open_ ∧ u.m.maint = s.m.maint ∧ u.hbm = s.hbm ∧ u.flash = s.flash ∧ u.pending = s.pending

end Sys2Proof.Machine

namespace Sys2Proof.Machine

/-- The instant of a command that tells of data received on an SDI or Ethernet port. -/
def dataAt : Instr → Option Nat
  | .inputFrameStart t _ _ => some t
  | .frameStored t _ _ => some t
  | .fencePacket t _ _ => some t
  | .st352Received t _ _ => some t
  | .formatDetected t _ _ => some t
  | .rtpPacketReceived t _ _ _ => some t
  | .networkRequest t _ _ => some t
  | .membershipQuery t _ _ => some t
  | .ptpMessage t _ _ => some t
  | .audSampleIn t (.sdi _) _ _ => some t
  | .audSampleIn t (.flow _) _ _ => some t
  | _ => none

end Sys2Proof.Machine

/-- Table 10.7, first and second rows and its failed search: BYPASS to SEARCH when its wait has run, SEARCH to a locked root
when a band is found, SEARCH to BYPASS for 10 ms when none is. Loss of root lock enters BYPASS with no slot in use; XO_IN lost
gates the root too, and its return starts a new search 20 µs later; while root lock is lost, data received on SDI and Ethernet
ports is discarded (Table 10.7, R269). These forms complete here: bandSearchDone, bandSearchFail, bypassWaitExpiry,
rootLockLost, xoFail, xoRestored. -/
def Obligations.RootLock : Prop :=
  (∀ (t : Nat) (s : State), livesAt t s →
     (s.m.tb.state = .bypass → 7 ≤ s.m.sys.step → s.m.tb.xoFail = false → s.m.tb.since + s.m.tb.wait ≤ t →
       ∃ u, exec (.bypassWaitExpiry t) s = .next u ∧ u.m.tb = { s.m.tb with state := .search, since := t } ∧ tbFrame s u) ∧
     (∀ (band : Nat) (fine : Int), s.m.tb.state = .search →
       ∃ u, exec (.bandSearchDone t band fine) s = .next u ∧ u.m.tb.rootLock = true ∧ u.m.tb.band = band ∧ u.m.tb.fine = fine ∧
         u.m.tb.fails = 0 ∧ u.m.tb.marginRaised = false ∧ u.m.tb.dither = s.m.cfg.tb.seed ∧
         u.m.tb.state ≠ .bypass ∧ u.m.tb.state ≠ .search ∧ u.m.cfg = s.m.cfg ∧ u.hbm = s.hbm ∧ u.flash = s.flash) ∧
     (s.m.tb.state = .search → s.m.tb.since + 1500 * usec ≤ t →
       ∃ u, exec (.bandSearchFail t) s = .next u ∧ u.m.tb.state = .bypass ∧ u.m.tb.wait = 10 * msec ∧ u.m.tb.since = t ∧
         u.m.tb.fails = s.m.tb.fails + 1 ∧
         (s.m.tb.fails = 2 → s.m.sys.step = 7 → s.m.sys.ready = false → u.m.sys.stopped = true) ∧ tbFrame s u)) ∧
  (∀ (t : Nat) (s : State), livesAt t s →
     (s.m.tb.rootLock = true → ∃ u, exec (.rootLockLost t) s = .next u ∧ u.m.tb.state = .bypass ∧ u.m.tb.rootLock = false ∧
       u.m.tb.slot = none ∧ u.m.tb.wait = 20 * usec ∧ u.m.tb.since = t ∧ u.hbm = s.hbm ∧ u.flash = s.flash) ∧
     (s.m.tb.xoFail = false → ∃ u, exec (.xoFail t) s = .next u ∧ u.m.tb.xoFail = true ∧ u.m.tb.state = .bypass ∧
       u.hbm = s.hbm ∧ u.flash = s.flash) ∧
     (s.m.tb.xoFail = true → ∃ u, exec (.xoRestored t) s = .next u ∧ u.m.tb.xoFail = false ∧ u.m.tb.state = .bypass ∧
       u.m.tb.wait = 20 * usec ∧ u.m.tb.since = t ∧ tbFrame s u)) ∧
  ∀ (t : Nat) (c : Instr) (s : State), s.m.alive = true → s.m.tb.rootLock = false → dataAt c = some t →
    exec c s = .next { s with m := advance t s.m }

namespace Sys2Proof.Machine

/-- The slot in use was left, its alignment points with it: the resting state, and the control word the banked value (or 0) plus
steering, within ±1,000,000,000 ppt (Table 10.7, R253). -/
def rests (u : State) : Prop :=
  u.m.tb.slot = none ∧ u.m.tb.align = none ∧ u.m.tb.state = (if u.m.tb.banked.isSome then .holdover else .freerun) ∧
  u.m.tb.w = clampInt (u.m.tb.banked.getD 0 + u.m.tb.steer) (-1000000000) 1000000000 ∧ u.m.tb.wTarget = u.m.tb.w

end Sys2Proof.Machine

/-- A reference slot that loses its activity, or a slot in use whose acquisition timer expires, is FAILED; the timebase leaves
the slot in use at once for its resting state (R261, R262, Tables 10.4, 10.7). A CHECKING slot whose accept time has run is
QUALIFIED, and taken from FREERUN where it ranks first; a frequency gate beyond the reject limit fails a CHECKING or QUALIFIED
slot, and one within the accept limit leaves a QUALIFIED slot as it is (R262, Table 10.4). These forms complete here:
refActivityLoss, freqGate, refQualified, acquisitionTimeout. -/
def Obligations.ReferenceSlots : Prop :=
  (∀ (t k : Nat) (s : State), livesAt t s →
     ((s.m.slotRt k).state = 1 ∨ (s.m.slotRt k).state = 2 →
       ∃ u, exec (.refActivityLoss t k) s = .next u ∧ (u.m.slotRt k).state = 3 ∧
         (s.m.tb.slot = some k → s.m.tb.state = .acquire ∨ s.m.tb.state = .locked → rests u) ∧
         (s.m.tb.slot ≠ some k → u.m.tb.state = s.m.tb.state ∧ u.m.tb.slot = s.m.tb.slot ∧ u.m.tb.w = s.m.tb.w) ∧
         (∀ j, j ≠ k → u.m.slotRt j = s.m.slotRt j) ∧ tbFrame s u) ∧
     (k < 8 → s.m.tb.slot = some k → s.m.tb.state = .acquire → s.m.tb.since + acquireTime s.m k ≤ t →
       ∃ u, exec (.acquisitionTimeout t) s = .next u ∧ (u.m.slotRt k).state = 3 ∧ rests u ∧
         counter blkTimebase k 1 u.m = satAdd32 (counter blkTimebase k 1 s.m) 1 ∧ tbFrame s u)) ∧
  (∀ (t k : Nat) (s : State), livesAt t s → (s.m.cfg.slot k).source ≠ 0 →
     ((s.m.slotRt k).state = 1 → (s.m.slotRt k).accept + (s.m.cfg.slot k).acceptTime * sec ≤ t →
       ∃ u, exec (.refQualified t k) s = .next u ∧ (u.m.slotRt k).state = 2 ∧ tbFrame s u) ∧
     (∀ offset : Int, ((s.m.slotRt k).state = 1 ∨ (s.m.slotRt k).state = 2) → s.m.tb.slot ≠ some k →
       (s.m.cfg.slot k).reject * 10000 + limitSlack s.m < (offset * 1000).natAbs →
       ∃ u, exec (.freqGate t k offset) s = .next u ∧ (u.m.slotRt k).state = 3 ∧ (u.m.slotRt k).lastGate = offset ∧ tbFrame s u) ∧
     (∀ offset : Int, (s.m.slotRt k).state = 2 → s.m.tb.slot ≠ some k →
       (offset * 1000).natAbs ≤ (s.m.cfg.slot k).accept * 10000 + limitSlack s.m →
       (offset * 1000).natAbs ≤ (s.m.cfg.slot k).reject * 10000 + limitSlack s.m →
       ∃ u, exec (.freqGate t k offset) s = .next u ∧ (u.m.slotRt k).state = 2 ∧ (u.m.slotRt k).lastGate = offset ∧
         (∀ j, j ≠ k → u.m.slotRt j = s.m.slotRt j) ∧ tbFrame s u))

/-- The first completed dwell ends ACQUIRE; one whose error left its limits starts afresh; from HOLDOVER a selectable slot is
taken from w as held once the switch hold-off has run (R266, Table 10.7). Each second wholly in LOCKED at B_t is recorded; a
phase error of the slot in use steers w, which stays within ±1,000 ppm (R253, R266, R267; the loop filter is a free function,
log entry 24); the first reference frame start after ACQUIRE is the slot's alignment point (R260). These forms complete here:
phaseDetectorSample, switchHoldoffExpiry, dwellComplete, holdoverSecond. -/
def Obligations.LoopTracks : Prop :=
  (∀ (t k : Nat) (s : State), livesAt t s →
     (s.m.tb.slot = some k → s.m.tb.state = .acquire → s.m.tb.dwellFrom + dwellTime s.m.tb.bw ≤ t →
       ∃ u, exec (.dwellComplete t true) s = .next u ∧ u.m.tb.state = .locked ∧ u.m.tb.slot = some k ∧ u.m.tb.dwellFrom = t ∧
         u.m.tb.bw = max (s.m.tb.bw / 4) (trackBandwidth s.m k) ∧ u.m.tb.w = s.m.tb.w ∧ tbFrame s u) ∧
     (s.m.tb.slot = some k → (s.m.tb.state = .acquire ∨ s.m.tb.state = .locked) → s.m.tb.dwellFrom + dwellTime s.m.tb.bw ≤ t →
       ∃ u, exec (.dwellComplete t false) s = .next u ∧ u.m.tb = { s.m.tb with dwellFrom := t } ∧ tbFrame s u) ∧
     (s.m.tb.state = .holdover → bestSlot s.m = some k → s.m.tb.since + s.m.cfg.tb.holdoffMs * msec ≤ t →
       ∃ u, exec (.switchHoldoffExpiry t) s = .next u ∧ u.m.tb.state = .acquire ∧ u.m.tb.slot = some k ∧
         u.m.tb.w = wNow (advance t s.m) ∧ u.m.tb.since = t ∧ tbFrame s u)) ∧
  (∀ (t k : Nat) (s : State), livesAt t s →
     (∀ mean : Int, s.m.tb.state = .locked → (∃ x, s.m.tb.trackSince = some x ∧ x + sec ≤ t) → s.m.tb.secs = [] →
       ∃ u, exec (.holdoverSecond t mean) s = .next u ∧ u.m.tb = { s.m.tb with secs := [(t - sec, t, mean)] } ∧ tbFrame s u) ∧
     (∀ (err : Int) (start : Option Nat), s.m.tb.state = .locked → s.m.tb.slot = some k → (s.m.slotRt k).samples = [] →
       ∃ u, exec (.phaseDetectorSample t k ⟨err, start⟩) s = .next u ∧ (u.m.slotRt k).lastErr = err ∧
         (∀ x, start = some x → s.m.tb.since ≤ x → s.m.tb.align = none → (s.m.cfg.slot k).frequency = false →
           followsTimebase s.m = false → u.m.tb.align = some x) ∧
         u.m.tb.w = clampInt (Config.loopFilter (wNow (advance t s.m)) err (s.m.tb.bw / 1000)) (-1000000000) 1000000000 ∧
         u.m.tb.state = .locked ∧ tbFrame s u))

/-! ### The Hearth, the headland, the fabric -/

namespace Sys2Proof.Machine

/-- What a command that touches neither byte memory nor the configuration leaves. -/
def storesKept (s u : State) : Prop := u.m.cfg = s.m.cfg ∧ u.hbm = s.hbm ∧ u.flash = s.flash ∧ u.pending = s.pending

end Sys2Proof.Machine

/-- A fault of class UNIT in a unit with a fallow unit of its kind free starts a swap to the lowest one, and FAULT_N goes low;
the watchdog of a unit does the same (R297, R299, R306). A swap that completes puts the spare in service as the logical unit,
retires the old unit and counts in HEARTH_SWAPS (R304, R306). These forms complete here: unitFault, progressWatchdog,
hearthSwap. -/
def Obligations.UnitFaultSwaps : Prop :=
  (∀ (t logical phys spare : Nat) (k : UnitKind) (s : State), s.m.alive = true → physOf s.m k logical = some phys →
     s.m.hrt.running = none → s.m.hrt.queue = [] → s.m.hrt.split = false → s.m.hrt.degradedUnits = [] →
     spareFor s.m k = some spare →
     (∀ single, ∃ u, exec (.unitFault t k logical single) s = .next u ∧ faultLow u.m = true ∧
       u.m.hrt.running = some { kind := k, logical := logical, spare := spare, single := single, wear := false, tag := none } ∧
       u.m.hrt.units = s.m.hrt.units ∧ u.m.pair = s.m.pair ∧ storesKept s u) ∧
     ∃ u, exec (.progressWatchdog t k logical) s = .next u ∧ faultLow u.m = true ∧
       u.m.hrt.running = some { kind := k, logical := logical, spare := spare, single := false, wear := false, tag := none } ∧
       u.m.hrt.units = s.m.hrt.units ∧ u.m.pair = s.m.pair ∧ storesKept s u) ∧
  (∀ (t old : Nat) (sw : Swap) (s : State), s.m.alive = true → s.m.hrt.running = some sw → s.m.hrt.queue = [] →
     physOf s.m sw.kind sw.logical = some old → old ≠ sw.spare →
     ∃ u, exec (.hearthSwap t) s = .next u ∧ u.m.hrt.running = none ∧ u.m.hrt.swaps = s.m.hrt.swaps + 1 ∧
       (∀ v ∈ u.m.hrt.units, v.kind = sw.kind → v.phys = sw.spare → v.state = .service sw.logical) ∧
       (∀ v ∈ u.m.hrt.units, v.kind = sw.kind → v.phys = old → v.state = .retired) ∧
       (∀ v ∈ u.m.hrt.units, v.kind ≠ sw.kind ∨ (v.phys ≠ old ∧ v.phys ≠ sw.spare) → v ∈ s.m.hrt.units) ∧ storesKept s u)

/-- A planned swap runs at its safe point where a fallow unit is free; a FURROW fault isolates its furrow (R300, R308). A
self-test of a fallow unit: its age restarts, or the unit is retired and the headland shrinks; while the power manager sheds
self-test duty a fallow unit runs none (R303). These forms complete here: plannedSwap, furrowFault, selfTestDuty. -/
def Obligations.PlannedSwapsAndTests : Prop :=
  (∀ (t : Nat) (s : State), s.m.alive = true →
     (∀ (sw : Swap) (spare : Nat), s.m.hrt.planned = [sw] → s.m.hrt.running = none → spareFor s.m sw.kind = some spare →
       ∃ u, exec (.plannedSwap t sw.kind sw.logical) s = .next u ∧ u.m.hrt.planned = [] ∧
         u.m.hrt.running = some { sw with spare := spare } ∧ storesKept s u) ∧
     (∀ (f : Nat) (serdes : Bool), f < 128 → (s.m.lane f).faulted = false →
       ∃ u, exec (.furrowFault t f serdes) s = .next u ∧ (u.m.lane f).faulted = true ∧ (u.m.lane f).scan = [] ∧ storesKept s u)) ∧
  (∀ (t n : Nat) (k : UnitKind) (v : Machine.Unit) (s : State), livesAt t s → k ≠ .hbm → s.m.hrt.tests = [] → s.m.hrt.running = none →
     (s.m.hrt.units.find? fun u => u.kind == k && u.phys == n) = some v → v.state = .fallow →
     (3 ≤ s.m.pwr.shed → ∀ pass, exec (.selfTestDuty t k n pass) s = .next { s with m := advance t s.m }) ∧
     (s.m.pwr.shed < 3 → ∃ u, exec (.selfTestDuty t k n true) s = .next u ∧
       u.m.hrt.units = s.m.hrt.units.map (fun x => if x.kind == k && x.phys == n then { x with testedAt := t } else x) ∧
       storesKept s u) ∧
     (s.m.pwr.shed < 3 → ∃ u, exec (.selfTestDuty t k n false) s = .next u ∧
       u.m.hrt.units = s.m.hrt.units.map (fun x => if x.kind == k && x.phys == n then { x with state := .retired } else x) ∧
       storesKept s u))

/-- A lockstep mismatch or a watchdog expiry puts the Kiln in reset, FAULT_N low, with every open transaction discarded; the
datapath's configuration, its commits and the pair stand (R313, R315). The Kiln takes commands again (Table 12.8). These forms
complete here: kilnLockstepMismatch, kilnWatchdog, kilnRestored. -/
def Obligations.KilnFails : Prop :=
  (∀ (t : Nat) (failing : Option Nat) (s : State) (c : Instr), livesAt t s → kilnRuns s.m = true →
     (c = .kilnLockstepMismatch t failing ∨ c = .kilnWatchdog t failing) →
     ∃ u, exec c s = .next u ∧ u.m.hrt.kilnReset = true ∧ u.m.hrt.kilnResetAt = t ∧ faultLow u.m = true ∧
       u.m.txn.open_ = [] ∧ u.m.txn.commits = s.m.txn.commits ∧ u.m.pair.role = s.m.pair.role ∧ u.m.tb = s.m.tb ∧
       u.m.fr = s.m.fr ∧ storesKept s u) ∧
  (∀ (t : Nat) (s : State), s.m.alive = true → s.m.hrt.kilnReset = true →
     ∃ u, exec (.kilnRestored t) s = .next u ∧ u.m.hrt.kilnReset = false ∧ u.m.hrt.switchTo = none ∧ storesKept s u)

/-- One Hearth copy that disagrees with the other two is resynchronised and counted; with no majority the Hearth splits, and a
split Hearth drives FAULT_N low (R312). This form completes here: hearthCopyDisagree. -/
def Obligations.HearthCopies : Prop :=
  ∀ (t copy : Nat) (s : State), livesAt t s → copy < 3 → s.m.hrt.split = false →
    (s.m.hrt.copies = 3 → s.m.hrt.reloads = [] → ∃ u, exec (.hearthCopyDisagree t copy true) s = .next u ∧ u.m.hrt.split = false ∧
      u.m.hrt.copies = 3 ∧ counter blkHearth 0 0 u.m = satAdd32 (counter blkHearth 0 0 s.m) 1 ∧ storesKept s u) ∧
    (∃ u, exec (.hearthCopyDisagree t copy false) s = .next u ∧ u.m.hrt.split = true ∧ faultLow u.m = true ∧ storesKept s u)

/-- An uncorrectable error of the HBM starts a remap of its logical channel to a fallow channel of the same port, else the
lowest-numbered, at once (R396, R398). A remap that completes switches the logical channel to its target and retires the old
channel (R399). These forms complete here: memFault, memRemap. -/
def Obligations.MemFaultRemaps : Prop :=
  (∀ (t l seg target : Nat) (s : State), s.m.alive = true → segmentOn l seg = true → s.m.fab.running = none → s.m.fab.queue = [] →
     remapTarget s.m l = some target → 256 * seg + 256 ≤ 0x80000000 →
     ∃ u, exec (.memFault t l seg) s = .next u ∧ faultLow u.m = true ∧
       u.m.fab.running = some { logical := l, target := target, urgent := true, tag := none } ∧ pcState u.m target = 2 ∧
       u.m.fab.remap = s.m.fab.remap ∧ u.hbm = s.hbm ∧ u.flash = s.flash ∧ u.m.cfg = s.m.cfg) ∧
  (∀ (t : Nat) (r : Remap) (s : State), s.m.alive = true → s.m.fab.running = some r → s.m.fab.queue = [] →
     remapOf s.m r.logical ≠ r.target → r.logical < 120 → r.target < 128 →
     ∃ u, exec (.memRemap t) s = .next u ∧ remapOf u.m r.logical = r.target ∧ pcState u.m r.target = 0 ∧
       pcState u.m (remapOf s.m r.logical) = 3 ∧ u.m.fab.running = none ∧
       (∀ l, l ≠ r.logical → remapOf u.m l = remapOf s.m l) ∧ storesKept s u)

/-- The patrol scrub counts what it corrects on the physical channel and passes to the next row; an access to the default
error target counts for its master channel, and the datapath unit behind the channel takes the error response as an
uncorrectable error of its own: its swap starts, or its furrow is FAULTED; wear samples leave the headland's extremes (R388,
R397, R318). These forms complete here: wearTrendSample, patrolScrub, fabricDecerr. -/
def Obligations.ScrubAndErrors : Prop :=
  ∀ (t l n ch furrow : Nat) (s : State), s.m.alive = true → l < 120 → ch < 177 → furrow < 8 →
    (∃ u, exec (.patrolScrub t l n) s = .next u ∧ (u.m.pc (remapOf s.m l)).ce = (s.m.pc (remapOf s.m l)).ce + n ∧
      u.m.fab.scrubDone = (s.m.fab.scrubDone + 1) % 120 ∧ u.m.fab.remap = s.m.fab.remap ∧ u.m.hrt = s.m.hrt ∧ storesKept s u) ∧
    (∃ u, exec (.fabricDecerr t ⟨ch, furrow⟩) s = .next u ∧ counter blkFabric ch 0 u.m = satAdd32 (counter blkFabric ch 0 s.m) 1 ∧
      u.m.fab = s.m.fab ∧ storesKept s u ∧
      (153 ≤ ch → u.m.hrt = s.m.hrt ∧ u.m.kl = s.m.kl ∧ u.m.pair = s.m.pair) ∧
      (121 ≤ ch → ch ≤ 152 → (u.m.lane ((ch - 121) % 16 * 8 + furrow)).faulted = true ∧ u.m.hrt = s.m.hrt) ∧
      (∀ (k : UnitKind) (phys logical spare : Nat), channelUnit ch = some (k, phys) → logicalOf s.m k phys = some logical →
        s.m.hrt.running = none → s.m.hrt.queue = [] → s.m.hrt.split = false → s.m.hrt.degradedUnits = [] →
        spareFor s.m k = some spare → u.m.hrt.running =
          some { kind := k, logical := logical, spare := spare, single := true, wear := false, tag := none })) ∧
    ∀ sample : TrendSample, ∃ u, exec (.wearTrendSample t sample) s = .next u ∧
      u.m.hrt.eyeWorst = (sample.eye.foldl (fun w e => if e.2 < w.2 then e else w) (0, 0xFFFF)).2 ∧
      u.m.hrt.rowsWorst = (worstOf (sample.rows.map fun e => (0, e.2.2)) (0, 0)).2 ∧ storesKept s u

/-! ### Firmware and flash -/

/-- A firmware trial that ends without failure writes the boot selection: the record in force names the trial's slot, and the
trial is over; a flash write that ends stores the bytes it was given (R328, R409). A flash write of FW_WRITE stores its bytes
at its place in the slot, and leaves every other byte; one that fails stores nothing (R327). These forms complete here:
fwTrialEnd, flashWriteDone. -/
def Obligations.FlashWritten : Prop :=
  (∀ (t slot due : Nat) (s : State), livesAt t s → s.m.hrt.trial = some (slot, due) → due ≤ t → s.m.hrt.kilnReset = false → slot < 2 →
     Memory.wf Memory.flashDefault s.flash = true →
     ∃ u, exec (.fwTrialEnd t) s = .next u ∧ u.m.hrt.trial = none ∧ bootCopy u.flash (bootRecord s.flash).2 = some (slot, 
         ((((bootRecord s.flash).1.map (·.2)).getD 0 + 1) % 2 ^ 32)) ∧
       (∀ a, (a < (bootRecord s.flash).2 ∨ (bootRecord s.flash).2 + 4096 ≤ a) →
         Memory.read Memory.flashDefault u.flash a = Memory.read Memory.flashDefault s.flash a) ∧
       u.hbm = s.hbm ∧ u.m.cfg = s.m.cfg ∧ u.m.sys.bootSlot = s.m.sys.bootSlot) ∧
  (∀ (t : Nat) (x : Transfer) (data : List Byte) (s : State), s.m.alive = true → s.m.hrt.kilnReset = false → x.opcode = 0x0B01 →
     (s.m.txn.transfers.find? fun y => y.tag == x.tag && (y.opcode == 0x0B01 || y.opcode == 0x0B04)) = some x →
     Memory.wf Memory.flashDefault s.flash = true →
     let a := imageBase (byteAt x.params 0) + leAt x.params 4 4
     let n := leAt x.params 16 4
     (∃ u, exec (.flashWriteDone t x.tag true data) s = .next u ∧
       u.flash = Memory.writeBytes Memory.flashDefault s.flash a (bytesAt data 0 n) ∧
       (∀ b, (b < a ∨ a + (bytesAt data 0 n).length ≤ b) →
         Memory.read Memory.flashDefault u.flash b = Memory.read Memory.flashDefault s.flash b) ∧ u.hbm = s.hbm ∧ u.m.cfg = s.m.cfg) ∧
     (∃ u, exec (.flashWriteDone t x.tag false data) s = .next u ∧ u.flash = s.flash ∧ u.hbm = s.hbm ∧ u.m.cfg = s.m.cfg))

/-! ### The log -/

/-- The log writes a new entry to both banks at the same index, under the next LSEQ (R320, R323). This form completes here:
logWrite. -/
def Obligations.LogWritesBoth : Prop :=
  ∀ (t k : Nat) (e : LogEntry) (rest : List LogEntry) (s : State), s.m.alive = true → s.m.log.rewrites = [] →
    s.m.log.intake = e :: rest → s.m.log.full = false → s.m.log.emberOn = false → s.m.log.failA = false → s.m.log.failB = false → freeSlot 4096 s.m.log.bankA = some k →
    ∃ u, exec (.logWrite t) s = .next u ∧ u.m.log.intake = rest ∧ u.m.log.nextSeq = s.m.log.nextSeq + 1 ∧
      u.m.log.bankA.get? k = some { e with lseq := s.m.log.nextSeq, toA := true, toB := true } ∧
      u.m.log.bankB.get? k = some { e with lseq := s.m.log.nextSeq, toA := true, toB := true } ∧
      (∀ j, j ≠ k → u.m.log.bankA.get? j = s.m.log.bankA.get? j ∧ u.m.log.bankB.get? j = s.m.log.bankB.get? j) ∧
      u.m.log.ember = s.m.log.ember ∧ u.m.rest = (advance t s.m).rest ∧ u.hbm = s.hbm ∧ u.flash = s.flash

/-- A window that has stood for 1 ms leaves the cache, and its entry is due for a rewrite when it stands for more than one
report; LOST reports are written once the intake queue has drained below half (R321, R322). A bank that fails while the other
serves is replaced by a spare, filled from the survivor; when the second fails too, the ember log takes over, empty but for
its first entry (R324, R325). These forms complete here: logWindowClose, logLostEntry, logBankFail, logBankCopyDone. -/
def Obligations.LogUpkeep : Prop :=
  (∀ (t : Nat) (s : State), livesAt t s →
     (∀ w : LogWindow, s.m.log.windows = [w] → w.opened + msec ≤ t →
       ∃ u, exec (.logWindowClose t w.source w.inst w.code) s = .next u ∧ u.m.log.windows = [] ∧
         u.m.log.rewrites = s.m.log.rewrites ++ (if w.count > 1 then [w] else []) ∧ u.m.rest = (advance t s.m).rest ∧
         u.hbm = s.hbm ∧ u.flash = s.flash) ∧
     (0 < s.m.log.lostCount → s.m.log.intake.length < 32 → logRoom s.m = true →
       ∃ u, exec (.logLostEntry t) s = .next u ∧ u.m.log.lostCount = 0 ∧ u.m.log.full = false ∧
         u.m.log.nextSeq = s.m.log.nextSeq + 1 ∧ u.m.rest = (advance t s.m).rest ∧ u.hbm = s.hbm ∧ u.flash = s.flash)) ∧
  (∀ (t : Nat) (b : Bool) (s : State), s.m.alive = true → s.m.log.emberOn = false →
     (s.m.log.failA = false → s.m.log.failB = false → s.m.log.copying = none → 0 < s.m.log.spares →
       ∃ u, exec (.logBankFail t b) s = .next u ∧ u.m.log.copying = some b ∧ u.m.log.spares = s.m.log.spares - 1 ∧
         u.m.log.emberOn = false ∧ u.m.log.bankA = s.m.log.bankA ∧ u.m.log.bankB = s.m.log.bankB ∧ faultLow u.m = true ∧ storesKept s u) ∧
     ((if b then s.m.log.failA else s.m.log.failB) = true → (if b then s.m.log.failB else s.m.log.failA) = false →
       ∃ u, exec (.logBankFail t b) s = .next u ∧ u.m.log.emberOn = true ∧ u.m.log.ember.length = 1 ∧ u.m.log.failA = true ∧
         u.m.log.failB = true ∧ u.m.log.copying = none ∧ faultLow u.m = true ∧ storesKept s u) ∧
     (s.m.log.copying = some b → ∃ u, exec (.logBankCopyDone t) s = .next u ∧ u.m.log.copying = none ∧
       u.m.log.bankA = (if b then s.m.log.bankA else s.m.log.bankB) ∧ u.m.log.bankB = (if b then s.m.log.bankA else s.m.log.bankB) ∧
       (if b then u.m.log.failB else u.m.log.failA) = false ∧ storesKept s u))

/-! ### Power and temperature -/

/-- Each millisecond the power manager takes the chip estimate and the highest Tj; with P10 above 0.98 of the cap, and 100 ms
since the last shed, it sheds the next step (R413, R416). THERM_WARN holds from T_max − 5 °C; THERM_CRIT at T_max applies all
three shed steps; at T_max + 10 °C the part is damped: FAULT_N low, every clock stopped, an entry in the ember log (R419,
Table 17.9). PMBus telemetry and the excursions of the cap: a poll stores each answer and their sum, PMB_ALERT_N is followed,
and POWER_CAP_EXCEEDED is raised once per excursion (R414, R417). These forms complete here: energyTick, powerCapExceeded,
pmbusPoll, pmbusAlert, thermCrit, damped, thermWarn. -/
def Obligations.PowerAndHeat : Prop :=
  (∀ (t estimate sensor : Nat) (tj : Int) (s : State), s.m.alive = true →
     ∃ u, exec (.energyTick t estimate tj sensor) s = .next u ∧ u.m.pwr.chip = estimate ∧ u.m.sys.tj = tj ∧
       u.m.sys.tjSensor = sensor ∧ u.m.pwr.cap = s.m.pwr.cap ∧ u.m.pwr.samples.length ≤ 1000 ∧
       (s.m.sys.regulators = [] → s.m.pwr.lastChange = none → s.m.pwr.samples = [] → 980 * s.m.pwr.cap < estimate → s.m.pwr.shed = 0 →
         u.m.pwr.shed = 1) ∧
       u.m.tb = s.m.tb ∧ u.m.pair = s.m.pair ∧ storesKept s u) ∧
  (∀ (t sensor : Nat) (tj : Int) (s : State), s.m.alive = true →
     (∃ u, exec (.thermWarn t tj sensor) s = .next u ∧ u.m.sys.tjWarn = decide (tMax - 40 ≤ tj) ∧ u.m.sys.tj = tj ∧
       u.m.pwr = s.m.pwr ∧ u.m.pair = s.m.pair ∧ storesKept s u) ∧
     (tMax ≤ tj → s.m.sys.tjCrit = false → s.m.pwr.shed ≤ 3 →
       ∃ u, exec (.thermCrit t tj sensor) s = .next u ∧ u.m.sys.tjCrit = true ∧ u.m.pwr.shed = 3 ∧ storesKept s u) ∧
     (tMax + 80 ≤ tj → ∃ u, exec (.damped t tj sensor) s = .next u ∧ u.m.alive = false ∧ u.m.sys.damped = true ∧
       faultLow u.m = true ∧ u.m.log.nextSeq = s.m.log.nextSeq + 1 ∧ u.m.pair = s.m.pair ∧ storesKept s u)) ∧
  (∀ (t : Nat) (s : State), livesAt t s →
     (∀ (r : Regulator) (mw : Nat), 4 ≤ s.m.sys.step → s.m.sys.regulators = [r] →
       ∃ u, exec (.pmbusPoll t [some mw]) s = .next u ∧ u.m.pwr.telem = mw ∧ telemValid u.m = true ∧ storesKept s u) ∧
     (∀ (low : Bool) (words : List Half), 4 ≤ s.m.sys.step →
       ∃ u, exec (.pmbusAlert t low words) s = .next u ∧ u.m.pwr.alertLow = low ∧ u.m.sys = (advance t s.m).sys ∧ storesKept s u) ∧
     (∀ c, s.m.pwr.overSince = some c → c + 100 * msec ≤ t → s.m.pwr.exceeded = false →
       ∃ u, exec (.powerCapExceeded t) s = .next u ∧ u.m.pwr = { s.m.pwr with exceeded := true } ∧ u.m.sys = (advance t s.m).sys ∧
         storesKept s u))

/-! ### The transports and the registers -/

namespace Sys2Proof.Machine

/-- A head whose registers the host reaches. -/
abbrev reached (s : State) : Prop := s.m.alive = true ∧ s.m.sys.strapHost = true

/-- What a register write of HOST, EVENT, PERF or GLOBAL leaves: the whole datapath and both byte memories. -/
def datapathKept (s u : State) : Prop :=
  u.m.cfg = s.m.cfg ∧ u.m.txn = s.m.txn ∧ u.m.inp = s.m.inp ∧ u.m.frc = s.m.frc ∧ u.m.comp = s.m.comp ∧ u.m.fr = s.m.fr ∧
  u.m.light = s.m.light ∧ u.m.kl = s.m.kl ∧ u.m.aud = s.m.aud ∧ u.m.tb = s.m.tb ∧ u.m.pair = s.m.pair ∧ u.m.hrt = s.m.hrt ∧
  u.m.fab = s.m.fab ∧ u.m.pwr = s.m.pwr ∧ u.hbm = s.hbm ∧ u.flash = s.flash ∧ u.pending = s.pending

end Sys2Proof.Machine

/-- An index is a 32-bit counter that wraps; the entry of index i is slot i mod size, and a ring holds (producer − consumer)
mod 2^32 entries. An index the host writes is taken where the ring then holds no more than its size, and else ignored:
RING_ERR is set and HOST_RING_FAULT raised (R335). These forms complete here: cmdDoorbell, rplHeadWrite, evrHeadWrite. -/
def Obligations.RingIndices : Prop :=
  (∀ producer consumer : Word, ringHeld producer consumer = (producer.toNat + 2 ^ 32 - consumer.toNat) % 2 ^ 32) ∧
  (∀ (base : DWord) (i : Word) (size entry : Nat), 0 < size → size * entry ≤ 2 ^ 64 →
    (ringSlot base i size entry - base).toNat = entry * (i.toNat % size)) ∧
  ∀ (t : Nat) (v : Word) (s : State), reached s →
    (∃ u, exec (.cmdDoorbell t v) s = .next u ∧ datapathKept s u ∧
      (ringHeld v s.m.host.cmdHead ≤ s.m.host.cmdSize → u.m.host = { s.m.host with cmdTail := v }) ∧
      (s.m.host.cmdSize < ringHeld v s.m.host.cmdHead → u.m.host = { s.m.host with ringErr := true } ∧ u.m.ev.pend.getLsbD evHostRingFault = true)) ∧
    (∃ u, exec (.rplHeadWrite t v) s = .next u ∧ datapathKept s u ∧
      (ringHeld s.m.host.rplTail v ≤ s.m.host.rplSize → u.m.host = { s.m.host with rplHead := v }) ∧
      (s.m.host.rplSize < ringHeld s.m.host.rplTail v → u.m.host = { s.m.host with ringErr := true } ∧ u.m.ev.pend.getLsbD evHostRingFault = true)) ∧
    (∃ u, exec (.evrHeadWrite t v) s = .next u ∧ datapathKept s u ∧
      (ringHeld s.m.host.evrTail v ≤ s.m.host.evrSize → u.m.host = { s.m.host with evrHead := v }) ∧
      (s.m.host.evrSize < ringHeld s.m.host.evrTail v → u.m.host = { s.m.host with ringErr := true } ∧ u.m.ev.pend.getLsbD evHostRingFault = true))

/-- The base and size registers of a ring can be written while it is disabled, and a write is ignored while it is enabled.
Enabling a ring whose setup R334 allows zeroes both its indices; one whose setup it does not allow stays disabled with
RING_ERR set. A Kiln reset leaves the ring registers. The other bits of HOST_RING_CTRL, and a DMA error (R336, R338, Table
13.3). These forms complete here: cmdEn, rplEn, evrEn, wbEn, ringErr, dmaErr, hostDmaErr. -/
def Obligations.RingEnables : Prop :=
  ∀ (t : Nat) (s : State), reached s →
    (s.m.host.cmdEn = false → ∃ u, exec (.cmdEn t true) s = .next u ∧ datapathKept s u ∧
      u.m.host = if ringOk s.m.host.cmdBase s.m.host.cmdSize then { s.m.host with cmdEn := true, cmdHead := 0, cmdTail := 0 }
        else { s.m.host with ringErr := true }) ∧
    (s.m.host.rplEn = false → ∃ u, exec (.rplEn t true) s = .next u ∧ datapathKept s u ∧
      u.m.host = if ringOk s.m.host.rplBase s.m.host.rplSize then { s.m.host with rplEn := true, rplHead := 0, rplTail := 0 }
        else { s.m.host with ringErr := true }) ∧
    (s.m.host.evrEn = false → ∃ u, exec (.evrEn t true) s = .next u ∧ datapathKept s u ∧
      u.m.host = if ringOk s.m.host.evrBase s.m.host.evrSize then { s.m.host with evrEn := true, evrHead := 0, evrTail := 0 }
        else { s.m.host with ringErr := true }) ∧
    (∃ u, exec (.cmdEn t false) s = .next u ∧ u.m.host = { s.m.host with cmdEn := false } ∧ datapathKept s u) ∧
    (∃ u, exec (.rplEn t false) s = .next u ∧ u.m.host = { s.m.host with rplEn := false } ∧ datapathKept s u) ∧
    (∃ u, exec (.evrEn t false) s = .next u ∧ u.m.host = { s.m.host with evrEn := false } ∧ datapathKept s u) ∧
    (∀ on, ∃ u, exec (.wbEn t on) s = .next u ∧ u.m.host = { s.m.host with wbEn := on } ∧ datapathKept s u) ∧
    (∃ u, exec (.ringErr t) s = .next u ∧ u.m.host = { s.m.host with ringErr := false } ∧ datapathKept s u) ∧
    (∃ u, exec (.dmaErr t) s = .next u ∧ u.m.host = { s.m.host with dmaErr := false } ∧ datapathKept s u) ∧
    (∃ u, exec (.hostDmaErr t .cmd) s = .next u ∧ u.m.host = { s.m.host with cmdEn := false, dmaErr := true } ∧ datapathKept s u) ∧
    (∃ u, exec (.hostDmaErr t .rpl) s = .next u ∧ u.m.host = { s.m.host with rplEn := false, dmaErr := true } ∧ datapathKept s u) ∧
    (∃ u, exec (.hostDmaErr t .evr) s = .next u ∧ u.m.host = { s.m.host with evrEn := false, dmaErr := true } ∧ datapathKept s u) ∧
    (∀ (off : Nat) (v : Word), off ∈ [0x000, 0x004, 0x008] → s.m.host.cmdEn = true →
      ∃ u, exec (.registerWrite t (0x1B0000 + off) v 0xF) s = .next u ∧ u = { s with m := advance t s.m }) ∧
    (∀ (off : Nat) (v : Word), off ∈ [0x020, 0x024, 0x028] → s.m.host.rplEn = true →
      ∃ u, exec (.registerWrite t (0x1B0000 + off) v 0xF) s = .next u ∧ u = { s with m := advance t s.m }) ∧
    (∀ (off : Nat) (v : Word), off ∈ [0x040, 0x044, 0x048] → s.m.host.evrEn = true →
      ∃ u, exec (.registerWrite t (0x1B0000 + off) v 0xF) s = .next u ∧ u = { s with m := advance t s.m }) ∧
    (∀ v : Word, s.m.host.cmdEn = false →
      (∃ u, exec (.registerWrite t 0x1B0000 v 0xF) s = .next u ∧ datapathKept s u ∧
        u.m.host = { s.m.host with cmdBase := s.m.host.cmdBase &&& 0xFFFFFFFF00000000 ||| v.setWidth 64 }) ∧
      (∃ u, exec (.registerWrite t 0x1B0004 v 0xF) s = .next u ∧ datapathKept s u ∧
        u.m.host = { s.m.host with cmdBase := s.m.host.cmdBase &&& 0xFFFFFFFF ||| v.setWidth 64 <<< 32 }) ∧
      (∃ u, exec (.registerWrite t 0x1B0008 v 0xF) s = .next u ∧ datapathKept s u ∧
        u.m.host = { s.m.host with cmdSize := v.toNat % 8192 })) ∧
    (∀ v : Word, s.m.host.rplEn = false →
      (∃ u, exec (.registerWrite t 0x1B0020 v 0xF) s = .next u ∧ datapathKept s u ∧
        u.m.host = { s.m.host with rplBase := s.m.host.rplBase &&& 0xFFFFFFFF00000000 ||| v.setWidth 64 }) ∧
      (∃ u, exec (.registerWrite t 0x1B0024 v 0xF) s = .next u ∧ datapathKept s u ∧
        u.m.host = { s.m.host with rplBase := s.m.host.rplBase &&& 0xFFFFFFFF ||| v.setWidth 64 <<< 32 }) ∧
      (∃ u, exec (.registerWrite t 0x1B0028 v 0xF) s = .next u ∧ datapathKept s u ∧
        u.m.host = { s.m.host with rplSize := v.toNat % 8192 })) ∧
    (∀ v : Word, s.m.host.evrEn = false →
      (∃ u, exec (.registerWrite t 0x1B0040 v 0xF) s = .next u ∧ datapathKept s u ∧
        u.m.host = { s.m.host with evrBase := s.m.host.evrBase &&& 0xFFFFFFFF00000000 ||| v.setWidth 64 }) ∧
      (∃ u, exec (.registerWrite t 0x1B0044 v 0xF) s = .next u ∧ datapathKept s u ∧
        u.m.host = { s.m.host with evrBase := s.m.host.evrBase &&& 0xFFFFFFFF ||| v.setWidth 64 <<< 32 }) ∧
      (∃ u, exec (.registerWrite t 0x1B0048 v 0xF) s = .next u ∧ datapathKept s u ∧
        u.m.host = { s.m.host with evrSize := v.toNat % 8192 })) ∧
    (∀ (failing : Option Nat) (c : Instr), kilnRuns s.m = true → (c = .kilnLockstepMismatch t failing ∨ c = .kilnWatchdog t failing) →
      ∃ u, exec c s = .next u ∧ u.m.hrt.kilnReset = true ∧
        u.m.host.cmdBase = s.m.host.cmdBase ∧ u.m.host.cmdSize = s.m.host.cmdSize ∧ u.m.host.cmdTail = s.m.host.cmdTail ∧
        u.m.host.cmdHead = s.m.host.cmdHead ∧ u.m.host.rplBase = s.m.host.rplBase ∧ u.m.host.rplSize = s.m.host.rplSize ∧
        u.m.host.rplHead = s.m.host.rplHead ∧ u.m.host.rplTail = s.m.host.rplTail ∧ u.m.host.evrBase = s.m.host.evrBase ∧
        u.m.host.evrSize = s.m.host.evrSize ∧ u.m.host.evrHead = s.m.host.evrHead ∧ u.m.host.evrTail = s.m.host.evrTail ∧
        u.m.host.cmdEn = s.m.host.cmdEn ∧ u.m.host.rplEn = s.m.host.rplEn ∧ u.m.host.evrEn = s.m.host.evrEn ∧
        u.m.host.wbEn = s.m.host.wbEn ∧ u.m.host.ringErr = s.m.host.ringErr ∧ u.m.host.dmaErr = s.m.host.dmaErr ∧
        u.m.host.wbAddr = s.m.host.wbAddr ∧ u.m.host.rplMod = s.m.host.rplMod)

/-- A command entry is fetched into the command queue in ring order; a reply asked for over the UART leaves as one stuffed
frame; an event leaves in the slot of the event ring its tail names, and the tail moves on (R337, R343, R373, R374). These
forms complete here: eventRingWrite, evqLostEntry, cmdFetch, replyWrite, replyModExpiry. -/
def Obligations.RingTraffic : Prop :=
  ∀ (t : Nat) (s : State), reached s →
    (∀ slot : List Byte, mayFetch s.m = true → ∃ u, exec (.cmdFetch t slot) s = .next u ∧
      u.m.host.cmdQueue = s.m.host.cmdQueue ++ [(false, slot.take 4096)] ∧ u.m.host.cmdHead = s.m.host.cmdHead + 1 ∧
      u.m.host.cmdTail = s.m.host.cmdTail ∧ datapathKept s u) ∧
    (∀ (r : Reply) (rest : List Reply), s.m.hrt.kilnReset = false → s.m.hrt.pendingTrial = none → s.m.host.newBaud = none →
      s.m.host.replyQueue = r :: rest → r.uart = true →
      ∃ u, exec (.replyWrite t) s = .next u ∧ u.m.host.replyQueue = rest ∧
        u.m.out = s.m.out ++ [.uartTx (uartStuff (replyPacket r))] ∧ datapathKept s u) ∧
    (∀ (r : Reply) (rest : List Reply), s.m.hrt.kilnReset = false → s.m.hrt.pendingTrial = none → s.m.host.newBaud = none →
      s.m.host.replyQueue = r :: rest → r.uart = false → rplRoom s.m = true →
      ∃ u, exec (.replyWrite t) s = .next u ∧ u.m.host.replyQueue = rest ∧ u.m.host.rplTail = s.m.host.rplTail + 1 ∧
        .hostWrite (ringSlot s.m.host.rplBase s.m.host.rplTail s.m.host.rplSize 4096) (replyPacket r) ∈ u.m.out ∧ datapathKept s u) ∧
    (∀ (x : EvEntry) (rest : List EvEntry), s.m.ev.queue = x :: rest → s.m.host.evrEn = true → evrFull s.m = false →
      ∃ u, exec (.eventRingWrite t) s = .next u ∧ u.m.host.evrTail = s.m.host.evrTail + 1 ∧
        .hostWrite (ringSlot s.m.host.evrBase s.m.host.evrTail s.m.host.evrSize 32) (encEvent s.m.ev.eseq x) ∈ u.m.out ∧
        datapathKept s u) ∧
    (0 < s.m.ev.lostCount → s.m.ev.queue.length < 128 → ∃ u, exec (.evqLostEntry t) s = .next u ∧ u.m.ev.lostCount = 0 ∧
      u.m.ev.queue = s.m.ev.queue ++ [⟨evEvqOverflow, true, s.m.ev.lostTime, s.m.ev.lostCfn, 0, 0, s.m.ev.lostCount⟩] ∧ u.m.host = s.m.host ∧ datapathKept s u) ∧
    (∀ d, s.m.host.rplModDue = some d → d ≤ t → ∃ u, exec (.replyModExpiry t) s = .next u ∧
      u.m.host = { s.m.host with rplModDue := none } ∧ datapathKept s u)

/-- Byte stuffing loses nothing: what stands between the two 0x7E of a frame sent gives back the packet (R343). A UART frame
is pushed on the command queue, unstuffed; at 64 entries it is refused and counted; a byte timeout discards the frame and
counts; a break sets 115,200 baud (R342, R343). These forms complete here: uartFrame, uartByteTimeout, uartBreak. -/
def Obligations.UartFrames : Prop :=
  (∀ b : List Byte, uartUnstuff ((uartStuff b).tail.dropLast) = some b) ∧
  (∀ (t : Nat) (s : State), s.m.alive = true →
     (∀ b : List Byte, served s.m = true → b ≠ [] → b.length ≤ 4096 → s.m.host.cmdQueue.length < 64 →
       ∃ u, exec (.uartFrame t ((uartStuff b).tail.dropLast)) s = .next u ∧ u.m.host.cmdQueue = s.m.host.cmdQueue ++ [(true, b)] ∧
         datapathKept s u) ∧
     (∀ b : List Byte, served s.m = true → b ≠ [] → b.length ≤ 4096 → 64 ≤ s.m.host.cmdQueue.length →
       ∃ u, exec (.uartFrame t ((uartStuff b).tail.dropLast)) s = .next u ∧ u.m.host.cmdQueue = s.m.host.cmdQueue ∧ 
         counter blkHost 0 1 u.m = satAdd32 (counter blkHost 0 1 s.m) 1 ∧ datapathKept s u) ∧
     (served s.m = true → ∃ u, exec (.uartByteTimeout t) s = .next u ∧ u.m.host = { s.m.host with uartRx := [] } ∧
       counter blkHost 0 3 u.m = satAdd32 (counter blkHost 0 3 s.m) 1 ∧ datapathKept s u) ∧
     (∃ u, exec (.uartBreak t) s = .next u ∧ u.m.host = { s.m.host with baud := 115200, uartRx := [] } ∧
       datapathKept s u))

/-- Maintenance mode unlocks by the two keys in order within 1 ms, relocks by RELOCK and after its timeout, and stays locked
to the keys once DISABLE is set; GPIO15 low for 100 ms unlocks a head without BAR0, and high locks it (R425, R426). These
forms complete here: maintUnlockKey, relock, maintDisable, maintTimeout, gpioLock, gpio15Maint. -/
def Obligations.MaintenanceMode : Prop :=
  ∀ (t : Nat) (s : State), livesAt t s →
    (s.m.sys.strapHost = true → s.m.maint.disable = false → ∃ u, exec (.maintUnlockKey t 0x4B31) s = .next u ∧
      u.m.maint = { s.m.maint with armed := some t } ∧ datapathKept s u) ∧
    (∀ a, s.m.sys.strapHost = true → s.m.maint.disable = false → s.m.maint.armed = some a → t ≤ a + msec →
      ∃ u, exec (.maintUnlockKey t 0x4B32) s = .next u ∧ u.m.maint.unlocked = true ∧ u.m.maint.unlockedAt = t ∧ datapathKept s u) ∧
    (∀ key, s.m.sys.strapHost = true → s.m.maint.disable = true → ∃ u, exec (.maintUnlockKey t key) s = .next u ∧
      u.m.maint = s.m.maint ∧ datapathKept s u) ∧
    (s.m.sys.strapHost = true → ∃ u, exec (.relock t) s = .next u ∧ u.m.maint.unlocked = false ∧ datapathKept s u) ∧
    (s.m.sys.strapHost = true → ∃ u, exec (.maintDisable t) s = .next u ∧ u.m.maint = { s.m.maint with disable := true } ∧
      datapathKept s u) ∧
    (s.m.maint.unlocked = true → s.m.maint.byGpio = false → s.m.maint.unlockedAt + max 1 s.m.maint.timeout * sec ≤ t →
      ∃ u, exec (.maintTimeout t) s = .next u ∧ u.m.maint.unlocked = false ∧ datapathKept s u) ∧
    (s.m.sys.strapHost = true → ∃ u, exec (.gpioLock t) s = .next u ∧ u.m.sys.gpioLock = true ∧ u.m.maint = s.m.maint ∧
      datapathKept s u) ∧
    (∀ a, s.m.sys.strapHost = false → s.m.sys.gpio15Low = some a → a + 100 * msec ≤ t → s.m.maint.unlocked = false →
      ∃ u, exec (.gpio15Maint t false) s = .next u ∧ u.m.maint.unlocked = true ∧ u.m.maint.byGpio = true ∧ datapathKept s u) ∧
    (s.m.sys.strapHost = false → ∃ u, exec (.gpio15Maint t true) s = .next u ∧ u.m.maint.unlocked = false ∧
      u.m.sys.gpio15Low = none ∧ datapathKept s u)

/-- A write of all four bytes at an aligned offset acts; with a byte missing, or out of alignment, it changes nothing; so does
one to a register of class RWM while maintenance mode is locked (R14, R421). This form completes here: registerWrite. -/
def Obligations.RegisterWrites : Prop :=
  ∀ (t off : Nat) (v : Word) (s : State), reached s →
    (∀ en : BitVec 4, (en ≠ 0xF ∨ off % 4 ≠ 0) → ∃ u, exec (.registerWrite t off v en) s = .next u ∧ u = { s with m := advance t s.m }) ∧
    (s.m.maint.unlocked = false → 0x160000 ≤ off → off < 0x180000 → ∃ u, exec (.registerWrite t off v 0xF) s = .next u ∧
      u = { s with m := advance t s.m }) ∧
    (∀ n, n < 16 → off = 0x040 + 4 * n → s.m.sys.gpioLock = false → ∃ u, exec (.registerWrite t off v 0xF) s = .next u ∧
      u.m.sys.gpioFunc.get? n = some (bits v.toNat 2 0) ∧ u.m.sys.gpioOd.get? n = some (v.getLsbD 3) ∧ datapathKept s u) ∧
    (off = 0x1B0008 → s.m.host.cmdEn = false → ∃ u, exec (.registerWrite t off v 0xF) s = .next u ∧
      u.m.host = { s.m.host with cmdSize := bits v.toNat 12 0 } ∧ datapathKept s u) ∧
    (∀ m, m < 177 → off = 0x161000 + 8 * m → s.m.maint.unlocked = true → ∃ u, exec (.registerWrite t off v 0xF) s = .next u ∧
      u.m.fab.prio.get? m = some v ∧ u.m.fab.remap = s.m.fab.remap ∧ u.m.cfg = s.m.cfg ∧ u.hbm = s.hbm ∧ u.flash = s.flash)

/-- A pending bit is cleared by writing one, and a mask bank takes the value written (R370, R371); the performance counters
freeze, take snapshots, and are written (R377 to R382); a read of a _LO register fills the shadow of its path (R422). A
counter that wraps sets its overflow bit, and PERF_OVERFLOW is raised (R379). These forms complete here: eventPendWrite,
eventMaskWrite, regLoRead, globalFreeze, snap, snapFe, perfOvfClear, perfCounterWrite, perfCounterWrap. -/
def Obligations.EventAndCounterRegisters : Prop :=
  (∀ (t : Nat) (s : State), reached s →
     (∀ bank value, bank < 12 → s.m.ev.level = [] → ∃ u, exec (.eventPendWrite t bank value) s = .next u ∧
       u.m.ev.pend = s.m.ev.pend &&& ~~~bankBits bank value ∧ u.m.ev.mask = s.m.ev.mask ∧ u.m.host = s.m.host ∧ datapathKept s u) ∧
     (∀ bank value, bank < 12 → ∃ u, exec (.eventMaskWrite t bank value) s = .next u ∧
       u.m.ev.mask = putBank bank value s.m.ev.mask ∧ u.m.ev.pend = s.m.ev.pend ∧ u.m.host = s.m.host ∧ datapathKept s u) ∧
     (∀ on, ∃ u, exec (.globalFreeze t on) s = .next u ∧ u.m.perf.freeze = on ∧ u.m.host = s.m.host ∧ datapathKept s u) ∧
     (∃ u, exec (.snap t) s = .next u ∧ u.m.perf.snapCfn = s.m.fr.cfn ∧ u.m.perf.snapTime = max s.m.sys.now t ∧ u.m.host = s.m.host ∧
       datapathKept s u) ∧
     (∀ on, ∃ u, exec (.snapFe t on) s = .next u ∧ u.m.perf = { s.m.perf with snapFe := on } ∧ u.m.host = s.m.host ∧ datapathKept s u) ∧
     (∀ g b, g < 10 → ∃ u, exec (.perfOvfClear t g b) s = .next u ∧
       (u.m.perf.groups.getD g ⟨0, [], [], 0, 0, []⟩).ovf = (s.m.perf.groups.getD g ⟨0, [], [], 0, 0, []⟩).ovf &&& ~~~b ∧
       u.m.host = s.m.host ∧ datapathKept s u) ∧
     (∀ g c v, g < 10 → c < 8 → ∃ u, exec (.perfCounterWrite t g c v) s = .next u ∧ perfVal g c u.m = v ∧ u.m.host = s.m.host ∧
       datapathKept s u) ∧
     (∀ path off v, read64 (advance t s.m) off = some v → ∃ u, exec (.regLoRead t path off) s = .next u ∧
       shadowOf u.m path = v ∧ shadowOf u.m (!path) = shadowOf s.m (!path) ∧ datapathKept s u)) ∧
  (∀ (t : Nat) (s : State) (g c : Nat), s.m.alive = true → g < 10 → c < 8 → s.m.perf.freeze = false →
     s.m.tb.rootLock = true → s.m.perf.since = s.m.sys.now → t ≤ s.m.sys.now →
     selEnable (perfSel g c s.m) = true → pulsed g (selCode (perfSel g c s.m)) = false → selChain (perfSel g c s.m) = false → selFreeze (perfSel g c s.m) = false →
     (selEnable (perfSel g (c + 1) s.m) && selChain (perfSel g (c + 1) s.m)) = false →
     ∃ u, exec (.perfCounterWrap t g c) s = .next u ∧ perfVal g c u.m = perfVal g c s.m ∧
       (u.m.perf.groups.getD g ⟨0, [], [], 0, 0, []⟩).ovf =
         (s.m.perf.groups.getD g ⟨0, [], [], 0, 0, []⟩).ovf ||| BitVec.ofNat 8 (2 ^ c) ∧
       u.m.ev.pend.getLsbD evPerfOverflow = true ∧ u.m.host = s.m.host ∧ datapathKept s u)

/-- PERST_N resets the HOST block registers and the MSI-X table, the endpoint's, and relocks a maintenance mode that the host
unlocked (R424). The rings, and with them the commands not yet fetched, are gone; the command queue, the reply queue, the
known tags, the UART, the Kiln and the datapath go on (R404). This form completes here: perstN. -/
def Obligations.PerstResets : Prop :=
  ∀ (t : Nat) (s : State), s.m.alive = true →
    ∃ u, exec (.perstN t) s = .next u ∧
      u.m.host = { ({} : HostIf) with
        cmdQueue := s.m.host.cmdQueue, replyQueue := s.m.host.replyQueue, tags := s.m.host.tags, baud := s.m.host.baud
        newBaud := s.m.host.newBaud, uartRx := s.m.host.uartRx, lastPacket := s.m.host.lastPacket
        shadowKiln := s.m.host.shadowKiln } ∧
      u.m.ev.msixTable = [] ∧ u.m.ev.msixPba = 0 ∧ u.m.ev.msixFnMask = false ∧ u.m.ev.mask = s.m.ev.mask ∧
      u.m.ev.ring = s.m.ev.ring ∧ u.m.ev.queue = s.m.ev.queue ∧
      (u.m.maint.unlocked = true → s.m.maint.byGpio = true) ∧ datapathKept s u

/-! ### The host's commands -/

namespace Sys2Proof.Machine

/-- A host command arrives on a ready head whose Kiln runs, over a transport that serves it, whole and with a valid CRC and
header, under a tag that is not known (Table 13.2, steps 1 to 5 and 7). -/
abbrev takesCommand (op t : Nat) (k : CmdPkt) (s : State) : Prop :=
  s.m.alive = true ∧ s.m.sys.ready = true ∧ s.m.sys.step = 8 ∧ s.m.sys.stopped = false ∧ s.m.hrt.kilnReset = false ∧
  (k.uart = true ∨ s.m.sys.strapHost = true) ∧ lengthOk k = true ∧ crcOk op k = true ∧ headerOk k = true ∧
  tagOf s.m k.tag = none ∧ s.m.pair.role ≠ .yielding ∧ (onlyPrimary op = true → s.m.pair.role = .primary) ∧
  s.m.hrt.pendingTrial = none ∧ s.m.host.newBaud = none ∧ s.m.sys.now ≤ t

/-- The part as the command's own checks see it: popped, counted, and seen at its time. -/
def commandAt (op t : Nat) (k : CmdPkt) (s : State) : Part :=
  (perfSignal 8 0x11 0 1 (popped k.uart (cmdBytes op k) (advance t s.m))).updHost fun x => { x with lastPacket := t }

/-- The reply the host gets, whether it is sent or not (R331, R341). -/
def replyOf (op : Nat) (k : CmdPkt) (st : Nat) (params : List Byte) : Reply :=
  { uart := k.uart, opcode := op, flags := k.flags, tag := k.tag, status := BitVec.ofNat 16 st, params := params }

/-- A query: its opcode, rule, time and packet, and the layout that gives its reply. -/
structure QueryRow where
  op : Nat
  rule : OpRule
  t : Nat
  k : CmdPkt
  answer : List Byte → Part → Parse (List Byte)

/-- A query whose parameters are `len` bytes with these checks. -/
def answers (len : Nat) (checks : List Byte → List (Bool × Nat)) (f : List Byte → Part → List Byte) : List Byte → Part → Parse (List Byte) :=
  fun b p => layout b len (checks b) (f b p)

/-- An index below `n` and three reserved bytes. -/
def oneIndex (n : Nat) (b : List Byte) : List (Bool × Nat) := [below b 0 n, zeros b 1 3]

/-- The queries of the catalogue (Tables 14.5 to 14.17). -/
def queryRow : Instr → Option QueryRow
  | .ident t k => some ⟨0x0001, ruleQuery, t, k, answers 0 (fun _ => []) fun _ p => identBytes p⟩
  | .status t k => some ⟨0x0002, ruleQuery, t, k, answers 0 (fun _ => []) fun _ p => statusReply p⟩
  | .ping t k => some ⟨0x0004, ruleOwn, t, k, fun b _ => .ok b⟩
  | .time t k => some ⟨0x0005, ruleQuery, t, k, answers 0 (fun _ => []) fun _ p => timeReply p⟩
  | .txnList t k => some ⟨0x0104, ruleQuery, t, k, answers 0 (fun _ => []) fun _ p => txnList p⟩
  | .commitList t k => some ⟨0x0105, ruleQuery, t, k, answers 0 (fun _ => []) fun _ p => commitList p⟩
  | .fenceStatus t k => some ⟨0x0108, ruleQuery, t, k, fenceStatus⟩
  | .streamStatus t k => some ⟨0x0209, ruleQuery, t, k, answers 4 (oneIndex 48) fun b p => streamStatusBytes p (byteAt b 0)⟩
  | .portStatus t k => some ⟨0x020A, ruleQuery, t, k, answers 4 (fun b => [below b 0 2, below b 1 (if byteAt b 0 = 0 then 16 else 4), zeros b 2 2])
      fun b p => portStatusBytes p (byteAt b 0) (byteAt b 1)⟩
  | .streamRead t k => some ⟨0x020B, ruleQuery, t, k, answers 4 (oneIndex 48) fun b p => streamReadBytes p (byteAt b 0)⟩
  | .frcStatus t k => some ⟨0x0302, ruleQuery, t, k, answers 4 (oneIndex 8) fun b p => frcStatusBytes p (byteAt b 0)⟩
  | .frcRead t k => some ⟨0x0303, ruleQuery, t, k, answers 4 (oneIndex 8) fun b p => encFrcSet (byteAt b 0) (p.cfg.conv (byteAt b 0))⟩
  | .coefRead t k => some ⟨0x0406, ruleQuery, t, k, coefRead⟩
  | .objStatus t k => some ⟨0x040A, ruleQuery, t, k, answers 4 (fun b => [(decide (leAt b 0 2 < 4096) || leAt b 0 2 == 0xFFFF, 0), zeros b 2 2])
      fun b p => objStatusBytes p (leAt b 0 2)⟩
  | .regionRead t k => some ⟨0x040B, ruleQuery, t, k, answers 4 (fun b => [zeros b 1 3]) fun b p => regionReadBytes p (byteAt b 0)⟩
  | .layerRead t k => some ⟨0x040C, ruleQuery, t, k, answers 4 (fun b => [within b 0 2 0 1023, zeros b 2 2]) fun b p => layerReadBytes p (leAt b 0 2)⟩
  | .canvasStatus t k => some ⟨0x0508, ruleQuery, t, k, answers 0 (fun _ => []) fun _ p => canvasStatusBytes p⟩
  | .bandSums t k => some ⟨0x0509, ruleQuery, t, k, bandSums⟩
  | .canvasRead t k => some ⟨0x050A, ruleQuery, t, k, answers 0 (fun _ => []) fun _ p => encCanvas p.cfg.canvas⟩
  | .monStatus t k => some ⟨0x050B, ruleQuery, t, k, answers 4 (oneIndex 4) fun b p => monStatusBytes p (byteAt b 0)⟩
  | .loadStatus t k => some ⟨0x0605, ruleQuery, t, k, answers 0 (fun _ => []) fun _ p => loadStatusBytes p⟩
  | .feederStatus t k => some ⟨0x0607, ruleQuery, t, k,
      answers 4 (fun b => [below b 0 64, ((within b 1 1 1 64).1 && decide (byteAt b 0 + byteAt b 1 ≤ 64), 1), zeros b 2 2])
      fun b p => (List.range (byteAt b 1)).flatMap fun i => feederBytes p (byteAt b 0 + i)⟩
  | .typeRead t k => some ⟨0x0609, ruleQuery, t, k, typeRead⟩
  | .feederRead t k => some ⟨0x060A, ruleQuery, t, k, answers 4 (oneIndex 64) fun b p => encFeeder (byteAt b 0) (p.cfg.feeders.getD (byteAt b 0) {})⟩
  | .lightRead t k => some ⟨0x060B, ruleQuery, t, k, answers 0 (fun _ => []) fun _ p => encLight p.cfg.light⟩
  | .furrowStatus t k => some ⟨0x0705, ruleQuery, t, k, answers 4 (oneIndex 128) fun b p => furrowStatusBytes p (byteAt b 0)⟩
  | .tileStatus t k => some ⟨0x0706, ruleQuery, t, k, answers 4 (fun b => [below b 0 128, within b 1 1 1 255, zeros b 2 2])
      fun b p => tileStatusBytes p (byteAt b 0) (byteAt b 1)⟩
  | .tilemapRead t k => some ⟨0x0709, ruleQuery, t, k, answers 4 (fun b => [below b 0 128, within b 1 1 1 255, within b 2 1 1 203, zeros b 3 1])
      fun b p => tilemapReadBytes p (byteAt b 0) (byteAt b 1) (byteAt b 2)⟩
  | .audStatus t k => some ⟨0x0805, ruleQuery, t, k, answers 4 (fun b => [below b 0 2, below b 1 (if byteAt b 0 = 0 then 16 else 256), zeros b 2 2])
      fun b p => audStatusBytes p (byteAt b 0) (byteAt b 1)⟩
  | .audRead t k => some ⟨0x0806, ruleQuery, t, k, answers 4 (fun b => [below b 0 3, below b 1 ([16, 256, 4].getD (byteAt b 0) 0), zeros b 2 2])
      fun b p => audReadBytes p (byteAt b 0) (byteAt b 1)⟩
  | .tbStatus t k => some ⟨0x0905, ruleQuery, t, k, answers 0 (fun _ => []) fun _ p => tbStatusBytes p⟩
  | .tbSlotStatus t k => some ⟨0x0906, ruleQuery, t, k, answers 4 (oneIndex 8) fun b p => tbSlotStatusBytes p (byteAt b 0)⟩
  | .tbRead t k => some ⟨0x0907, ruleQuery, t, k, answers 0 (fun _ => []) fun _ p => tbReadBytes p⟩
  | .pairStatus t k => some ⟨0x0A03, ruleQuery, t, k, answers 0 (fun _ => []) fun _ p => pairStatusBytes p⟩
  | .pairRead t k => some ⟨0x0A04, ruleQuery, t, k, answers 0 (fun _ => []) fun _ p => encPairCfg p.pair.cfg⟩
  | .powerStatus t k => some ⟨0x0B0C, ruleMaint, t, k, answers 0 (fun _ => []) fun _ p => powerStatusBytes p⟩
  | .hbmStatus t k => some ⟨0x0B0D, ruleMaint, t, k, answers 4 (oneIndex 128) fun b p => hbmStatusBytes p (byteAt b 0)⟩
  | .evStatus t k => some ⟨0x0C01, ruleQuery, t, k, answers 0 (fun _ => []) fun _ p => le 48 p.ev.pend.toNat ++ le 48 (p.ev.mask &&& definedEvents).toNat⟩
  | .cntRead t k => some ⟨0x0C03, ruleQuery, t, k, cntRead⟩
  | .logStatus t k => some ⟨0x0C06, ruleQuery, t, k, answers 0 (fun _ => []) fun _ p => logStatusBytes p⟩
  | .perfRead t k => some ⟨0x0C09, ruleQuery, t, k, answers 4 (fun b => [below b 0 10, below b 1 2, zeros b 2 2])
      fun b p => perfReadBytes p (byteAt b 0) (byteAt b 1 == 1)⟩
  | _ => none

end Sys2Proof.Machine

/-- A query that its layout and the state allow is answered OK, or DEGRADED_OK on a degraded head, with what the state holds;
the reply is recorded under the tag and queued, and nothing else of the part changes (R331, R341, R301). Each form of
`queryRow` completes here. -/
def Obligations.QueriesAnswer : Prop :=
  ∀ (c : Instr) (q : QueryRow) (b : List Byte) (s : State), queryRow c = some q → takesCommand q.op q.t q.k s →
    classOk q.rule q.k = true → q.k.flags.getLsbD 0 = true → (q.k.uart = true → s.m.host.replyQueue.length < 128) →
    q.answer q.k.params (commandAt q.op q.t q.k s) = .ok b →
    ∃ u, exec c s = .next u ∧
      u.m.host.replyQueue = s.m.host.replyQueue ++ [replyOf q.op q.k (okStatus s.m) b] ∧
      (∃ e ∈ u.m.host.tags, e.tag = q.k.tag ∧ e.opcode = q.op ∧ e.crc = q.k.crc ∧ e.owes = none ∧
        e.reply = some (BitVec.ofNat 16 (okStatus s.m), b)) ∧ u.m.maint = s.m.maint ∧ datapathKept s u

namespace Sys2Proof.Machine

/-- A command of class C: its opcode, time and packet. -/
def configRow : Instr → Option (Nat × Nat × CmdPkt)
  | .fenceSet t k => some (0x0106, t, k)
  | .fenceAnc t k => some (0x0107, t, k)
  | .streamSdi t k => some (0x0201, t, k)
  | .streamIp t k => some (0x0202, t, k)
  | .streamParams t k => some (0x0203, t, k)
  | .inputRemove t k => some (0x0204, t, k)
  | .audFlow t k => some (0x0205, t, k)
  | .ancFlow t k => some (0x0206, t, k)
  | .ethSet t k => some (0x0207, t, k)
  | .ptpSet t k => some (0x0208, t, k)
  | .frcSet t k => some (0x0301, t, k)
  | .regionSet t k => some (0x0401, t, k)
  | .regionRemove t k => some (0x0402, t, k)
  | .layerSet t k => some (0x0403, t, k)
  | .layerRemove t k => some (0x0404, t, k)
  | .coefLoad t k => some (0x0405, t, k)
  | .canvasSet t k => some (0x0501, t, k)
  | .lowlatSet t k => some (0x0502, t, k)
  | .holdSet t k => some (0x0503, t, k)
  | .monSet t k => some (0x0504, t, k)
  | .slateSet t k => some (0x0505, t, k)
  | .slateShow t k => some (0x0506, t, k)
  | .slateClear t k => some (0x0507, t, k)
  | .lightSet t k => some (0x0601, t, k)
  | .typeLoad t k => some (0x0602, t, k)
  | .feederSet t k => some (0x0606, t, k)
  | .furrowSet t k => some (0x0701, t, k)
  | .latchSet t k => some (0x0702, t, k)
  | .tilemapSet t k => some (0x0703, t, k)
  | .tileLevel t k => some (0x0704, t, k)
  | .audChan t k => some (0x0801, t, k)
  | .audPort t k => some (0x0802, t, k)
  | .audMclk t k => some (0x0803, t, k)
  | .audZc t k => some (0x0804, t, k)
  | .tbSlot t k => some (0x0901, t, k)
  | .tbSet t k => some (0x0902, t, k)
  | .couSet t k => some (0x0904, t, k)
  | _ => none

end Sys2Proof.Machine

/-- A command of class C outside a transaction is sealed as a commit of its own: it takes effect at its apply CFN and not
before, and its reply is PENDING with the commit block (R116, R118, R352). Each form of `configRow` completes here. -/
def Obligations.ConfigSealed : Prop :=
  ∀ (c : Instr) (op t : Nat) (k : CmdPkt) (x : ConfigCmd) (z : Sealing) (s : State), configRow c = some (op, t, k) →
    takesCommand op t k s → classOk ruleConfig k = true → k.flags.getLsbD 2 = false → prefixBad s.m k = none →
    parseConfig op k = .ok x →
    judgeSeal (commandAt op t k s) k.tag 0 [{ tag := k.tag, opcode := op, pkt := k, cmd := x }] none (prefixCfn k) = .ok z →
    ∃ u, exec c s = .next u ∧
      (∃ y ∈ u.m.txn.commits, y.tag = k.tag ∧ y.txn = 0 ∧ y.apply = z.commit.apply ∧ y.jseq = u.m.txn.jseq ∧
        y.cmds = [{ tag := k.tag, opcode := op, pkt := k, cmd := x }]) ∧
      (∃ e ∈ u.m.host.tags, e.tag = k.tag ∧ e.opcode = op ∧ e.crc = k.crc ∧ e.owes = some .commit ∧
        e.reply = some (BitVec.ofNat 16 stPending, commitBlock z.commit.apply)) ∧
      u.m.cfg = s.m.cfg ∧ u.m.fr = s.m.fr ∧ u.m.tb = s.m.tb ∧ u.m.inp = s.m.inp ∧ u.m.comp = s.m.comp ∧ u.m.light = s.m.light ∧
      u.m.hrt = s.m.hrt ∧ u.m.fab = s.m.fab ∧ u.m.maint = s.m.maint ∧ u.hbm = s.hbm ∧ u.flash = s.flash ∧ u.pending = s.pending

/-- A command of class C in a transaction is staged at its end and answered OK; nothing of the configuration or the pending
commits changes (R116). -/
def Obligations.ConfigStaged : Prop :=
  ∀ (c : Instr) (op t : Nat) (k : CmdPkt) (x : ConfigCmd) (y : Txn) (s : State), configRow c = some (op, t, k) →
    takesCommand op t k s → classOk ruleConfig k = true → k.flags.getLsbD 2 = true → s.m.txn.open_.get? k.txn.toNat = some y →
    parseConfig op k = .ok x → y.staged.length < 1024 →
    ∃ u, exec c s = .next u ∧
      u.m.txn.open_.get? k.txn.toNat =
        some { idle := y.idle, lastUse := t, staged := y.staged ++ [{ tag := k.tag, opcode := op, pkt := k, cmd := x }] } ∧
      (∃ e ∈ u.m.host.tags, e.tag = k.tag ∧ e.opcode = op ∧ e.owes = none ∧ e.reply = some (BitVec.ofNat 16 (okStatus s.m), [])) ∧
      u.m.txn.commits = s.m.txn.commits ∧ u.m.cfg = s.m.cfg ∧ u.m.fr = s.m.fr ∧ u.m.tb = s.m.tb ∧ u.m.inp = s.m.inp ∧
      u.m.hrt = s.m.hrt ∧ u.hbm = s.hbm ∧ u.flash = s.flash

/-- Transactions open, abort, seal as one commit, and expire (R116, R117). These forms complete here: txnExpired, txnOpen,
txnSeal, txnAbort. -/
def Obligations.Transactions : Prop :=
  ∀ (t : Nat) (k : CmdPkt) (s : State),
    (takesCommand 0x0101 t k s → classOk ruleTxn k = true → k.params.length = 4 → 1 ≤ leAt k.params 0 4 → leAt k.params 0 4 ≤ 600 →
      k.txn ≠ 0 → s.m.txn.open_.has k.txn.toNat = false → s.m.txn.open_.length < 16 →
      ∃ u, exec (.txnOpen t k) s = .next u ∧
        u.m.txn.open_.get? k.txn.toNat = some { idle := leAt k.params 0 4 * sec, lastUse := t } ∧
        u.m.txn.commits = s.m.txn.commits ∧ u.m.cfg = s.m.cfg ∧ u.hbm = s.hbm ∧ u.flash = s.flash) ∧
    (takesCommand 0x0103 t k s → classOk ruleTxn k = true → k.params = [] → s.m.txn.open_.has k.txn.toNat = true →
      ∃ u, exec (.txnAbort t k) s = .next u ∧ u.m.txn.open_.has k.txn.toNat = false ∧
        u.m.txn.commits = s.m.txn.commits ∧ u.m.cfg = s.m.cfg ∧ u.hbm = s.hbm ∧ u.flash = s.flash) ∧
    (∀ (y : Txn) (gate : Option Gate) (z : Sealing), takesCommand 0x0102 t k s → classOk { ruleTxn with seal_ := true } k = true →
      layout k.params 16 (sealChecks s.m k) (gateOf k.params) = .ok gate → s.m.txn.open_.get? k.txn.toNat = some y →
      y.staged ≠ [] →
      judgeSeal (commandAt 0x0102 t k s) k.tag k.txn y.staged gate
        (if k.flags.getLsbD 1 then some (leAt k.params 0 6) else none) = .ok z →
      ∃ u, exec (.txnSeal t k) s = .next u ∧
        (∃ x ∈ u.m.txn.commits, x.tag = k.tag ∧ x.txn = k.txn ∧ x.cmds = y.staged ∧ x.gate = gate ∧ x.apply = z.commit.apply) ∧
        u.m.txn.open_.has k.txn.toNat = false ∧ u.m.cfg = s.m.cfg ∧ u.hbm = s.hbm ∧ u.flash = s.flash) ∧
    (∀ (id : Nat) (y : Txn), livesAt t s → s.m.hrt.kilnReset = false → s.m.txn.open_.get? id = some y → y.lastUse + y.idle ≤ t →
      ∃ u, exec (.txnExpired t id) s = .next u ∧ u.m.txn.open_.has id = false ∧ u.m.txn.commits = s.m.txn.commits ∧
        u.m.cfg = s.m.cfg ∧ u.m.pair = s.m.pair ∧ u.hbm = s.hbm ∧ u.flash = s.flash)

namespace Sys2Proof.Machine

/-- A change of one register of the upkeep or event group, made at once: the row's opcode and rule, time and packet, the parameter
check, and what the register group then is. -/
structure SetRow where
  op : Nat
  rule : OpRule
  t : Nat
  k : CmdPkt
  fits : Bool
  holds : Part → Part → Prop

/-- The commands that set a parameter at once (Tables 14.15 to 14.17). -/
def setRow : Instr → Option SetRow
  | .pairSet t k => some ⟨0x0A01, ruleMirrored, t, k, (parsePairSet k.params).toBool, fun _ q => q.pair.cfg = pairCfgAt k.params⟩
  | .powerCap t k => some ⟨0x0B07, ruleMaint, t, k, (parsePowerCap k.params).toBool, fun p q => q.pwr = { p.pwr with cap := leAt k.params 0 2 }⟩
  | .wearThresh t k => some ⟨0x0B08, ruleDagger, t, k, (parseWearThresh k.params).toBool,
      fun _ q => q.hrt.thr.slow = byteAt k.params 0 ∧ q.hrt.thr.rows = byteAt k.params 1 ∧ q.hrt.thr.ce = leAt k.params 2 2⟩
  | .uartRate t k => some ⟨0x0B09, ruleMaint, t, k, (layout k.params 4 [below k.params 0 3, zeros k.params 1 3] ()).toBool,
      fun _ q => q.host.newBaud = some (k.tag, [115200, 921600, 3000000].getD (byteAt k.params 0) 115200) ∨
        q.host.baud = [115200, 921600, 3000000].getD (byteAt k.params 0) 115200⟩
  | .watchdog t k => some ⟨0x0B0A, ruleDagger, t, k, (layout k.params 4 [within k.params 0 2 10 1000, zeros k.params 2 2] ()).toBool,
      fun p q => q.hrt = { p.hrt with watchdogMs := leAt k.params 0 2 }⟩
  | .scrubSet t k => some ⟨0x0B0E, ruleDagger, t, k, (layout k.params 4 [within k.params 0 1 1 168, zeros k.params 1 3] ()).toBool,
      fun p q => q.fab = { p.fab with scrubHours := byteAt k.params 0 }⟩
  | .evMask t k => some ⟨0x0C07, ruleOwn, t, k, (layout k.params 96 [] ()).toBool,
      fun _ q => q.ev.mask = BitVec.ofNat 384 (leAt k.params 0 48) ∧ q.ev.ring = BitVec.ofNat 384 (leAt k.params 48 48)⟩
  | .evClear t k => some ⟨0x0C02, ruleOwn, t, k, (layout k.params 48 [] ()).toBool,
      fun p q => p.ev.level = [] → p.perf.freeze = true → q.ev.pend = p.ev.pend &&& ~~~(BitVec.ofNat 384 (leAt k.params 0 48))⟩
  | .cntClear t k => some ⟨0x0C04, ruleOwn, t, k, (counterRange k.params).toBool,
      fun _ q => k.uart = false → ∀ i, i < leAt k.params 6 2 → counter (byteAt k.params 0) (leAt k.params 2 2) (leAt k.params 4 2 + i) q = 0⟩
  | .perfSnapshot t k => some ⟨0x0C05, ruleOwn, t, k, (layout k.params 0 [] ()).toBool, fun p q => q.perf.snapCfn = p.fr.cfn ∧ q.perf.snapTime = t⟩
  | .perfSet t k => some ⟨0x0C08, ruleOwn, t, k, (layout k.params 12 [below k.params 0 10, below k.params 1 8, zeros k.params 2 2,
        (bits (leAt k.params 4 4) 15 13 == 0 && bits (leAt k.params 4 4) 31 24 == 0, 4), (decide (leAt k.params 8 4 < 8), 8)] ()).toBool,
      fun _ q => q.perf.freeze = bit (leAt k.params 8 4) 0 ∧ q.perf.snapFe = bit (leAt k.params 8 4) 2 ∧
        perfSel (byteAt k.params 0) (byteAt k.params 1) q = BitVec.ofNat 32 (leAt k.params 4 4)⟩
  | _ => none

end Sys2Proof.Machine

/-- A command that sets a parameter sets it at once and is answered OK; † commands need maintenance mode unlocked (Table 14.3,
R425). Each form of `setRow` completes here. -/
def Obligations.SettersSet : Prop :=
  ∀ (c : Instr) (r : SetRow) (s : State), setRow c = some r → takesCommand r.op r.t r.k s → classOk r.rule r.k = true →
    (r.rule.cls = .maint true → s.m.maint.unlocked = true) → r.fits = true →
    ∃ u, exec c s = .next u ∧ r.holds s.m u.m ∧
      (∃ e ∈ u.m.host.tags, e.tag = r.k.tag ∧ e.opcode = r.op ∧ e.owes = none ∧ e.reply.map (·.1) = some (BitVec.ofNat 16 (okStatus s.m))) ∧
      u.m.cfg = s.m.cfg ∧ u.m.fr = s.m.fr ∧ u.m.tb = s.m.tb ∧ u.m.inp = s.m.inp ∧ u.m.comp = s.m.comp ∧ u.m.kl = s.m.kl ∧
      u.m.txn.commits = s.m.txn.commits ∧ u.m.maint = s.m.maint ∧ u.hbm = s.hbm ∧ u.flash = s.flash

/-! ### The Kralys link and the tiles -/

namespace Sys2Proof.Machine

/-- What a command of one furrow leaves: the configuration, the canvas, the inputs, the timebase, the pair, the transactions, the
Hearth, the fabric and both byte memories. -/
def furrowKept (s u : State) : Prop :=
  u.m.cfg = s.m.cfg ∧ u.m.inp = s.m.inp ∧ u.m.frc = s.m.frc ∧ u.m.comp = s.m.comp ∧ u.m.fr = s.m.fr ∧ u.m.aud = s.m.aud ∧
  u.m.tb = s.m.tb ∧ u.m.pair = s.m.pair ∧ u.m.txn = s.m.txn ∧ u.m.hrt = s.m.hrt ∧ u.m.fab = s.m.fab ∧ u.m.maint = s.m.maint ∧
  u.hbm = s.hbm ∧ u.flash = s.flash ∧ u.pending = s.pending

/-- Every lane but one stands. -/
def otherLanes (f : Nat) (s u : State) : Prop := ∀ g, g ≠ f → u.m.lane g = s.m.lane g

end Sys2Proof.Machine

/-- Bring-up goes from QUIET to ACQUIRE, ALIGN and POLARITY as the receiver reports; eight training sequences take POLARITY to
PEER, or back to ALIGN with the received bits inverted; a bring-up timer that runs out counts TRAIN_FAIL where Table 7.13 says
so, and goes back; the head sends training sequences of lane 0, width 1, its furrow's rate and its role, READY in PEER (R178,
R197, R198, Table 7.13). These forms complete here: klinkSignalDetect, klinkCdrLock, klinkCommaAlign, klinkTsReceived,
klinkTrainTimeout. -/
def Obligations.LaneBringUp : Prop :=
  ∀ (t f : Nat) (s : State), livesAt t s →
    ((s.m.lane f).state = 1 → ∃ u, exec (.klinkSignalDetect t f) s = .next u ∧
      u.m.lane f = { s.m.lane f with state := 2, since := t } ∧ u.m.out = s.m.out ++ [.training f (headSet s.m f 2)] ∧
      otherLanes f s u ∧ u.m.kl.tiles = s.m.kl.tiles ∧ furrowKept s u) ∧
    ((s.m.lane f).state = 2 → ∃ u, exec (.klinkCdrLock t f) s = .next u ∧
      u.m.lane f = { s.m.lane f with state := 3, since := t } ∧ u.m.out = s.m.out ++ [.training f (headSet s.m f 3)] ∧
      otherLanes f s u ∧ u.m.kl.tiles = s.m.kl.tiles ∧ furrowKept s u) ∧
    ((s.m.lane f).state = 3 → ∃ u, exec (.klinkCommaAlign t f) s = .next u ∧
      u.m.lane f = { s.m.lane f with state := 4, since := t } ∧ u.m.out = s.m.out ++ [.training f (headSet s.m f 4)] ∧
      otherLanes f s u ∧ u.m.kl.tiles = s.m.kl.tiles ∧ furrowKept s u) ∧
    (∀ sets : List TrainSet, (s.m.lane f).state = 4 → lastSets 8 (fun x => !x.inverted) sets = true →
      ∃ u, exec (.klinkTsReceived t f sets) s = .next u ∧ u.m.lane f = { s.m.lane f with state := 6, since := t } ∧
        u.m.out = s.m.out ++ [.training f { inverted := false, lane := 0, width := 1, rate := (s.m.cfg.furrow f).rate + 1,
                                            ready := true, role := if s.m.sys.endB then 1 else 0 }] ∧
        otherLanes f s u ∧ furrowKept s u) ∧
    (∀ sets : List TrainSet, (s.m.lane f).state = 4 → lastSets 8 (fun x => x.inverted) sets = true →
      ∃ u, exec (.klinkTsReceived t f sets) s = .next u ∧
        u.m.lane f = { s.m.lane f with state := 3, since := t, rxInv := !(s.m.lane f).rxInv } ∧ otherLanes f s u ∧ furrowKept s u) ∧
    (∀ d, trainTimer (s.m.lane f).state = some d → (s.m.lane f).since + d ≤ t →
      ∃ u, exec (.klinkTrainTimeout t f) s = .next u ∧
        (u.m.lane f).state = (if (s.m.lane f).state = 3 then 2 else if (s.m.lane f).state = 4 ∨ (s.m.lane f).state = 5 then 3 else 1) ∧
        (u.m.lane f).since = t ∧ ((s.m.lane f).state ≠ 3 → (u.m.lane f).fails = (s.m.lane f).fails + 1) ∧ otherLanes f s u ∧ furrowKept s u)

/-- A lane in UP leaves it for QUIET without signal, for ACQUIRE without clock recovery, for ALIGN when alignment is lost and
for PEER when two training sequences come; each exit is counted and raises the event named for the lane; eight training
sequences with STATE READY take PEER, once eight of its own have gone out, to UP, which raises KLINK_UP (R197, R200, Table
7.14). The first three are link errors of the furrow (R207, R208). These forms complete here: klinkLos, klinkLol,
klinkAlignLost. -/
def Obligations.LaneExits : Prop :=
  ∀ (t f : Nat) (s : State), livesAt t s → f < 128 →
    (∀ sets : List TrainSet, (s.m.lane f).state = 6 → lastSets 8 (fun x => x.ready) sets = true →
      (s.m.lane f).since + 8 * 16 * symbolUnits (s.m.cfg.furrow f) ≤ t →
      ∃ u, exec (.klinkTsReceived t f sets) s = .next u ∧ (u.m.lane f).state = 7 ∧ (u.m.lane f).since = t ∧
        u.m.ev.pend.getLsbD evKlinkUp = true ∧ otherLanes f s u ∧ furrowKept s u) ∧
    (∀ sets : List TrainSet, (s.m.lane f).state = 7 → lastSets 2 (fun _ => true) sets = true →
      ∃ u, exec (.klinkTsReceived t f sets) s = .next u ∧ (u.m.lane f).state = 6 ∧ u.m.ev.pend.getLsbD evKlinkDown = true ∧
        counter blkKlink f 8 u.m = satAdd32 (counter blkKlink f 8 s.m) 1 ∧ otherLanes f s u ∧ furrowKept s u) ∧
    ((s.m.lane f).state = 7 → ∃ u, exec (.klinkLos t f) s = .next u ∧ (u.m.lane f).state = 1 ∧ (u.m.lane f).errAt = some t ∧ (u.m.lane f).enum = none ∧
      u.m.ev.pend.getLsbD evKlinkLos = true ∧ u.m.ev.pend.getLsbD evKlinkDown = true ∧
      counter blkKlink f 5 u.m = satAdd32 (counter blkKlink f 5 s.m) 1 ∧ otherLanes f s u ∧ furrowKept s u) ∧
    ((s.m.lane f).state = 7 → ∃ u, exec (.klinkLol t f) s = .next u ∧ (u.m.lane f).state = 2 ∧ (u.m.lane f).errAt = some t ∧ (u.m.lane f).enum = none ∧
      u.m.ev.pend.getLsbD evKlinkLol = true ∧ u.m.ev.pend.getLsbD evKlinkDown = true ∧
      counter blkKlink f 6 u.m = satAdd32 (counter blkKlink f 6 s.m) 1 ∧ otherLanes f s u ∧ furrowKept s u) ∧
    ((s.m.lane f).state = 7 → ∃ u, exec (.klinkAlignLost t f) s = .next u ∧ (u.m.lane f).state = 3 ∧ (u.m.lane f).errAt = some t ∧ (u.m.lane f).enum = none ∧
      u.m.ev.pend.getLsbD evKlinkAlignLost = true ∧ u.m.ev.pend.getLsbD evKlinkDown = true ∧
      counter blkKlink f 7 u.m = satAdd32 (counter blkKlink f 7 s.m) 1 ∧ otherLanes f s u ∧ furrowKept s u)

/-- A discarded packet is counted, and so is a symbol error on any lane that has symbol alignment; a CRC failure and a symbol
error are link errors; a packet from the ring is counted and marks the furrow FOLDED or CLOSED for the frame (R181, R207,
R208). These forms complete here: foreignPacket, klinkPacketDiscarded, klinkSymbolError. -/
def Obligations.LinkErrors : Prop :=
  (∀ (t f : Nat) (s : State), livesAt t s → f < 128 → 4 ≤ (s.m.lane f).state →
    ∃ u, exec (.klinkSymbolError t f) s = .next u ∧ counter blkKlink f 0 u.m = satAdd32 (counter blkKlink f 0 s.m) 1 ∧
      u.m.lane f = { s.m.lane f with errAt := some t } ∧ u.m.kl.links = s.m.kl.links ∧ u.m.kl.tiles = s.m.kl.tiles ∧
      otherLanes f s u ∧ furrowKept s u) ∧
  ∀ (t f : Nat) (s : State), livesAt t s → f < 128 → (s.m.lane f).state = 7 →
    (∀ crc : Bool, ∃ u, exec (.klinkPacketDiscarded t f crc) s = .next u ∧
      counter blkKlink f (if crc then 2 else 1) u.m = satAdd32 (counter blkKlink f (if crc then 2 else 1) s.m) 1 ∧
      u.m.lane f = (if crc then { s.m.lane f with errAt := some t } else s.m.lane f) ∧
      u.m.kl.links = s.m.kl.links ∧ u.m.kl.tiles = s.m.kl.tiles ∧ otherLanes f s u ∧ furrowKept s u) ∧
    (∀ (h : UpHeader) (isSow : Bool), hopBad h = false → ∃ u, exec (.foreignPacket t f h isSow) s = .next u ∧
      counter blkKlink f 4 u.m = satAdd32 (counter blkKlink f 4 s.m) 1 ∧
      u.m.lane f = { s.m.lane f with
        foldedCfn := if h.endB = s.m.sys.endB then some s.m.fr.cfn else (s.m.lane f).foldedCfn
        closedCfn := if h.endB ≠ s.m.sys.endB ∧ isSow = true then some s.m.fr.cfn else (s.m.lane f).closedCfn } ∧
      u.m.kl.links = s.m.kl.links ∧ u.m.kl.tiles = s.m.kl.tiles ∧ otherLanes f s u ∧ furrowKept s u)

/-- A balk opener, sent outside the time between SOW and status run, allows one CTRL; a sendable CTRL goes out under the
tile's next SEQ and is outstanding until its answer retires it; an unanswered one is sent again when its replay timer runs
out, at the eighth expiry it is given up, with CTRL_UNREACHABLE (R186, R201, R203, R204). These forms complete here:
balkOpenerSend, ctrlSend, ackReceived, ctrlReplyReceived, replayTimeout. -/
def Obligations.ControlDelivered : Prop :=
  ∀ (t f : Nat) (s : State), livesAt t s → f < 128 → (s.m.lane f).state = 7 →
    ((s.m.lane f).runDue = false → ∃ u, exec (.balkOpenerSend t f) s = .next u ∧ u.m.lane f = { s.m.lane f with ackSlot := true } ∧
      u.m.out = s.m.out ++ [.balk f] ∧ u.m.kl.links = s.m.kl.links ∧ u.m.kl.tiles = s.m.kl.tiles ∧ otherLanes f s u ∧ furrowKept s u) ∧
    (∀ (c : Ctrl) (rest : List Ctrl), sendable s.m f = some c → (s.m.lane f).queue = c :: rest → (s.m.lane f).backlog = [] →
      (s.m.lane f).resend = [] →
      ∃ u, exec (.ctrlSend t f) s = .next u ∧ (u.m.lane f).queue = rest ∧ (u.m.lane f).ackSlot = false ∧
        (u.m.link f c.key).nextSeq = ((s.m.link f c.key).nextSeq + 1) % 4096 ∧ (u.m.link f c.key).resync = false ∧
        (u.m.link f c.key).outst = (s.m.link f c.key).outst ++
          [{ c with seq := (s.m.link f c.key).nextSeq, resync := (s.m.link f c.key).resync }] ∧
        .ctrl f { c with seq := (s.m.link f c.key).nextSeq, resync := (s.m.link f c.key).resync } ∈ u.m.out ∧
        u.m.kl.tiles = s.m.kl.tiles ∧ otherLanes f s u ∧ furrowKept s u) ∧
    (∀ (h : UpHeader) (next : Half) (c : Ctrl) (key : Nat), hopBad h = false → next.getLsbD 15 = false →
      answerKey s.m f h = some key → (s.m.lane f).dropped = [] → (s.m.link f key).outst = [c] → c.reply = false → c.why = .clear →
      (next.toNat % 4096 + 4096 - c.seq) % 4096 = 1 →
      ∃ u, exec (.ackReceived t f h next) s = .next u ∧
        u.m.link f key = { s.m.link f key with outst := [], expiries := 0, timer := none } ∧ u.m.lane f = s.m.lane f ∧
        u.m.kl.tiles = s.m.kl.tiles ∧ otherLanes f s u ∧ furrowKept s u) ∧
    (∀ (h : UpHeader) (r : CtrlReply) (c : Ctrl) (e : TileEntry) (key : Nat), hopBad h = false → r.next.getLsbD 15 = false →
      answerKey s.m f h = some key → (s.m.lane f).dropped = [] → (s.m.link f key).outst = [c] → c.reply = true →
      c.why = .powerQuery → c.key = key → (s.m.lane f).enum = none → (s.m.lane f).pwrUnc = false →
      (s.m.cfg.furrow f).map.get? key = some e → byteAt r.data 0 = e.level → (r.next.toNat % 4096 + 4096 - c.seq) % 4096 = 1 →
      ∃ u, exec (.ctrlReplyReceived t f h r) s = .next u ∧
        u.m.link f key = { s.m.link f key with outst := [], expiries := 0, timer := none } ∧
        key ∈ (u.m.lane f).queried ∧ u.m.tile f key = { s.m.tile f key with reported := some e.level } ∧
        otherLanes f s u ∧ furrowKept s u) ∧
    (∀ (key d : Nat) (c : Ctrl), (s.m.link f key).outst = [c] → (s.m.link f key).timer = some d → d ≤ t →
      (s.m.link f key).expiries + 1 < 8 → laneSends s.m f = true → (s.m.lane f).ackSlot = true → (s.m.lane f).resend = [] →
      ∃ u, exec (.replayTimeout t f key) s = .next u ∧
        (u.m.link f key).expiries = (s.m.link f key).expiries + 1 ∧ (u.m.link f key).outst = [c] ∧
        (u.m.link f key).timer = some (t + replayTime (s.m.link f key)) ∧ u.m.out = s.m.out ++ [.ctrl f c] ∧
        u.m.lane f = { s.m.lane f with ackSlot := false } ∧
        counter blkKlink f 12 u.m = satAdd32 (counter blkKlink f 12 s.m) 1 ∧
        counter blkKlink f 13 u.m = satAdd32 (counter blkKlink f 13 s.m) 1 ∧
        u.m.kl.tiles = s.m.kl.tiles ∧ otherLanes f s u ∧ furrowKept s u) ∧
    (∀ (key d : Nat) (c : Ctrl), (s.m.link f key).outst = [c] → (s.m.link f key).timer = some d → d ≤ t →
      (s.m.link f key).expiries = 7 → c.why = .clear → (s.m.lane f).enum = none →
      ∃ u, exec (.replayTimeout t f key) s = .next u ∧ (u.m.link f key).outst = [] ∧ (u.m.link f key).resync = true ∧
        (u.m.link f key).timer = none ∧ u.m.ev.pend.getLsbD evCtrlUnreachable = true ∧
        counter blkKlink f 13 u.m = satAdd32 (counter blkKlink f 13 s.m) 1 ∧
        u.m.kl.tiles = s.m.kl.tiles ∧ otherLanes f s u ∧ furrowKept s u)

/-- The status run opens a balk per position and waits for every STATUS; a STATUS marks its tile heard and on time or late; an
alarm is acknowledged, and raised once per ASEQ; a tile missing from three runs is silent; a tile whose supply state does not
follow in 40 ms is stuck; one that sends no temperature for the timeout has T_a unknown (R164, R205, R218, R223, R224, R231).
These forms complete here: tempUnknown, statusRun, tileStatusReceived, alarmReceived, tileLost, tilePowerStuck. -/
def Obligations.TilesReport : Prop :=
  ∀ (t f pos : Nat) (s : State), livesAt t s → f < 128 → (s.m.lane f).state = 7 →
    ((s.m.lane f).faulted = false → s.m.fr.started = true → s.m.pair.role ≠ .yielding →
      ∃ u, exec (.statusRun t f) s = .next u ∧ (u.m.lane f).statusRun = true ∧
        (∀ k ∈ (s.m.cfg.furrow f).map.keys, (u.m.tile f k).got = false) ∧ otherLanes f s u ∧ furrowKept s u) ∧
    (∀ (h : UpHeader) (x : TileStatus), h.addr = pos → hopBad h = false → h.endB = s.m.sys.endB →
      (s.m.cfg.furrow f).map.has pos = true → (s.m.tile f pos).silent = false →
      ∃ u, exec (.tileStatusReceived t f h x) s = .next u ∧ (u.m.tile f pos).got = true ∧ (u.m.tile f pos).missed = 0 ∧
        (u.m.tile f pos).status = some x ∧
        (u.m.tile f pos).late = ((s.m.tile f pos).inService && (!onTime s.m.fr.cfn x.latched || x.flags.getLsbD 0)) ∧
        (∀ k, k ≠ pos → u.m.tile f k = s.m.tile f k) ∧ otherLanes f s u ∧ furrowKept s u) ∧
    (∀ (h : UpHeader) (a : Alarm), h.addr = pos → pos ≠ 0 → hopBad h = false → a.code ≠ 1 → s.m.pair.role ≠ .yielding →
      a.aseq ∉ (s.m.link f pos).acked →
      ∃ u, exec (.alarmReceived t f h a) s = .next u ∧ a.aseq ∈ (u.m.link f pos).acked ∧
        .linkAck f pos none a.aseq ∈ u.m.out ∧ u.m.ev.pend.getLsbD evTileAlarm = true ∧ u.m.ev.pend.getLsbD (160 + f) = true ∧
        u.m.lane f = s.m.lane f ∧ u.m.kl.tiles = s.m.kl.tiles ∧ otherLanes f s u ∧ furrowKept s u) ∧
    (∀ (h : UpHeader) (a : Alarm), h.addr = 0 → hopBad h = false → s.m.pair.role ≠ .yielding →
      a.aseq ∈ (s.m.link f (keyAtHop s.m f h.hop.toNat)).acked →
      ∃ u, exec (.alarmReceived t f h a) s = .next u ∧ u.m.out = s.m.out ++ [.linkAck f 0 (some h.hop.toNat) a.aseq] ∧
        u.m.ev = s.m.ev ∧ u.m.kl = s.m.kl ∧ furrowKept s u) ∧
    ((s.m.tile f pos).inService = true → (s.m.tile f pos).silent = false → 3 ≤ (s.m.tile f pos).missed → powerRisk s.m f pos = false →
      ∃ u, exec (.tileLost t f pos) s = .next u ∧ u.m.tile f pos = { s.m.tile f pos with silent := true } ∧
        u.m.ev.pend.getLsbD evTileLost = true ∧ u.m.lane f = s.m.lane f ∧ otherLanes f s u ∧ furrowKept s u) ∧
    (∀ d, stepping (s.m.tile f pos) = true → (s.m.tile f pos).targetSeen = false → (s.m.tile f pos).supplyDue = some d → d ≤ t →
      ∃ u, exec (.tilePowerStuck t f pos) s = .next u ∧ u.m.tile f pos = { s.m.tile f pos with supplyDue := none } ∧
        u.m.ev.pend.getLsbD evTilePowerStuck = true ∧ u.m.kl.lanes = s.m.kl.lanes ∧ furrowKept s u) ∧
    ((s.m.cfg.furrow f).map.has pos = true → (s.m.tile f pos).inService = true → (s.m.tile f pos).unkRaised = false →
      (s.m.tile f pos).lastTemp + s.m.cfg.light.timeout ≤ s.m.fr.cfn →
      ∃ u, exec (.tempUnknown t f pos) s = .next u ∧ u.m.tile f pos = { s.m.tile f pos with ta := none, unkRaised := true } ∧
        u.m.ev.pend.getLsbD evTempUnknown = true ∧ u.m.kl.lanes = s.m.kl.lanes ∧ furrowKept s u)

/-! ### Inputs -/

namespace Sys2Proof.Machine

/-- What a command of an input leaves: all but the inputs, the converters, the events, the log and the counters. -/
def beyondInputs (s u : State) : Prop :=
  u.m.cfg = s.m.cfg ∧ u.m.txn = s.m.txn ∧ u.m.comp = s.m.comp ∧ u.m.fr = s.m.fr ∧ u.m.light = s.m.light ∧ u.m.kl = s.m.kl ∧
  u.m.aud = s.m.aud ∧ u.m.tb = s.m.tb ∧ u.m.pair = s.m.pair ∧ u.m.hrt = s.m.hrt ∧ u.m.fab = s.m.fab ∧ u.m.pwr = s.m.pwr ∧
  u.m.maint = s.m.maint ∧ u.m.host = s.m.host ∧ u.hbm = s.hbm ∧ u.flash = s.flash ∧ u.pending = s.pending

/-- Every stream but one stands. -/
def otherStreams (n : Nat) (s u : State) : Prop := ∀ k, k ≠ n → u.m.stream k = s.m.stream k

end Sys2Proof.Machine

/-- An input frame is written into the slot that the write rule picks; when its last line is stored the slot holds its picture
under the next SEQ, complete or INCOMPLETE, with the tag of its fence packet; the other slots stand. Four links past the bound
of their skew lose the stream. A fence packet is one of the DID, SDID and length that FENCE_ANC names; on ST 2110 it comes in
the flow bound to the stream (R38, R53, R55, R56, R58 to R60, R64). These forms complete here: inputFrameStart, frameStored,
fenceMemberLost, fencePacket. -/
def Obligations.FramesStored : Prop :=
  ∀ (t n : Nat) (s : State), livesAt t s → (s.m.cfg.stream n).bound = true →
    (∀ lines : Option InFrame, receives s.m = true → ∃ u, exec (.inputFrameStart t n lines) s = .next u ∧ (u.m.stream n).writing = pickSlot s.m n ∧
      (u.m.stream n).writeStart = t ∧ (u.m.stream n).fences = (if isIp (s.m.cfg.stream n).bind then (s.m.stream n).fences else []) ∧
      (u.m.stream n).slots = (s.m.stream n).slots ∧ (u.m.stream n).choice = (s.m.stream n).choice ∧
      otherStreams n s u ∧ u.m.frc = s.m.frc ∧ beyondInputs s u) ∧
    (∀ (frame : InFrame) (fmt : VideoFormat) (k : Nat), receives s.m = true → s.m.format n = some fmt → samePicture frame.fmt fmt = true →
      (s.m.stream n).writing = some k →
      ∃ u x, exec (.frameStored t n frame) s = .next u ∧ (u.m.stream n).slots.get? k = some x ∧
        x.seq = (s.m.stream n).nextSeq ∧ x.complete = frame.complete ∧ x.incomplete = (!frame.complete) ∧ x.storedAt = t ∧
        x.cfn = s.m.fr.cfn ∧
        x.tagged = (frameFence (s.m.cfg.stream n) (s.m.stream n) frame.rtp).isSome ∧
        (x.tagged = true → frameFence (s.m.cfg.stream n) (s.m.stream n) frame.rtp = some (x.tag, x.group)) ∧
        x.data = packSlot (s.m.cfg.stream n).par.compressed (decodedPixels s.m n frame) frame.fmt.width frame.fmt.height ∧
        (skewOk (s.m.cfg.stream n) frame = false → (u.m.stream n).cause = some .quadSkew) ∧
        (u.m.stream n).nextSeq = (s.m.stream n).nextSeq + 1 ∧ (u.m.stream n).writing = none ∧
        (∀ j, j ≠ k → (u.m.stream n).slots.get? j = (s.m.stream n).slots.get? j) ∧ otherStreams n s u ∧ beyondInputs s u) ∧
    (∀ pkt : FencePkt, receives s.m = true → isFence s.m.cfg pkt = true →
      (isIp (s.m.cfg.stream n).bind = true → s.m.cfg.ancFlows.has n = true) →
      fenceValid (s.m.cfg.stream n).par.fenceGroup pkt = true → (s.m.cfg.stream n).par.fenceGroup ≠ 0 →
      frameBehind (s.m.cfg.stream n) (s.m.stream n) pkt = none → fenceSpare (s.m.cfg.stream n) (s.m.stream n) pkt = false →
      ∃ u, exec (.fencePacket t n pkt) s = .next u ∧
        (u.m.stream n).fences = (s.m.stream n).fences ++
          [(pkt.rtp, BitVec.ofNat 32 (leAt pkt.udw 4 4), (s.m.cfg.stream n).par.fenceGroup)] ∧
        (u.m.stream n).slots = (s.m.stream n).slots ∧ otherStreams n s u ∧ u.m.frc = s.m.frc ∧ beyondInputs s u) ∧
    (∀ (pkt : FencePkt) (e : Nat × Slot), receives s.m = true → isFence s.m.cfg pkt = true → s.m.cfg.ancFlows.has n = true →
      fenceValid (s.m.cfg.stream n).par.fenceGroup pkt = true →
      (s.m.cfg.stream n).par.fenceGroup ≠ 0 → frameBehind (s.m.cfg.stream n) (s.m.stream n) pkt = some e →
      e.2.tagged = false → t ≤ e.2.storedAt + 2 * msec →
      ∃ u x, exec (.fencePacket t n pkt) s = .next u ∧ (u.m.stream n).slots.get? e.1 = some x ∧
        x = { e.2 with tag := BitVec.ofNat 32 (leAt pkt.udw 4 4), group := (s.m.cfg.stream n).par.fenceGroup, tagged := true } ∧
        otherStreams n s u ∧ u.m.frc = s.m.frc ∧ beyondInputs s u) ∧
    (∀ pkt : FencePkt, isFence s.m.cfg pkt = false → ∃ u, exec (.fencePacket t n pkt) s = .next u ∧ u.m.cnt = s.m.cnt ∧
      u.m.inp = s.m.inp ∧ u.m.frc = s.m.frc ∧ beyondInputs s u) ∧
    (∀ pkt : FencePkt, receives s.m = true → isFence s.m.cfg pkt = true →
      (isIp (s.m.cfg.stream n).bind = true → s.m.cfg.ancFlows.has n = true) →
      fenceValid (s.m.cfg.stream n).par.fenceGroup pkt = false → (s.m.cfg.stream n).par.fenceGroup ≠ 0 →
      ∃ u, exec (.fencePacket t n pkt) s = .next u ∧ counter blkIngest n 3 u.m = satAdd32 (counter blkIngest n 3 s.m) 1 ∧
        u.m.inp = s.m.inp ∧ u.m.frc = s.m.frc ∧ beyondInputs s u) ∧
    ((s.m.cfg.stream n).par.fenceGroup ≠ 0 → (s.m.stream n).unfenced = false →
      2 * s.m.cfg.groups.getD (s.m.cfg.stream n).par.fenceGroup 3 ≤ (s.m.stream n).untagged →
      ∃ u, exec (.fenceMemberLost t n) s = .next u ∧ u.m.stream n = { s.m.stream n with unfenced := true, rejoin := none } ∧
        u.m.ev.pend.getLsbD evFenceMemberLost = true ∧ otherStreams n s u ∧ u.m.frc = s.m.frc ∧ beyondInputs s u)

/-- A stream's ST 352 identification is kept, on the port and in the stream; a detected format that the links carry and that
is the one declared is taken; a loss condition is due for the next frame event; a lost stream that holds goes to its fallback
after its hold time; with its return count of complete frames its return is due, and the next frame event returns it (R35,
R38, R39, R65 to R67). That a loss waits for the frame event is log entry 26's reading. These forms complete here:
st352Received, formatDetected, streamLost, streamRestored, holdTimeExpiry. -/
def Obligations.StreamsIdentified : Prop :=
  ∀ (t n : Nat) (s : State), livesAt t s →
    (∀ (input : Nat) (id : PayloadId), receives s.m = true → laneWorks s.m (148 + input) = true → streamOfInput s.m input = none →
      ∃ u, exec (.st352Received t input id) s = .next u ∧ (u.m.inp.sdi.getD input {}).st352 = some id.bytes ∧
        u.m.inp.streams = s.m.inp.streams ∧ u.m.frc = s.m.frc ∧ beyondInputs s u) ∧
    (∀ (input : Nat) (id : PayloadId), receives s.m = true → laneWorks s.m (148 + input) = true → streamOfInput s.m input = some n →
      (s.m.cfg.stream n).bind.inputs = [input] → payloadDiffers (s.m.cfg.stream n) id = false →
      (s.m.cfg.stream n).par.fmt ≠ VideoFormat.auto →
      ∃ u, exec (.st352Received t input id) s = .next u ∧ (u.m.inp.sdi.getD input {}).st352 = some id.bytes ∧
        (u.m.stream n).id = some (streamId id) ∧ (u.m.stream n).mismatch = false ∧ (u.m.stream n).lossDue = (s.m.stream n).lossDue ∧
        (u.m.stream n).slots = (s.m.stream n).slots ∧ otherStreams n s u ∧ u.m.frc = s.m.frc ∧ beyondInputs s u) ∧
    (∀ (first links tail : Nat) (fmt : VideoFormat), receives s.m = true → (s.m.cfg.stream n).bind = .sdi first links tail →
      ((s.m.cfg.stream n).bind.inputs.all fun i => laneWorks s.m (148 + i)) = true → sdiFormatOk links fmt = true →
      (s.m.cfg.stream n).par.fmt = fmt → fmt ≠ VideoFormat.auto →
      ∃ u, exec (.formatDetected t n fmt) s = .next u ∧ (u.m.stream n).det = some fmt ∧
        (u.m.stream n).lossDue = (s.m.stream n).lossDue ∧ (u.m.stream n).slots = (s.m.stream n).slots ∧
        otherStreams n s u ∧ u.m.frc = s.m.frc ∧ beyondInputs s u) ∧
    (∀ cause : LossCause, (s.m.cfg.stream n).bound = true → lossHolds n cause (advance t s.m) = true → (s.m.stream n).lost = false →
      ∃ u, exec (.streamLost t n cause) s = .next u ∧ (u.m.stream n).lossDue = some cause ∧ (u.m.stream n).cause = some cause ∧
        (u.m.stream n).lost = false ∧ (u.m.stream n).slots = (s.m.stream n).slots ∧ otherStreams n s u ∧ u.m.frc = s.m.frc ∧
        beyondInputs s u) ∧
    ((s.m.stream n).lost = true → (s.m.cfg.stream n).par.lossAction = 0 →
      (s.m.stream n).lostSince + (s.m.cfg.stream n).par.holdMs * msec ≤ t →
      ∃ u, exec (.holdTimeExpiry t n) s = .next u ∧ u.m.stream n = { s.m.stream n with fallbackOn := true } ∧
        otherStreams n s u ∧ u.m.frc = s.m.frc ∧ beyondInputs s u) ∧
    ((s.m.stream n).lost = true → (s.m.cfg.stream n).par.returnCount ≤ (s.m.stream n).returnRun →
      ∃ u, exec (.streamRestored t n) s = .next u ∧ u.m.stream n = { s.m.stream n with returnDue := true } ∧
        otherStreams n s u ∧ u.m.frc = s.m.frc ∧ beyondInputs s u) ∧
    ((s.m.stream n).lost = true → (s.m.stream n).returnDue = true →
      ((returnStep s.m n).stream n).lost = false ∧ ((returnStep s.m n).stream n).fallbackOn = false ∧
      ((returnStep s.m n).stream n).cause = none ∧ ((returnStep s.m n).stream n).slots = (s.m.stream n).slots ∧
      (returnStep s.m n).ev.pend.getLsbD evStreamRestored = true ∧ ∀ k, k ≠ n → (returnStep s.m n).stream k = s.m.stream k)

/-- The first copy of an RTP packet of the frame being received is placed and a second copy is not; a protected leg that is
silent for three frame periods is lost; the port answers requests for its own addresses and reports its flows; PTP follows the
best master's Sync; a link is down or up as its port says; a pair's vector field is taken (R43, R45, R47, R49, R50, R80).
These forms complete here: rtpPacketReceived, legLost, networkRequest, membershipQuery, ptpMessage, vectorEstimateDone,
ethLinkDown, ethLinkUp. -/
def Obligations.NetworkInputs : Prop :=
  ∀ (t n : Nat) (s : State), livesAt t s →
    (∀ (b : IpBind) (k : RtpPacket) (r : RtpFrame) (e : Nat × Nat × Nat), receives s.m = true → (s.m.cfg.stream n).bind = .ip b →
      ((s.m.stream n).rtpSeen.find? fun e => e.1 == k.seq) = some e → t ≤ e.2.2 + (s.m.cfg.stream n).par.seamless * (msec / 10) →
      (s.m.stream n).rtp = [r] → r.ts = k.ts → r.last = none → r.ended = [] → r.endedAt = none → k.marker = false →
      ∃ u, exec (.rtpPacketReceived t n 0 k) s = .next u ∧ (u.m.stream n).lastPkt = t ∧ (u.m.stream n).rtp = [r] ∧
        (u.m.stream n).slots = (s.m.stream n).slots ∧ u.m.cnt = s.m.cnt ∧
        otherStreams n s u ∧ u.m.frc = s.m.frc ∧ beyondInputs s u) ∧
    (∀ (b : IpBind) (k : RtpPacket) (r : RtpFrame) (slot : Nat), receives s.m = true → (s.m.cfg.stream n).bind = .ip b →
      ((s.m.stream n).rtpSeen.find? fun e => e.1 == k.seq) = none → (s.m.stream n).rtp = [r] → r.ts = k.ts → r.last = none →
      r.ended = [] → r.endedAt = none → (s.m.stream n).writing = some slot → rtpOver (s.m.stream n) k = false →
      k.fits = true → k.marker = false →
      ∃ u, exec (.rtpPacketReceived t n 0 k) s = .next u ∧ (u.m.stream n).lastPkt = t ∧
        (u.m.stream n).rtp = [{ r with got := r.got ++ [k.seq], pix := r.pix ++ [(k.line, k.offset, k.c0, k.c1, k.c2)] }] ∧
        (u.m.stream n).slots = (s.m.stream n).slots ∧ otherStreams n s u ∧ u.m.frc = s.m.frc ∧ beyondInputs s u) ∧
    (∀ (b : IpBind) (leg : Nat), (s.m.cfg.stream n).bind = .ip b → b.protect = true → (s.m.stream n).legLost.getD leg true = false →
      (s.m.stream n).legLast.getD leg 0 + 3 * formatPeriod b.fmt ≤ t →
      ∃ u, exec (.legLost t n leg) s = .next u ∧
        u.m.stream n = { s.m.stream n with legLost := (s.m.stream n).legLost.set leg true } ∧
        u.m.ev.pend.getLsbD evLegLost = true ∧ otherStreams n s u ∧ u.m.frc = s.m.frc ∧ beyondInputs s u) ∧
    (∀ (port : Nat) (a : List Byte), receives s.m = true → (s.m.inp.eth.getD port {}).link = true → ownAddress (s.m.cfg.eth.getD port {}) a = true →
      a.length = 4 → ∃ u, exec (.networkRequest t port (.arp a)) s = .next u ∧ u.m.out = s.m.out ++ [.netReply port (.arp a)] ∧
        u.m.inp = s.m.inp ∧ u.m.frc = s.m.frc ∧ beyondInputs s u) ∧
    (∀ (port : Nat) (v6 : Bool), receives s.m = true → ∃ u, exec (.membershipQuery t port v6) s = .next u ∧
      u.m.out = s.m.out ++ (s.m.cfg.legs.filter fun l => l.2.1 == port && l.2.2.1 == b2n v6).map
        (fun l => .membership port l.1 v6 true l.2.2.2.1 l.2.2.2.2) ∧
      u.m.inp = s.m.inp ∧ u.m.frc = s.m.frc ∧ beyondInputs s u) ∧
    (∀ (port : Nat) (gm : DWord) (origin received : Int), receives s.m = true → port = ptpPort s.m → gm = s.m.inp.ptp.gm → s.m.inp.ptp.rank ≠ none →
      t ≤ s.m.inp.ptp.heardTo → ∃ u, exec (.ptpMessage t port (.sync s.m.cfg.ptp.domain gm false origin received)) s = .next u ∧
        u.m.inp.ptp.offset = received / 4 * 4 - origin - s.m.inp.ptp.delay ∧ u.m.inp.ptp.lastAt = t ∧
        u.m.out = s.m.out ++ [.delayReq (ptpPort s.m)] ∧ u.m.inp.streams = s.m.inp.streams ∧ u.m.frc = s.m.frc ∧ beyondInputs s u) ∧
    (∀ port : Nat, (s.m.inp.eth.getD port {}).link = true → ∃ u, exec (.ethLinkDown t port) s = .next u ∧
      u.m.inp.eth.getD port {} = { s.m.inp.eth.getD port {} with link := false } ∧ u.m.ev.pend.getLsbD evEthLinkDown = true ∧
      u.m.inp.streams = s.m.inp.streams ∧ u.m.frc = s.m.frc ∧ beyondInputs s u) ∧
    (∀ port : Nat, (s.m.inp.eth.getD port {}).link = false → ((List.range 4).all fun i => laneWorks s.m (128 + 4 * port + i)) = true →
      ∃ u, exec (.ethLinkUp t port) s = .next u ∧
        u.m.inp.eth.getD port {} = { s.m.inp.eth.getD port {} with link := true } ∧ u.m.ev.pend.getLsbD evEthLinkUp = true ∧
        u.m.inp.streams = s.m.inp.streams ∧ u.m.frc = s.m.frc ∧ beyondInputs s u) ∧
    (∀ (conv seqB : Nat) (blocks : List VecBlock) (x : Unique),
      ((s.m.conv conv).uniq.find? fun u => u.seq == BitVec.ofNat 32 seqB && u.vecs.isNone && !u.shed) = some x →
      (s.m.cfg.conv conv).mode ≠ 0 → frcShed s.m = false → vectorsFit ((s.m.cfg.conv conv).stream.bind s.m.format) blocks = true →
      ∃ u, exec (.vectorEstimateDone t conv seqB blocks) s = .next u ∧
        (∀ v ∈ (u.m.conv conv).uniq, v.seq = x.seq → v.vecs = some blocks) ∧ (u.m.conv conv).started = true ∧
        (∀ k, k ≠ conv → u.m.conv k = s.m.conv k) ∧ u.m.inp = s.m.inp ∧ beyondInputs s u)

/-! ### The frame event and the canvas -/

/-- The frame event brings the next CFN at the instant the raster gives it; every commit whose apply CFN has come and that no
gate holds is applied with it, so that none stays pending; of the HBM it writes only ledger updates of the frame that ends.
With the pixel domain gated there is no frame event (R18, R20, R21, R23, R125, R161). This form completes here: frameEvent. -/
def Obligations.FrameEvents : Prop :=
  ∀ (gpio : BitVec 16) (s : State),
    (rasterRuns s.m = true → ∃ u, exec (.frameEvent gpio) s = .next u ∧ u.m.fr.cfn = nextCfn s.m ∧
      u.m.fr.lastFe = feInstant s.m (nextCfn s.m) ∧ (∀ x ∈ u.m.txn.commits, x.gate = none → nextCfn s.m < x.apply) ∧
      (s.m.light.due = [] → u.hbm = s.hbm) ∧ u.flash = s.flash ∧ u.pending = s.pending) ∧
    (rasterRuns s.m = false → exec (.frameEvent gpio) s = .next s)

/-- A band composed is the picture of its lines in the frame's buffer, with its plot checksums; it is composed once a frame,
and nothing else of the HBM changes where no scan window is open and no pair link is up: scan-out follows composition in the
window, and the pair's shadow check of the band stands beside it. In low-latency mode a band waits for its input lines, or for
the lead falling behind (R24, R30, R31, R132, R133). This form completes here: bandComposed. -/
def Obligations.BandsComposed : Prop :=
  (∀ (t b : Nat) (behind : Bool) (s : State), bandOpen b behind (advance t s.m) = true →
    ∃ u, exec (.bandComposed t b behind) s = .next u ∧ u.m.comp.done = b :: s.m.comp.done ∧ u.m.cfg = s.m.cfg ∧ u.m.inp = s.m.inp ∧
      u.flash = s.flash ∧ u.pending = s.pending) ∧
  ∀ (t b : Nat) (s : State), anyLinkUp s.m = false → s.m.light.opened = false → (∀ e ∈ s.m.kl.lanes, e.2.scan = []) →
    (bandOpen b false (advance t s.m) = true → ∃ u, exec (.bandComposed t b false) s = .next u ∧ u.m.comp.done = b :: s.m.comp.done ∧
      u.hbm = writeBand s.m.fr.cfn b 0 (bandPixels (advance t s.m) s.hbm s.m.fr.cfn b) s.hbm ∧
      u.m.comp.plots.get? b = some (plotSums s.m.cfg.canvas (bandPixels (advance t s.m) s.hbm s.m.fr.cfn b)) ∧
      u.m.cfg = s.m.cfg ∧ u.m.txn = s.m.txn ∧ u.m.inp = s.m.inp ∧ u.m.fr = s.m.fr ∧ u.m.kl = s.m.kl ∧ u.m.tb = s.m.tb ∧
      u.m.hrt = s.m.hrt ∧ u.m.fab = s.m.fab ∧ u.flash = s.flash ∧ u.pending = s.pending) ∧
    (s.m.comp.lowlat = true → s.m.comp.behind = false → bandOpen b true (advance t s.m) = true →
      ∃ u, exec (.bandComposed t b true) s = .next u ∧
      u.m.comp.done = b :: s.m.comp.done ∧ u.m.comp.behind = true ∧ u.m.ev.pend.getLsbD evLowlatBehind = true ∧
      u.m.cfg = s.m.cfg ∧ u.m.txn = s.m.txn ∧ u.m.inp = s.m.inp ∧ u.m.fr = s.m.fr ∧ u.m.kl = s.m.kl ∧ u.flash = s.flash) ∧
    (s.m.comp.lowlat = true → s.m.comp.behind = false → linesThere s.m b = false → s.m.alive = true →
      exec (.bandComposed t b false) s = .next { s with m := advance t s.m }) ∧
    (∀ (c : Bool) (w : State), s.m.alive = true → w = { s with m := s.m.updComp fun x => { x with done := b :: x.done } } →
      exec (.bandComposed t b c) w = .next { w with m := advance t w.m })

/-- The scan window opens once a frame, when the lead has run and before its close, and every generator then sends its tiles'
lines unless the frame is a step frame; at its close what a generator has not reached goes out as HOLD, the furrow counts
SCAN_LATE, and nothing is left; with the frame's last slice each feeder's estimate is complete (R25, R27, R172). These forms
complete here: scanWindowOpen, scanWindowClose, feederEstimateDone. -/
def Obligations.ScanWindow : Prop :=
  ∀ (t : Nat) (s : State), livesAt t s →
    (∀ short, s.m.fr.started = true → s.m.fr.first = false → s.m.tb.rootLock = true → s.m.light.opened = false →
      s.m.fr.lastFe + s.m.cfg.canvas.scanLead * usec ≤ t → t < scanCloseAt s.m →
      ∃ u, exec (.scanWindowOpen t short) s = .next u ∧ u.m.light.opened = true ∧
        (s.m.fr.stepFrame = false → u.m.light.scanned = true) ∧ (s.m.light.due = [] → u.hbm = s.hbm ∧ u.m.txn = s.m.txn) ∧
        u.m.cfg = s.m.cfg ∧ u.m.fr = s.m.fr ∧ u.m.inp = s.m.inp ∧ u.m.tb = s.m.tb ∧ u.m.pair = s.m.pair ∧
        u.flash = s.flash ∧ u.pending = s.pending) ∧
    (s.m.light.opened = true → scanCloseAt s.m ≤ t →
      ∃ u, exec (.scanWindowClose t) s = .next u ∧ (∀ f, (u.m.lane f).scan = [] ∧ (u.m.lane f).left = []) ∧
        ((∀ e ∈ s.m.kl.lanes, e.2.scan = []) → u.m.kl.tiles = s.m.kl.tiles ∧ u.m.comp = s.m.comp ∧
          (inService s.m = true → s.m.kl.lanes.keys.Nodup → ∀ f, (s.m.lane f).left ≠ [] →
            counter blkKlink f 17 u.m = satAdd32 (counter blkKlink f 17 s.m) 1)) ∧
        u.m.light = s.m.light ∧ u.m.cfg = s.m.cfg ∧ u.m.inp = s.m.inp ∧ u.m.frc = s.m.frc ∧ u.m.fr = s.m.fr ∧ u.m.aud = s.m.aud ∧
        u.m.tb = s.m.tb ∧ u.m.pair = s.m.pair ∧ u.m.txn = s.m.txn ∧ u.m.hrt = s.m.hrt ∧ u.m.fab = s.m.fab ∧ u.m.maint = s.m.maint ∧
        u.hbm = s.hbm ∧ u.flash = s.flash ∧ u.pending = s.pending) ∧
    (s.m.light.scanned = true →
      ∃ u, exec (.feederEstimateDone t) s = .next u ∧ u.m.light.scanned = false ∧
        (∀ k, k < 64 → ((u.m.feeder k).pu, (u.m.feeder k).pa, (u.m.feeder k).st, (u.m.feeder k).du) =
          feederEstimate (lightStage (scanTo s.hbm t (advance t s.m), s.hbm)).1 k) ∧
        ((∀ e ∈ s.m.kl.lanes, e.2.scan = []) → s.m.light.taken = true → u.m.kl = s.m.kl ∧ u.m.comp = s.m.comp ∧ u.hbm = s.hbm ∧
          ∀ k, k < 64 → ((u.m.feeder k).pu, (u.m.feeder k).pa, (u.m.feeder k).st, (u.m.feeder k).du) = feederEstimate s.m k) ∧
        u.m.cfg = s.m.cfg ∧ u.m.inp = s.m.inp ∧ u.m.frc = s.m.frc ∧ u.m.fr = s.m.fr ∧ u.m.aud = s.m.aud ∧
        u.m.tb = s.m.tb ∧ u.m.pair = s.m.pair ∧ u.m.hrt = s.m.hrt ∧ u.m.fab = s.m.fab ∧ u.m.maint = s.m.maint ∧
        u.flash = s.flash ∧ u.pending = s.pending)

/-- A gated commit whose deadline has come leaves without taking effect, with the final reply TIMEOUT and the frame at which
it leaves (on a standby the journal withdraws it, so that the row does nothing there); a fence group that waited too long
shows what its members hold (R63, R122). Two fall-behind frames end low-latency mode; a monitor output begins the picture
whose start has come; the automatic slate trigger latches when both its conditions have held, and the pin trigger ends a
second after the pin left its level (R31, R120, R142, R146, R148). These forms complete here: gateTimeout, fenceTimeout,
lowlatExit, monOutputFrame, slateAutoTrigger, slatePinRelease. -/
def Obligations.CanvasTimers : Prop :=
  (∀ (t : Nat) (s : State), livesAt t s →
     (∀ (x : Commit) (g : Gate), (s.m.txn.commits.find? fun y => y.jseq == x.jseq && gateExpired s.m y) = some x → x.gate = some g →
       s.m.pair.role ≠ .standby → ∃ u, exec (.gateTimeout t x.jseq) s = .next u ∧ u.m.txn.commits = s.m.txn.commits.filter (fun y => y.jseq != x.jseq) ∧
         (∀ e, x.owes = true → tagOf s.m x.tag = some e → e.owes = some .commit → ∃ e', tagOf u.m x.tag = some e' ∧ e'.owes = none ∧
           e'.reply = some (BitVec.ofNat 16 stTimeout, commitBlock (x.apply + g.deadline))) ∧
         u.m.ev.pend.getLsbD evGateTimeout = true ∧ u.m.cfg = s.m.cfg ∧ u.m.fr = s.m.fr ∧ u.m.inp = s.m.inp ∧ u.m.comp = s.m.comp ∧
         u.m.kl = s.m.kl ∧ u.m.tb = s.m.tb ∧ u.m.pair.role = s.m.pair.role ∧ u.hbm = s.hbm ∧ u.flash = s.flash) ∧
     (∀ j : Nat, s.m.pair.role = .standby → exec (.gateTimeout t j) s = .next { s with m := advance t s.m }) ∧
     (∀ g : Nat, s.m.cfg.groups.has g = true → (s.m.groupRt g).due = true →
       ∃ u, exec (.fenceTimeout t g) s = .next u ∧ (u.m.groupRt g).wait = 0 ∧ (u.m.groupRt g).due = false ∧
         (u.m.groupRt g).timeouts = (s.m.groupRt g).timeouts + 1 ∧ u.m.ev.pend.getLsbD evFenceTimeout = true ∧
         (∀ j, j ≠ g → u.m.groupRt j = s.m.groupRt j) ∧ u.m.frc = s.m.frc ∧ beyondInputs s u)) ∧
  (∀ (t : Nat) (s : State), livesAt t s →
     (s.m.comp.lowlat = true → 2 ≤ s.m.comp.behindRun + b2n s.m.comp.behind →
       ∃ u, exec (.lowlatExit t) s = .next u ∧ u.m.comp.lowlat = false ∧ u.m.ev.pend.getLsbD evLowlatExit = true ∧
         u.m.fr.cfn = s.m.fr.cfn ∧ u.m.cfg = s.m.cfg ∧ u.m.inp = s.m.inp ∧ u.m.kl = s.m.kl ∧ u.hbm = s.hbm ∧ u.flash = s.flash) ∧
     (∀ (k d : Nat) (w : MonPicture) (rest : List MonPicture), (s.m.cfg.mon.getD k {}).enable = true → s.m.tb.rootLock = true →
       (s.m.comp.mon.getD k {}).waiting = w :: rest → w.due = some d → d ≤ t →
       ∃ u, exec (.monOutputFrame t k) s = .next u ∧
         u.m.comp.mon.getD k {} = { s.m.comp.mon.getD k {} with
           waiting := rest, picture := w.picture, frames := (s.m.comp.mon.getD k {}).frames + 1, cfn := w.cfn } ∧
         (∃ px, u.m.out = s.m.out ++ [.monFrame k w.cfn (monitorId s.m.cfg (s.m.cfg.mon.getD k {})) px]) ∧ u.m.cfg = s.m.cfg ∧ u.m.fr = s.m.fr ∧
         u.m.kl = s.m.kl ∧ u.m.inp = s.m.inp ∧ u.hbm = s.hbm ∧ u.flash = s.flash) ∧
     (s.m.pair.role ≠ .standby → slateAutoDue (advance t s.m) = true → ∃ u, exec (.slateAutoTrigger t) s = .next u ∧
       u = { s with m := (advance t s.m).updComp fun c => { c with slate := { c.slate with autoOn := true } } }) ∧
     (∀ x, s.m.comp.slate.pinOn = true → s.m.comp.slate.pinLeft = some x → x + sec ≤ t →
       ∃ u, exec (.slatePinRelease t) s = .next u ∧
         u = { s with m := (advance t s.m).updComp fun c => { c with slate := { c.slate with pinOn := false, pinLeft := none } } }))

/-! ### Audio -/

namespace Sys2Proof.Machine

/-- What a command of the audio system leaves. -/
def beyondAudio (s u : State) : Prop :=
  u.m.cfg = s.m.cfg ∧ u.m.txn = s.m.txn ∧ u.m.inp = s.m.inp ∧ u.m.frc = s.m.frc ∧ u.m.comp = s.m.comp ∧ u.m.fr = s.m.fr ∧
  u.m.light = s.m.light ∧ u.m.kl = s.m.kl ∧ u.m.tb = s.m.tb ∧ u.m.pair = s.m.pair ∧ u.m.hrt = s.m.hrt ∧ u.m.fab = s.m.fab ∧
  u.m.maint = s.m.maint ∧ u.m.host = s.m.host ∧ u.hbm = s.hbm ∧ u.flash = s.flash ∧ u.pending = s.pending

end Sys2Proof.Machine

/-- A sample enters the buffer of the channel it feeds, and ends its source's loss where no other channel is lost; an output
slot pops its FIFO's oldest word, or sends 0 and counts an xrun at empty; a push fills the FIFO by one; a slip, a
zero-crossing timeout and a lost source take effect on their channels (R239, R243 to R247, R251). These forms complete here:
audSampleIn, audSampleOut, audSlip, zcTimeout, audSourceLost. -/
def Obligations.AudioSamples : Prop :=
  ∀ (t : Nat) (s : State), livesAt t s →
    (∀ (n c k : Nat) (x : AudSample), receives s.m = true → (s.m.cfg.stream n).bound = true → (s.m.stream n).lost = false →
      ingestSwapping s.m n = false → x.valid = true →
      s.m.aud.chans.keys.Nodup →
      k ∈ s.m.aud.chans.keys → (s.m.chan k).cur.source = .sdi n c → (s.m.chan k).silent = none → (s.m.chan k).cur.endAt = none →
      ∃ u, exec (.audSampleIn t (.sdi n) c x) s = .next u ∧ (u.m.chan k).cur.wr = (s.m.chan k).cur.wr + 1 ∧
        (u.m.chan k).cur.lost = false ∧ (((u.m.chan k).cur.buf.get? (s.m.chan k).cur.wr).map (·.1)) = some x.value ∧
        ((∀ j ∈ chansOf s.m n, j ≠ k → (s.m.chan j).cur.lost = false) → (u.m.dom n).lost = false) ∧ (u.m.dom n).last = t ∧ u.m.aud.ports = s.m.aud.ports ∧ beyondAudio s u) ∧
    (∀ (n : Nat) (right : Bool) (x : Int × Nat) (rest : List (Int × Nat)), (s.m.audPort n).running = true →
      (s.m.cfg.port n).direction = 2 → (s.m.audPort n).stopping = false → (s.m.audPort n).refill = false →
      (∀ e ∈ s.m.aud.doms, e.2.early = []) → (s.m.audPort n).out = x :: rest →
      ∃ u, exec (.audSampleOut t n right false true) s = .next u ∧ (u.m.audPort n).out = rest ∧
        u.m.out = s.m.out ++ [.i2s n right (portWord (s.m.cfg.port n) x.1) (if (s.m.cfg.port n).sideBits then x.2 % 16 else 0)] ∧
        u.m.aud.chans = s.m.aud.chans ∧ beyondAudio s u) ∧
    (∀ (n : Nat) (right : Bool), n < 16 → (s.m.audPort n).running = true → (s.m.cfg.port n).direction = 2 →
      (s.m.audPort n).stopping = false → (s.m.audPort n).refill = false → (∀ e ∈ s.m.aud.doms, e.2.early = []) →
      (s.m.audPort n).out = [] →
      ∃ u, exec (.audSampleOut t n right false true) s = .next u ∧ .i2s n right 0 0 ∈ u.m.out ∧
        counter blkAudio n 0 u.m = satAdd32 (counter blkAudio n 0 s.m) 1 ∧
        ((s.m.cfg.port n).autoRestart = false → (u.m.audPort n).swap = true ∧ u.m.aud.chans = s.m.aud.chans) ∧
        ((s.m.cfg.port n).autoRestart = true → u.m.ev.pend.getLsbD evAudRestart = true) ∧ beyondAudio s u) ∧
    (∀ n : Nat, (s.m.audPort n).running = true → (s.m.cfg.port n).direction = 2 → (s.m.audPort n).stopping = false →
      (s.m.audPort n).out.length < 32 →
      ∃ u, exec (.audSampleOut t n false true false) s = .next u ∧
        (u.m.audPort n).out.length = (s.m.audPort n).out.length + 1 ∧ (u.m.audPort n).needLeft = false ∧
        (u.m.audPort n).out.take (s.m.audPort n).out.length = (s.m.audPort n).out ∧ beyondAudio s u) ∧
    (∀ src : AudDomain, slipNow (advance t s.m) (domKey src) = true →
      ∃ u, exec (.audSlip t src) s = .next u ∧ (u.m.dom (domKey src)).slipFrom = none ∧
        (∀ k ∈ chansOf s.m (domKey src), (u.m.chan k).errRun = 0) ∧ u.m.aud.ports = s.m.aud.ports ∧ beyondAudio s u) ∧
    (∀ (k : Nat) (x : Silent), (s.m.chan k).silent = some x → x.mid = none → x.start + zcUnits s.m ≤ t →
      ∃ u, exec (.zcTimeout t k) s = .next u ∧ u.m.chan k = { s.m.chan k with silent := some { x with mid := some t } } ∧
        (∀ j, j ≠ k → u.m.chan j = s.m.chan j) ∧ beyondAudio s u) ∧
    (∀ src : AudDomain, (s.m.dom (domKey src)).lost = false → goneChans (advance t s.m) src ≠ [] →
      ∃ u, exec (.audSourceLost t src) s = .next u ∧ (u.m.dom (domKey src)).lost = true ∧
        (∀ k ∈ goneChans (advance t s.m) src, (u.m.chan k).cur.lost = true) ∧ u.m.ev.pend.getLsbD evAudSourceLost = true ∧
        u.m.aud.ports = s.m.aud.ports ∧ beyondAudio s u)

/-- Without root lock the pixel domain is gated: no frame event occurs and the CFN stands, through every command of the root
lock; when the raster runs again, the next frame event carries the last CFN plus 1 (R20). -/
def Obligations.GatedFrames : Prop :=
  (∀ (gpio : BitVec 16) (s : State), s.m.tb.rootLock = false → exec (.frameEvent gpio) s = .next s) ∧
  (∀ (t band : Nat) (fine : Int) (s : State) (c : Instr), (c = .rootLockLost t ∨ c = .xoFail t ∨ c = .xoRestored t ∨
      c = .bypassWaitExpiry t ∨ c = .bandSearchFail t ∨ c = .bandSearchDone t band fine) →
    ∃ u, exec c s = .next u ∧ u.m.fr.cfn = s.m.fr.cfn ∧ u.m.fr.first = s.m.fr.first) ∧
  ∀ (gpio : BitVec 16) (s : State), rasterRuns s.m = true → s.m.fr.first = false →
    ∃ u, exec (.frameEvent gpio) s = .next u ∧ u.m.fr.cfn = s.m.fr.cfn + 1 ∧ u.m.fr.first = false

/-! ### The pair -/

namespace Sys2Proof.Machine

/-- What a command of the pair leaves that changes neither configuration nor datapath. -/
def beyondPair (s u : State) : Prop :=
  u.m.cfg = s.m.cfg ∧ u.m.inp = s.m.inp ∧ u.m.frc = s.m.frc ∧ u.m.comp = s.m.comp ∧ u.m.fr = s.m.fr ∧ u.m.light = s.m.light ∧
  u.m.kl = s.m.kl ∧ u.m.aud = s.m.aud ∧ u.m.tb = s.m.tb ∧ u.m.txn = s.m.txn ∧ u.m.hrt = s.m.hrt ∧ u.m.fab = s.m.fab ∧
  u.m.maint = s.m.maint ∧ u.hbm = s.hbm ∧ u.flash = s.flash ∧ u.pending = s.pending

/-- The next frame of a pair link, by its FSEQ. -/
def nextFrame (b : Bool) (s : State) (body : PairBody) : Out := .pairFrame b ((s.m.pairLink b).fseq + 1) s.m.fr.cfn body

/-- The pair once one more frame has gone out on a link. -/
def framed (b : Bool) (x : Pair) : Pair := { x with links := x.links.upd (b2n b) {} fun l => { l with fseq := l.fseq + 1 } }

end Sys2Proof.Machine

/-- A heartbeat goes out on both links with this head's role, epoch and journal position; eight valid ones in a row bring a
link UP; a link that is lost forgets what waits for an acknowledgement; a frame that fails its check is only counted; what is
not acknowledged within 20 µs goes out again; an acknowledgement ends that, and a mirrored command's reply waits for its own
or for the mirror timeout. Every frame sent on a link carries the next FSEQ (R280 to R284). These forms complete here:
heartbeatSend, heartbeatReceived, pairLinkLost, pairFrameDiscarded, pairAckReceived, pairResend, mirrorTimeout. -/
def Obligations.PairLinks : Prop :=
  ∀ (t : Nat) (b : Bool) (s : State), livesAt t s →
    (s.m.tb.rootLock = true → 7 ≤ s.m.sys.step → s.m.sys.stopped = false →
      ∃ u h1 h2, exec (.heartbeatSend t) s = .next u ∧
        u.m.out = s.m.out ++ [nextFrame false s (.heartbeat h1), nextFrame true s (.heartbeat h2)] ∧
        h1 = heartbeatNow false (advance t s.m) ∧ h2.role = h1.role ∧ h2.jseq = h1.jseq ∧ h2.epoch = h1.epoch ∧
        h1.role = roleCode s.m.pair.role ∧ h1.jseq = s.m.txn.jseq ∧ h1.epoch = s.m.pair.epoch ∧ h1.lastFe = s.m.fr.lastFe ∧
        (u.m.pairLink b).fseq = (s.m.pairLink b).fseq + 1 ∧ u.m.pair.role = s.m.pair.role ∧ beyondPair s u) ∧
    (∀ (cfn : Nat) (hb : Heartbeat), s.m.tb.rootLock = true → anyLinkUp s.m = false → (s.m.pairLink b).hbRun < 7 →
      ∃ u, exec (.heartbeatReceived t b cfn hb) s = .next u ∧ u.m.pair.partner = some hb ∧ u.m.pair.partnerCfn = cfn ∧
        (u.m.pairLink b).up = false ∧ (u.m.pairLink b).arrived = t ∧
        ((s.m.pairLink b).hbRun ≠ 0 → t ≤ (s.m.pairLink b).arrived + 52 * usec →
          (u.m.pairLink b).hbRun = (s.m.pairLink b).hbRun + 1) ∧
        u.m.pair.role = s.m.pair.role ∧ beyondPair s u) ∧
    (∀ (cfn : Nat) (hb : Heartbeat), s.m.tb.rootLock = true → (s.m.pairLink b).up = false → (s.m.pairLink b).hbRun = 7 →
      t ≤ (s.m.pairLink b).arrived + 52 * usec → laneWorks s.m (144 + 2 * b2n b) = true → laneWorks s.m (145 + 2 * b2n b) = true →
      s.m.pair.role = .yielding →
      ∃ u, exec (.heartbeatReceived t b cfn hb) s = .next u ∧ (u.m.pairLink b).up = true ∧ u.m.pair.partner = some hb ∧
        u.m.ev.pend.getLsbD evPairLinkUp = true ∧ u.m.pair.role = .yielding ∧ beyondPair s u) ∧
    (∀ (cfn : Nat) (hb h0 : Heartbeat), s.m.tb.rootLock = true → (s.m.pairLink b).up = false → (s.m.pairLink b).hbRun = 7 →
      t ≤ (s.m.pairLink b).arrived + 52 * usec → laneWorks s.m (144 + 2 * b2n b) = true → laneWorks s.m (145 + 2 * b2n b) = true →
      (s.m.pairLink (!b)).up = true → s.m.pair.role = .standby → s.m.pair.partner = some h0 → h0.role = 1 → h0.tb = hb.tb →
      s.m.pair.tenureWait = none → hb.role = 1 → hb.jseq ≤ s.m.txn.jseq →
      ∃ u, exec (.heartbeatReceived t b cfn hb) s = .next u ∧ (u.m.pairLink b).up = true ∧ u.m.pair.partner = some hb ∧
        u.m.ev.pend.getLsbD evPairLinkUp = true ∧ u.m.pair.role = .standby ∧ u.m.pair.epoch = hb.epoch ∧ beyondPair s u) ∧
    ((s.m.pairLink b).up = true → (s.m.pairLink (!b)).up = true → ∃ u, exec (.pairLinkLost t b) s = .next u ∧
      (u.m.pairLink b).up = false ∧ (u.m.pairLink b).unacked = [] ∧ u.m.pairLink (!b) = s.m.pairLink (!b) ∧
      u.m.ev.pend.getLsbD evPairLinkLost = true ∧ u.m.pair.role = s.m.pair.role ∧ u.m.host = s.m.host ∧ beyondPair s u) ∧
    (∃ u, exec (.pairFrameDiscarded t b) s = .next u ∧
      counter blkPair (b2n b) 0 u.m = satAdd32 (counter blkPair (b2n b) 0 s.m) 1 ∧ u.m.pair = s.m.pair ∧ u.m.host = s.m.host ∧
      beyondPair s u) ∧
    (∀ seq : Nat, (s.m.pairLink b).up = true → ∃ u, exec (.pairAckReceived t b 3 seq) s = .next u ∧
      (u.m.pairLink b).unacked = (s.m.pairLink b).unacked.filter (fun f => !(f.kind == 3 && f.seq == seq)) ∧
      u.m.pairLink (!b) = s.m.pairLink (!b) ∧ u.m.pair.waits = s.m.pair.waits ∧ u.m.host = s.m.host ∧ beyondPair s u) ∧
    (∀ (f : PairFrame), (s.m.pairLink b).up = true → (s.m.pairLink b).unacked = [f] → f.sentAt + 20 * usec ≤ t →
      ∃ u, exec (.pairResend t b f.kind f.seq) s = .next u ∧ u.m.out = s.m.out ++ [nextFrame b s f.what] ∧
        (u.m.pairLink b).unacked = [{ f with sentAt := t }] ∧ u.m.pair.role = s.m.pair.role ∧ u.m.host = s.m.host ∧ beyondPair s u) ∧
    (∀ w : MirrorWait, (s.m.pairLink b).up = true → s.m.pair.waits = [w] → s.m.pair.joinSent = false →
      w.reply.flags.getLsbD 0 = true → w.reply.uart = false →
      ∃ u, exec (.pairAckReceived t b 2 w.mseq) s = .next u ∧ u.m.pair.waits = [] ∧
        u.m.host.replyQueue = s.m.host.replyQueue ++ [w.reply] ∧ u.m.pair.synced = s.m.pair.synced ∧ beyondPair s u) ∧
    (∀ w : MirrorWait, s.m.pair.waits = [w] → w.deadline ≤ t → s.m.pair.joinSent = false → w.reply.flags.getLsbD 0 = true →
      w.reply.uart = false →
      ∃ u, exec (.mirrorTimeout t w.mseq) s = .next u ∧ u.m.pair.waits = [] ∧ u.m.pair.synced = false ∧
        u.m.host.replyQueue = s.m.host.replyQueue ++ [w.reply] ∧ u.m.pair.role = s.m.pair.role ∧ beyondPair s u)

/-- A standby checks and stages a mirrored command as the primary did, takes the journal in order, stores BULK data and takes
the primary's outcomes of a frame; it acknowledges every copy of a frame and acts on the first (R283, R284, R286 to R288).
These forms complete here: mirrorReceived, journalReceived, bulkReceived, syncReceived, syncMiss. -/
def Obligations.StandbyFollows : Prop :=
  ∀ (t : Nat) (b : Bool) (s : State), livesAt t s → (s.m.pairLink b).up = true → s.m.pair.role = .standby →
    (∀ (mseq op : Nat) (k : CmdPkt), s.m.hrt.kilnReset = false → (2, mseq) ∈ s.m.pair.seen →
      ∃ u, exec (.mirrorReceived t b mseq op k) s = .next u ∧ u.m.out = s.m.out ++ [nextFrame b s (.ack 2 mseq)] ∧ u.m.pair = framed b s.m.pair ∧
        u.m.host = s.m.host ∧ beyondPair s u) ∧
    (∀ (mseq op : Nat) (k : CmdPkt) (r : OpRule) (h : Handler) (a : Answer) (q : Part), s.m.hrt.kilnReset = false →
      (2, mseq) ∉ s.m.pair.seen → mirroredCommand op = some (r, h) →
      handle r h { k with flags := k.flags &&& 0xF7 } ((advance t s.m).updPair fun x =>
        { x with seen := (x.seen ++ [(2, mseq)]).drop (x.seen.length + 1 - 4096) }) = (a, q) →
      accepted (settle q a.status) = true →
      ∃ u, exec (.mirrorReceived t b mseq op k) s = .next u ∧ 
        .pairFrame b ((q.pairLink b).fseq + 1) s.m.fr.cfn (.ack 2 mseq) ∈ u.m.out ∧ u.m.txn = q.txn ∧ u.m.cfg = q.cfg ∧
        u.m.pair = framed b q.pair ∧ u.m.inp = q.inp ∧ u.m.comp = q.comp ∧ u.m.tb = q.tb ∧ u.m.kl = q.kl ∧ u.hbm = s.hbm ∧ u.flash = s.flash) ∧
    (∀ e : JournalEntry, e.jseq ≤ s.m.txn.jseq → ∃ u, exec (.journalReceived t b e) s = .next u ∧
      u.m.out = s.m.out ++ [nextFrame b s (.ack 3 e.jseq)] ∧ u.m.pair = framed b s.m.pair ∧ u.m.host = s.m.host ∧ beyondPair s u) ∧
    (∀ (e : JournalEntry) (cmds : List (Nat × CmdPkt)) (gate : Option (Nat × Word × Nat)), e.jseq = s.m.txn.jseq + 1 →
      e.body = .seal cmds gate → s.m.txn.expect = [] → (gate = none ∨ e.jseq ≤ s.m.pair.replayTo → s.m.fr.cfn < e.cfn) →
      ∃ u, exec (.journalReceived t b e) s = .next u ∧ u.m.txn.jseq = e.jseq ∧
        (∃ x ∈ u.m.txn.commits, x.jseq = e.jseq ∧ x.apply = e.cfn ∧ x.txn = e.txn ∧ x.tag = e.tag ∧ x.cmds = stagedOf cmds ∧
          x.gate = gateFrom gate) ∧
        nextFrame b s (.ack 3 e.jseq) ∈ u.m.out ∧ u.m.cfg = s.m.cfg ∧ u.m.pair = framed b s.m.pair ∧ u.hbm = s.hbm ∧ u.flash = s.flash) ∧
    (∀ (offset object : Nat) (data : List Byte), ∃ u, exec (.bulkReceived t b object offset (.hbm data)) s = .next u ∧
      u.hbm = Memory.writeBytes Memory.hbmDefault s.hbm offset data ∧ u.m.out = s.m.out ++ [nextFrame b s (.ack 7 offset)] ∧
      u.m.cfg = s.m.cfg ∧ u.m.txn = s.m.txn ∧ u.m.pair = framed b s.m.pair ∧ u.flash = s.flash) ∧
    (∀ shown : List SyncEntry, s.m.pair.syncSeen ≠ some s.m.fr.cfn → s.m.pair.missed ≠ some s.m.fr.cfn →
      t ≤ s.m.fr.lastFe + 10 * usec → outcomesDiffer s.m.fr.cfn shown s.m = false →
      ∃ u, exec (.syncReceived t s.m.fr.cfn shown) s = .next u ∧ u.m.pair = { s.m.pair with syncSeen := some s.m.fr.cfn } ∧
        u.m.host = s.m.host ∧ beyondPair s u) ∧
    (∀ shown : List SyncEntry, s.m.pair.syncSeen ≠ some s.m.fr.cfn → s.m.fr.lastFe + 10 * usec < t →
      ∃ u, exec (.syncReceived t s.m.fr.cfn shown) s = .next u ∧
        u.m.pair = { s.m.pair with syncSeen := some s.m.fr.cfn, missed := some s.m.fr.cfn, lateSync := shown } ∧
        u.m.host = s.m.host ∧ beyondPair s u) ∧
    (s.m.fr.started = true → s.m.pair.syncSeen ≠ some s.m.fr.cfn → s.m.pair.missed ≠ some s.m.fr.cfn →
      s.m.fr.lastFe + 10 * usec ≤ t → ∃ u, exec (.syncMiss t) s = .next u ∧
        u.m.pair = { s.m.pair with missed := some s.m.fr.cfn, lateSync := [] } ∧
        counter blkPair 2 1 u.m = satAdd32 (counter blkPair 2 1 s.m) 1 ∧ u.m.host = s.m.host ∧ beyondPair s u)

/-- The shadow check keeps the partner's checksums and verdicts until its own, and settles a mismatch by Table 11.8; without
the partner's verdict after 2 ms it counts as unresolved (R291). These forms complete here: bandsumReceived, verdictReceived,
verdictTimeout. -/
def Obligations.ShadowCheck : Prop :=
  ∀ (t cfn band : Nat) (s : State), livesAt t s →
    (∀ sum : Option DWord, anyLinkUp s.m = true → s.m.fr.cfn ≤ cfn + 1 → ownSum s.m cfn band = none →
      ∃ u, exec (.bandsumReceived t cfn band [sum]) s = .next u ∧ (cfn, band, sum) ∈ u.m.pair.peerSums ∧
        u.m.pair.role = s.m.pair.role ∧ u.m.host = s.m.host ∧ beyondPair s u) ∧
    (∀ result : Nat, anyLinkUp s.m = true → (s.m.pair.shadows.any fun x => x.cfn == cfn && x.band == band) = false →
      ∃ u, exec (.verdictReceived t cfn band result) s = .next u ∧ (cfn, band, result) ∈ u.m.pair.verdicts ∧
        u.m.pair.shadows = s.m.pair.shadows ∧ u.m.host = s.m.host ∧ beyondPair s u) ∧
    (∀ x : Shadow, anyLinkUp s.m = true → s.m.pair.shadows = [x] → x.cfn = cfn → x.band = band → x.own = 0 →
      ∃ u, exec (.verdictReceived t cfn band 1) s = .next u ∧ u.m.pair.shadows = [] ∧
        counter blkPair 2 2 u.m = satAdd32 (counter blkPair 2 2 s.m) 1 ∧ u.m.host = s.m.host ∧ beyondPair s u) ∧
    (∀ x : Shadow, s.m.pair.shadows = [x] → x.cfn = cfn → x.band = band → x.own ≠ 1 → x.sentAt + 2 * msec ≤ t →
      ∃ u, exec (.verdictTimeout t cfn band) s = .next u ∧ u.m.pair.shadows = [] ∧
        counter blkPair 2 3 u.m = satAdd32 (counter blkPair 2 3 s.m) 1 ∧ u.m.host = s.m.host ∧ beyondPair s u)

namespace Sys2Proof.Machine

/-- A head that takes the primary role: it drives PAIR_TENURE, takes the next epoch and raises PAIR_SWITCHOVER; its
configuration, its commits and both byte memories stand. -/
def tookRole (s u : State) : Prop :=
  u.m.pair.role = .primary ∧ u.m.pair.driveTenure = true ∧ u.m.pair.epoch = s.m.pair.epoch + 1 ∧
  u.m.ev.pend.getLsbD evPairSwitchover = true ∧ u.m.cfg = s.m.cfg ∧ u.m.txn = s.m.txn ∧ u.m.hrt = s.m.hrt ∧ u.m.fab = s.m.fab ∧
  u.m.inp = s.m.inp ∧ u.hbm = s.hbm ∧ u.flash = s.flash ∧ u.pending = s.pending

end Sys2Proof.Machine

/-- A standby takes the role when its partner yields or PAIR_YIELD_N goes low, when PAIR_TENURE goes high with no link up,
when its wait for a heartbeat ends, and by a witness claim; with a link up it waits 12 µs first; a primary does nothing about
its own pins; a wire is trusted again after a second of agreement (R278, R292, R294, Table 11.9). These forms complete here:
pairYieldLow, pairTenureHigh, tenureWaitExpiry, witnessClaim, wireUnmark. -/
def Obligations.Switchover : Prop :=
  ∀ (t : Nat) (s : State), livesAt t s → s.m.sys.ready = true →
    (s.m.pair.role = .standby → s.m.pair.driveYield = false → ∃ u, exec (.pairYieldLow t) s = .next u ∧ tookRole s u) ∧
    (s.m.pair.role = .primary → ∃ u, exec (.pairYieldLow t) s = .next u ∧
      u.m.pair = { s.m.pair with readYieldLow := true } ∧ u.m.host = s.m.host ∧ beyondPair s u) ∧
    (s.m.pair.role = .standby → s.m.pair.driveTenure = false → anyLinkUp s.m = false → s.m.pair.wireFault = false →
      ∃ u, exec (.pairTenureHigh t) s = .next u ∧ tookRole s u) ∧
    (s.m.pair.role = .standby → s.m.pair.driveTenure = false → anyLinkUp s.m = true → s.m.pair.tenureWait = none →
      ∃ u, exec (.pairTenureHigh t) s = .next u ∧
        u.m.pair = { s.m.pair with readTenureLow := false, tenureWait := some (t + 12 * usec) } ∧ u.m.host = s.m.host ∧ beyondPair s u) ∧
    (∀ d, s.m.pair.role = .standby → s.m.pair.tenureWait = some d → d ≤ t →
      ∃ u, exec (.tenureWaitExpiry t) s = .next u ∧ tookRole s u ∧ u.m.pair.tenureWait = none) ∧
    (∀ (b : Bool) (cfn : Nat) (hb : Heartbeat), s.m.tb.rootLock = true → s.m.pair.role = .standby → (s.m.pairLink b).up = true →
      hb.role = 4 → ∃ u, exec (.heartbeatReceived t b cfn hb) s = .next u ∧ tookRole s u ∧ u.m.pair.partner = some hb) ∧
    (mayClaim s.m = true → ∃ u, exec (.witnessClaim t) s = .next u ∧ tookRole s u ∧ u.m.pair.split = true ∧
      u.m.ev.pend.getLsbD evPairSplitClaim = true) ∧
    (∀ x, s.m.pair.wireFault = true → s.m.pair.pinsOkSince = some x → x + sec ≤ t →
      ∃ u, exec (.wireUnmark t) s = .next u ∧ u.m.pair = { s.m.pair with wireFault := false, pinsOkSince := none } ∧
        u.m.host = s.m.host ∧ beyondPair s u)

/-! ### Commands that do more than set or show -/

namespace Sys2Proof.Machine

/-- A command with work behind it: its opcode, rule, time and packet, when it is taken, its status, parameters and owed reply, and
what the part then holds. -/
structure TaskRow where
  op : Nat
  rule : OpRule
  t : Nat
  k : CmdPkt
  fits : State → Prop
  status : State → Nat
  params : State → List Byte
  owes : Option OwedKind
  holds : State → Part → Prop

/-- Ok, or DEGRADED_OK on a degraded head. -/
def okRow (s : State) : Nat := okStatus s.m

/-- PENDING. -/
def pendingRow (_ : State) : Nat := stPending

/-- A transfer that a command starts. -/
def starts (t : Nat) (k : CmdPkt) (op : Nat) : TaskRow :=
  { op := op, rule := ruleOwn, t := t, k := k, fits := fun _ => True, status := pendingRow, params := fun _ => [], owes := some .other,
    holds := fun s q => q.txn.transfers = s.m.txn.transfers ++ [{ tag := k.tag, opcode := op, params := k.params }] }

/-- Entries that GLEAN returns (R323). -/
def gleaned (p : Part) (b : List Byte) : List LogEntry :=
  if bit (byteAt b 6) 1 then entriesFrom 0 p.log.ember else (entriesFrom (leAt b 0 4) (goodBank p)).take (leAt b 4 2)

/-- The commands of the catalogue that start or do a task (Tables 14.5, 14.8, 14.9, 14.11, 14.12, 14.14 to 14.16). -/
def taskRow : Instr → Option TaskRow
  | .glean t k => some { op := 0x0003, rule := ruleQuery, t := t, k := k
                         fits := fun _ => (layout k.params 8 [within k.params 4 2 1 127, below k.params 6 4, zeros k.params 7 1] ()).toBool = true
                         status := okRow
                         params := fun s => le 4 (nextLseq (leAt k.params 0 4) (gleaned (commandAt 0x0003 t k s) k.params)) ++
                           le 2 (if bit (byteAt k.params 6) 1 then 32 else (gleaned (commandAt 0x0003 t k s) k.params).length) ++ [0, 0] ++
                           padTo (32 * if bit (byteAt k.params 6) 1 then 32 else (gleaned (commandAt 0x0003 t k s) k.params).length)
                             ((gleaned (commandAt 0x0003 t k s) k.params).flatMap encEntry)
                         owes := none
                         holds := fun s q => q.log = (if bit (byteAt k.params 6) 0 then
                           gleanThem ((gleaned (commandAt 0x0003 t k s) k.params).map (·.lseq)) (commandAt 0x0003 t k s)
                           else commandAt 0x0003 t k s).log }
  | .flowStatus t k => some { op := 0x020C, rule := ruleQuery, t := t, k := k
                              fits := fun _ => (layout k.params 4 [within k.params 0 1 1 2,
                                below k.params 1 (if byteAt k.params 0 = 1 then 64 else 48), zeros k.params 2 2] ()).toBool = true
                              status := okRow
                              params := fun s => flowStatusBytes s.m.cfg (byteAt k.params 0) (byteAt k.params 1)
                                (Config.freeWord s.m.free) (Config.freeWord (s.m.free + 1))
                              owes := none, holds := fun s q => q.free = s.m.free + 2 }
  | .headlandStatus t k => some { op := 0x0B0B, rule := ruleMaint, t := t, k := k, fits := fun _ => k.params = [], status := okRow
                                  params := fun s => headlandBytes (Config.freeWord s.m.free) (commandAt 0x0B0B t k s)
                                  owes := none, holds := fun s q => q.free = s.m.free + 1 ∧ q.hrt = s.m.hrt }
  | .fwVerify t k => some { op := 0x0B02, rule := ruleMaint, t := t, k := k
                            fits := fun _ => (layout k.params 4 [below k.params 0 2, zeros k.params 1 3] ()).toBool = true
                            status := okRow
                            params := fun s => le 1 (verifyCode s.flash (byteAt k.params 0)) ++ [0, 0, 0] ++
                              flashBytes s.flash (imageBase (byteAt k.params 0)) 64
                            owes := none, holds := fun s q => q.txn = s.m.txn ∧ q.hrt = s.m.hrt }
  | .objAlloc t k => some { op := 0x0407, rule := ruleMirrored, t := t, k := k
                            fits := fun s => (layout k.params 16 [within k.params 0 2 0 4095, below k.params 2 2, below k.params 3 2,
                              below k.params 4 2, zeros k.params 5 3, within k.params 8 2 8 16384, within k.params 10 2 4 8192,
                              (if byteAt k.params 2 = 0 then leAt k.params 12 4 == 1 else (within k.params 12 4 1 65535).1, 12)] ()).toBool = true ∧
                              s.m.comp.objs.has (leAt k.params 0 2) = false ∧ storeHeld s.m + objBytes (objAt k.params) ≤ storeBytes ∧ storeBroken s.m = false
                            status := okRow, params := fun _ => [], owes := none
                            holds := fun s q => q.comp = { s.m.comp with objs := s.m.comp.objs.set (leAt k.params 0 2) (objAt k.params) } }
  | .objLoad t k => some { starts t k 0x0408 with
                           rule := { ruleMirrored with pends := true }
                           fits := fun s => (loadLayout k.params).toBool = true ∧ objLoadFault k.params s.m = none }
  | .objRelease t k => some { op := 0x0409, rule := ruleMirrored, t := t, k := k
                              fits := fun s => (layout k.params 4 [within k.params 0 2 0 4095, zeros k.params 2 2] ()).toBool = true ∧
                                s.m.comp.objs.has (leAt k.params 0 2) = true ∧ objInUse s.m (leAt k.params 0 2) = false
                              status := okRow, params := fun _ => [], owes := none
                              holds := fun s q => q.comp = { s.m.comp with objs := s.m.comp.objs.erase (leAt k.params 0 2) } }
  | .pkgLoad t k memory => some { op := 0x0603, rule := { cls := .load, mirrored := true }, t := t, k := k
                                  fits := fun s => prefixBad s.m k = none ∧ (ownParams k).length = 16 ∧ s.m.txn.loads.length < 8 ∧
                                    (newLoad s.m k (memory.take (leAt (ownParams k) 8 8))).footprint ≠ []
                                  status := pendingRow
                                  params := fun s => commitBlock (applyCfn (commandAt 0x0603 t k s) (prefixCfn k)) ++
                                    le 4 (newLoad s.m k (memory.take (leAt (ownParams k) 8 8))).package.toNat
                                  owes := some .load
                                  holds := fun _ q => ∃ l ∈ q.txn.loads, l.tag = k.tag ∧ l.bytes = memory.take (leAt (ownParams k) 8 8) ∧
                                    l.state ≤ 1 }
  | .wearExport t k => some { op := 0x0604, rule := { cls := .load, pends := true }, t := t, k := k
                              fits := fun s => prefixBad s.m k = none ∧ (ownParams k).length = 16 ∧
                                exportLength s.m.cfg ≤ leAt (ownParams k) 8 8
                              status := pendingRow
                              params := fun s => commitBlock (applyCfn (commandAt 0x0604 t k s) (prefixCfn k)) ++ le 8 0
                              owes := some .other
                              holds := fun s q => q.txn.exports = s.m.txn.exports ++ [{ tag := k.tag, kind := 2, bytes := []
                                                                                        apply := applyCfn (commandAt 0x0604 t k s) (prefixCfn k)
                                                                                        hostAddr := BitVec.ofNat 64 (leAt (ownParams k) 0 8) }] }
  | .calRead t k => some { starts t k 0x0608 with
                           rule := { ruleQuery with pends := true }, fits := fun s => (calReadLayout s.m k.params).toBool = true }
  | .tileCtrl t k => some { op := 0x0707, rule := { ruleOwn with pends := true }, t := t, k := k
                            fits := fun s => (tileCtrlLayout k.params).toBool = true ∧
                              (s.m.tile (byteAt k.params 0) (byteAt k.params 1)).inService = true ∧
                              (s.m.lane (byteAt k.params 0)).queue.length < 64
                            status := pendingRow, params := fun _ => [], owes := some .other
                            holds := fun s q => (q.lane (byteAt k.params 0)).queue = (s.m.lane (byteAt k.params 0)).queue ++
                              [{ key := byteAt k.params 1, op := leAt k.params 2 2, reply := byteAt k.params 5 == 1,
                                 payload := bytesAt k.params 8 (byteAt k.params 4), why := .host k.tag }] }
  | .furrowRescan t k => some { op := 0x0708, rule := ruleOwn, t := t, k := k
                                fits := fun s => (layout k.params 4 [below k.params 0 128, zeros k.params 1 3] ()).toBool = true ∧
                                  (s.m.lane (byteAt k.params 0)).state = 7 ∧ (s.m.lane (byteAt k.params 0)).enum = none
                                status := okRow, params := fun _ => [], owes := none
                                holds := fun _ q => (q.lane (byteAt k.params 0)).enum = some { hop := 0, found := 0, asymSum := 0 } }
  | .tileClear t k => some { op := 0x070A, rule := ruleOwn, t := t, k := k
                             fits := fun s => (layout k.params 4 [below k.params 0 128, within k.params 1 1 1 255, zeros k.params 2 2] ()).toBool = true ∧
                               (s.m.cfg.furrow (byteAt k.params 0)).map.has (byteAt k.params 1) = true
                             status := okRow, params := fun _ => [], owes := none
                             holds := fun _ q => (q.tile (byteAt k.params 0) (byteAt k.params 1)).inService = false }
  | .tbSteer t k => some { op := 0x0903, rule := ruleMirrored, t := t, k := k
                           fits := fun s => (layout k.params 4 [withinInt k.params 0 4 (-200000000) 200000000] ()).toBool = true ∧
                             s.m.tb.state = .locked
                           status := okRow, params := fun _ => [1, 0, 0, 0], owes := none
                           holds := fun s q => q.tb = { s.m.tb with steerNew := some (leIntAt k.params 0 4) } }
  | .pairSwitch t k => some { op := 0x0A02, rule := { ruleOwn with pends := true }, t := t, k := k
                              fits := fun s => k.params = [] ∧ standbyThere s.m = true ∧ s.m.pair.switchAt = none
                              status := pendingRow, params := fun s => commitBlock (firstOpen (commandAt 0x0A02 t k s)), owes := some .other
                              holds := fun s q => q.pair.switchAt = some (firstOpen (commandAt 0x0A02 t k s)) ∧
                                q.pair.switchTag = some k.tag ∧ q.txn.jseq = s.m.txn.jseq + 1 }
  | .fwWrite t k => some { starts t k 0x0B01 with
                           rule := { ruleDagger with pends := true }
                           fits := fun s => (layout k.params 20 [below k.params 0 2, zeros k.params 1 3,
                             (leAt k.params 4 4 % 4096 == 0 && decide (leAt k.params 4 4 < 0x2000000), 4),
                             (leAt k.params 16 4 % 4096 == 0 && decide (leAt k.params 4 4 + leAt k.params 16 4 ≤ 0x2000000), 16)] ()).toBool = true ∧
                             byteAt k.params 0 ≠ s.m.sys.bootSlot }
  | .fwSwitch t k => some { op := 0x0B03, rule := ruleDagger, t := t, k := k
                            fits := fun s => (layout k.params 4 [below k.params 0 2, zeros k.params 1 1, within k.params 2 2 10 3600] ()).toBool = true ∧
                              imageFault s.flash (byteAt k.params 0) = false ∧ switchConflict s.flash (byteAt k.params 0) s.m = false ∧
                              k.flags.getLsbD 0 = true ∧ k.uart = false
                            status := okRow, params := fun _ => [], owes := none
                            holds := fun s q => q.hrt = { s.m.hrt with pendingTrial := some (byteAt k.params 0, leAt k.params 2 2) } }
  | .bootSelect t k => some { starts t k 0x0B04 with
                              rule := ruleDagger, status := okRow, owes := none
                              fits := fun s => (layout k.params 4 [below k.params 0 2, zeros k.params 1 3] ()).toBool = true ∧
                                imageFault s.flash (byteAt k.params 0) = false }
  | .spareSwap t k => some { op := 0x0B05, rule := { ruleDagger with pends := true }, t := t, k := k
                             fits := fun s => (layout k.params 4 [below k.params 0 5, zeros k.params 1 1] ()).toBool = true ∧
                               kindOf (byteAt k.params 0) ≠ .hbm ∧ recovering s.m = false ∧ fallowCount s.m (kindOf (byteAt k.params 0)) ≠ 0 ∧
                               ∃ l, servedBy s.m (kindOf (byteAt k.params 0)) (leAt k.params 2 2) = some l ∧
                                 swapWaits s.m (kindOf (byteAt k.params 0)) l = false
                             status := pendingRow, params := fun _ => [], owes := some .other
                             holds := fun s q => ∃ l, servedBy s.m (kindOf (byteAt k.params 0)) (leAt k.params 2 2) = some l ∧
                               q.hrt = { s.m.hrt with planned := s.m.hrt.planned ++ [{ kind := kindOf (byteAt k.params 0), logical := l, spare := 0,
                                                                                       single := false, wear := true, tag := some k.tag }] } }
  | .selfTest t k => some { op := 0x0B06, rule := { ruleDagger with pends := true }, t := t, k := k
                            fits := fun s => (layout k.params 4 [below k.params 0 5, zeros k.params 1 1] ()).toBool = true ∧
                              isFallow s.m (kindOf (byteAt k.params 0)) (leAt k.params 2 2) = true
                            status := pendingRow, params := fun _ => [], owes := some .other
                            holds := fun s q => q.hrt = { s.m.hrt with tests := s.m.hrt.tests ++
                              [(kindOf (byteAt k.params 0), leAt k.params 2 2, k.tag)] } }
  | _ => none

end Sys2Proof.Machine

/-- A command with a task is taken where its rule allows it: answered OK or PENDING under its tag, with what it starts held by
the part; the configuration, the frame counter, the inputs, the pending commits and both byte memories stand (R331, R341,
R352, Tables 14.3, 14.5 to 14.16). Each form of `taskRow` completes here. -/
def Obligations.TasksTaken : Prop :=
  ∀ (c : Instr) (r : TaskRow) (s : State), taskRow c = some r → takesCommand r.op r.t r.k s → classOk r.rule r.k = true →
    (r.rule.cls = .maint true → s.m.maint.unlocked = true) → (r.rule.pends = true → othersOwed s.m < 32) → r.fits s →
    ∃ u, exec c s = .next u ∧ r.holds s u.m ∧
      (∃ e ∈ u.m.host.tags, e.tag = r.k.tag ∧ e.opcode = r.op ∧ e.crc = r.k.crc ∧ e.owes = r.owes ∧
        e.reply = some (BitVec.ofNat 16 (r.status s), r.params s)) ∧
      u.m.cfg = s.m.cfg ∧ u.m.fr = s.m.fr ∧ u.m.inp = s.m.inp ∧ u.m.txn.commits = s.m.txn.commits ∧ u.m.fab = s.m.fab ∧
      u.m.maint = s.m.maint ∧ u.hbm = s.hbm ∧ u.flash = s.flash ∧ u.pending = s.pending

/-- A transfer of OBJ_LOAD stores its frames, one of CAL_READ puts the live section into host memory; a failed one ends in
TIMEOUT; a load whose data is whole is sealed for its apply CFN, a queued load whose way is clear starts, and an export whose
bands are all done goes to host memory (R158, R163, R338, R359, R361). These forms complete here: calTransferDone,
loadDequeue, wearExportDone, hostTransferDone. -/
def Obligations.TransfersEnd : Prop :=
  ∀ (t : Nat) (s : State), livesAt t s → s.m.hrt.kilnReset = false →
    (∀ (x : Transfer) (data : List Byte), x.opcode = 0x0608 → (s.m.txn.transfers.find? fun y => y.tag == x.tag &&
        (y.opcode == 0x0408 && s.m.pair.role == .primary || y.opcode == 0x0608)) = some x →
      ∃ u, exec (.hostTransferDone t x.tag true data) s = .next u ∧
        u.m.out = s.m.out ++ [.hostWrite (BitVec.ofNat 64 (leAt x.params 8 8))
          (calSection s.m s.hbm (leAt x.params 0 2) (leAt x.params 2 2) (leAt x.params 4 2) (leAt x.params 6 2))] ∧
        u.m.txn.transfers = s.m.txn.transfers.filter (fun y => y.tag != x.tag) ∧ u.m.comp = s.m.comp ∧ u.m.cfg = s.m.cfg ∧
        u.hbm = s.hbm ∧ u.flash = s.flash) ∧
    (∀ (x : Transfer) (data : List Byte) (o : Obj), x.opcode = 0x0408 → s.m.pair.role = .primary → anyLinkUp s.m = false →
      (s.m.txn.transfers.find? fun y => y.tag == x.tag &&
        (y.opcode == 0x0408 && s.m.pair.role == .primary || y.opcode == 0x0608)) = some x →
      s.m.comp.objs.get? (leAt x.params 0 2) = some o →
      ∃ u, exec (.hostTransferDone t x.tag true data) s = .next u ∧
        u.m.comp.objs.get? (leAt x.params 0 2) = some (storeFrames (leAt x.params 4 4) (leAt x.params 8 4) data o) ∧
        (∀ j, j ≠ leAt x.params 0 2 → u.m.comp.objs.get? j = s.m.comp.objs.get? j) ∧
        u.m.txn.transfers = s.m.txn.transfers.filter (fun y => y.tag != x.tag) ∧ u.m.cfg = s.m.cfg ∧ u.hbm = s.hbm ∧ u.flash = s.flash) ∧
    (∀ (l : Load) (partner : Bool), s.m.pair.role = .primary → (s.m.txn.loads.find? fun y => y.tag == l.tag && y.state == 1) = some l →
      packageFault s.m.cfg.canvas l.bytes = none →
      ∃ u, exec (.calTransferDone t l.tag true partner) s = .next u ∧
        (∃ y ∈ u.m.txn.loads, y.tag = l.tag ∧ y.state = 2 ∧ y.bytes = l.bytes ∧ y.apply = applyCfn (advance t s.m) l.reqCfn) ∧
        u.hbm = (if l.kind = 1 then stageCal (advance t s.m) l.bytes l.footprint s.hbm else s.hbm) ∧
        u.m.txn.jseq = s.m.txn.jseq + 1 ∧ u.m.kl = s.m.kl ∧ u.m.cfg = s.m.cfg ∧ u.flash = s.flash) ∧
    (∀ (l : Load) (partner : Bool), s.m.pair.role = .primary → (s.m.txn.loads.find? fun y => y.tag == l.tag && y.state == 1) = some l →
      ∃ u, exec (.calTransferDone t l.tag false partner) s = .next u ∧
        u.m.txn.loads = s.m.txn.loads.filter (fun y => y.tag != l.tag) ∧ u.hbm = s.hbm ∧ u.m.cfg = s.m.cfg ∧ u.flash = s.flash) ∧
    (∀ l : Load, s.m.txn.loads = [l] → l.state = 0 →
      ∃ u, exec (.loadDequeue t l.tag) s = .next u ∧ u.m.txn.loads = [{ l with state := 1 }] ∧ u.m.cfg = s.m.cfg ∧
        u.m.txn.commits = s.m.txn.commits ∧ u.hbm = s.hbm ∧ u.flash = s.flash) ∧
    (∀ j : WearJob, s.m.txn.exports = [j] → exportReady s.m j = true →
      ∃ u, exec (.wearExportDone t j.tag) s = .next u ∧ u.m.txn.exports = [] ∧
        u.m.out = s.m.out ++ [.hostWrite j.hostAddr (exportPackage s.m.cfg j)] ∧ u.m.light = s.m.light ∧ u.m.cfg = s.m.cfg ∧
        u.hbm = s.hbm ∧ u.flash = s.flash)

/-- A packet that fails its length check is discarded and counted; one that fails its CRC is answered CRC_FAIL; with a header
or an opcode that is not defined, BAD_PARAM or BAD_OPCODE; in each case the packet leaves the queue and changes nothing else
(R330, R332, Table 13.2). This form completes here: commandPacketRefused. -/
def Obligations.PacketsRefused : Prop :=
  ∀ (t : Nat) (uart : Bool) (b : List Byte) (s : State), livesAt t s → popsCommands uart s.m = true → stopResponder s.m = false →
    s.m.hrt.pendingTrial = none → s.m.host.newBaud = none → s.m.perf.freeze = true →
    (lengthFits uart b = false → ∃ u, exec (.commandPacketRefused t uart b) s = .next u ∧
      counter blkHost 0 0 u.m = satAdd32 (counter blkHost 0 0 s.m) 1 ∧ u.m.host.replyQueue = s.m.host.replyQueue ∧
      u.m.host.tags = s.m.host.tags ∧ datapathKept s u) ∧
    (lengthFits uart b = true → crcOk (packetAt uart b).1 (packetAt uart b).2.1 = false → uart = false →
      ∃ u, exec (.commandPacketRefused t uart b) s = .next u ∧
        u.m.host.replyQueue = s.m.host.replyQueue ++ [replyOf (packetAt uart b).1 (packetAt uart b).2.1 stCrcFail []] ∧
        u.m.host.tags = s.m.host.tags ∧ datapathKept s u) ∧
    (lengthFits uart b = true → crcOk (packetAt uart b).1 (packetAt uart b).2.1 = true → headerOk (packetAt uart b).2.1 = false →
      uart = false → ∃ u, exec (.commandPacketRefused t uart b) s = .next u ∧
        u.m.host.replyQueue = s.m.host.replyQueue ++
          [replyOf (packetAt uart b).1 (packetAt uart b).2.1 stBadParam (errorBlock noOffset 0)] ∧
        u.m.host.tags = s.m.host.tags ∧ datapathKept s u) ∧
    (lengthFits uart b = true → crcOk (packetAt uart b).1 (packetAt uart b).2.1 = true → headerOk (packetAt uart b).2.1 = true →
      opcodeDefined (packetAt uart b).1 = false → s.m.pair.role = .primary → s.m.sys.ready = true → uart = false →
      tagOf s.m (packetAt uart b).2.1.tag = none → s.m.sys.step = 8 → s.m.sys.stopped = false →
      ∃ u, exec (.commandPacketRefused t uart b) s = .next u ∧
        u.m.host.replyQueue = s.m.host.replyQueue ++
          [replyOf (packetAt uart b).1 (packetAt uart b).2.1 stBadOpcode (errorBlock noOffset 0)] ∧
        (∃ e ∈ u.m.host.tags, e.tag = (packetAt uart b).2.1.tag ∧ e.owes = none) ∧ datapathKept s u)

/-- The order of Table 13.2: a yielding head answers FAULTED, a known tag gets its stored reply again, or DUPLICATE, or
CONFLICT where the packet is another one; a standby refuses what only a primary takes, and a † command is refused while
maintenance mode is locked; none of these changes the datapath (R285, R332, R341, R344). -/
def Obligations.CommandsRefused : Prop :=
  ∀ (t : Nat) (k : CmdPkt) (s : State), livesAt t s → s.m.sys.ready = true → s.m.sys.step = 8 → s.m.sys.stopped = false →
    s.m.hrt.kilnReset = false → s.m.sys.strapHost = true → k.uart = false → lengthOk k = true → headerOk k = true →
    s.m.hrt.pendingTrial = none → s.m.host.newBaud = none → s.m.perf.freeze = true →
    (crcOk 0x0501 k = true → s.m.pair.role = .yielding → ∃ u, exec (.canvasSet t k) s = .next u ∧
      u.m.host.replyQueue = s.m.host.replyQueue ++ [replyOf 0x0501 k stFaulted (errorBlock noOffset 0)] ∧ datapathKept s u) ∧
    (∀ e, crcOk 0x0501 k = true → s.m.pair.role = .primary → tagOf s.m k.tag = some e → (e.opcode ≠ 0x0501 ∨ e.crc ≠ k.crc) →
      ∃ u, exec (.canvasSet t k) s = .next u ∧
        u.m.host.replyQueue = s.m.host.replyQueue ++ [replyOf 0x0501 k stConflict (errorBlock noOffset 0)] ∧ datapathKept s u) ∧
    (∀ e st b, crcOk 0x0501 k = true → s.m.pair.role = .primary → tagOf s.m k.tag = some e → e.opcode = 0x0501 → e.crc = k.crc →
      e.reply = some (st, b) → s.m.pair.waits = [] → s.m.pair.joinHeld = [] → k.flags.getLsbD 0 = true →
      ∃ u, exec (.canvasSet t k) s = .next u ∧
        u.m.host.replyQueue = s.m.host.replyQueue ++ [replyOf 0x0501 k st.toNat b] ∧ u.m.host.tags = s.m.host.tags ∧ datapathKept s u) ∧
    (∀ e, crcOk 0x0501 k = true → s.m.pair.role = .primary → tagOf s.m k.tag = some e → e.opcode = 0x0501 → e.crc = k.crc →
      (e.reply = none ∨ (s.m.pair.waits.any fun w => w.reply.tag == k.tag) = true) → ∃ u, exec (.canvasSet t k) s = .next u ∧
        u.m.host.replyQueue = s.m.host.replyQueue ++ [replyOf 0x0501 k stDuplicate []] ∧ u.m.host.tags = s.m.host.tags ∧
        datapathKept s u) ∧
    (crcOk 0x0501 k = true → s.m.pair.role = .standby → tagOf s.m k.tag = none →
      ∃ u, exec (.canvasSet t k) s = .next u ∧
        u.m.host.replyQueue = s.m.host.replyQueue ++ [replyOf 0x0501 k stNotPrimary (errorBlock noOffset 0)] ∧ datapathKept s u) ∧
    (crcOk 0x0B0A k = true → s.m.pair.role = .primary → tagOf s.m k.tag = none → s.m.maint.unlocked = false →
      classOk ruleDagger k = true → ∃ u, exec (.watchdog t k) s = .next u ∧
        u.m.host.replyQueue = s.m.host.replyQueue ++ [replyOf 0x0B0A k stLocked (errorBlock noOffset 0)] ∧ datapathKept s u)
end

