-- ==== Sys2Proof/Laws/Events.lean ====
section
/-! SUPPORT. What raising an event does to the pending bits: it sets its own and clears none. -/

namespace Sys2Proof.Machine

/-- A pending bit that is set stays set when another is set. -/
theorem setPend_keeps_pend {n k : Nat} (_ : k < 384) {p : Part} (h : p.ev.pend.getLsbD k = true) : (setPend n p).ev.pend.getLsbD k = true := by
  unfold setPend; dsimp only; split
  · unfold signalVector; split <;> simp [h, emit]
  · simp [h]

theorem setPend_sets_pend {n : Nat} (hk : n < 384) (p : Part) : (setPend n p).ev.pend.getLsbD n = true := by
  have : (oneHot384 n).getLsbD n = true := by simp [oneHot384, hk]
  unfold setPend; dsimp only; split
  · unfold signalVector; split <;> simp [this, emit]
  · simp [this]

theorem pushEvent_keeps_pend {k : Nat} (hk : k < 384) {x} {p : Part} (h : p.ev.pend.getLsbD k = true) : (pushEvent x p).ev.pend.getLsbD k = true := by
  unfold pushEvent; split
  · exact h
  · exact setPend_keeps_pend hk h

theorem raiseEvent_keeps_pend {k : Nat} (hk : k < 384) {n i a} {p : Part} (h : p.ev.pend.getLsbD k = true) : (raiseEvent n i a p).ev.pend.getLsbD k = true := by
  unfold raiseEvent; dsimp only; split
  · exact pushEvent_keeps_pend hk (setPend_keeps_pend hk h)
  · exact setPend_keeps_pend hk h

theorem raiseEvent_sets_pend {n i a} (hk : n < 384) {p : Part} : (raiseEvent n i a p).ev.pend.getLsbD n = true := by
  unfold raiseEvent; dsimp only; split
  · exact pushEvent_keeps_pend hk (setPend_sets_pend hk p)
  · exact setPend_sets_pend hk p

theorem pushIntake_keeps_pend {k : Nat} (hk : k < 384) {x} {p : Part} (h : p.ev.pend.getLsbD k = true) : (pushIntake x p).ev.pend.getLsbD k = true := by
  unfold pushIntake; split
  · exact h
  · exact raiseEvent_keeps_pend hk h

theorem report_keeps_pend {k : Nat} (hk : k < 384) {a b c d e f} {p : Part} (h : p.ev.pend.getLsbD k = true) : (report a b c d e f p).ev.pend.getLsbD k = true := by
  unfold report; dsimp only; split
  · exact h
  · apply pushIntake_keeps_pend hk; simp only [Part.updLog_ev]; split <;> (try split) <;> (try split) <;> exact h

/-- Raising an event clears no pending bit. -/
theorem raise_keeps_pend {k : Nat} (hk : k < 384) {n i a} {p : Part} (h : p.ev.pend.getLsbD k = true) : (raise n i a p).ev.pend.getLsbD k = true := by
  unfold raise raiseAs; dsimp only; apply report_keeps_pend hk; split
  · exact raiseEvent_keeps_pend hk (raiseEvent_keeps_pend hk h)
  · exact raiseEvent_keeps_pend hk h

/-- Raising an event sets its pending bit (R368). -/
theorem raise_sets_pend {n i a} (hk : n < 384) {p : Part} : (raise n i a p).ev.pend.getLsbD n = true := by
  unfold raise raiseAs; dsimp only; apply report_keeps_pend hk; split
  · exact raiseEvent_keeps_pend hk (raiseEvent_sets_pend hk)
  · exact raiseEvent_sets_pend hk

end Sys2Proof.Machine
end

