-- ==== Sys2Proof/Laws/PerInstr.lean ====
section
/-! SUPPORT. One family of statements per command, about the command as syntax: a well-formed command that carries a packet carries
a whole number of 4-byte words, at most 4,080 bytes of parameters (R329). -/

namespace Sys2Proof.Laws.WellSized

/-- The command packet that a command carries. -/
def packetOf : Instr → Option CmdPkt
  | .frameEvent _ => none
  | .gateTimeout _ _ => none
  | .fenceTimeout _ _ => none
  | .scanWindowOpen _ _ => none
  | .scanWindowClose _ => none
  | .feederEstimateDone _ => none
  | .bandComposed _ _ _ => none
  | .lowlatExit _ => none
  | .monOutputFrame _ _ => none
  | .inputFrameStart _ _ _ => none
  | .frameStored _ _ _ => none
  | .fenceMemberLost _ _ => none
  | .fencePacket _ _ _ => none
  | .st352Received _ _ _ => none
  | .formatDetected _ _ _ => none
  | .streamLost _ _ _ => none
  | .streamRestored _ _ => none
  | .holdTimeExpiry _ _ => none
  | .rtpPacketReceived _ _ _ _ => none
  | .legLost _ _ _ => none
  | .networkRequest _ _ _ => none
  | .membershipQuery _ _ _ => none
  | .ptpMessage _ _ _ => none
  | .vectorEstimateDone _ _ _ _ => none
  | .tempUnknown _ _ _ => none
  | .calTransferDone _ _ _ _ => none
  | .loadDequeue _ _ => none
  | .wearExportDone _ _ => none
  | .klinkSignalDetect _ _ => none
  | .klinkCdrLock _ _ => none
  | .klinkCommaAlign _ _ => none
  | .klinkTsReceived _ _ _ => none
  | .klinkTrainTimeout _ _ => none
  | .klinkLos _ _ => none
  | .klinkLol _ _ => none
  | .klinkAlignLost _ _ => none
  | .balkOpenerSend _ _ => none
  | .statusRun _ _ => none
  | .ctrlSend _ _ => none
  | .tileStatusReceived _ _ _ _ => none
  | .ackReceived _ _ _ _ => none
  | .ctrlReplyReceived _ _ _ _ => none
  | .alarmReceived _ _ _ _ => none
  | .foreignPacket _ _ _ _ => none
  | .replayTimeout _ _ _ => none
  | .tileLost _ _ _ => none
  | .tilePowerStuck _ _ _ => none
  | .audSampleIn _ _ _ _ => none
  | .audSampleOut _ _ _ _ _ => none
  | .audSlip _ _ => none
  | .zcTimeout _ _ => none
  | .audSourceLost _ _ => none
  | .refActivityLoss _ _ => none
  | .freqGate _ _ _ => none
  | .refQualified _ _ => none
  | .phaseDetectorSample _ _ _ => none
  | .bandSearchDone _ _ _ => none
  | .bandSearchFail _ => none
  | .bypassWaitExpiry _ => none
  | .switchHoldoffExpiry _ => none
  | .acquisitionTimeout _ => none
  | .dwellComplete _ _ => none
  | .holdoverSecond _ _ => none
  | .referenceWaitExpiry _ => none
  | .rootLockLost _ => none
  | .xoFail _ => none
  | .heartbeatSend _ => none
  | .heartbeatReceived _ _ _ _ => none
  | .pairLinkLost _ _ => none
  | .mirrorReceived _ _ _ _ pkt => some pkt
  | .journalReceived _ _ _ => none
  | .bulkReceived _ _ _ _ _ => none
  | .pairAckReceived _ _ _ _ => none
  | .pairResend _ _ _ _ => none
  | .mirrorTimeout _ _ => none
  | .syncReceived _ _ _ => none
  | .syncMiss _ => none
  | .bandsumReceived _ _ _ _ => none
  | .verdictReceived _ _ _ _ => none
  | .verdictTimeout _ _ _ => none
  | .pairYieldLow _ => none
  | .pairTenureHigh _ => none
  | .tenureWaitExpiry _ => none
  | .wireUnmark _ => none
  | .witnessClaim _ => none
  | .joinWaitExpiry _ => none
  | .unitFault _ _ _ _ => none
  | .progressWatchdog _ _ _ => none
  | .hearthSwap _ => none
  | .plannedSwap _ _ _ => none
  | .furrowFault _ _ _ => none
  | .kilnLockstepMismatch _ _ => none
  | .kilnWatchdog _ _ => none
  | .kilnRestored _ => none
  | .hearthCopyDisagree _ _ _ => none
  | .selfTestDuty _ _ _ _ => none
  | .wearTrendSample _ _ => none
  | .memFault _ _ _ => none
  | .memRemap _ => none
  | .patrolScrub _ _ _ => none
  | .fabricDecerr _ _ => none
  | .logWindowClose _ _ _ _ => none
  | .logWrite _ => none
  | .logLostEntry _ => none
  | .logBankFail _ _ => none
  | .logBankCopyDone _ => none
  | .fwTrialEnd _ => none
  | .txnExpired _ _ => none
  | .eventRingWrite _ => none
  | .evqLostEntry _ => none
  | .slateAutoTrigger _ => none
  | .slatePinRelease _ => none
  | .cmdDoorbell _ _ => none
  | .cmdFetch _ _ => none
  | .replyWrite _ => none
  | .rplHeadWrite _ _ => none
  | .evrHeadWrite _ _ => none
  | .cmdEn _ _ => none
  | .rplEn _ _ => none
  | .evrEn _ _ => none
  | .wbEn _ _ => none
  | .ringErr _ => none
  | .dmaErr _ => none
  | .hostDmaErr _ _ => none
  | .replyModExpiry _ => none
  | .uartFrame _ _ => none
  | .uartByteTimeout _ => none
  | .uartBreak _ => none
  | .perstN _ => none
  | .resetNAssert _ => none
  | .pwrOkLow _ => none
  | .resetNRelease _ _ _ _ => none
  | .kindlingStepDone _ _ => none
  | .energyTick _ _ _ _ => none
  | .powerCapExceeded _ => none
  | .pmbusPoll _ _ => none
  | .pmbusAlert _ _ _ => none
  | .thermCrit _ _ _ => none
  | .damped _ _ _ => none
  | .maintUnlockKey _ _ => none
  | .relock _ => none
  | .maintDisable _ => none
  | .maintTimeout _ => none
  | .gpioLock _ => none
  | .gpio15Maint _ _ => none
  | .eventPendWrite _ _ _ => none
  | .eventMaskWrite _ _ _ => none
  | .regLoRead _ _ _ => none
  | .globalFreeze _ _ => none
  | .snap _ => none
  | .snapFe _ _ => none
  | .perfOvfClear _ _ _ => none
  | .perfCounterWrite _ _ _ _ => none
  | .registerWrite _ _ _ _ => none
  | .ident _ pkt => some pkt
  | .status _ pkt => some pkt
  | .glean _ pkt => some pkt
  | .ping _ pkt => some pkt
  | .time _ pkt => some pkt
  | .txnOpen _ pkt => some pkt
  | .txnSeal _ pkt => some pkt
  | .txnAbort _ pkt => some pkt
  | .txnList _ pkt => some pkt
  | .commitList _ pkt => some pkt
  | .fenceSet _ pkt => some pkt
  | .fenceAnc _ pkt => some pkt
  | .fenceStatus _ pkt => some pkt
  | .streamSdi _ pkt => some pkt
  | .streamIp _ pkt => some pkt
  | .streamParams _ pkt => some pkt
  | .inputRemove _ pkt => some pkt
  | .audFlow _ pkt => some pkt
  | .ancFlow _ pkt => some pkt
  | .ethSet _ pkt => some pkt
  | .ptpSet _ pkt => some pkt
  | .streamStatus _ pkt => some pkt
  | .portStatus _ pkt => some pkt
  | .streamRead _ pkt => some pkt
  | .flowStatus _ pkt => some pkt
  | .frcSet _ pkt => some pkt
  | .frcStatus _ pkt => some pkt
  | .frcRead _ pkt => some pkt
  | .regionSet _ pkt => some pkt
  | .regionRemove _ pkt => some pkt
  | .layerSet _ pkt => some pkt
  | .layerRemove _ pkt => some pkt
  | .coefLoad _ pkt => some pkt
  | .coefRead _ pkt => some pkt
  | .objAlloc _ pkt => some pkt
  | .objLoad _ pkt => some pkt
  | .objRelease _ pkt => some pkt
  | .objStatus _ pkt => some pkt
  | .regionRead _ pkt => some pkt
  | .layerRead _ pkt => some pkt
  | .canvasSet _ pkt => some pkt
  | .lowlatSet _ pkt => some pkt
  | .holdSet _ pkt => some pkt
  | .monSet _ pkt => some pkt
  | .slateSet _ pkt => some pkt
  | .slateShow _ pkt => some pkt
  | .slateClear _ pkt => some pkt
  | .canvasStatus _ pkt => some pkt
  | .bandSums _ pkt => some pkt
  | .canvasRead _ pkt => some pkt
  | .monStatus _ pkt => some pkt
  | .lightSet _ pkt => some pkt
  | .typeLoad _ pkt => some pkt
  | .pkgLoad _ pkt _ => some pkt
  | .wearExport _ pkt => some pkt
  | .loadStatus _ pkt => some pkt
  | .feederSet _ pkt => some pkt
  | .feederStatus _ pkt => some pkt
  | .calRead _ pkt => some pkt
  | .typeRead _ pkt => some pkt
  | .feederRead _ pkt => some pkt
  | .lightRead _ pkt => some pkt
  | .furrowSet _ pkt => some pkt
  | .latchSet _ pkt => some pkt
  | .tilemapSet _ pkt => some pkt
  | .tileLevel _ pkt => some pkt
  | .furrowStatus _ pkt => some pkt
  | .tileStatus _ pkt => some pkt
  | .tileCtrl _ pkt => some pkt
  | .furrowRescan _ pkt => some pkt
  | .tilemapRead _ pkt => some pkt
  | .tileClear _ pkt => some pkt
  | .audChan _ pkt => some pkt
  | .audPort _ pkt => some pkt
  | .audMclk _ pkt => some pkt
  | .audZc _ pkt => some pkt
  | .audStatus _ pkt => some pkt
  | .audRead _ pkt => some pkt
  | .tbSlot _ pkt => some pkt
  | .tbSet _ pkt => some pkt
  | .tbSteer _ pkt => some pkt
  | .couSet _ pkt => some pkt
  | .tbStatus _ pkt => some pkt
  | .tbSlotStatus _ pkt => some pkt
  | .tbRead _ pkt => some pkt
  | .pairSet _ pkt => some pkt
  | .pairSwitch _ pkt => some pkt
  | .pairStatus _ pkt => some pkt
  | .pairRead _ pkt => some pkt
  | .fwWrite _ pkt => some pkt
  | .fwVerify _ pkt => some pkt
  | .fwSwitch _ pkt => some pkt
  | .bootSelect _ pkt => some pkt
  | .spareSwap _ pkt => some pkt
  | .selfTest _ pkt => some pkt
  | .powerCap _ pkt => some pkt
  | .wearThresh _ pkt => some pkt
  | .uartRate _ pkt => some pkt
  | .watchdog _ pkt => some pkt
  | .headlandStatus _ pkt => some pkt
  | .powerStatus _ pkt => some pkt
  | .hbmStatus _ pkt => some pkt
  | .scrubSet _ pkt => some pkt
  | .evStatus _ pkt => some pkt
  | .evClear _ pkt => some pkt
  | .cntRead _ pkt => some pkt
  | .cntClear _ pkt => some pkt
  | .perfSnapshot _ pkt => some pkt
  | .logStatus _ pkt => some pkt
  | .evMask _ pkt => some pkt
  | .perfSet _ pkt => some pkt
  | .perfRead _ pkt => some pkt
  | .commandPacketRefused _ _ _ => none
  | .klinkPacketDiscarded _ _ _ => none
  | .klinkSymbolError _ _ => none
  | .pairFrameDiscarded _ _ => none
  | .ethLinkDown _ _ => none
  | .ethLinkUp _ _ => none
  | .xoRestored _ => none
  | .thermWarn _ _ _ => none
  | .perfCounterWrap _ _ _ => none
  | .hostTransferDone _ _ _ _ => none
  | .flashWriteDone _ _ _ _ => none
  | .jtagTapOperation _ _ => none

/-- The parameters of a packet are whole words, and at most 4,080 bytes. -/
def Sized (k : CmdPkt) : Prop := k.params.length % 4 = 0 ∧ k.params.length ≤ 4080

/-- The statement of one command. -/
def Statement (i : Instr) : Prop := i.wellFormed = true → ∀ k, packetOf i = some k → Sized k

theorem sized_of_wellFormed {k : CmdPkt} (h : k.wellFormed = true) : Sized k := by
  simp only [CmdPkt.wellFormed, Bool.and_eq_true, beq_iff_eq, decide_eq_true_eq] at h
  exact ⟨by omega, by omega⟩

theorem frameEvent (gpio : BitVec 16) : Statement (.frameEvent gpio) :=
  fun _ _ e => nomatch e
theorem gateTimeout (t : Nat) (jseq : Nat) : Statement (.gateTimeout t jseq) :=
  fun _ _ e => nomatch e
theorem fenceTimeout (t : Nat) (group : Nat) : Statement (.fenceTimeout t group) :=
  fun _ _ e => nomatch e
theorem scanWindowOpen (t : Nat) (short : List (Nat × Nat)) : Statement (.scanWindowOpen t short) :=
  fun _ _ e => nomatch e
theorem scanWindowClose (t : Nat) : Statement (.scanWindowClose t) :=
  fun _ _ e => nomatch e
theorem feederEstimateDone (t : Nat) : Statement (.feederEstimateDone t) :=
  fun _ _ e => nomatch e
theorem bandComposed (t : Nat) (band : Nat) (behind : Bool) : Statement (.bandComposed t band behind) :=
  fun _ _ e => nomatch e
theorem lowlatExit (t : Nat) : Statement (.lowlatExit t) :=
  fun _ _ e => nomatch e
theorem monOutputFrame (t : Nat) (output : Nat) : Statement (.monOutputFrame t output) :=
  fun _ _ e => nomatch e
theorem inputFrameStart (t : Nat) (stream : Nat) (lines : Option InFrame) : Statement (.inputFrameStart t stream lines) :=
  fun _ _ e => nomatch e
theorem frameStored (t : Nat) (stream : Nat) (frame : InFrame) : Statement (.frameStored t stream frame) :=
  fun _ _ e => nomatch e
theorem fenceMemberLost (t : Nat) (stream : Nat) : Statement (.fenceMemberLost t stream) :=
  fun _ _ e => nomatch e
theorem fencePacket (t : Nat) (stream : Nat) (pkt : FencePkt) : Statement (.fencePacket t stream pkt) :=
  fun _ _ e => nomatch e
theorem st352Received (t : Nat) (input : Nat) (id : PayloadId) : Statement (.st352Received t input id) :=
  fun _ _ e => nomatch e
theorem formatDetected (t : Nat) (stream : Nat) (fmt : VideoFormat) : Statement (.formatDetected t stream fmt) :=
  fun _ _ e => nomatch e
theorem streamLost (t : Nat) (stream : Nat) (cause : LossCause) : Statement (.streamLost t stream cause) :=
  fun _ _ e => nomatch e
theorem streamRestored (t : Nat) (stream : Nat) : Statement (.streamRestored t stream) :=
  fun _ _ e => nomatch e
theorem holdTimeExpiry (t : Nat) (stream : Nat) : Statement (.holdTimeExpiry t stream) :=
  fun _ _ e => nomatch e
theorem rtpPacketReceived (t : Nat) (stream : Nat) (leg : Nat) (pkt : RtpPacket) : Statement (.rtpPacketReceived t stream leg pkt) :=
  fun _ _ e => nomatch e
theorem legLost (t : Nat) (stream : Nat) (leg : Nat) : Statement (.legLost t stream leg) :=
  fun _ _ e => nomatch e
theorem networkRequest (t : Nat) (port : Nat) (req : NetRequest) : Statement (.networkRequest t port req) :=
  fun _ _ e => nomatch e
theorem membershipQuery (t : Nat) (port : Nat) (v6 : Bool) : Statement (.membershipQuery t port v6) :=
  fun _ _ e => nomatch e
theorem ptpMessage (t : Nat) (port : Nat) (msg : PtpMessage) : Statement (.ptpMessage t port msg) :=
  fun _ _ e => nomatch e
theorem vectorEstimateDone (t : Nat) (conv : Nat) (seqB : Nat) (blocks : List VecBlock) : Statement (.vectorEstimateDone t conv seqB blocks) :=
  fun _ _ e => nomatch e
theorem tempUnknown (t : Nat) (furrow : Nat) (position : Nat) : Statement (.tempUnknown t furrow position) :=
  fun _ _ e => nomatch e
theorem calTransferDone (t : Nat) (tag : Word) (ok : Bool) (partnerHolds : Bool) : Statement (.calTransferDone t tag ok partnerHolds) :=
  fun _ _ e => nomatch e
theorem loadDequeue (t : Nat) (tag : Word) : Statement (.loadDequeue t tag) :=
  fun _ _ e => nomatch e
theorem wearExportDone (t : Nat) (tag : Word) : Statement (.wearExportDone t tag) :=
  fun _ _ e => nomatch e
theorem klinkSignalDetect (t : Nat) (furrow : Nat) : Statement (.klinkSignalDetect t furrow) :=
  fun _ _ e => nomatch e
theorem klinkCdrLock (t : Nat) (furrow : Nat) : Statement (.klinkCdrLock t furrow) :=
  fun _ _ e => nomatch e
theorem klinkCommaAlign (t : Nat) (furrow : Nat) : Statement (.klinkCommaAlign t furrow) :=
  fun _ _ e => nomatch e
theorem klinkTsReceived (t : Nat) (furrow : Nat) (sets : List TrainSet) : Statement (.klinkTsReceived t furrow sets) :=
  fun _ _ e => nomatch e
theorem klinkTrainTimeout (t : Nat) (furrow : Nat) : Statement (.klinkTrainTimeout t furrow) :=
  fun _ _ e => nomatch e
theorem klinkLos (t : Nat) (furrow : Nat) : Statement (.klinkLos t furrow) :=
  fun _ _ e => nomatch e
theorem klinkLol (t : Nat) (furrow : Nat) : Statement (.klinkLol t furrow) :=
  fun _ _ e => nomatch e
theorem klinkAlignLost (t : Nat) (furrow : Nat) : Statement (.klinkAlignLost t furrow) :=
  fun _ _ e => nomatch e
theorem balkOpenerSend (t : Nat) (furrow : Nat) : Statement (.balkOpenerSend t furrow) :=
  fun _ _ e => nomatch e
theorem statusRun (t : Nat) (furrow : Nat) : Statement (.statusRun t furrow) :=
  fun _ _ e => nomatch e
theorem ctrlSend (t : Nat) (furrow : Nat) : Statement (.ctrlSend t furrow) :=
  fun _ _ e => nomatch e
theorem tileStatusReceived (t : Nat) (furrow : Nat) (hdr : UpHeader) (status : TileStatus) : Statement (.tileStatusReceived t furrow hdr status) :=
  fun _ _ e => nomatch e
theorem ackReceived (t : Nat) (furrow : Nat) (hdr : UpHeader) (next : Half) : Statement (.ackReceived t furrow hdr next) :=
  fun _ _ e => nomatch e
theorem ctrlReplyReceived (t : Nat) (furrow : Nat) (hdr : UpHeader) (reply : CtrlReply) : Statement (.ctrlReplyReceived t furrow hdr reply) :=
  fun _ _ e => nomatch e
theorem alarmReceived (t : Nat) (furrow : Nat) (hdr : UpHeader) (alarm : Alarm) : Statement (.alarmReceived t furrow hdr alarm) :=
  fun _ _ e => nomatch e
theorem foreignPacket (t : Nat) (furrow : Nat) (hdr : UpHeader) (isSow : Bool) : Statement (.foreignPacket t furrow hdr isSow) :=
  fun _ _ e => nomatch e
theorem replayTimeout (t : Nat) (furrow : Nat) (key : Nat) : Statement (.replayTimeout t furrow key) :=
  fun _ _ e => nomatch e
theorem tileLost (t : Nat) (furrow : Nat) (position : Nat) : Statement (.tileLost t furrow position) :=
  fun _ _ e => nomatch e
theorem tilePowerStuck (t : Nat) (furrow : Nat) (position : Nat) : Statement (.tilePowerStuck t furrow position) :=
  fun _ _ e => nomatch e
theorem audSampleIn (t : Nat) (src : AudDomain) (channel : Nat) (sample : AudSample) : Statement (.audSampleIn t src channel sample) :=
  fun _ _ e => nomatch e
theorem audSampleOut (t : Nat) (port : Nat) (right : Bool) (push : Bool) (pop : Bool) : Statement (.audSampleOut t port right push pop) :=
  fun _ _ e => nomatch e
theorem audSlip (t : Nat) (src : AudDomain) : Statement (.audSlip t src) :=
  fun _ _ e => nomatch e
theorem zcTimeout (t : Nat) (channel : Nat) : Statement (.zcTimeout t channel) :=
  fun _ _ e => nomatch e
theorem audSourceLost (t : Nat) (src : AudDomain) : Statement (.audSourceLost t src) :=
  fun _ _ e => nomatch e
theorem refActivityLoss (t : Nat) (slot : Nat) : Statement (.refActivityLoss t slot) :=
  fun _ _ e => nomatch e
theorem freqGate (t : Nat) (slot : Nat) (offset : Int) : Statement (.freqGate t slot offset) :=
  fun _ _ e => nomatch e
theorem refQualified (t : Nat) (slot : Nat) : Statement (.refQualified t slot) :=
  fun _ _ e => nomatch e
theorem phaseDetectorSample (t : Nat) (slot : Nat) (sample : PhaseSample) : Statement (.phaseDetectorSample t slot sample) :=
  fun _ _ e => nomatch e
theorem bandSearchDone (t : Nat) (band : Nat) (fine : Int) : Statement (.bandSearchDone t band fine) :=
  fun _ _ e => nomatch e
theorem bandSearchFail (t : Nat) : Statement (.bandSearchFail t) :=
  fun _ _ e => nomatch e
theorem bypassWaitExpiry (t : Nat) : Statement (.bypassWaitExpiry t) :=
  fun _ _ e => nomatch e
theorem switchHoldoffExpiry (t : Nat) : Statement (.switchHoldoffExpiry t) :=
  fun _ _ e => nomatch e
theorem acquisitionTimeout (t : Nat) : Statement (.acquisitionTimeout t) :=
  fun _ _ e => nomatch e
theorem dwellComplete (t : Nat) (within : Bool) : Statement (.dwellComplete t within) :=
  fun _ _ e => nomatch e
theorem holdoverSecond (t : Nat) (mean : Int) : Statement (.holdoverSecond t mean) :=
  fun _ _ e => nomatch e
theorem referenceWaitExpiry (t : Nat) : Statement (.referenceWaitExpiry t) :=
  fun _ _ e => nomatch e
theorem rootLockLost (t : Nat) : Statement (.rootLockLost t) :=
  fun _ _ e => nomatch e
theorem xoFail (t : Nat) : Statement (.xoFail t) :=
  fun _ _ e => nomatch e
theorem heartbeatSend (t : Nat) : Statement (.heartbeatSend t) :=
  fun _ _ e => nomatch e
theorem heartbeatReceived (t : Nat) (linkB : Bool) (cfn : Nat) (hb : Heartbeat) : Statement (.heartbeatReceived t linkB cfn hb) :=
  fun _ _ e => nomatch e
theorem pairLinkLost (t : Nat) (linkB : Bool) : Statement (.pairLinkLost t linkB) :=
  fun _ _ e => nomatch e
theorem mirrorReceived (t : Nat) (linkB : Bool) (mseq : Nat) (opcode : Nat) (pkt : CmdPkt) : Statement (.mirrorReceived t linkB mseq opcode pkt) :=
  fun h _ e => Option.some.inj e ▸ sized_of_wellFormed (by simp_all [Instr.wellFormed])
theorem journalReceived (t : Nat) (linkB : Bool) (entry : JournalEntry) : Statement (.journalReceived t linkB entry) :=
  fun _ _ e => nomatch e
theorem bulkReceived (t : Nat) (linkB : Bool) (object : Nat) (offset : Nat) (data : BulkData) : Statement (.bulkReceived t linkB object offset data) :=
  fun _ _ e => nomatch e
theorem pairAckReceived (t : Nat) (linkB : Bool) (kind : Nat) (seq : Nat) : Statement (.pairAckReceived t linkB kind seq) :=
  fun _ _ e => nomatch e
theorem pairResend (t : Nat) (linkB : Bool) (kind : Nat) (seq : Nat) : Statement (.pairResend t linkB kind seq) :=
  fun _ _ e => nomatch e
theorem mirrorTimeout (t : Nat) (mseq : Nat) : Statement (.mirrorTimeout t mseq) :=
  fun _ _ e => nomatch e
theorem syncReceived (t : Nat) (cfn : Nat) (shown : List SyncEntry) : Statement (.syncReceived t cfn shown) :=
  fun _ _ e => nomatch e
theorem syncMiss (t : Nat) : Statement (.syncMiss t) :=
  fun _ _ e => nomatch e
theorem bandsumReceived (t : Nat) (cfn : Nat) (first : Nat) (sums : List (Option DWord)) : Statement (.bandsumReceived t cfn first sums) :=
  fun _ _ e => nomatch e
theorem verdictReceived (t : Nat) (cfn : Nat) (band : Nat) (result : Nat) : Statement (.verdictReceived t cfn band result) :=
  fun _ _ e => nomatch e
theorem verdictTimeout (t : Nat) (cfn : Nat) (band : Nat) : Statement (.verdictTimeout t cfn band) :=
  fun _ _ e => nomatch e
theorem pairYieldLow (t : Nat) : Statement (.pairYieldLow t) :=
  fun _ _ e => nomatch e
theorem pairTenureHigh (t : Nat) : Statement (.pairTenureHigh t) :=
  fun _ _ e => nomatch e
theorem tenureWaitExpiry (t : Nat) : Statement (.tenureWaitExpiry t) :=
  fun _ _ e => nomatch e
theorem wireUnmark (t : Nat) : Statement (.wireUnmark t) :=
  fun _ _ e => nomatch e
theorem witnessClaim (t : Nat) : Statement (.witnessClaim t) :=
  fun _ _ e => nomatch e
theorem joinWaitExpiry (t : Nat) : Statement (.joinWaitExpiry t) :=
  fun _ _ e => nomatch e
theorem unitFault (t : Nat) (kind : UnitKind) (logical : Nat) (single : Bool) : Statement (.unitFault t kind logical single) :=
  fun _ _ e => nomatch e
theorem progressWatchdog (t : Nat) (kind : UnitKind) (logical : Nat) : Statement (.progressWatchdog t kind logical) :=
  fun _ _ e => nomatch e
theorem hearthSwap (t : Nat) : Statement (.hearthSwap t) :=
  fun _ _ e => nomatch e
theorem plannedSwap (t : Nat) (kind : UnitKind) (logical : Nat) : Statement (.plannedSwap t kind logical) :=
  fun _ _ e => nomatch e
theorem furrowFault (t : Nat) (furrow : Nat) (serdesOk : Bool) : Statement (.furrowFault t furrow serdesOk) :=
  fun _ _ e => nomatch e
theorem kilnLockstepMismatch (t : Nat) (failing : Option Nat) : Statement (.kilnLockstepMismatch t failing) :=
  fun _ _ e => nomatch e
theorem kilnWatchdog (t : Nat) (failing : Option Nat) : Statement (.kilnWatchdog t failing) :=
  fun _ _ e => nomatch e
theorem kilnRestored (t : Nat) : Statement (.kilnRestored t) :=
  fun _ _ e => nomatch e
theorem hearthCopyDisagree (t : Nat) (copy : Nat) (majority : Bool) : Statement (.hearthCopyDisagree t copy majority) :=
  fun _ _ e => nomatch e
theorem selfTestDuty (t : Nat) (kind : UnitKind) (physical : Nat) (pass : Bool) : Statement (.selfTestDuty t kind physical pass) :=
  fun _ _ e => nomatch e
theorem wearTrendSample (t : Nat) (sample : TrendSample) : Statement (.wearTrendSample t sample) :=
  fun _ _ e => nomatch e
theorem memFault (t : Nat) (logical : Nat) (segment : Nat) : Statement (.memFault t logical segment) :=
  fun _ _ e => nomatch e
theorem memRemap (t : Nat) : Statement (.memRemap t) :=
  fun _ _ e => nomatch e
theorem patrolScrub (t : Nat) (logical : Nat) (corrected : Nat) : Statement (.patrolScrub t logical corrected) :=
  fun _ _ e => nomatch e
theorem fabricDecerr (t : Nat) (master : Master) : Statement (.fabricDecerr t master) :=
  fun _ _ e => nomatch e
theorem logWindowClose (t : Nat) (source : Nat) (inst : Nat) (code : Nat) : Statement (.logWindowClose t source inst code) :=
  fun _ _ e => nomatch e
theorem logWrite (t : Nat) : Statement (.logWrite t) :=
  fun _ _ e => nomatch e
theorem logLostEntry (t : Nat) : Statement (.logLostEntry t) :=
  fun _ _ e => nomatch e
theorem logBankFail (t : Nat) (bankB : Bool) : Statement (.logBankFail t bankB) :=
  fun _ _ e => nomatch e
theorem logBankCopyDone (t : Nat) : Statement (.logBankCopyDone t) :=
  fun _ _ e => nomatch e
theorem fwTrialEnd (t : Nat) : Statement (.fwTrialEnd t) :=
  fun _ _ e => nomatch e
theorem txnExpired (t : Nat) (id : Nat) : Statement (.txnExpired t id) :=
  fun _ _ e => nomatch e
theorem eventRingWrite (t : Nat) : Statement (.eventRingWrite t) :=
  fun _ _ e => nomatch e
theorem evqLostEntry (t : Nat) : Statement (.evqLostEntry t) :=
  fun _ _ e => nomatch e
theorem slateAutoTrigger (t : Nat) : Statement (.slateAutoTrigger t) :=
  fun _ _ e => nomatch e
theorem slatePinRelease (t : Nat) : Statement (.slatePinRelease t) :=
  fun _ _ e => nomatch e
theorem cmdDoorbell (t : Nat) (value : Word) : Statement (.cmdDoorbell t value) :=
  fun _ _ e => nomatch e
theorem cmdFetch (t : Nat) (slot : List Byte) : Statement (.cmdFetch t slot) :=
  fun _ _ e => nomatch e
theorem replyWrite (t : Nat) : Statement (.replyWrite t) :=
  fun _ _ e => nomatch e
theorem rplHeadWrite (t : Nat) (value : Word) : Statement (.rplHeadWrite t value) :=
  fun _ _ e => nomatch e
theorem evrHeadWrite (t : Nat) (value : Word) : Statement (.evrHeadWrite t value) :=
  fun _ _ e => nomatch e
theorem cmdEn (t : Nat) (on : Bool) : Statement (.cmdEn t on) :=
  fun _ _ e => nomatch e
theorem rplEn (t : Nat) (on : Bool) : Statement (.rplEn t on) :=
  fun _ _ e => nomatch e
theorem evrEn (t : Nat) (on : Bool) : Statement (.evrEn t on) :=
  fun _ _ e => nomatch e
theorem wbEn (t : Nat) (on : Bool) : Statement (.wbEn t on) :=
  fun _ _ e => nomatch e
theorem ringErr (t : Nat) : Statement (.ringErr t) :=
  fun _ _ e => nomatch e
theorem dmaErr (t : Nat) : Statement (.dmaErr t) :=
  fun _ _ e => nomatch e
theorem hostDmaErr (t : Nat) (ring : HostRing) : Statement (.hostDmaErr t ring) :=
  fun _ _ e => nomatch e
theorem replyModExpiry (t : Nat) : Statement (.replyModExpiry t) :=
  fun _ _ e => nomatch e
theorem uartFrame (t : Nat) (raw : List Byte) : Statement (.uartFrame t raw) :=
  fun _ _ e => nomatch e
theorem uartByteTimeout (t : Nat) : Statement (.uartByteTimeout t) :=
  fun _ _ e => nomatch e
theorem uartBreak (t : Nat) : Statement (.uartBreak t) :=
  fun _ _ e => nomatch e
theorem perstN (t : Nat) : Statement (.perstN t) :=
  fun _ _ e => nomatch e
theorem resetNAssert (t : Nat) : Statement (.resetNAssert t) :=
  fun _ _ e => nomatch e
theorem pwrOkLow (t : Nat) : Statement (.pwrOkLow t) :=
  fun _ _ e => nomatch e
theorem resetNRelease (t : Nat) (endB : Bool) (host : Bool) (boot : BitVec 2) : Statement (.resetNRelease t endB host boot) :=
  fun _ _ e => nomatch e
theorem kindlingStepDone (t : Nat) (report : KindlingReport) : Statement (.kindlingStepDone t report) :=
  fun _ _ e => nomatch e
theorem energyTick (t : Nat) (estimate : Nat) (tj : Int) (sensor : Nat) : Statement (.energyTick t estimate tj sensor) :=
  fun _ _ e => nomatch e
theorem powerCapExceeded (t : Nat) : Statement (.powerCapExceeded t) :=
  fun _ _ e => nomatch e
theorem pmbusPoll (t : Nat) (readings : List (Option Nat)) : Statement (.pmbusPoll t readings) :=
  fun _ _ e => nomatch e
theorem pmbusAlert (t : Nat) (low : Bool) (words : List Half) : Statement (.pmbusAlert t low words) :=
  fun _ _ e => nomatch e
theorem thermCrit (t : Nat) (tj : Int) (sensor : Nat) : Statement (.thermCrit t tj sensor) :=
  fun _ _ e => nomatch e
theorem damped (t : Nat) (tj : Int) (sensor : Nat) : Statement (.damped t tj sensor) :=
  fun _ _ e => nomatch e
theorem maintUnlockKey (t : Nat) (key : Half) : Statement (.maintUnlockKey t key) :=
  fun _ _ e => nomatch e
theorem relock (t : Nat) : Statement (.relock t) :=
  fun _ _ e => nomatch e
theorem maintDisable (t : Nat) : Statement (.maintDisable t) :=
  fun _ _ e => nomatch e
theorem maintTimeout (t : Nat) : Statement (.maintTimeout t) :=
  fun _ _ e => nomatch e
theorem gpioLock (t : Nat) : Statement (.gpioLock t) :=
  fun _ _ e => nomatch e
theorem gpio15Maint (t : Nat) (level : Bool) : Statement (.gpio15Maint t level) :=
  fun _ _ e => nomatch e
theorem eventPendWrite (t : Nat) (bank : Nat) (value : Word) : Statement (.eventPendWrite t bank value) :=
  fun _ _ e => nomatch e
theorem eventMaskWrite (t : Nat) (bank : Nat) (value : Word) : Statement (.eventMaskWrite t bank value) :=
  fun _ _ e => nomatch e
theorem regLoRead (t : Nat) (kilnPath : Bool) (offset : Nat) : Statement (.regLoRead t kilnPath offset) :=
  fun _ _ e => nomatch e
theorem globalFreeze (t : Nat) (on : Bool) : Statement (.globalFreeze t on) :=
  fun _ _ e => nomatch e
theorem snap (t : Nat) : Statement (.snap t) :=
  fun _ _ e => nomatch e
theorem snapFe (t : Nat) (on : Bool) : Statement (.snapFe t on) :=
  fun _ _ e => nomatch e
theorem perfOvfClear (t : Nat) (group : Nat) (bits : Byte) : Statement (.perfOvfClear t group bits) :=
  fun _ _ e => nomatch e
theorem perfCounterWrite (t : Nat) (group : Nat) (counter : Nat) (value : Word) : Statement (.perfCounterWrite t group counter value) :=
  fun _ _ e => nomatch e
theorem registerWrite (t : Nat) (offset : Nat) (value : Word) (enables : BitVec 4) : Statement (.registerWrite t offset value enables) :=
  fun _ _ e => nomatch e
theorem ident (t : Nat) (pkt : CmdPkt) : Statement (.ident t pkt) :=
  fun h _ e => Option.some.inj e ▸ sized_of_wellFormed h
theorem status (t : Nat) (pkt : CmdPkt) : Statement (.status t pkt) :=
  fun h _ e => Option.some.inj e ▸ sized_of_wellFormed h
theorem glean (t : Nat) (pkt : CmdPkt) : Statement (.glean t pkt) :=
  fun h _ e => Option.some.inj e ▸ sized_of_wellFormed h
theorem ping (t : Nat) (pkt : CmdPkt) : Statement (.ping t pkt) :=
  fun h _ e => Option.some.inj e ▸ sized_of_wellFormed h
theorem time (t : Nat) (pkt : CmdPkt) : Statement (.time t pkt) :=
  fun h _ e => Option.some.inj e ▸ sized_of_wellFormed h
theorem txnOpen (t : Nat) (pkt : CmdPkt) : Statement (.txnOpen t pkt) :=
  fun h _ e => Option.some.inj e ▸ sized_of_wellFormed h
theorem txnSeal (t : Nat) (pkt : CmdPkt) : Statement (.txnSeal t pkt) :=
  fun h _ e => Option.some.inj e ▸ sized_of_wellFormed h
theorem txnAbort (t : Nat) (pkt : CmdPkt) : Statement (.txnAbort t pkt) :=
  fun h _ e => Option.some.inj e ▸ sized_of_wellFormed h
theorem txnList (t : Nat) (pkt : CmdPkt) : Statement (.txnList t pkt) :=
  fun h _ e => Option.some.inj e ▸ sized_of_wellFormed h
theorem commitList (t : Nat) (pkt : CmdPkt) : Statement (.commitList t pkt) :=
  fun h _ e => Option.some.inj e ▸ sized_of_wellFormed h
theorem fenceSet (t : Nat) (pkt : CmdPkt) : Statement (.fenceSet t pkt) :=
  fun h _ e => Option.some.inj e ▸ sized_of_wellFormed h
theorem fenceAnc (t : Nat) (pkt : CmdPkt) : Statement (.fenceAnc t pkt) :=
  fun h _ e => Option.some.inj e ▸ sized_of_wellFormed h
theorem fenceStatus (t : Nat) (pkt : CmdPkt) : Statement (.fenceStatus t pkt) :=
  fun h _ e => Option.some.inj e ▸ sized_of_wellFormed h
theorem streamSdi (t : Nat) (pkt : CmdPkt) : Statement (.streamSdi t pkt) :=
  fun h _ e => Option.some.inj e ▸ sized_of_wellFormed h
theorem streamIp (t : Nat) (pkt : CmdPkt) : Statement (.streamIp t pkt) :=
  fun h _ e => Option.some.inj e ▸ sized_of_wellFormed h
theorem streamParams (t : Nat) (pkt : CmdPkt) : Statement (.streamParams t pkt) :=
  fun h _ e => Option.some.inj e ▸ sized_of_wellFormed h
theorem inputRemove (t : Nat) (pkt : CmdPkt) : Statement (.inputRemove t pkt) :=
  fun h _ e => Option.some.inj e ▸ sized_of_wellFormed h
theorem audFlow (t : Nat) (pkt : CmdPkt) : Statement (.audFlow t pkt) :=
  fun h _ e => Option.some.inj e ▸ sized_of_wellFormed h
theorem ancFlow (t : Nat) (pkt : CmdPkt) : Statement (.ancFlow t pkt) :=
  fun h _ e => Option.some.inj e ▸ sized_of_wellFormed h
theorem ethSet (t : Nat) (pkt : CmdPkt) : Statement (.ethSet t pkt) :=
  fun h _ e => Option.some.inj e ▸ sized_of_wellFormed h
theorem ptpSet (t : Nat) (pkt : CmdPkt) : Statement (.ptpSet t pkt) :=
  fun h _ e => Option.some.inj e ▸ sized_of_wellFormed h
theorem streamStatus (t : Nat) (pkt : CmdPkt) : Statement (.streamStatus t pkt) :=
  fun h _ e => Option.some.inj e ▸ sized_of_wellFormed h
theorem portStatus (t : Nat) (pkt : CmdPkt) : Statement (.portStatus t pkt) :=
  fun h _ e => Option.some.inj e ▸ sized_of_wellFormed h
theorem streamRead (t : Nat) (pkt : CmdPkt) : Statement (.streamRead t pkt) :=
  fun h _ e => Option.some.inj e ▸ sized_of_wellFormed h
theorem flowStatus (t : Nat) (pkt : CmdPkt) : Statement (.flowStatus t pkt) :=
  fun h _ e => Option.some.inj e ▸ sized_of_wellFormed h
theorem frcSet (t : Nat) (pkt : CmdPkt) : Statement (.frcSet t pkt) :=
  fun h _ e => Option.some.inj e ▸ sized_of_wellFormed h
theorem frcStatus (t : Nat) (pkt : CmdPkt) : Statement (.frcStatus t pkt) :=
  fun h _ e => Option.some.inj e ▸ sized_of_wellFormed h
theorem frcRead (t : Nat) (pkt : CmdPkt) : Statement (.frcRead t pkt) :=
  fun h _ e => Option.some.inj e ▸ sized_of_wellFormed h
theorem regionSet (t : Nat) (pkt : CmdPkt) : Statement (.regionSet t pkt) :=
  fun h _ e => Option.some.inj e ▸ sized_of_wellFormed h
theorem regionRemove (t : Nat) (pkt : CmdPkt) : Statement (.regionRemove t pkt) :=
  fun h _ e => Option.some.inj e ▸ sized_of_wellFormed h
theorem layerSet (t : Nat) (pkt : CmdPkt) : Statement (.layerSet t pkt) :=
  fun h _ e => Option.some.inj e ▸ sized_of_wellFormed h
theorem layerRemove (t : Nat) (pkt : CmdPkt) : Statement (.layerRemove t pkt) :=
  fun h _ e => Option.some.inj e ▸ sized_of_wellFormed h
theorem coefLoad (t : Nat) (pkt : CmdPkt) : Statement (.coefLoad t pkt) :=
  fun h _ e => Option.some.inj e ▸ sized_of_wellFormed h
theorem coefRead (t : Nat) (pkt : CmdPkt) : Statement (.coefRead t pkt) :=
  fun h _ e => Option.some.inj e ▸ sized_of_wellFormed h
theorem objAlloc (t : Nat) (pkt : CmdPkt) : Statement (.objAlloc t pkt) :=
  fun h _ e => Option.some.inj e ▸ sized_of_wellFormed h
theorem objLoad (t : Nat) (pkt : CmdPkt) : Statement (.objLoad t pkt) :=
  fun h _ e => Option.some.inj e ▸ sized_of_wellFormed h
theorem objRelease (t : Nat) (pkt : CmdPkt) : Statement (.objRelease t pkt) :=
  fun h _ e => Option.some.inj e ▸ sized_of_wellFormed h
theorem objStatus (t : Nat) (pkt : CmdPkt) : Statement (.objStatus t pkt) :=
  fun h _ e => Option.some.inj e ▸ sized_of_wellFormed h
theorem regionRead (t : Nat) (pkt : CmdPkt) : Statement (.regionRead t pkt) :=
  fun h _ e => Option.some.inj e ▸ sized_of_wellFormed h
theorem layerRead (t : Nat) (pkt : CmdPkt) : Statement (.layerRead t pkt) :=
  fun h _ e => Option.some.inj e ▸ sized_of_wellFormed h
theorem canvasSet (t : Nat) (pkt : CmdPkt) : Statement (.canvasSet t pkt) :=
  fun h _ e => Option.some.inj e ▸ sized_of_wellFormed h
theorem lowlatSet (t : Nat) (pkt : CmdPkt) : Statement (.lowlatSet t pkt) :=
  fun h _ e => Option.some.inj e ▸ sized_of_wellFormed h
theorem holdSet (t : Nat) (pkt : CmdPkt) : Statement (.holdSet t pkt) :=
  fun h _ e => Option.some.inj e ▸ sized_of_wellFormed h
theorem monSet (t : Nat) (pkt : CmdPkt) : Statement (.monSet t pkt) :=
  fun h _ e => Option.some.inj e ▸ sized_of_wellFormed h
theorem slateSet (t : Nat) (pkt : CmdPkt) : Statement (.slateSet t pkt) :=
  fun h _ e => Option.some.inj e ▸ sized_of_wellFormed h
theorem slateShow (t : Nat) (pkt : CmdPkt) : Statement (.slateShow t pkt) :=
  fun h _ e => Option.some.inj e ▸ sized_of_wellFormed h
theorem slateClear (t : Nat) (pkt : CmdPkt) : Statement (.slateClear t pkt) :=
  fun h _ e => Option.some.inj e ▸ sized_of_wellFormed h
theorem canvasStatus (t : Nat) (pkt : CmdPkt) : Statement (.canvasStatus t pkt) :=
  fun h _ e => Option.some.inj e ▸ sized_of_wellFormed h
theorem bandSums (t : Nat) (pkt : CmdPkt) : Statement (.bandSums t pkt) :=
  fun h _ e => Option.some.inj e ▸ sized_of_wellFormed h
theorem canvasRead (t : Nat) (pkt : CmdPkt) : Statement (.canvasRead t pkt) :=
  fun h _ e => Option.some.inj e ▸ sized_of_wellFormed h
theorem monStatus (t : Nat) (pkt : CmdPkt) : Statement (.monStatus t pkt) :=
  fun h _ e => Option.some.inj e ▸ sized_of_wellFormed h
theorem lightSet (t : Nat) (pkt : CmdPkt) : Statement (.lightSet t pkt) :=
  fun h _ e => Option.some.inj e ▸ sized_of_wellFormed h
theorem typeLoad (t : Nat) (pkt : CmdPkt) : Statement (.typeLoad t pkt) :=
  fun h _ e => Option.some.inj e ▸ sized_of_wellFormed h
theorem pkgLoad (t : Nat) (pkt : CmdPkt) (memory : List Byte) : Statement (.pkgLoad t pkt memory) :=
  fun h _ e => Option.some.inj e ▸ sized_of_wellFormed h
theorem wearExport (t : Nat) (pkt : CmdPkt) : Statement (.wearExport t pkt) :=
  fun h _ e => Option.some.inj e ▸ sized_of_wellFormed h
theorem loadStatus (t : Nat) (pkt : CmdPkt) : Statement (.loadStatus t pkt) :=
  fun h _ e => Option.some.inj e ▸ sized_of_wellFormed h
theorem feederSet (t : Nat) (pkt : CmdPkt) : Statement (.feederSet t pkt) :=
  fun h _ e => Option.some.inj e ▸ sized_of_wellFormed h
theorem feederStatus (t : Nat) (pkt : CmdPkt) : Statement (.feederStatus t pkt) :=
  fun h _ e => Option.some.inj e ▸ sized_of_wellFormed h
theorem calRead (t : Nat) (pkt : CmdPkt) : Statement (.calRead t pkt) :=
  fun h _ e => Option.some.inj e ▸ sized_of_wellFormed h
theorem typeRead (t : Nat) (pkt : CmdPkt) : Statement (.typeRead t pkt) :=
  fun h _ e => Option.some.inj e ▸ sized_of_wellFormed h
theorem feederRead (t : Nat) (pkt : CmdPkt) : Statement (.feederRead t pkt) :=
  fun h _ e => Option.some.inj e ▸ sized_of_wellFormed h
theorem lightRead (t : Nat) (pkt : CmdPkt) : Statement (.lightRead t pkt) :=
  fun h _ e => Option.some.inj e ▸ sized_of_wellFormed h
theorem furrowSet (t : Nat) (pkt : CmdPkt) : Statement (.furrowSet t pkt) :=
  fun h _ e => Option.some.inj e ▸ sized_of_wellFormed h
theorem latchSet (t : Nat) (pkt : CmdPkt) : Statement (.latchSet t pkt) :=
  fun h _ e => Option.some.inj e ▸ sized_of_wellFormed h
theorem tilemapSet (t : Nat) (pkt : CmdPkt) : Statement (.tilemapSet t pkt) :=
  fun h _ e => Option.some.inj e ▸ sized_of_wellFormed h
theorem tileLevel (t : Nat) (pkt : CmdPkt) : Statement (.tileLevel t pkt) :=
  fun h _ e => Option.some.inj e ▸ sized_of_wellFormed h
theorem furrowStatus (t : Nat) (pkt : CmdPkt) : Statement (.furrowStatus t pkt) :=
  fun h _ e => Option.some.inj e ▸ sized_of_wellFormed h
theorem tileStatus (t : Nat) (pkt : CmdPkt) : Statement (.tileStatus t pkt) :=
  fun h _ e => Option.some.inj e ▸ sized_of_wellFormed h
theorem tileCtrl (t : Nat) (pkt : CmdPkt) : Statement (.tileCtrl t pkt) :=
  fun h _ e => Option.some.inj e ▸ sized_of_wellFormed h
theorem furrowRescan (t : Nat) (pkt : CmdPkt) : Statement (.furrowRescan t pkt) :=
  fun h _ e => Option.some.inj e ▸ sized_of_wellFormed h
theorem tilemapRead (t : Nat) (pkt : CmdPkt) : Statement (.tilemapRead t pkt) :=
  fun h _ e => Option.some.inj e ▸ sized_of_wellFormed h
theorem tileClear (t : Nat) (pkt : CmdPkt) : Statement (.tileClear t pkt) :=
  fun h _ e => Option.some.inj e ▸ sized_of_wellFormed h
theorem audChan (t : Nat) (pkt : CmdPkt) : Statement (.audChan t pkt) :=
  fun h _ e => Option.some.inj e ▸ sized_of_wellFormed h
theorem audPort (t : Nat) (pkt : CmdPkt) : Statement (.audPort t pkt) :=
  fun h _ e => Option.some.inj e ▸ sized_of_wellFormed h
theorem audMclk (t : Nat) (pkt : CmdPkt) : Statement (.audMclk t pkt) :=
  fun h _ e => Option.some.inj e ▸ sized_of_wellFormed h
theorem audZc (t : Nat) (pkt : CmdPkt) : Statement (.audZc t pkt) :=
  fun h _ e => Option.some.inj e ▸ sized_of_wellFormed h
theorem audStatus (t : Nat) (pkt : CmdPkt) : Statement (.audStatus t pkt) :=
  fun h _ e => Option.some.inj e ▸ sized_of_wellFormed h
theorem audRead (t : Nat) (pkt : CmdPkt) : Statement (.audRead t pkt) :=
  fun h _ e => Option.some.inj e ▸ sized_of_wellFormed h
theorem tbSlot (t : Nat) (pkt : CmdPkt) : Statement (.tbSlot t pkt) :=
  fun h _ e => Option.some.inj e ▸ sized_of_wellFormed h
theorem tbSet (t : Nat) (pkt : CmdPkt) : Statement (.tbSet t pkt) :=
  fun h _ e => Option.some.inj e ▸ sized_of_wellFormed h
theorem tbSteer (t : Nat) (pkt : CmdPkt) : Statement (.tbSteer t pkt) :=
  fun h _ e => Option.some.inj e ▸ sized_of_wellFormed h
theorem couSet (t : Nat) (pkt : CmdPkt) : Statement (.couSet t pkt) :=
  fun h _ e => Option.some.inj e ▸ sized_of_wellFormed h
theorem tbStatus (t : Nat) (pkt : CmdPkt) : Statement (.tbStatus t pkt) :=
  fun h _ e => Option.some.inj e ▸ sized_of_wellFormed h
theorem tbSlotStatus (t : Nat) (pkt : CmdPkt) : Statement (.tbSlotStatus t pkt) :=
  fun h _ e => Option.some.inj e ▸ sized_of_wellFormed h
theorem tbRead (t : Nat) (pkt : CmdPkt) : Statement (.tbRead t pkt) :=
  fun h _ e => Option.some.inj e ▸ sized_of_wellFormed h
theorem pairSet (t : Nat) (pkt : CmdPkt) : Statement (.pairSet t pkt) :=
  fun h _ e => Option.some.inj e ▸ sized_of_wellFormed h
theorem pairSwitch (t : Nat) (pkt : CmdPkt) : Statement (.pairSwitch t pkt) :=
  fun h _ e => Option.some.inj e ▸ sized_of_wellFormed h
theorem pairStatus (t : Nat) (pkt : CmdPkt) : Statement (.pairStatus t pkt) :=
  fun h _ e => Option.some.inj e ▸ sized_of_wellFormed h
theorem pairRead (t : Nat) (pkt : CmdPkt) : Statement (.pairRead t pkt) :=
  fun h _ e => Option.some.inj e ▸ sized_of_wellFormed h
theorem fwWrite (t : Nat) (pkt : CmdPkt) : Statement (.fwWrite t pkt) :=
  fun h _ e => Option.some.inj e ▸ sized_of_wellFormed h
theorem fwVerify (t : Nat) (pkt : CmdPkt) : Statement (.fwVerify t pkt) :=
  fun h _ e => Option.some.inj e ▸ sized_of_wellFormed h
theorem fwSwitch (t : Nat) (pkt : CmdPkt) : Statement (.fwSwitch t pkt) :=
  fun h _ e => Option.some.inj e ▸ sized_of_wellFormed h
theorem bootSelect (t : Nat) (pkt : CmdPkt) : Statement (.bootSelect t pkt) :=
  fun h _ e => Option.some.inj e ▸ sized_of_wellFormed h
theorem spareSwap (t : Nat) (pkt : CmdPkt) : Statement (.spareSwap t pkt) :=
  fun h _ e => Option.some.inj e ▸ sized_of_wellFormed h
theorem selfTest (t : Nat) (pkt : CmdPkt) : Statement (.selfTest t pkt) :=
  fun h _ e => Option.some.inj e ▸ sized_of_wellFormed h
theorem powerCap (t : Nat) (pkt : CmdPkt) : Statement (.powerCap t pkt) :=
  fun h _ e => Option.some.inj e ▸ sized_of_wellFormed h
theorem wearThresh (t : Nat) (pkt : CmdPkt) : Statement (.wearThresh t pkt) :=
  fun h _ e => Option.some.inj e ▸ sized_of_wellFormed h
theorem uartRate (t : Nat) (pkt : CmdPkt) : Statement (.uartRate t pkt) :=
  fun h _ e => Option.some.inj e ▸ sized_of_wellFormed h
theorem watchdog (t : Nat) (pkt : CmdPkt) : Statement (.watchdog t pkt) :=
  fun h _ e => Option.some.inj e ▸ sized_of_wellFormed h
theorem headlandStatus (t : Nat) (pkt : CmdPkt) : Statement (.headlandStatus t pkt) :=
  fun h _ e => Option.some.inj e ▸ sized_of_wellFormed h
theorem powerStatus (t : Nat) (pkt : CmdPkt) : Statement (.powerStatus t pkt) :=
  fun h _ e => Option.some.inj e ▸ sized_of_wellFormed h
theorem hbmStatus (t : Nat) (pkt : CmdPkt) : Statement (.hbmStatus t pkt) :=
  fun h _ e => Option.some.inj e ▸ sized_of_wellFormed h
theorem scrubSet (t : Nat) (pkt : CmdPkt) : Statement (.scrubSet t pkt) :=
  fun h _ e => Option.some.inj e ▸ sized_of_wellFormed h
theorem evStatus (t : Nat) (pkt : CmdPkt) : Statement (.evStatus t pkt) :=
  fun h _ e => Option.some.inj e ▸ sized_of_wellFormed h
theorem evClear (t : Nat) (pkt : CmdPkt) : Statement (.evClear t pkt) :=
  fun h _ e => Option.some.inj e ▸ sized_of_wellFormed h
theorem cntRead (t : Nat) (pkt : CmdPkt) : Statement (.cntRead t pkt) :=
  fun h _ e => Option.some.inj e ▸ sized_of_wellFormed h
theorem cntClear (t : Nat) (pkt : CmdPkt) : Statement (.cntClear t pkt) :=
  fun h _ e => Option.some.inj e ▸ sized_of_wellFormed h
theorem perfSnapshot (t : Nat) (pkt : CmdPkt) : Statement (.perfSnapshot t pkt) :=
  fun h _ e => Option.some.inj e ▸ sized_of_wellFormed h
theorem logStatus (t : Nat) (pkt : CmdPkt) : Statement (.logStatus t pkt) :=
  fun h _ e => Option.some.inj e ▸ sized_of_wellFormed h
theorem evMask (t : Nat) (pkt : CmdPkt) : Statement (.evMask t pkt) :=
  fun h _ e => Option.some.inj e ▸ sized_of_wellFormed h
theorem perfSet (t : Nat) (pkt : CmdPkt) : Statement (.perfSet t pkt) :=
  fun h _ e => Option.some.inj e ▸ sized_of_wellFormed h
theorem perfRead (t : Nat) (pkt : CmdPkt) : Statement (.perfRead t pkt) :=
  fun h _ e => Option.some.inj e ▸ sized_of_wellFormed h
theorem commandPacketRefused (t : Nat) (uart : Bool) (bytes : List Byte) : Statement (.commandPacketRefused t uart bytes) :=
  fun _ _ e => nomatch e
theorem klinkPacketDiscarded (t : Nat) (furrow : Nat) (crc : Bool) : Statement (.klinkPacketDiscarded t furrow crc) :=
  fun _ _ e => nomatch e
theorem klinkSymbolError (t : Nat) (furrow : Nat) : Statement (.klinkSymbolError t furrow) :=
  fun _ _ e => nomatch e
theorem pairFrameDiscarded (t : Nat) (linkB : Bool) : Statement (.pairFrameDiscarded t linkB) :=
  fun _ _ e => nomatch e
theorem ethLinkDown (t : Nat) (port : Nat) : Statement (.ethLinkDown t port) :=
  fun _ _ e => nomatch e
theorem ethLinkUp (t : Nat) (port : Nat) : Statement (.ethLinkUp t port) :=
  fun _ _ e => nomatch e
theorem xoRestored (t : Nat) : Statement (.xoRestored t) :=
  fun _ _ e => nomatch e
theorem thermWarn (t : Nat) (tj : Int) (sensor : Nat) : Statement (.thermWarn t tj sensor) :=
  fun _ _ e => nomatch e
theorem perfCounterWrap (t : Nat) (group : Nat) (counter : Nat) : Statement (.perfCounterWrap t group counter) :=
  fun _ _ e => nomatch e
theorem hostTransferDone (t : Nat) (tag : Word) (ok : Bool) (data : List Byte) : Statement (.hostTransferDone t tag ok data) :=
  fun _ _ e => nomatch e
theorem flashWriteDone (t : Nat) (tag : Word) (ok : Bool) (data : List Byte) : Statement (.flashWriteDone t tag ok data) :=
  fun _ _ e => nomatch e
theorem jtagTapOperation (t : Nat) (op : TapOp) : Statement (.jtagTapOperation t op) :=
  fun _ _ e => nomatch e

end Sys2Proof.Laws.WellSized
end

