-- ==== Sys2Proof/Tests/Slice0.lean ====
section
/-! SUPPORT. Smoke tests of WellFormed, and, for every statement with hypotheses, a concrete state and operands that meet them. -/

namespace Sys2Proof.Tests

-- one test after another: each evaluation then has the machine to itself
set_option Elab.async false

open Sys2Proof Sys2Proof.Machine

/-- A ready head, out of reset, with root lock. -/
def livePart : Part := { sys := { resetN := true, step := 8, ready := true }, tb := { rootLock := true } }
def live : State := { m := livePart }

/-- A head in a kindling step. -/
def inStep (n : Nat) : State := { m := { sys := { resetN := true, step := n } } }

/-- A report in which everything passes. -/
def allPass : KindlingReport := { cores := 3, octal := true, powerGood := true, pcFailed := [], unitFailed := [], laneFailed := [] }

/-! ### WellFormed refuses an ill-formed operand, check by check -/

def badPkt : CmdPkt := { uart := false, flags := 1, hver := 1, tag := 7, paramLen := 4, txn := 0, crc := 0, params := [] }

theorem test_wellFormed_packet : (Instr.ping 0 badPkt).wellFormed = false ∧
    (Instr.ping 0 { badPkt with paramLen := 3, params := [1, 2, 3] }).wellFormed = false ∧
    (Instr.ping 0 { badPkt with paramLen := 4084, params := List.replicate 4084 0 }).wellFormed = false ∧
    (Instr.ping 0 { badPkt with params := [1, 2, 3, 4] }).wellFormed = true := by decide +kernel

theorem test_wellFormed_inputs : (Instr.inputFrameStart 0 48 none).wellFormed = false ∧ (Instr.st352Received 0 16 ⟨⟨0, 0, 0, 0, 0, 0, 0⟩, 0, 0, 0, 0, 0, 0⟩).wellFormed = false ∧
    (Instr.legLost 0 47 2).wellFormed = false ∧ (Instr.ethLinkDown 0 4).wellFormed = false ∧ (Instr.membershipQuery 0 4 false).wellFormed = false ∧
    (Instr.vectorEstimateDone 0 8 0 []).wellFormed = false ∧ (Instr.vectorEstimateDone 0 0 0 [⟨1025, 0, 0, 0⟩]).wellFormed = false ∧ (Instr.fenceTimeout 0 65536).wellFormed = false := by decide

theorem test_wellFormed_frame : (Instr.bandComposed 0 512 false).wellFormed = false ∧ (Instr.monOutputFrame 0 4).wellFormed = false ∧
    (Instr.gateTimeout 0 (2 ^ 32)).wellFormed = false := by decide

theorem test_wellFormed_furrows : (Instr.klinkLos 0 128).wellFormed = false ∧ (Instr.tileLost 0 127 256).wellFormed = false ∧
    (Instr.replayTimeout 0 0 1024).wellFormed = false := by decide

theorem test_wellFormed_audio : (Instr.audSlip 0 (.sdi 48)).wellFormed = false ∧ (Instr.audSlip 0 (.flow 64)).wellFormed = false ∧
    (Instr.audSlip 0 (.i2s 16)).wellFormed = false ∧ (Instr.zcTimeout 0 256).wellFormed = false ∧
    (Instr.audSampleIn 0 (.sdi 0) 33 ⟨0, false, false, false, false, true, 0⟩).wellFormed = false ∧
    (Instr.audSampleOut 0 16 false false false).wellFormed = false := by decide

theorem test_wellFormed_timebase : (Instr.refQualified 0 8).wellFormed = false ∧ (Instr.bandSearchDone 0 64 0).wellFormed = false ∧
    (Instr.bandSearchDone 0 63 960000001).wellFormed = false := by decide

theorem test_wellFormed_pair : (Instr.bandsumReceived 0 (2 ^ 48) 0 []).wellFormed = false ∧ (Instr.bandsumReceived 0 0 512 []).wellFormed = false ∧
    (Instr.verdictReceived 0 0 0 4).wellFormed = false ∧ (Instr.mirrorTimeout 0 (2 ^ 32)).wellFormed = false ∧
    (Instr.pairResend 0 false 256 0).wellFormed = false ∧ (Instr.pairResend 0 false 3 (2 ^ 32)).wellFormed = false ∧
    (Instr.mirrorReceived 0 false 0 65536 { badPkt with paramLen := 0 }).wellFormed = false ∧
    (Instr.bulkReceived 0 false (2 ^ 64) 0 (.hbm [])).wellFormed = false ∧
    (Instr.bulkReceived 0 false 0 (2 ^ 64) (.hbm [])).wellFormed = false := by decide

theorem test_wellFormed_recovery : (Instr.unitFault 0 .lane 16 false).wellFormed = false ∧ (Instr.selfTestDuty 0 .lane 17 true).wellFormed = false ∧
    (Instr.hearthCopyDisagree 0 3 true).wellFormed = false ∧ (Instr.memFault 0 120 0).wellFormed = false ∧
    (Instr.memFault 0 0 (60 * 2 ^ 22)).wellFormed = false ∧ (Instr.fabricDecerr 0 ⟨177, 0⟩).wellFormed = false ∧ (Instr.fabricDecerr 0 ⟨0, 8⟩).wellFormed = false ∧
    (Instr.energyTick 0 0 0 16).wellFormed = false ∧ (Instr.logWindowClose 0 23 0 0).wellFormed = false ∧
    (Instr.logWindowClose 0 0 65536 0).wellFormed = false ∧ (Instr.logWindowClose 0 0 0 65536).wellFormed = false := by decide

theorem test_wellFormed_registers : (Instr.eventPendWrite 0 12 0).wellFormed = false ∧ (Instr.perfCounterWrap 0 10 0).wellFormed = false ∧
    (Instr.perfCounterWrap 0 0 8).wellFormed = false ∧ (Instr.registerWrite 0 (2 ^ 24) 0 0xF).wellFormed = false ∧
    (Instr.regLoRead 0 true (2 ^ 24)).wellFormed = false ∧ (Instr.txnExpired 0 65536).wellFormed = false := by decide

/-! ### Values the spec gives -/

/-- R330 gives the CRC-32C, chapter 5 the CRC-64, of the ASCII string "123456789". -/
theorem test_crc : crc32c [0x31, 0x32, 0x33, 0x34, 0x35, 0x36, 0x37, 0x38, 0x39] = 0xE3069283 ∧
    crc64 [0x31, 0x32, 0x33, 0x34, 0x35, 0x36, 0x37, 0x38, 0x39] = 0x995DC9BBDF1939FA := by decide +kernel

/-- R52: with gamma 2.4, 1.0 stays SDR white and 1.09 becomes 1.23. -/
theorem test_f32pow : f32pow (f32ofInt 1) (f32const 24 10) = f32ofInt 1 ∧
    f32round (f32mul (f32pow (f32const 109 100) (f32const 24 10)) (f32ofInt 100)) = 123 := by decide +kernel

/-- The worked pixel of R52: a BT709 SDR narrow-range 10-bit pixel of a flat area in the working form. -/
theorem test_workingPixel :
    let k : PixelRule := { bt2020 := false, transfer := 1, pwr22 := false, full := false, lref := 100, lw := 1000 }
    workingPixel k false (normalise false false 0 502) (normalise false true 0 440) (normalise false true 0 658) =
      ⟨0x35ED, 0x313C, 0x2DF6, 0x3C00⟩ := by decide +kernel

/-- The tile type of chapter 6's example, zero where the example names no value. -/
def exampleType : List Byte :=
  let put := fun (d : List Byte) (x : Nat × Nat) => d.take x.1 ++ le 2 x.2 ++ d.drop (x.1 + 2)
  [(16, 160), (18, 40),
   (64 + 8, 16512), (64 + 10, 16640), (96 + 8, 16384), (96 + 10, 16384), (128 + 8, 16384), (128 + 10, 16320),
   (160 + 18, 17408), (160 + 20, 17536), (226 + 18, 16896), (226 + 20, 16960), (292 + 18, 17152), (292 + 20, 17248),
   (360 + 40, 19200), (360 + 42, 20250), (490 + 20, 10560), (490 + 22, 11610), (620 + 10, 5300), (620 + 12, 6360)].foldl put
    (List.replicate 5 0 ++ [12] ++ List.replicate 1134 0)

/-- Chapter 6's example of one pixel (Table 6.11): derate gains, limiter inputs, linear drives and drive values. -/
theorem test_drivePixel :
    let rec_ := leAt [0x9A, 0x67, 0x86, 0x5C, 0xC7, 0x3E, 0x00, 0x0C, 0xE8, 0x0F, 0x80, 0x04, 0x3E, 0x00, 0x00, 0x4B] 0 16
    (List.range 3).map (derateGain exampleType 332) = [16550, 16384, 16365] ∧
    drivePixel {} exampleType true rec_ [16550, 16384, 16365] 0x7000 812 430 0 ⟨0x35ED, 0x313C, 0x2DF6, 0x3C00⟩ =
      ⟨[24561, 11879, 6082], [21491, 10394, 5322], [20240, 10720, 5504]⟩ := by decide +kernel

/-- The same example's feeder: 22,555.7 W at unit gain against a limit of 20,000 W takes the gain 0x7000 (R173). -/
theorem test_wantedGain :
    wantedGain { limit := 20000, fixedW := 150, eta := 30147 } { st := 1800000000, du := 18813500000, pu := 22555700000 } = 0x7000 := by
  decide

/-- R343: 0x7E goes out as 0x7D 0x5E and 0x7D as 0x7D 0x5D. -/
theorem test_uartStuff : uartStuff [1, 0x7E, 0x7D] = [0x7E, 1, 0x7D, 0x5E, 0x7D, 0x5D, 0x7E] := by decide

/-- The table gives no row any bits, so no word spells a command. -/
theorem test_decodeTableWord : decodeTableWord 32 5 = none ∧ live.withFetchWord 32 5 = live := by decide +kernel

/-- R445: the IDCODE leaves the TAP. -/
theorem test_idcode : (match exec (.jtagTapOperation 3 .idcode) live with
    | .next u => u.m.out
    | _ => []) = [.tdo 0x13624A57] := by decide +kernel

/-! ### The machine, reset and kindling -/

theorem witness_StepTakesFront : State.reset.pending = [] := by decide +kernel

theorem witness_StoppedClocks : State.reset.m.alive = false ∧ actsInReset (.frameEvent 0) = false := by decide +kernel

/-- A byte that differs from what an unlisted one reads as, in each memory, and a command in front. -/
def twoBytes : State := { State.reset with hbm := [(5, 7)], flash := [(9, 0)], pending := [.frameEvent 0] }

theorem witness_MemoryStaysCanonical : twoBytes.memWf ∧ step twoBytes = .next { twoBytes with pending := [] } :=
  ⟨⟨by decide, by decide⟩, rfl⟩

theorem witness_ResetKeepsEmber : (Instr.resetNAssert 7 = .resetNAssert 7 ∨ Instr.resetNAssert 7 = .pwrOkLow 7) ∧
    (Instr.pwrOkLow 7 = .resetNAssert 7 ∨ Instr.pwrOkLow 7 = .pwrOkLow 7) := by decide +kernel

theorem witness_StoresWrittenBy : exec (.relock 7) twoBytes = .next twoBytes ∧ writesHbm (.relock 7) = false ∧
    writesFlash (.relock 7) = false := ⟨rfl, by decide⟩

theorem witness_StrapsAndTap : State.reset.m.sys.resetN = false ∧ live.m.sys.resetN = true ∧
    TapOp.bypass ≠ .idcode ∧ TapOp.bypass ≠ .testLogicReset ∧ TapOp.bypass ≠ .sample := by decide +kernel

/-- Two cores pass, and no more. -/
theorem witness_KindlingSteps : kindles 2 (inStep 2) ∧ 2 ≤ ({ allPass with cores := 2 } : KindlingReport).cores ∧
    kindles 4 (inStep 4) ∧ allPass.powerGood = true ∧
    kindles 6 (inStep 6) ∧ allPass.laneFailed = [] ∧ (inStep 6).m.tb.xoFail = false := by decide +kernel

/-- One core passes; STRAP_BOOT is 0b11; an island has no power-good; 119 pseudo-channels pass. -/
theorem witness_KindlingStops :
    (kindles 2 (inStep 2) ∧ ({ allPass with cores := 1 } : KindlingReport).cores < 2) ∧
    (kindles 3 { (inStep 3) with m := { sys := { (inStep 3).m.sys with boot := 3 } } } ∧
      ({ (inStep 3) with m := { sys := { (inStep 3).m.sys with boot := 3 } } } : State).m.sys.boot = 3) ∧
    (kindles 4 (inStep 4) ∧ ({ allPass with powerGood := false } : KindlingReport).powerGood = false) ∧
    (kindles 5 (inStep 5) ∧ ((List.range 128).filter fun k =>
      !({ allPass with pcFailed := List.range 9 } : KindlingReport).pcFailed.contains k).length < 120) := by decide +kernel

theorem witness_DefaultRemap : (kindles 5 (inStep 5) ∧ allPass.pcFailed = [] ∧ allPass.unitFailed = []) ∧
    (livePart.fab.remap = [] ∧ 119 < 120 ∧ 0 < 120) := by decide +kernel

theorem witness_RoleAtReady : (kindles 7 (inStep 7) ∧ anyLinkUp (inStep 7).m = false ∧
      (inStep 7).m.sys.stepAt + (inStep 7).m.cfg.tb.refWait * sec ≤ (inStep 7).m.cfg.tb.refWait * sec) ∧
    (kindles 8 (inStep 8) ∧ (inStep 8).m.pair.role = .kindling ∧ anyLinkUp (inStep 8).m = false ∧
      (inStep 8).m.pair.readTenureLow = false ∧
      (inStep 8).m.sys.stepAt + (inStep 8).m.pair.cfg.joinWaitMs * msec ≤ (inStep 8).m.pair.cfg.joinWaitMs * msec) := by decide +kernel

/-! ### The timebase -/

def withTb (f : Tb → Tb) : State := { m := { livePart with tb := f livePart.tb } }
def noRoot : State := withTb fun x => { x with rootLock := false }
def searching : State := withTb fun x => { x with state := .search, rootLock := false }
def lostThrice : State := { m := { sys := { resetN := true, step := 7 }, tb := { state := .search, fails := 2 } } }
def noXo : State := withTb fun x => { x with xoFail := true, rootLock := false }

theorem witness_RootLock :
    (livesAt 5 noRoot ∧ noRoot.m.tb.state = .bypass ∧ 7 ≤ noRoot.m.sys.step ∧ noRoot.m.tb.xoFail = false ∧
      noRoot.m.tb.since + noRoot.m.tb.wait ≤ 5) ∧
    (livesAt 5 searching ∧ searching.m.tb.state = .search) ∧
    (livesAt (1500 * usec) lostThrice ∧ lostThrice.m.tb.state = .search ∧ lostThrice.m.tb.since + 1500 * usec ≤ 1500 * usec ∧
      lostThrice.m.tb.fails = 2 ∧ lostThrice.m.sys.step = 7 ∧ lostThrice.m.sys.ready = false) ∧
    (livesAt 5 live ∧ live.m.tb.rootLock = true ∧ live.m.tb.xoFail = false) ∧
    (livesAt 5 noXo ∧ noXo.m.tb.xoFail = true) ∧
    (noRoot.m.alive = true ∧ noRoot.m.tb.rootLock = false ∧ dataAt (.membershipQuery 5 0 false) = some 5) := by
  decide +kernel

/-- Slot 3 configured, in a slot state and, if in use, a timebase state. -/
def withSlot (slotState : Nat) (used : Bool) (x : TbState) : State :=
  { m := { livePart with
    tb := { livePart.tb with slots := [(3, { state := slotState })], slot := if used then some 3 else none, state := x }
    cfg := { slots := [(3, { source := 1, priority := 1 })] } } }

theorem witness_ReferenceSlots :
    (livesAt 5 (withSlot 2 true .locked) ∧ ((withSlot 2 true .locked).m.slotRt 3).state = 2 ∧
      (withSlot 2 true .locked).m.tb.slot = some 3 ∧ (withSlot 2 true .locked).m.tb.state = .locked) ∧
    (livesAt 5 (withSlot 1 false .freerun) ∧ ((withSlot 1 false .freerun).m.slotRt 3).state = 1 ∧
      (withSlot 1 false .freerun).m.tb.slot ≠ some 3) ∧
    (livesAt (acquireTime (withSlot 2 true .acquire).m 3) (withSlot 2 true .acquire) ∧ 3 < 8 ∧
      (withSlot 2 true .acquire).m.tb.slot = some 3 ∧ (withSlot 2 true .acquire).m.tb.state = .acquire ∧
      (withSlot 2 true .acquire).m.tb.since + acquireTime (withSlot 2 true .acquire).m 3 ≤ acquireTime (withSlot 2 true .acquire).m 3) ∧
    (livesAt (10 * sec) (withSlot 1 false .freerun) ∧ ((withSlot 1 false .freerun).m.cfg.slot 3).source ≠ 0 ∧
      ((withSlot 1 false .freerun).m.slotRt 3).accept + ((withSlot 1 false .freerun).m.cfg.slot 3).acceptTime * sec ≤ 10 * sec) ∧
    (((withSlot 2 false .freerun).m.slotRt 3).state = 2 ∧ (withSlot 2 false .freerun).m.tb.slot ≠ some 3 ∧
      ((withSlot 2 false .freerun).m.cfg.slot 3).reject * 10000 + limitSlack (withSlot 2 false .freerun).m <
        ((1000000000000 : Int) * 1000).natAbs) ∧
    (((0 : Int) * 1000).natAbs ≤ ((withSlot 2 false .freerun).m.cfg.slot 3).accept * 10000 + limitSlack (withSlot 2 false .freerun).m ∧
      ((0 : Int) * 1000).natAbs ≤ ((withSlot 2 false .freerun).m.cfg.slot 3).reject * 10000 + limitSlack (withSlot 2 false .freerun).m) := by
  decide +kernel

def tracking : State := { m := { (withSlot 2 true .locked).m with
  tb := { (withSlot 2 true .locked).m.tb with trackSince := some 0 } } }

theorem witness_LoopTracks :
    (livesAt (dwellTime 0) (withSlot 2 true .acquire) ∧ (withSlot 2 true .acquire).m.tb.slot = some 3 ∧
      (withSlot 2 true .acquire).m.tb.state = .acquire ∧
      (withSlot 2 true .acquire).m.tb.dwellFrom + dwellTime (withSlot 2 true .acquire).m.tb.bw ≤ dwellTime 0) ∧
    (livesAt (50 * msec) (withSlot 2 false .holdover) ∧ (withSlot 2 false .holdover).m.tb.state = .holdover ∧
      bestSlot (withSlot 2 false .holdover).m = some 3 ∧
      (withSlot 2 false .holdover).m.tb.since + (withSlot 2 false .holdover).m.cfg.tb.holdoffMs * msec ≤ 50 * msec) ∧
    (livesAt sec tracking ∧ tracking.m.tb.state = .locked ∧ tracking.m.tb.trackSince = some 0 ∧ 0 + sec ≤ sec ∧ tracking.m.tb.secs = []) ∧
    (tracking.m.tb.slot = some 3 ∧ (tracking.m.slotRt 3).samples = [] ∧ tracking.m.tb.since ≤ 5 ∧ tracking.m.tb.align = none ∧
      (tracking.m.cfg.slot 3).frequency = false ∧ followsTimebase tracking.m = false) := by decide +kernel

/-! ### The Hearth, the fabric and the firmware -/

def withHrt (f : Hearth → Hearth) : State := { m := { livePart with hrt := f livePart.hrt } }

/-- A swap of lane 2 to the fallow lane unit. -/
def laneSwap : Swap := { kind := .lane, logical := 2, spare := 16, single := false, wear := false, tag := none }
def swapping : State := withHrt fun h => { h with running := some laneSwap }
def planning : State := withHrt fun h => { h with planned := [laneSwap] }

theorem witness_UnitFaultSwaps :
    (live.m.alive = true ∧ physOf live.m .lane 2 = some 2 ∧ live.m.hrt.running = none ∧ live.m.hrt.queue = [] ∧
      live.m.hrt.split = false ∧ live.m.hrt.degradedUnits = [] ∧ spareFor live.m .lane = some 16) ∧
    (swapping.m.alive = true ∧ swapping.m.hrt.running = some laneSwap ∧ swapping.m.hrt.queue = [] ∧
      physOf swapping.m laneSwap.kind laneSwap.logical = some 2 ∧ 2 ≠ laneSwap.spare) := by decide +kernel

def shedding : State := { live with m := { live.m with pwr := { live.m.pwr with shed := 3 } } }

theorem witness_PlannedSwapsAndTests :
    (planning.m.alive = true ∧ planning.m.hrt.planned = [laneSwap] ∧ planning.m.hrt.running = none ∧
      spareFor planning.m laneSwap.kind = some 16) ∧
    (127 < 128 ∧ (live.m.lane 127).faulted = false) ∧
    (livesAt 5 live ∧ UnitKind.lane ≠ .hbm ∧ live.m.hrt.tests = [] ∧ live.m.hrt.running = none ∧
      (live.m.hrt.units.find? fun u => u.kind == .lane && u.phys == 16) = some { kind := .lane, phys := 16, state := .fallow } ∧
      live.m.pwr.shed < 3) ∧
    (3 ≤ shedding.m.pwr.shed ∧ shedding.m.hrt = live.m.hrt) := by decide +kernel

def kilnDown : State := withHrt fun h => { h with kilnReset := true }

theorem witness_KilnFails :
    (livesAt 5 live ∧ kilnRuns live.m = true ∧
      (Instr.kilnWatchdog 5 (some 1) = .kilnLockstepMismatch 5 (some 1) ∨ Instr.kilnWatchdog 5 (some 1) = .kilnWatchdog 5 (some 1))) ∧
    (kilnDown.m.alive = true ∧ kilnDown.m.hrt.kilnReset = true) := by decide +kernel

theorem witness_HearthCopies : livesAt 5 live ∧ 2 < 3 ∧ live.m.hrt.split = false ∧ live.m.hrt.copies = 3 ∧
    live.m.hrt.reloads = [] := by decide +kernel

def remapping : State := { m := { livePart with fab := { running := some ⟨7, 15, true, none⟩ } } }

theorem witness_MemFaultRemaps :
    (live.m.alive = true ∧ segmentOn 7 7 = true ∧ live.m.fab.running = none ∧ live.m.fab.queue = [] ∧
      remapTarget live.m 7 = some 127 ∧ 256 * 7 + 256 ≤ 0x80000000) ∧
    (remapping.m.alive = true ∧ remapping.m.fab.running = some ⟨7, 15, true, none⟩ ∧ remapping.m.fab.queue = [] ∧
      remapOf remapping.m 7 ≠ 15 ∧ 7 < 120 ∧ 15 < 128) := by decide +kernel

/-- Channel 106 is that of lane unit 2, which serves lane 2; channel 152 is of the furrow ports. -/
theorem witness_ScrubAndErrors : live.m.alive = true ∧ 119 < 120 ∧ 176 < 177 ∧ 7 < 8 ∧
    channelUnit 106 = some (.lane, 2) ∧ logicalOf live.m .lane 2 = some 2 ∧ live.m.hrt.running = none ∧ live.m.hrt.queue = [] ∧
    live.m.hrt.split = false ∧ live.m.hrt.degradedUnits = [] ∧ spareFor live.m .lane = some 16 := by decide +kernel

def onTrial : State := withHrt fun h => { h with trial := some (1, 5) }
/-- A 4,096-byte flash write to slot 1. -/
def fwTransfer : Transfer := { tag := 9, opcode := 0x0B01, params := [1, 0, 0, 0, 0, 16, 0, 0, 0, 0, 0, 0, 0, 0, 0, 0, 0, 16, 0, 0] }
def writing : State := { m := { livePart with txn := { transfers := [fwTransfer] } } }

theorem witness_FlashWritten :
    (livesAt 5 onTrial ∧ onTrial.m.hrt.trial = some (1, 5) ∧ 5 ≤ 5 ∧ onTrial.m.hrt.kilnReset = false ∧ 1 < 2 ∧
      Memory.wf Memory.flashDefault onTrial.flash = true) ∧
    (writing.m.alive = true ∧ writing.m.hrt.kilnReset = false ∧ fwTransfer.opcode = 0x0B01 ∧
      (writing.m.txn.transfers.find? fun y => y.tag == fwTransfer.tag && (y.opcode == 0x0B01 || y.opcode == 0x0B04)) =
        some fwTransfer ∧ Memory.wf Memory.flashDefault writing.flash = true) := by decide +kernel

/-! ### The log, power and temperature -/

def withLog (f : Log → Log) : State := { m := { livePart with log := f livePart.log } }
def anEntry : LogEntry := { lseq := 0, time := 3, cfn := 2, severity := 1, faultClass := 0, gleaned := false, toA := false,
                            toB := false, coalesced := false, source := 4, inst := 1, code := 5, count := 1, last := 3, arg := 0 }
def logging : State := withLog fun l => { l with intake := [anEntry] }

theorem witness_LogWritesBoth : logging.m.alive = true ∧ logging.m.log.rewrites = [] ∧ logging.m.log.intake = anEntry :: [] ∧
    logging.m.log.full = false ∧ logging.m.log.emberOn = false ∧ logging.m.log.failA = false ∧ logging.m.log.failB = false ∧
    freeSlot 4096 logging.m.log.bankA = some 0 := by decide +kernel

def aWindow : LogWindow := { source := 4, inst := 1, code := 5, opened := 0, count := 2, last := 3 }
def windowed : State := withLog fun l => { l with windows := [aWindow] }
def losing : State := withLog fun l => { l with lostCount := 3, full := true }
def oneBank : State := withLog fun l => { l with failA := true }
def copyingB : State := withLog fun l => { l with copying := some true }

theorem witness_LogUpkeep :
    (livesAt msec windowed ∧ windowed.m.log.windows = [aWindow] ∧ aWindow.opened + msec ≤ msec) ∧
    (livesAt 5 losing ∧ 0 < losing.m.log.lostCount ∧ losing.m.log.intake.length < 32 ∧ logRoom losing.m = true) ∧
    (live.m.alive = true ∧ live.m.log.emberOn = false ∧ live.m.log.failA = false ∧ live.m.log.failB = false ∧
      live.m.log.copying = none ∧ 0 < live.m.log.spares) ∧
    (oneBank.m.log.emberOn = false ∧ (if true then oneBank.m.log.failA else oneBank.m.log.failB) = true ∧
      (if true then oneBank.m.log.failB else oneBank.m.log.failA) = false) ∧
    (copyingB.m.log.emberOn = false ∧ copyingB.m.log.copying = some true) := by decide +kernel

def metered : State := { m := { livePart with sys := { livePart.sys with regulators := [{ addr := 0x10, page := 0, rail := 0, pout := true }] } } }
def overCap : State := { m := { livePart with pwr := { overSince := some 0 } } }

theorem witness_PowerAndHeat :
    (live.m.alive = true ∧ live.m.sys.regulators = [] ∧ live.m.pwr.lastChange = none ∧ live.m.pwr.samples = [] ∧
      980 * live.m.pwr.cap < 200000 ∧ live.m.pwr.shed = 0) ∧
    (livesAt 5 metered ∧ 4 ≤ metered.m.sys.step ∧
      metered.m.sys.regulators = [{ addr := 0x10, page := 0, rail := 0, pout := true }]) ∧
    (livesAt (100 * msec) overCap ∧ overCap.m.pwr.overSince = some 0 ∧ 0 + 100 * msec ≤ 100 * msec ∧
      overCap.m.pwr.exceeded = false) := by decide +kernel

theorem witness_PowerAndHeat_thermal : tMax ≤ tMax + 80 ∧ live.m.sys.tjCrit = false ∧ live.m.pwr.shed ≤ 3 ∧
    tMax + 80 ≤ tMax + 80 := ⟨by omega, by decide, by decide, by omega⟩

/-! ### The transports and the registers -/

/-- Rings of four entries with the command ring enabled, three commands fetched of five. -/
def ringed : State := { m := { livePart with
  host := { cmdBase := 0x10000, cmdSize := 4, cmdEn := true, cmdTail := 5, cmdHead := 3, rplBase := 0x20000, rplSize := 4,
            rplEn := true, evrBase := 0x30000, evrSize := 128, evrEn := true } } }

theorem witness_RingIndices : reached ringed ∧ ringHeld 7 ringed.m.host.cmdHead ≤ ringed.m.host.cmdSize ∧
    ringed.m.host.cmdSize < ringHeld 8 ringed.m.host.cmdHead ∧ ringHeld ringed.m.host.rplTail 0 ≤ ringed.m.host.rplSize ∧
    ringed.m.host.rplSize < ringHeld ringed.m.host.rplTail 1 ∧ ringHeld ringed.m.host.evrTail 0 ≤ ringed.m.host.evrSize ∧
    ringed.m.host.evrSize < ringHeld ringed.m.host.evrTail 1 ∧ 0 < 4 ∧ 4 * 4096 ≤ 2 ^ 64 := by decide +kernel

theorem witness_RingEnables : reached live ∧ live.m.host.cmdEn = false ∧ live.m.host.rplEn = false ∧ live.m.host.evrEn = false ∧
    ringed.m.host.cmdEn = true ∧ ringed.m.host.rplEn = true ∧ ringed.m.host.evrEn = true ∧ reached ringed ∧
    kilnRuns live.m = true ∧ 0x008 ∈ [0x000, 0x004, 0x008] ∧ 0x028 ∈ [0x020, 0x024, 0x028] ∧ 0x048 ∈ [0x040, 0x044, 0x048] ∧
    (Instr.kilnWatchdog 5 none = .kilnLockstepMismatch 5 none ∨ Instr.kilnWatchdog 5 none = .kilnWatchdog 5 none) := by decide +kernel

def aReply (uart : Bool) : Reply := { uart := uart, opcode := 4, flags := 1, tag := 7, status := 0, params := [1, 2, 3, 4] }
def replying (uart : Bool) : State := { m := { ringed.m with host := { ringed.m.host with replyQueue := [aReply uart] } } }
def anEvent : EvEntry := ⟨5, false, 3, 2, 0, 0, 1⟩
def telling : State := { m := { ringed.m with ev := { ringed.m.ev with queue := [anEvent] } } }
def lostEvents : State := { m := { ringed.m with ev := { ringed.m.ev with lostCount := 4 } } }
def moderated : State := { m := { ringed.m with host := { ringed.m.host with rplModDue := some 4 } } }

theorem witness_RingTraffic :
    (reached ringed ∧ mayFetch ringed.m = true) ∧
    (∀ u, reached (replying u) ∧ (replying u).m.hrt.kilnReset = false ∧ (replying u).m.hrt.pendingTrial = none ∧
      (replying u).m.host.newBaud = none ∧ (replying u).m.host.replyQueue = aReply u :: [] ∧ (aReply u).uart = u ∧
      rplRoom (replying u).m = true) ∧
    (reached telling ∧ telling.m.ev.queue = anEvent :: [] ∧ telling.m.host.evrEn = true ∧ evrFull telling.m = false) ∧
    (reached lostEvents ∧ 0 < lostEvents.m.ev.lostCount ∧ lostEvents.m.ev.queue.length < 128) ∧
    (reached moderated ∧ moderated.m.host.rplModDue = some 4 ∧ 4 ≤ 5) := by decide +kernel

def fullQueue : State := { m := { livePart with host := { cmdQueue := List.replicate 64 (false, [1]) } } }

theorem witness_UartFrames :
    (live.m.alive = true ∧ served live.m = true ∧ ([0x7E, 0x7D, 5] : List Byte) ≠ [] ∧ ([0x7E, 0x7D, 5] : List Byte).length ≤ 4096 ∧
      live.m.host.cmdQueue.length < 64) ∧
    (fullQueue.m.alive = true ∧ served fullQueue.m = true ∧ 64 ≤ fullQueue.m.host.cmdQueue.length) := by decide +kernel

theorem witness_PerstResets : ringed.m.alive = true := by decide

def withMaint (f : Maint → Maint) : State := { m := { livePart with maint := f livePart.maint } }
def armed : State := withMaint fun x => { x with armed := some 0 }
def disabled : State := withMaint fun x => { x with disable := true }
def unlocked : State := withMaint fun x => { x with unlocked := true }
def byPins : State := { m := { livePart with sys := { livePart.sys with strapHost := false, gpio15Low := some 0 } } }

theorem witness_MaintenanceMode :
    (livesAt 5 live ∧ live.m.sys.strapHost = true ∧ live.m.maint.disable = false) ∧
    (livesAt msec armed ∧ armed.m.maint.armed = some 0 ∧ msec ≤ 0 + msec ∧ armed.m.maint.disable = false) ∧
    (livesAt 5 disabled ∧ disabled.m.maint.disable = true) ∧
    (livesAt (600 * sec) unlocked ∧ unlocked.m.maint.unlocked = true ∧ unlocked.m.maint.byGpio = false ∧
      unlocked.m.maint.unlockedAt + max 1 unlocked.m.maint.timeout * sec ≤ 600 * sec) ∧
    (livesAt (100 * msec) byPins ∧ byPins.m.sys.strapHost = false ∧ byPins.m.sys.gpio15Low = some 0 ∧ 0 + 100 * msec ≤ 100 * msec ∧
      byPins.m.maint.unlocked = false) := by decide +kernel

/-- Counter 3 of group 2 counts a class of slots; its neighbour does not chain. -/
def counting : State := { m := { livePart with perf := { groups := [(2, { sel := [(3, 0x00000820)] })] } } }

theorem witness_EventAndCounterRegisters :
    (reached live ∧ 11 < 12 ∧ live.m.ev.level = [] ∧ 9 < 10 ∧ 7 < 8) ∧ read64 (advance 5 live.m) 0x000008 ≠ none ∧
    (counting.m.alive = true ∧ 2 < 10 ∧ 3 < 8 ∧ counting.m.perf.freeze = false ∧ counting.m.tb.rootLock = true ∧
      counting.m.perf.since = counting.m.sys.now ∧ 0 ≤ counting.m.sys.now ∧ selEnable (perfSel 2 3 counting.m) = true ∧
      pulsed 2 (selCode (perfSel 2 3 counting.m)) = false ∧ selCode (perfSel 2 3 counting.m) ≠ 1 ∧
      selCode (perfSel 2 3 counting.m) ≠ 2 ∧ selChain (perfSel 2 3 counting.m) = false ∧ selFreeze (perfSel 2 3 counting.m) = false ∧
      (selEnable (perfSel 2 (3 + 1) counting.m) && selChain (perfSel 2 (3 + 1) counting.m)) = false) := by decide +kernel

theorem witness_RegisterWrites :
    (reached live ∧ ((0x7 : BitVec 4) ≠ 0xF ∨ 0x040 % 4 ≠ 0) ∧ ((0xF : BitVec 4) ≠ 0xF ∨ 0x041 % 4 ≠ 0)) ∧
    (live.m.maint.unlocked = false ∧ 0x160000 ≤ 0x161000 ∧ 0x161000 < 0x180000) ∧
    (15 < 16 ∧ 0x07C = 0x040 + 4 * 15 ∧ live.m.sys.gpioLock = false) ∧ live.m.host.cmdEn = false ∧
    (176 < 177 ∧ 0x161580 = 0x161000 + 8 * 176 ∧ reached unlocked ∧ unlocked.m.maint.unlocked = true) := by decide +kernel

/-! ### The host's commands -/

/-- A packet over a ring that asks for its reply, with tag 7 and a valid CRC. -/
def pkt (op : Nat) (flags : Byte) (txn : Half) (params : List Byte) : CmdPkt :=
  let k : CmdPkt := { uart := false, flags := flags, hver := 1, tag := 7, paramLen := BitVec.ofNat 16 params.length, txn := txn,
                      crc := 0, params := params }
  { k with crc := crc32c (cmdHead op k ++ [0, 0, 0, 0] ++ params) }

/-- The same packet over the UART. -/
def overUart (op : Nat) (k : CmdPkt) : CmdPkt :=
  { k with uart := true, crc := crc32c (cmdHead op { k with uart := true } ++ [0, 0, 0, 0] ++ k.params) }

/-- A primary, its maintenance mode unlocked. -/
def primary : State := { m := { livePart with pair := { role := .primary, driveTenure := true }, maint := { unlocked := true } } }

def ping : CmdPkt := pkt 0x0004 1 0 [1, 2, 3, 4]
def pingRow : QueryRow := ⟨0x0004, ruleOwn, 5, ping, fun b _ => .ok b⟩
def slotStatus : CmdPkt := pkt 0x0906 1 0 [7, 0, 0, 0]

theorem witness_QueriesAnswer :
    (takesCommand 0x0004 5 ping primary ∧ classOk ruleOwn ping = true ∧ ping.flags.getLsbD 0 = true ∧
      (ping.uart = true → primary.m.host.replyQueue.length < 128)) ∧
    (takesCommand 0x0906 5 slotStatus primary ∧ classOk ruleQuery slotStatus = true ∧
      (answers 4 (oneIndex 8) (fun b p => tbSlotStatusBytes p (byteAt b 0)) slotStatus.params
        (commandAt 0x0906 5 slotStatus primary)).toBool = true) := by decide +kernel

/-- AUD_ZC of 20 ms, on its own and in transaction 3. -/
def zc : CmdPkt := pkt 0x0804 1 0 [20, 0, 0, 0]
def zcIn : CmdPkt := pkt 0x0804 5 3 [20, 0, 0, 0]
def zcStaged : Staged := { tag := 7, opcode := 0x0804, pkt := zc, cmd := .audZc 20 }

theorem witness_ConfigSealed : configRow (.audZc 5 zc) = some (0x0804, 5, zc) ∧ takesCommand 0x0804 5 zc primary ∧
    classOk ruleConfig zc = true ∧ zc.flags.getLsbD 2 = false ∧ prefixBad primary.m zc = none ∧
    (parseConfig 0x0804 zc).toOption = some (.audZc 20) ∧
    (judgeSeal (commandAt 0x0804 5 zc primary) zc.tag 0 [zcStaged] none (prefixCfn zc)).toBool = true := by decide +kernel

def inTxn (staged : List Staged) : State := { primary with m := { primary.m with txn := { open_ := [(3, { idle := sec, lastUse := 0, staged := staged })] } } }

theorem witness_ConfigStaged : configRow (.audZc 5 zcIn) = some (0x0804, 5, zcIn) ∧ takesCommand 0x0804 5 zcIn (inTxn []) ∧
    classOk ruleConfig zcIn = true ∧ zcIn.flags.getLsbD 2 = true ∧
    (inTxn []).m.txn.open_.get? zcIn.txn.toNat = some { idle := sec, lastUse := 0, staged := [] } ∧
    (parseConfig 0x0804 zcIn).toOption = some (.audZc 20) ∧ ([] : List Staged).length < 1024 := by decide +kernel

def openIt : CmdPkt := pkt 0x0101 1 3 [88, 2, 0, 0]
def abortIt : CmdPkt := pkt 0x0103 1 3 []
def sealIt : CmdPkt := pkt 0x0102 1 3 (List.replicate 16 0)

theorem witness_Transactions :
    (takesCommand 0x0101 5 openIt primary ∧ classOk ruleTxn openIt = true ∧ openIt.params.length = 4 ∧ 1 ≤ leAt openIt.params 0 4 ∧
      leAt openIt.params 0 4 ≤ 600 ∧ openIt.txn ≠ 0 ∧ primary.m.txn.open_.has openIt.txn.toNat = false ∧
      primary.m.txn.open_.length < 16) ∧
    (takesCommand 0x0103 5 abortIt (inTxn []) ∧ classOk ruleTxn abortIt = true ∧ abortIt.params = [] ∧
      (inTxn []).m.txn.open_.has abortIt.txn.toNat = true) := by decide +kernel

theorem witness_Transactions_seal : takesCommand 0x0102 5 sealIt (inTxn [zcStaged]) ∧
    classOk { ruleTxn with seal_ := true } sealIt = true ∧
    (layout sealIt.params 16 (sealChecks (inTxn [zcStaged]).m sealIt) (gateOf sealIt.params)).toBool = true ∧
    gateOf sealIt.params = none ∧
    (judgeSeal (commandAt 0x0102 5 sealIt (inTxn [zcStaged])) sealIt.tag sealIt.txn [zcStaged] none none).toBool = true ∧
    sealIt.flags.getLsbD 1 = false := by decide +kernel

theorem witness_Transactions_expired : livesAt sec (inTxn []) ∧ (inTxn []).m.hrt.kilnReset = false ∧
    (inTxn []).m.txn.open_.get? 3 = some { idle := sec, lastUse := 0, staged := [] } ∧ 0 + sec ≤ sec := by decide +kernel

def setDog : CmdPkt := pkt 0x0B0A 1 0 [200, 0, 0, 0]

theorem witness_SettersSet : takesCommand 0x0B0A 5 setDog primary ∧ classOk ruleDagger setDog = true ∧
    (ruleDagger.cls = .maint true → primary.m.maint.unlocked = true) ∧
    (layout setDog.params 4 [within setDog.params 0 2 10 1000, zeros setDog.params 2 2] ()).toBool = true := by decide +kernel

/-! ### The Kralys link and the tiles -/

/-- The last furrow's lane, in a state of its bring-up. -/
def withLane (g : Lane → Lane) : State := { m := { livePart with kl := { lanes := [(127, g {})] } } }
def laneIn (n : Nat) : State := withLane fun l => { l with state := n }
def plainSet : TrainSet := { inverted := false, lane := 0, width := 0, rate := 2, ready := false, role := 2 }

theorem witness_LaneBringUp :
    (livesAt 5 (laneIn 1) ∧ ((laneIn 1).m.lane 127).state = 1) ∧ ((laneIn 2).m.lane 127).state = 2 ∧
    ((laneIn 3).m.lane 127).state = 3 ∧
    (((laneIn 4).m.lane 127).state = 4 ∧ lastSets 8 (fun x => !x.inverted) (List.replicate 8 plainSet) = true ∧
      lastSets 8 (fun x => x.inverted) (List.replicate 8 { plainSet with inverted := true }) = true) ∧
    (livesAt (2 * msec) (laneIn 2) ∧ trainTimer ((laneIn 2).m.lane 127).state = some (2 * msec) ∧
      ((laneIn 2).m.lane 127).since + 2 * msec ≤ 2 * msec) := by decide +kernel

theorem witness_LaneExits : livesAt 5 (laneIn 7) ∧ 127 < 128 ∧ ((laneIn 7).m.lane 127).state = 7 ∧
    livesAt usec (laneIn 6) ∧ ((laneIn 6).m.lane 127).state = 6 ∧
    lastSets 8 (fun x => x.ready) (List.replicate 8 { plainSet with ready := true }) = true ∧
    ((laneIn 6).m.lane 127).since + 8 * 16 * symbolUnits ((laneIn 6).m.cfg.furrow 127) ≤ usec ∧
    lastSets 2 (fun _ => true) (List.replicate 2 plainSet) = true := by decide +kernel

/-- A header from tile 3, hop 1. -/
def tileHeader : UpHeader := { endB := false, hop := 1, hopN := 0xFE, addr := 3 }

theorem witness_LinkErrors : (livesAt 5 (laneIn 4) ∧ 4 ≤ ((laneIn 4).m.lane 127).state) ∧
    livesAt 5 (laneIn 7) ∧ 127 < 128 ∧ ((laneIn 7).m.lane 127).state = 7 ∧ hopBad tileHeader = false := by decide +kernel

def aCtrl (reply : Bool) (why : Purpose) : Ctrl := { key := 3, op := 1, reply := reply, payload := [], why := why, seq := 4 }
def ready : State := withLane fun l => { l with state := 7, queue := [aCtrl false .clear] }
def outstandingCtrl (c : Ctrl) (n : Nat := 6) : State := { m := { (laneIn 7).m with
  kl := { (laneIn 7).m.kl with links := [(linkKey 127 3, { outst := [c], timer := some 5, expiries := n })] }
  cfg := { furrows := [(127, { enable := true, map := [(3, { type := 0, feeder := 0, level := 2, id := 0, x := 0, y := 0, width := 8, height := 8 })] })] } } }
def levelReply : CtrlReply := { next := 5, dwell := 0, rstat := 0, data := [2], r := 0 }

theorem witness_ControlDelivered :
    (livesAt 5 ready ∧ (ready.m.lane 127).state = 7 ∧ sendable ready.m 127 = some (aCtrl false .clear) ∧
      (ready.m.lane 127).queue = aCtrl false .clear :: [] ∧ (ready.m.lane 127).backlog = [] ∧ (ready.m.lane 127).resend = [] ∧
      (ready.m.lane 127).runDue = false) ∧
    (livesAt 5 (outstandingCtrl (aCtrl false .clear)) ∧ ((outstandingCtrl (aCtrl false .clear)).m.lane 127).state = 7 ∧
      hopBad tileHeader = false ∧ (5 : Half).getLsbD 15 = false ∧
      answerKey (outstandingCtrl (aCtrl false .clear)).m 127 tileHeader = some 3 ∧
      ((outstandingCtrl (aCtrl false .clear)).m.lane 127).dropped = [] ∧
      ((outstandingCtrl (aCtrl false .clear)).m.link 127 3).outst = [aCtrl false .clear] ∧
      (aCtrl false .clear).reply = false ∧ (aCtrl false .clear).why = .clear ∧ ((5 : Half).toNat % 4096 + 4096 - (aCtrl false .clear).seq) % 4096 = 1) ∧
    (answerKey (outstandingCtrl (aCtrl true .powerQuery)).m 127 tileHeader = some 3 ∧ levelReply.next.getLsbD 15 = false ∧
      ((outstandingCtrl (aCtrl true .powerQuery)).m.link 127 3).outst = [aCtrl true .powerQuery] ∧
      (aCtrl true .powerQuery).reply = true ∧ (aCtrl true .powerQuery).key = 3 ∧ ((outstandingCtrl (aCtrl true .powerQuery)).m.lane 127).enum = none ∧
      ((outstandingCtrl (aCtrl true .powerQuery)).m.lane 127).pwrUnc = false ∧
      (((outstandingCtrl (aCtrl true .powerQuery)).m.cfg.furrow 127).map.get? 3).map (·.level) =
        some (byteAt levelReply.data 0) ∧
      (levelReply.next.toNat % 4096 + 4096 - (aCtrl true .powerQuery).seq) % 4096 = 1) ∧
    (((outstandingCtrl (aCtrl false .clear)).m.link 127 3).timer = some 5 ∧ 5 ≤ 5 ∧
      ((outstandingCtrl (aCtrl false .clear)).m.link 127 3).expiries + 1 < 8 ∧ laneSends (outstandingCtrl (aCtrl false .clear)).m 127 = true ∧
      ((outstandingCtrl (aCtrl false .clear)).m.lane 127).ackSlot = true ∧ ((outstandingCtrl (aCtrl false .clear)).m.lane 127).resend = []) ∧
    (((outstandingCtrl (aCtrl false .clear) 7).m.link 127 3).expiries = 7 ∧
      ((outstandingCtrl (aCtrl false .clear) 7).m.lane 127).enum = none) := by decide +kernel

/-- A mapped tile in service at position 3 of an UP furrow. -/
def withTile (g : TileRt → TileRt) : State := { m := { (outstandingCtrl (aCtrl false .clear)).m with
  kl := { (laneIn 7).m.kl with tiles := [(tileKey 127 3, g { inService := true })] }
  fr := { started := true, cfn := 100 } } }
def aStatus : TileStatus := { latched := 99, temp := 0, epoch := 0, follow := 0, ports := 0, crcFail := 0, missing := 0, linkErr := 0, flags := 0 }
def anAlarm : Alarm := { aseq := 9, code := 2, arg := 0 }
/-- A tile without a position, at hop 9, and a head that has acknowledged its alarm. -/
def farHeader : UpHeader := { endB := false, hop := 9, hopN := 0xF6, addr := 0 }
def heardAlarm : State := { m := { (laneIn 7).m with
  kl := { (laneIn 7).m.kl with links := [(linkKey 127 (hopKey 9), { acked := [anAlarm.aseq] })] } } }
def missedThrice : State := withTile fun x => { x with missed := 3 }
def supplyStuck : State := withTile fun x => { x with supply := 2, supplyDue := some 5 }

theorem witness_TilesReport :
    (livesAt 5 (withTile id) ∧ 127 < 128 ∧ ((withTile id).m.lane 127).state = 7 ∧ ((withTile id).m.lane 127).faulted = false ∧
      (withTile id).m.fr.started = true ∧ (withTile id).m.pair.role ≠ .yielding) ∧
    (tileHeader.addr = 3 ∧ hopBad tileHeader = false ∧ tileHeader.endB = (withTile id).m.sys.endB ∧
      ((withTile id).m.cfg.furrow 127).map.has 3 = true ∧ ((withTile id).m.tile 127 3).silent = false) ∧
    (anAlarm.code ≠ 1 ∧ 3 ≠ 0 ∧ anAlarm.aseq ∉ ((withTile id).m.link 127 3).acked) ∧
    (farHeader.addr = 0 ∧ hopBad farHeader = false ∧ heardAlarm.m.pair.role ≠ .yielding ∧ livesAt 5 heardAlarm ∧
      (heardAlarm.m.lane 127).state = 7 ∧ anAlarm.aseq ∈ (heardAlarm.m.link 127 (keyAtHop heardAlarm.m 127 farHeader.hop.toNat)).acked) ∧
    (livesAt 5 missedThrice ∧ (missedThrice.m.lane 127).state = 7 ∧ (missedThrice.m.tile 127 3).inService = true ∧
      (missedThrice.m.tile 127 3).silent = false ∧ 3 ≤ (missedThrice.m.tile 127 3).missed ∧ powerRisk missedThrice.m 127 3 = false) ∧
    (livesAt 5 supplyStuck ∧ (supplyStuck.m.lane 127).state = 7 ∧ stepping (supplyStuck.m.tile 127 3) = true ∧
      (supplyStuck.m.tile 127 3).targetSeen = false ∧ (supplyStuck.m.tile 127 3).supplyDue = some 5 ∧ 5 ≤ 5) ∧
    (((withTile id).m.tile 127 3).unkRaised = false ∧
      ((withTile id).m.tile 127 3).lastTemp + (withTile id).m.cfg.light.timeout ≤ (withTile id).m.fr.cfn) := by decide +kernel

/-! ### Inputs -/

/-- A picture of 8 by 4 pixels, RGB, 10 bits, 60 frames a second. -/
def tiny : VideoFormat := ⟨8, 4, 60000, 1000, 0, 2, 0⟩
def hd : VideoFormat := ⟨1920, 1080, 60000, 1000, 0, 0, 0⟩
def tinyFrame : InFrame := { fmt := tiny, complete := true, bottom := false, c0 := List.replicate 32 64, c1 := List.replicate 32 64,
                             c2 := List.replicate 32 64, rtp := 0, packetsLost := 0 }

/-- Stream 47 with a binding, parameters and a run-time state. -/
def withStream (b : Binding) (par : StreamParams) (r : StreamRt) : State :=
  { m := { livePart with cfg := { streams := [(47, { bind := b, par := par })], groups := [(2, 3)] }, inp := { streams := [(47, r)] } } }
def sdiStream (r : StreamRt) : State := withStream (.sdi 15 1 0) { fmt := tiny, compressed := false, fenceGroup := 2 } r
def storing : State := sdiStream { writing := some 1 }
def goodFence : FencePkt := { did := 0x50, sdid := 0x4E, count := 12, checksumOk := true, late := false, rtp := 0, udw := [1, 0, 2, 0, 9, 0, 0, 0, 0, 0, 0, 0] }
def strayPacket : FencePkt := { goodFence with count := 11 }
def badFence : FencePkt := { goodFence with checksumOk := false }
def ipBind : IpBind := { port := 0, protect := true, leg1 := {}, leg2 := {}, fmt := hd, packing := 0, bandwidth := 1000 }
def behindSlot : Slot := { complete := true, seq := 1, storedAt := 5 }
def behindStored : State :=
  let s := withStream (.ip ipBind) { fmt := hd, compressed := false, fenceGroup := 2 } { slots := [(3, behindSlot)] }
  { s with m := { s.m with cfg := { s.m.cfg with ancFlows := [(47, { port := 0, protect := false, leg1 := {}, leg2 := {} })] } } }
def silentMember : State := sdiStream { untagged := 6 }

theorem witness_FramesStored :
    (livesAt 5 (sdiStream {}) ∧ receives (sdiStream {}).m = true ∧ ((sdiStream {}).m.cfg.stream 47).bound = true) ∧
    (livesAt 5 storing ∧ receives storing.m = true ∧ storing.m.format 47 = some tiny ∧ samePicture tinyFrame.fmt tiny = true ∧
      (storing.m.stream 47).writing = some 1 ∧ (storing.m.cfg.stream 47).bound = true) ∧
    (isFence storing.m.cfg goodFence = true ∧ isIp (storing.m.cfg.stream 47).bind = false ∧
      fenceValid (storing.m.cfg.stream 47).par.fenceGroup goodFence = true ∧ (storing.m.cfg.stream 47).par.fenceGroup ≠ 0 ∧
      frameBehind (storing.m.cfg.stream 47) (storing.m.stream 47) goodFence = none ∧
      fenceSpare (storing.m.cfg.stream 47) (storing.m.stream 47) goodFence = false) ∧
    (isFence storing.m.cfg strayPacket = false ∧ isFence storing.m.cfg badFence = true) ∧
    (livesAt (2 * msec + 5) behindStored ∧ receives behindStored.m = true ∧ (behindStored.m.cfg.stream 47).bound = true ∧
      isFence behindStored.m.cfg goodFence = true ∧ behindStored.m.cfg.ancFlows.has 47 = true ∧
      fenceValid (behindStored.m.cfg.stream 47).par.fenceGroup goodFence = true ∧
      (behindStored.m.cfg.stream 47).par.fenceGroup ≠ 0 ∧
      frameBehind (behindStored.m.cfg.stream 47) (behindStored.m.stream 47) goodFence = some (3, behindSlot) ∧
      behindSlot.tagged = false ∧ 2 * msec + 5 ≤ behindSlot.storedAt + 2 * msec) ∧
    fenceValid (storing.m.cfg.stream 47).par.fenceGroup badFence = false ∧
    (livesAt 5 silentMember ∧ (silentMember.m.cfg.stream 47).bound = true ∧ (silentMember.m.stream 47).unfenced = false ∧
      2 * silentMember.m.cfg.groups.getD (silentMember.m.cfg.stream 47).par.fenceGroup 3 ≤ (silentMember.m.stream 47).untagged) := by
  decide +kernel

def anId : PayloadId := { fmt := hd, colorimetry := 1, transfer := 1, bytes := 0x89CA0001, link := 0, division := 0, skewLines := 0 }
def hdStream (r : StreamRt) : State := withStream (.sdi 15 1 0) { fmt := hd, compressed := false } r
def goneStream : State := hdStream { lost := true, returnRun := 2 }

theorem witness_StreamsIdentified :
    (livesAt 5 live ∧ receives live.m = true ∧ laneWorks live.m (148 + 15) = true ∧ streamOfInput live.m 15 = none) ∧
    (livesAt 5 (hdStream {}) ∧ receives (hdStream {}).m = true ∧ laneWorks (hdStream {}).m (148 + 15) = true ∧ streamOfInput (hdStream {}).m 15 = some 47 ∧
      ((hdStream {}).m.cfg.stream 47).bind.inputs = [15] ∧ payloadDiffers ((hdStream {}).m.cfg.stream 47) anId = false ∧
      ((hdStream {}).m.cfg.stream 47).par.fmt ≠ VideoFormat.auto) ∧
    (((hdStream {}).m.cfg.stream 47).bind = .sdi 15 1 0 ∧
      (((hdStream {}).m.cfg.stream 47).bind.inputs.all fun i => laneWorks (hdStream {}).m (148 + i)) = true ∧
      sdiFormatOk 1 hd = true ∧ ((hdStream {}).m.cfg.stream 47).par.fmt = hd) ∧
    (((hdStream {}).m.cfg.stream 47).bound = true ∧ lossHolds 47 .noTrs (advance 5 (hdStream {}).m) = true ∧
      ((hdStream {}).m.stream 47).lost = false) ∧
    (livesAt (1000 * msec) goneStream ∧ (goneStream.m.stream 47).lost = true ∧ (goneStream.m.cfg.stream 47).par.lossAction = 0 ∧
      (goneStream.m.stream 47).lostSince + (goneStream.m.cfg.stream 47).par.holdMs * msec ≤ 1000 * msec ∧
      (goneStream.m.cfg.stream 47).par.returnCount ≤ (goneStream.m.stream 47).returnRun) ∧
    (((hdStream { lost := true, returnDue := true }).m.stream 47).lost = true ∧
      ((hdStream { lost := true, returnDue := true }).m.stream 47).returnDue = true) := by decide +kernel

def ipStream (r : StreamRt) : State := withStream (.ip ipBind) { fmt := hd, compressed := false } r
def aPacket : RtpPacket := { seq := 9, ts := 4, marker := false, line := 2, offset := 0, c0 := [1, 2], c1 := [3], c2 := [4], fits := true }
def seenIt : State := ipStream { rtpSeen := [(9, 0, 0)], rtp := [{ ts := 4 }] }
def aFrame : RtpFrame := { ts := 4 }
def placing : State := ipStream { rtp := [aFrame], writing := some 0 }
def linked : State := { m := { livePart with
  inp := { eth := [(1, { link := true })], ptp := { rank := some 3, gm := 8, heardTo := 5 } }
  cfg := { eth := [(1, { ipv4 := [10, 0, 0, 1] })] } } }
def waitingPair : State := { m := { (sdiStream { det := some tiny }).m with
  cfg := { (sdiStream {}).m.cfg with frc := [(7, { stream := some 47 })] }
  frc := [(7, { uniq := [{ seq := 5, that := 0, diff := 0, cut := false }] })] } }

theorem witness_NetworkInputs :
    (livesAt 5 seenIt ∧ receives seenIt.m = true ∧ (seenIt.m.cfg.stream 47).bind = .ip ipBind ∧
      ((seenIt.m.stream 47).rtpSeen.find? fun e => e.1 == aPacket.seq) = some (9, 0, 0) ∧
      5 ≤ 0 + (seenIt.m.cfg.stream 47).par.seamless * (msec / 10) ∧ (seenIt.m.stream 47).rtp = [aFrame] ∧ aFrame.ts = aPacket.ts ∧
      aFrame.last = none ∧ aFrame.ended = [] ∧ aFrame.endedAt = none) ∧
    (livesAt 5 placing ∧ receives placing.m = true ∧ (placing.m.cfg.stream 47).bind = .ip ipBind ∧
      ((placing.m.stream 47).rtpSeen.find? fun e => e.1 == aPacket.seq) = none ∧ (placing.m.stream 47).rtp = [aFrame] ∧
      (placing.m.stream 47).writing = some 0 ∧ rtpOver (placing.m.stream 47) aPacket = false ∧ aPacket.fits = true ∧ aPacket.marker = false) ∧
    (livesAt (3 * formatPeriod hd) (ipStream {}) ∧ ((ipStream {}).m.cfg.stream 47).bind = .ip ipBind ∧ ipBind.protect = true ∧
      ((ipStream {}).m.stream 47).legLost.getD 1 true = false ∧
      ((ipStream {}).m.stream 47).legLast.getD 1 0 + 3 * formatPeriod ipBind.fmt ≤ 3 * formatPeriod hd) ∧
    (livesAt 5 linked ∧ receives linked.m = true ∧ (linked.m.inp.eth.getD 1 {}).link = true ∧ ownAddress (linked.m.cfg.eth.getD 1 {}) [10, 0, 0, 1] = true ∧
      ([10, 0, 0, 1] : List Byte).length = 4 ∧ 0 = ptpPort linked.m ∧ (8 : DWord) = linked.m.inp.ptp.gm ∧ linked.m.inp.ptp.rank ≠ none ∧
      5 ≤ linked.m.inp.ptp.heardTo) ∧
    ((linked.m.inp.eth.getD 3 {}).link = false ∧ ((List.range 4).all fun i => laneWorks linked.m (128 + 4 * 3 + i)) = true) ∧
    (livesAt 5 waitingPair ∧ ((waitingPair.m.conv 7).uniq.find? fun u => u.seq == BitVec.ofNat 32 5 && u.vecs.isNone && !u.shed) =
        some { seq := 5, that := 0, diff := 0, cut := false } ∧
      (waitingPair.m.cfg.conv 7).mode ≠ 0 ∧ frcShed waitingPair.m = false ∧
      vectorsFit ((waitingPair.m.cfg.conv 7).stream.bind waitingPair.m.format) [⟨0, 0, 0, 0⟩] = true) := by decide +kernel

/-! ### The frame event, the canvas and audio -/

/-- A small canvas of one band whose first frame event has been. -/
def running : State := { m := { livePart with
  fr := { started := true, first := false, cfn := 100, lastFe := 0 }
  cfg := { canvas := { w := 16, h := 4 } } } }

theorem witness_FrameEvents : rasterRuns running.m = true ∧ rasterRuns noRoot.m = false := by decide +kernel

theorem witness_GatedFrames : noRoot.m.tb.rootLock = false ∧ rasterRuns running.m = true ∧ running.m.fr.first = false ∧
    (Instr.xoFail 5 = .rootLockLost 5 ∨ Instr.xoFail 5 = .xoFail 5 ∨ Instr.xoFail 5 = .xoRestored 5 ∨
      Instr.xoFail 5 = .bypassWaitExpiry 5 ∨ Instr.xoFail 5 = .bandSearchFail 5 ∨ Instr.xoFail 5 = .bandSearchDone 5 0 0) := by
  decide +kernel

def lowlat : State := { running with m := { running.m with comp := { lowlat := true } } }

/-- A low-latency layer on stream 47, none of whose lines have come. -/
def waitingLines : State := { lowlat with m := { lowlat.m with cfg := { lowlat.m.cfg with
  regions := [(1, {})], layers := [(1, { region := 1, slot := 0, lowLatency := true, source := .stream 47 })] } } }

theorem witness_BandsComposed : bandOpen 0 false (advance 5 running.m) = true ∧ anyLinkUp running.m = false ∧
    running.m.light.opened = false ∧ running.m.kl.lanes = [] ∧
    bandOpen 0 true (advance 5 lowlat.m) = true ∧ lowlat.m.comp.lowlat = true ∧ lowlat.m.comp.behind = false ∧
    linesThere waitingLines.m 0 = false ∧ waitingLines.m.alive = true := by decide +kernel

def opened : State := { running with m := { running.m with light := { opened := true, scanned := true } } }

/-- Furrow 127 has a segment left that waits for the window's close. -/
def leftOver : State := { opened with m := { opened.m with
  pair := { role := .primary }
  kl := { lanes := [(127, { state := 7, left := [{ band := 0, position := 3, first := 0, count := 4 }] })] } } }

theorem witness_ScanWindow :
    (livesAt (250 * usec) running ∧ running.m.fr.started = true ∧ running.m.tb.rootLock = true ∧ running.m.light.opened = false ∧
      running.m.fr.first = false ∧ running.m.fr.stepFrame = false ∧ 250 * usec < scanCloseAt running.m ∧
      running.m.fr.lastFe + running.m.cfg.canvas.scanLead * usec ≤ 250 * usec ∧ running.m.light.due = []) ∧
    (leftOver.m.light.opened = true ∧ (leftOver.m.lane 127).left ≠ [] ∧ inService leftOver.m = true ∧
      leftOver.m.kl.lanes.keys.Nodup ∧ ∀ e ∈ leftOver.m.kl.lanes, e.2.scan = []) ∧
    (livesAt (scanCloseAt opened.m) opened ∧ opened.m.light.opened = true ∧ scanCloseAt opened.m ≤ scanCloseAt opened.m ∧
      opened.m.light.scanned = true) := by decide +kernel

def aGate : Gate := { group := 2, tag := 9, deadline := 1 }
def gatedCommit : Commit := { jseq := 6, txn := 3, tag := 7, cmds := [], apply := 50, gate := some aGate }
def lateGate : State := { running with m := { running.m with txn := { commits := [gatedCommit], jseq := 6 } } }
def lateGroup : State := { running with m := { running.m with cfg := { groups := [(2, 3)] }, inp := { groups := [(2, { wait := 4, due := true })] } } }
def behindTwice : State := { running with m := { running.m with comp := { lowlat := true, behind := true, behindRun := 1 } } }
def aPicture : MonPicture := { cfn := 98, picture := [], due := some 5 }
def monitored : State := { running with m := { running.m with
  cfg := { mon := [(3, { enable := true, ow := 2, oh := 2 })] }, comp := { mon := [(3, { waiting := [aPicture] })] } } }
def quietHost : State := { running with m := { running.m with
  pair := { role := .primary }, cfg := { slate := { automatic := true, inputDelayMs := 1000 } }, comp := { slate := { lostSince := some 0 } } } }
def pinLeft : State := { running with m := { running.m with comp := { slate := { pinOn := true, pinLeft := some 0 } } } }

theorem witness_CanvasTimers :
    (livesAt 5 lateGate ∧ (lateGate.m.txn.commits.find? fun y => y.jseq == gatedCommit.jseq && gateExpired lateGate.m y) = some gatedCommit ∧
      gatedCommit.gate = some aGate ∧ lateGate.m.pair.role ≠ .standby) ∧
    (livesAt 5 lateGroup ∧ lateGroup.m.cfg.groups.has 2 = true ∧ (lateGroup.m.groupRt 2).due = true) ∧
    (livesAt 5 behindTwice ∧ behindTwice.m.comp.lowlat = true ∧ 2 ≤ behindTwice.m.comp.behindRun + b2n behindTwice.m.comp.behind) ∧
    (livesAt 5 monitored ∧ (monitored.m.cfg.mon.getD 3 {}).enable = true ∧ monitored.m.tb.rootLock = true ∧
      (monitored.m.comp.mon.getD 3 {}).waiting = aPicture :: [] ∧ aPicture.due = some 5 ∧ 5 ≤ 5) ∧
    (livesAt (20 * sec) quietHost ∧ quietHost.m.pair.role ≠ .standby ∧ slateAutoDue (advance (20 * sec) quietHost.m) = true) ∧
    (livesAt sec pinLeft ∧ pinLeft.m.comp.slate.pinOn = true ∧ pinLeft.m.comp.slate.pinLeft = some 0 ∧ 0 + sec ≤ sec) := by
  decide +kernel

def chanFrom (x : ChanSource) (f : Chan → Chan) : State :=
  { m := { (sdiStream {}).m with aud := { chans := [(255, f { cur := { source := x } })] } } }
def refilled : AudPort := { running := true, refill := false }
def playing (out : List (Int × Nat)) : State :=
  { m := { livePart with cfg := { ports := [(3, { direction := 2 })] }, aud := { ports := [(3, { refilled with out := out })] } } }
def staying (out : List (Int × Nat)) : State :=
  { m := { (playing out).m with cfg := { ports := [(3, { direction := 2, autoRestart := false })] } } }
def aSample : AudSample := { value := 77, v := false, u := false, c := false, b := false, valid := true }
def slipping : State :=
  let s := chanFrom (.sdi 47 2) fun c => { c with errRun := 1024 }
  { s with m := { s.m with aud := { s.m.aud with doms := [(47, { slipFrom := some 0 })] } } }
def silentChange : Silent := { start := 0, pos := 0, delay := 8, invert := false }
def changing : State := chanFrom (.sdi 47 2) fun c => { c with silent := some silentChange }

theorem witness_AudioSamples :
    (livesAt 5 (chanFrom (.sdi 47 2) id) ∧ receives (chanFrom (.sdi 47 2) id).m = true ∧ ((chanFrom (.sdi 47 2) id).m.cfg.stream 47).bound = true ∧
      ((chanFrom (.sdi 47 2) id).m.stream 47).lost = false ∧
      ingestSwapping (chanFrom (.sdi 47 2) id).m 47 = false ∧ aSample.valid = true ∧
      (chanFrom (.sdi 47 2) id).m.aud.chans.keys.Nodup ∧ 255 ∈ (chanFrom (.sdi 47 2) id).m.aud.chans.keys ∧
      ((chanFrom (.sdi 47 2) id).m.chan 255).cur.source = .sdi 47 2 ∧ ((chanFrom (.sdi 47 2) id).m.chan 255).silent = none ∧
      ((chanFrom (.sdi 47 2) id).m.chan 255).cur.endAt = none) ∧
    (livesAt 5 (playing [(9, 1)]) ∧ ((playing [(9, 1)]).m.audPort 3).running = true ∧ ((playing [(9, 1)]).m.audPort 3).stopping = false ∧
      ((playing [(9, 1)]).m.audPort 3).refill = false ∧ (playing [(9, 1)]).m.aud.doms = [] ∧ ((playing [(9, 1)]).m.cfg.port 3).direction = 2 ∧
      ((playing [(9, 1)]).m.audPort 3).out = (9, 1) :: [] ∧ ((playing [(9, 1)]).m.audPort 3).out.length < 32) ∧
    (livesAt 5 (playing []) ∧ 3 < 16 ∧ ((playing []).m.audPort 3).running = true ∧ ((playing []).m.audPort 3).out = [] ∧
      ((playing []).m.cfg.port 3).autoRestart = true) ∧
    (((staying []).m.audPort 3).running = true ∧ ((staying []).m.audPort 3).out = [] ∧ ((staying []).m.cfg.port 3).autoRestart = false) ∧
    (livesAt (zcUnits changing.m) changing ∧ (changing.m.chan 255).silent = some silentChange ∧ silentChange.mid = none ∧
      silentChange.start + zcUnits changing.m ≤ zcUnits changing.m) ∧
    (livesAt sec (chanFrom (.sdi 47 2) id) ∧ ((chanFrom (.sdi 47 2) id).m.dom (domKey (.sdi 47))).lost = false ∧
      goneChans (advance sec (chanFrom (.sdi 47 2) id).m) (.sdi 47) ≠ []) := by decide +kernel

theorem witness_AudioSamples_slip : livesAt sec slipping ∧ slipNow (advance sec slipping.m) (domKey (.sdi 47)) = true := by decide +kernel

/-! ### The pair -/

def withPair (f : Pair → Pair) : State := { m := { livePart with pair := f {}, fr := { started := true, first := false, cfn := 100, lastFe := 0 } } }
def beat : Heartbeat := { role := 1, endB := true, epoch := 3, pins := 0, tb := 0, health := 0, jseq := 0, txTime := 0, echoTime := 0,
                          echoDwell := 0, feCfnLow := 100, lastFe := 0, witness := [] }
def yieldingLink : State := withPair fun x => { x with role := .yielding, links := [(0, { hbRun := 7 })] }
def secondLink : State := withPair fun x => { x with
  role := .standby, partner := some beat, links := [(0, { up := true }), (1, { hbRun := 7 })] }
def bothUp : State := withPair fun x => { x with links := [(0, { up := true }), (1, { up := true })] }
def unacked : PairFrame := { kind := 3, seq := 8, sentAt := 0, what := .journal { jseq := 8, txn := 0, cfn := 110, tag := 7, body := .seal [] none } }
def waitingAck : State := withPair fun x => { x with links := [(0, { up := true, unacked := [unacked] })] }
def mirrorWait : MirrorWait := { mseq := 4, deadline := 5, reply := { uart := false, opcode := 0x0804, flags := 1, tag := 7, status := 1, params := [] } }
def mirrored : State := withPair fun x => { x with role := .primary, waits := [mirrorWait] }

def acking : State := withPair fun x => { x with role := .primary, links := [(0, { up := true })], waits := [mirrorWait] }

theorem witness_PairLinks :
    (livesAt 5 live ∧ live.m.tb.rootLock = true ∧ 7 ≤ live.m.sys.step ∧ live.m.sys.stopped = false ∧ anyLinkUp live.m = false ∧
      (live.m.pairLink false).hbRun < 7) ∧
    (livesAt 5 yieldingLink ∧ (yieldingLink.m.pairLink false).up = false ∧ (yieldingLink.m.pairLink false).hbRun = 7 ∧
      5 ≤ (yieldingLink.m.pairLink false).arrived + 52 * usec ∧ laneWorks yieldingLink.m (144 + 2 * b2n false) = true ∧
      laneWorks yieldingLink.m (145 + 2 * b2n false) = true ∧ yieldingLink.m.pair.role = .yielding) ∧
    (livesAt 5 secondLink ∧ (secondLink.m.pairLink true).up = false ∧ (secondLink.m.pairLink true).hbRun = 7 ∧
      5 ≤ (secondLink.m.pairLink true).arrived + 52 * usec ∧ laneWorks secondLink.m (144 + 2 * b2n true) = true ∧
      laneWorks secondLink.m (145 + 2 * b2n true) = true ∧ (secondLink.m.pairLink (!true)).up = true ∧
      secondLink.m.pair.role = .standby ∧ secondLink.m.pair.partner = some beat ∧ secondLink.m.pair.tenureWait = none ∧
      beat.role = 1 ∧ beat.jseq ≤ secondLink.m.txn.jseq) ∧
    (livesAt 5 bothUp ∧ (bothUp.m.pairLink false).up = true ∧ (bothUp.m.pairLink (!false)).up = true) ∧
    (livesAt (20 * usec) waitingAck ∧ (waitingAck.m.pairLink false).up = true ∧ (waitingAck.m.pairLink false).unacked = [unacked] ∧
      unacked.sentAt + 20 * usec ≤ 20 * usec) ∧
    (livesAt 5 mirrored ∧ mirrored.m.pair.waits = [mirrorWait] ∧ mirrorWait.deadline ≤ 5 ∧ mirrorWait.reply.flags.getLsbD 0 = true ∧
      mirrorWait.reply.uart = false ∧ mirrored.m.pair.joinSent = false) ∧
    (livesAt 5 acking ∧ (acking.m.pairLink false).up = true ∧ acking.m.pair.waits = [mirrorWait] ∧ acking.m.pair.joinSent = false) := by
  decide +kernel

/-- A standby with a link up, which has seen MSEQ 4. -/
def standby : State := withPair fun x => { x with role := .standby, links := [(0, { up := true })], seen := [(2, 4)] }
def zcSeal (gate : Option (Nat × Word × Nat)) : JournalEntry := { jseq := 1, txn := 0, cfn := 110, tag := 7, body := .seal [(0x0804, zc)] gate }

theorem witness_StandbyFollows :
    (livesAt 5 standby ∧ (standby.m.pairLink false).up = true ∧ standby.m.pair.role = .standby ∧ standby.m.hrt.kilnReset = false ∧
      (2, 4) ∈ standby.m.pair.seen ∧ (2, 5) ∉ standby.m.pair.seen ∧ (mirroredCommand 0x0804).isSome = true) ∧
    ((zcSeal none).jseq = standby.m.txn.jseq + 1 ∧ (zcSeal none).body = .seal [(0x0804, zc)] none ∧ standby.m.txn.expect = [] ∧
      standby.m.fr.cfn < (zcSeal none).cfn ∧ standby.m.pair.replayTo = 0 ∧ { zcSeal none with jseq := 0 }.jseq ≤ standby.m.txn.jseq) ∧
    (standby.m.pair.syncSeen ≠ some standby.m.fr.cfn ∧ standby.m.pair.missed ≠ some standby.m.fr.cfn ∧
      5 ≤ standby.m.fr.lastFe + 10 * usec ∧ outcomesDiffer standby.m.fr.cfn [] standby.m = false) ∧
    (livesAt (10 * usec + 1) standby ∧ standby.m.fr.lastFe + 10 * usec < 10 * usec + 1) ∧
    (livesAt (10 * usec) standby ∧ standby.m.fr.started = true ∧ standby.m.fr.lastFe + 10 * usec ≤ 10 * usec) := by decide +kernel

/-- The mirrored AUD_ZC is accepted. -/
theorem witness_StandbyFollows_mirror : ((mirroredCommand 0x0804).map fun x =>
    accepted (settle standby.m (handle x.1 x.2 { zc with flags := zc.flags &&& 0xF7 } ((advance 5 standby.m).updPair fun y =>
      { y with seen := (y.seen ++ [(2, 5)]).drop (y.seen.length + 1 - 4096) })).1.status)) = some true := by decide +kernel

def aShadow (own : Nat) : Shadow := { cfn := 99, band := 3, own := own, sentAt := 0 }
def comparing (own : Nat) : State := withPair fun x => { x with links := [(0, { up := true })], shadows := [aShadow own] }

theorem witness_ShadowCheck :
    (livesAt 5 standby ∧ anyLinkUp standby.m = true ∧ standby.m.fr.cfn ≤ 99 + 1 ∧ ownSum standby.m 99 3 = none ∧
      (standby.m.pair.shadows.any fun x => x.cfn == 99 && x.band == 3) = false) ∧
    (livesAt 5 (comparing 0) ∧ anyLinkUp (comparing 0).m = true ∧ (comparing 0).m.pair.shadows = [aShadow 0] ∧
      (aShadow 0).cfn = 99 ∧ (aShadow 0).band = 3 ∧ (aShadow 0).own = 0) ∧
    (livesAt (2 * msec) (comparing 0) ∧ (aShadow 0).own ≠ 1 ∧ (aShadow 0).sentAt + 2 * msec ≤ 2 * msec) := by decide +kernel

def alone : State := withPair fun x => { x with role := .standby }
def claiming : State := withPair fun x => { x with role := .standby, witness := 3 }
def tenureWaiting : State := withPair fun x => { x with role := .standby, tenureWait := some 5 }
def wireBad : State := withPair fun x => { x with wireFault := true, pinsOkSince := some 0 }

theorem witness_Switchover :
    (livesAt 5 standby ∧ standby.m.sys.ready = true ∧ standby.m.pair.role = .standby ∧ standby.m.pair.driveYield = false ∧
      standby.m.pair.driveTenure = false ∧ anyLinkUp standby.m = true ∧ standby.m.pair.tenureWait = none) ∧
    (livesAt 5 mirrored ∧ mirrored.m.sys.ready = true ∧ mirrored.m.pair.role = .primary) ∧
    (livesAt 5 alone ∧ alone.m.sys.ready = true ∧ alone.m.pair.role = .standby ∧ alone.m.pair.driveTenure = false ∧
      anyLinkUp alone.m = false ∧ alone.m.pair.wireFault = false) ∧
    (livesAt 5 tenureWaiting ∧ tenureWaiting.m.sys.ready = true ∧ tenureWaiting.m.pair.role = .standby ∧
      tenureWaiting.m.pair.tenureWait = some 5) ∧
    (standby.m.tb.rootLock = true ∧ (standby.m.pairLink false).up = true ∧ ({ beat with role := 4 } : Heartbeat).role = 4) ∧
    (livesAt 5 claiming ∧ claiming.m.sys.ready = true ∧ mayClaim claiming.m = true) ∧
    (livesAt sec wireBad ∧ wireBad.m.sys.ready = true ∧ wireBad.m.pair.wireFault = true ∧ wireBad.m.pair.pinsOkSince = some 0 ∧
      0 + sec ≤ sec) := by decide +kernel

/-! ### Tasks, transfers and refusals -/

/-- GLEAN of ten entries from LSEQ 1; a self-test of the fallow lane unit. -/
def glean : CmdPkt := pkt 0x0003 1 0 [1, 0, 0, 0, 10, 0, 0, 0]
def testLane : CmdPkt := pkt 0x0B06 1 0 [3, 0, 16, 0]

theorem witness_TasksTaken :
    (takesCommand 0x0003 5 glean primary ∧ classOk ruleQuery glean = true ∧
      (layout glean.params 8 [within glean.params 4 2 1 127, below glean.params 6 4, zeros glean.params 7 1] ()).toBool = true) ∧
    (takesCommand 0x0B06 5 testLane primary ∧ classOk { ruleDagger with pends := true } testLane = true ∧
      primary.m.maint.unlocked = true ∧ othersOwed primary.m < 32 ∧
      (layout testLane.params 4 [below testLane.params 0 5, zeros testLane.params 1 1] ()).toBool = true ∧
      isFallow primary.m (kindOf (byteAt testLane.params 0)) (leAt testLane.params 2 2) = true) := by decide +kernel

def withTxn (x : TxnSt) (o : Tab Obj) : State :=
  { m := { primary.m with txn := x, comp := { objs := o }, cfg := { canvas := { w := 4, h := 4 } } } }
def calOut : Transfer := { tag := 9, opcode := 0x0608, params := [0, 0, 0, 0, 2, 0, 1, 0] ++ le 8 0x10000 ++ le 8 48 }
def objIn : Transfer := { tag := 8, opcode := 0x0408, params := [5, 0, 0, 0] ++ le 4 0 ++ le 4 1 ++ le 4 0 ++ le 8 0 ++ le 8 0 }
def anObj : Obj := { clip := false, compressed := false, straight := false, w := 8, h := 4, frames := 1 }
def transferring : State := withTxn { transfers := [calOut, objIn] } [(5, anObj)]

/-- A wear package of kind 2 that holds one entry, with its CRCs. -/
def wearPackage : List Byte :=
  let head := [0x43, 0x51, 0x43, 0x50, 1, 2, 0, 0] ++ le 4 1 ++ le 4 0x77 ++ le 8 64 ++ le 4 0 ++ le 4 0
  let body := le 4 55 ++ List.replicate 12 0
  withCrc head 24 (crc32c head) ++ le 2 0 ++ le 2 0 ++ le 2 1 ++ le 2 1 ++ le 4 (crc32c body).toNat ++ le 4 0 ++ body
def aLoad (n : Nat) (b : List Byte) : Load :=
  { tag := 6, package := 0x77, kind := 2, bytes := b, reqCfn := none, footprint := [(0, 1)], state := n }
def loading (n : Nat) (b : List Byte) : State := withTxn { loads := [aLoad n b] } []
def anExport : WearJob := { tag := 5, kind := 2, bytes := [], apply := 3, done := [0], hostAddr := 0x40000 }
def exporting : State := withTxn { exports := [anExport] } []

theorem witness_TransfersEnd :
    (livesAt 5 transferring ∧ transferring.m.hrt.kilnReset = false ∧ transferring.m.pair.role = .primary ∧
      anyLinkUp transferring.m = false ∧
      (transferring.m.txn.transfers.find? fun y => y.tag == calOut.tag &&
        (y.opcode == 0x0408 && transferring.m.pair.role == .primary || y.opcode == 0x0608)) = some calOut ∧
      (transferring.m.txn.transfers.find? fun y => y.tag == objIn.tag &&
        (y.opcode == 0x0408 && transferring.m.pair.role == .primary || y.opcode == 0x0608)) = some objIn ∧
      transferring.m.comp.objs.get? (leAt objIn.params 0 2) = some anObj) ∧
    (livesAt 5 (loading 0 []) ∧ (loading 0 []).m.txn.loads = [aLoad 0 []] ∧ (aLoad 0 []).state = 0) ∧
    (livesAt 5 exporting ∧ exporting.m.txn.exports = [anExport] ∧ exportReady exporting.m anExport = true) := by decide +kernel

theorem witness_TransfersEnd_load : livesAt 5 (loading 1 wearPackage) ∧ (loading 1 wearPackage).m.pair.role = .primary ∧
    ((loading 1 wearPackage).m.txn.loads.find? fun y => y.tag == (6 : Word) && y.state == 1) = some (aLoad 1 wearPackage) ∧
    packageFault (loading 1 wearPackage).m.cfg.canvas wearPackage = none := by decide +kernel

/-- A primary whose performance counters stand, and the same with other roles, tags or locks. -/
def still (f : Part → Part) : State := { m := f { primary.m with perf := { freeze := true } } }
def shortPacket : List Byte := [1, 2, 3]
def wrongCrc : List Byte := cmdBytes 0x0004 { ping with crc := ping.crc + 1 }
def wrongHeader : List Byte := cmdBytes 0x0004 (pkt 0x0004 0x81 0 [1, 2, 3, 4])
def noOpcode : List Byte := cmdBytes 0x00F0 (pkt 0x00F0 1 0 [])

theorem witness_PacketsRefused :
    (livesAt 5 (still id) ∧ popsCommands false (still id).m = true ∧ stopResponder (still id).m = false ∧
      (still id).m.hrt.pendingTrial = none ∧ (still id).m.host.newBaud = none ∧ (still id).m.perf.freeze = true) ∧
    lengthFits false shortPacket = false ∧
    (lengthFits false wrongCrc = true ∧ crcOk (packetAt false wrongCrc).1 (packetAt false wrongCrc).2.1 = false) ∧
    (lengthFits false wrongHeader = true ∧ crcOk (packetAt false wrongHeader).1 (packetAt false wrongHeader).2.1 = true ∧
      headerOk (packetAt false wrongHeader).2.1 = false) ∧
    (lengthFits false noOpcode = true ∧ crcOk (packetAt false noOpcode).1 (packetAt false noOpcode).2.1 = true ∧
      headerOk (packetAt false noOpcode).2.1 = true ∧ opcodeDefined (packetAt false noOpcode).1 = false ∧
      (still id).m.pair.role = .primary ∧ (still id).m.sys.ready = true ∧ tagOf (still id).m (packetAt false noOpcode).2.1.tag = none ∧
      (still id).m.sys.step = 8 ∧ (still id).m.sys.stopped = false) := by decide +kernel

def yieldingHead : State := still fun p => { p with pair := { role := .yielding } }
def standbyHead : State := still fun p => { p with pair := { role := .standby } }
def lockedHead : State := still fun p => { p with maint := {} }
def setCanvas : CmdPkt := pkt 0x0501 1 0 []
def knownTag (op : Nat) : TagEntry := { tag := 7, opcode := op, crc := setCanvas.crc, uart := false, flags := 1, reply := some (0, []), owes := none }
def knows (op : Nat) : State := still fun p => { p with host := { p.host with tags := [knownTag op] } }

def unanswered : State := still fun p => { p with host := { p.host with tags := [{ knownTag 0x0501 with reply := none }] } }

theorem witness_CommandsRefused :
    (livesAt 5 yieldingHead ∧ yieldingHead.m.sys.ready = true ∧ yieldingHead.m.sys.step = 8 ∧ yieldingHead.m.sys.stopped = false ∧
      yieldingHead.m.hrt.kilnReset = false ∧ yieldingHead.m.sys.strapHost = true ∧ setCanvas.uart = false ∧ lengthOk setCanvas = true ∧
      headerOk setCanvas = true ∧ yieldingHead.m.hrt.pendingTrial = none ∧ yieldingHead.m.host.newBaud = none ∧
      yieldingHead.m.perf.freeze = true ∧ crcOk 0x0501 setCanvas = true ∧ yieldingHead.m.pair.role = .yielding) ∧
    (livesAt 5 (knows 0x0502) ∧ (knows 0x0502).m.pair.role = .primary ∧
      tagOf (knows 0x0502).m setCanvas.tag = some (knownTag 0x0502) ∧ (knownTag 0x0502).opcode ≠ 0x0501) ∧
    (livesAt 5 (knows 0x0501) ∧ tagOf (knows 0x0501).m setCanvas.tag = some (knownTag 0x0501) ∧ (knownTag 0x0501).opcode = 0x0501 ∧
      (knownTag 0x0501).crc = setCanvas.crc ∧ (knownTag 0x0501).reply = some (0, []) ∧ (knows 0x0501).m.pair.waits = [] ∧
      (knows 0x0501).m.pair.joinHeld = [] ∧ setCanvas.flags.getLsbD 0 = true) ∧
    (livesAt 5 unanswered ∧ unanswered.m.pair.role = .primary ∧
      tagOf unanswered.m setCanvas.tag = some { knownTag 0x0501 with reply := none }) ∧
    (livesAt 5 standbyHead ∧ standbyHead.m.pair.role = .standby ∧ tagOf standbyHead.m setCanvas.tag = none) := by decide +kernel

theorem witness_CommandsRefused_locked : livesAt 5 lockedHead ∧ crcOk 0x0B0A setDog = true ∧ lockedHead.m.pair.role = .primary ∧
    tagOf lockedHead.m setDog.tag = none ∧ lockedHead.m.maint.unlocked = false ∧ classOk ruleDagger setDog = true ∧
    lengthOk setDog = true ∧ headerOk setDog = true ∧ setDog.uart = false := by decide +kernel

end Sys2Proof.Tests
end

section
/-! What a register write of BAR0 does to a head whose registers the host reaches (R14, R421). -/

namespace Sys2Proof.Machine

open Sys2Proof

/-- A host write on a head with BAR0 acts at its instant, on the part alone. -/
theorem regWrite_of_reached {s : State} (h : reached s) (t : Nat) (f : Part → Part) :
    regWrite t f s = .next { s with m := f (advance t s.m) } := by
  obtain ⟨halive, hhost⟩ := h
  have hbar : (advance t s.m).bar0 = true := by simp [Part.bar0, advance_sys, halive, hhost]
  rw [regWrite, onPart, timed_alive halive, guarded_on hbar]

theorem exec_registerWrite (t off : Nat) (v : Word) (en : BitVec 4) (s : State) :
    exec (.registerWrite t off v en) s =
      regWrite t (guarded (fun _ => en == 0xF && off % 4 == 0) (writeReg off v)) s := rfl

/-- Four bytes at an aligned offset: the write acts by the class of its register (R421). -/
theorem exec_registerWrite_whole {s : State} (h : reached s) (t : Nat) {off : Nat} (v : Word) (ha : off % 4 = 0) :
    exec (.registerWrite t off v 0xF) s = .next { s with m := writeReg off v (advance t s.m) } := by
  rw [exec_registerWrite, regWrite_of_reached h, guarded_on (by simp [ha])]

/-- A byte missing, or no alignment: only time goes on (R421). -/
theorem exec_registerWrite_partial {s : State} (h : reached s) (t : Nat) {off : Nat} (v : Word) {en : BitVec 4}
    (hbad : en ≠ 0xF ∨ off % 4 ≠ 0) : exec (.registerWrite t off v en) s = .next { s with m := advance t s.m } := by
  have hoff : (en == 0xF && off % 4 == 0) = false := by
    obtain hen | hal := hbad
    · rw [beq_false_of_ne hen, Bool.false_and]
    · rw [beq_false_of_ne hal, Bool.and_false]
  rw [exec_registerWrite, regWrite_of_reached h, guarded_off hoff]

/-- The first word of entry `i` of a register array. -/
theorem inArray_entry {i n stride : Nat} (base : Nat) (hi : i < n) (hs : 0 < stride) :
    inArray (base + stride * i) base stride n = some (i, 0) := by
  have hlt : base + stride * i < base + stride * n := Nat.add_lt_add_left (Nat.mul_lt_mul_of_pos_left hi hs) base
  rw [inArray, if_pos ⟨Nat.le_add_right .., hlt⟩, Nat.add_sub_cancel_left, Nat.mul_div_cancel_left i hs, Nat.mul_mod_right]

/-- The maintenance-only blocks (class RWM) ignore writes while maintenance mode is locked (R14). -/
theorem writeReg_maintOnly_locked {p : Part} (hlock : p.maint.unlocked = false) {off : Nat} (hlo : 0x160000 ≤ off)
    (hhi : off < 0x180000) (v : Word) : writeReg off v p = p := by
  rw [writeReg, if_neg (by omega), if_neg (by omega), if_neg (by omega), if_neg (by omega), if_neg (by omega), hlock]
  rfl

/-- A maintenance-only register takes a write while maintenance mode is unlocked (R14). -/
theorem writeReg_maintOnly_unlocked {p : Part} (hopen : p.maint.unlocked = true) {off : Nat} (hlo : 0x160000 ≤ off)
    (hhi : off < 0x180000) (v : Word) : writeReg off v p = writeMaintOnly off v p := by
  rw [writeReg, if_neg (by omega), if_neg (by omega), if_neg (by omega), if_neg (by omega), if_neg (by omega), if_pos hopen]

/-- The select register of GPIO `n` while the GPIO lock is open (Table 18.2). -/
theorem writeReg_gpio {p : Part} (hlock : p.sys.gpioLock = false) {n : Nat} (hn : n < 16) (v : Word) :
    writeReg (0x040 + 4 * n) v p =
      p.updSys fun y => { y with gpioFunc := y.gpioFunc.set n (bits v.toNat 2 0), gpioOd := y.gpioOd.set n (v.getLsbD 3) } := by
  rw [writeReg, if_pos (by omega), writeGlobal, if_neg (by omega), if_neg (by omega), if_neg (by omega),
    inArray_entry _ hn (by decide), hlock]
  rfl

/-- HOST_CMD_SIZE of a disabled command ring (R336). -/
theorem writeReg_cmdSize {p : Part} (hoff : p.host.cmdEn = false) (v : Word) :
    writeReg 0x1B0008 v p = p.updHost fun h => { h with cmdSize := bits v.toNat 12 0 } := by
  simp [writeReg, writeHost, hoff]

/-- The priority register of master `m` (Table 16.4). -/
theorem writeMaintOnly_prio (p : Part) {m : Nat} (hm : m < 177) (v : Word) :
    writeMaintOnly (0x161000 + 8 * m) v p = p.updFab fun f => { f with prio := f.prio.set m v } := by
  rw [writeMaintOnly, if_neg (by omega), inArray_entry _ hm (by decide)]
  rfl

/-- A write within the group SYS keeps the datapath. -/
theorem datapathKept_updSys (s : State) (t : Nat) (g : Sys → Sys) :
    datapathKept s { s with m := (advance t s.m).updSys g } := by
  simp [datapathKept]

/-- A write within the group HOST keeps the datapath. -/
theorem datapathKept_updHost (s : State) (t : Nat) (g : HostIf → HostIf) :
    datapathKept s { s with m := (advance t s.m).updHost g } := by
  simp [datapathKept]

end Sys2Proof.Machine

open Sys2Proof Sys2Proof.Machine

/-- Settles O31: one rule for a whole aligned write and one for any other, then the branch of `writeReg` that each offset
takes. -/
theorem registerWrites : Obligations.RegisterWrites := by
  unfold Obligations.RegisterWrites
  intro t off v s h
  refine ⟨?partialWrite, ?locked, ?gpio, ?cmdSize, ?prio⟩
  case partialWrite =>
    intro en hbad
    exact ⟨_, exec_registerWrite_partial h t v hbad, rfl⟩
  case locked =>
    intro hlock hlo hhi
    by_cases ha : off % 4 = 0
    · refine ⟨_, exec_registerWrite_whole h t v ha, ?_⟩
      rw [writeReg_maintOnly_locked (p := advance t s.m) hlock hlo hhi]
    · exact ⟨_, exec_registerWrite_partial h t v (.inr ha), rfl⟩
  case gpio =>
    rintro n hn rfl hlock
    refine ⟨_, exec_registerWrite_whole h t v (by omega), ?_⟩
    rw [writeReg_gpio (p := advance t s.m) hlock hn]
    exact ⟨by simp, by simp, datapathKept_updSys ..⟩
  case cmdSize =>
    rintro rfl hoff
    refine ⟨_, exec_registerWrite_whole h t v (by decide), ?_⟩
    rw [writeReg_cmdSize (p := advance t s.m) hoff]
    exact ⟨by simp, datapathKept_updHost ..⟩
  case prio =>
    rintro m hm rfl hopen
    refine ⟨_, exec_registerWrite_whole h t v (by omega), ?_⟩
    rw [writeReg_maintOnly_unlocked (p := advance t s.m) hopen (by omega) (by omega), writeMaintOnly_prio _ hm]
    exact ⟨by simp, rfl, rfl, rfl, rfl⟩

end

section
/-! What stands through reports, counts and what goes out on the ports: the observers of the part that the operations of this
development leave alone, and for each operation the one that it leaves (its frame). -/

namespace Sys2Proof.Machine

open Sys2Proof

/-- A fold whose every step keeps an observation keeps it. -/
theorem foldl_keeps {σ α β : Type} (π : σ → β) {f : σ → α → σ} (h : ∀ s a, π (f s a) = π s) (l : List α) (s : σ) :
    π (l.foldl f s) = π s := by
  induction l generalizing s with
  | nil => rfl
  | cons x r ih => rw [List.foldl_cons, ih, h]

/-! ### Performance counters -/

/-- The part without its reports (events, log, counters, ports) and without its performance counters. -/
def Part.quiet (p : Part) : Part := { p.rest with perf := {} }

theorem Part.quiet_of_rest {p q : Part} (h : p.rest = q.rest) : p.quiet = q.quiet :=
  congrArg (fun r : Part => { r with perf := {} }) h

theorem Part.kl_of_quiet {p q : Part} (h : p.quiet = q.quiet) : p.kl = q.kl := (congrArg Part.kl h : p.quiet.kl = q.quiet.kl)
theorem Part.comp_of_quiet {p q : Part} (h : p.quiet = q.quiet) : p.comp = q.comp := (congrArg Part.comp h : p.quiet.comp = q.quiet.comp)

@[simp] theorem updPerf_quiet (p : Part) (g : Perf → Perf) : (p.updPerf g).quiet = p.quiet := rfl
@[simp] theorem emit_quiet (o : Out) (p : Part) : (emit o p).quiet = p.quiet := rfl
@[simp] theorem countBy_quiet (b i x n : Nat) (p : Part) : (countBy b i x n p).quiet = p.quiet := rfl
@[simp] theorem count_quiet (b i x : Nat) (p : Part) : (count b i x p).quiet = p.quiet := rfl
@[simp] theorem raise_quiet (n i a : Nat) (p : Part) : (raise n i a p).quiet = p.quiet := Part.quiet_of_rest (raise_rest ..)
@[simp] theorem updGroup_quiet (g : Nat) (f : PerfGroup → PerfGroup) (p : Part) : (updGroup g f p).quiet = p.quiet := rfl

@[simp] theorem perfSyncGroup_quiet (p : Part) (g : Nat) : (perfSyncGroup p g).quiet = p.quiet := by
  unfold perfSyncGroup; dsimp only; split <;> simp

@[simp] theorem perfSync_quiet (p : Part) : (perfSync p).quiet = p.quiet := by
  rw [perfSync, updPerf_quiet, foldl_keeps Part.quiet perfSyncGroup_quiet]

@[simp] theorem perfWrapped_quiet (g c : Nat) (p : Part) : (perfWrapped g c p).quiet = p.quiet := by
  unfold perfWrapped; dsimp only; split <;> simp

@[simp] theorem perfCarry_quiet (g c : Nat) (p : Part) : (perfCarry g c p).quiet = p.quiet := by
  unfold perfCarry; dsimp only; split
  · split <;> simp
  · simp

@[simp] theorem perfAdd_quiet (g n : Nat) (p : Part) (c : Nat) : (perfAdd g n p c).quiet = p.quiet := by
  unfold perfAdd; dsimp only; split <;> simp

/-- A signal of Table 15.5 changes the performance counters, and by their wrap the reports. -/
@[simp] theorem perfSignal_quiet (g code inst n : Nat) (p : Part) : (perfSignal g code inst n p).quiet = p.quiet := by
  unfold perfSignal; split
  · rfl
  · exact foldl_keeps Part.quiet (perfAdd_quiet g n) ..

/-! ### Packets of the Kralys link -/

@[simp] theorem sendLine_quiet (hbm : Memory) (f pos : Nat) (e : TileEntry) (p : Part) (line : Nat) :
    (sendLine hbm f pos e p line).quiet = p.quiet := by
  unfold sendLine; exact foldl_keeps Part.quiet (by simp) ..

@[simp] theorem sendHold_quiet (f : Nat) (p : Part) (x : ScanItem) : (sendHold f p x).quiet = p.quiet := by
  simp [sendHold]

@[simp] theorem sendFull_quiet (hbm : Memory) (f : Nat) (x : ScanItem) (p : Part) : (sendFull hbm f x p).quiet = p.quiet := by
  unfold sendFull; split
  · exact foldl_keeps Part.quiet (by simp) ..
  · rfl

/-! ### Scan-out -/

/-- The part without what scan-out changes: reports and counts, the generators and the tiles' marks, and which bands came late. -/
def Part.offScan (p : Part) : Part := { p.quiet with kl := {}, comp := { p.comp with late := [], noSum := [] } }

theorem Part.offScan_of_quiet {p q : Part} (h : p.quiet = q.quiet) : p.offScan = q.offScan :=
  congrArg (fun r : Part => { r with kl := {}, comp := { r.comp with late := [], noSum := [] } }) h

/-- What an operation of scan-out leaves, group by group. -/
theorem Part.groups_of_offScan {p q : Part} (h : p.offScan = q.offScan) :
    p.sys = q.sys ∧ p.maint = q.maint ∧ p.host = q.host ∧ p.txn = q.txn ∧ p.cfg = q.cfg ∧ p.inp = q.inp ∧ p.frc = q.frc ∧
      p.comp.done = q.comp.done ∧ p.fr = q.fr ∧ p.light = q.light ∧ p.aud = q.aud ∧ p.tb = q.tb ∧ p.pair = q.pair ∧
      p.hrt = q.hrt ∧ p.fab = q.fab ∧ p.pwr = q.pwr ∧ p.free = q.free := by
  simp only [Part.offScan, Part.quiet, Part.rest, Part.mk.injEq, Comp.mk.injEq] at h
  tauto

theorem Part.txn_of_offScan {p q : Part} (h : p.offScan = q.offScan) : p.txn = q.txn := (congrArg Part.txn h : p.offScan.txn = q.offScan.txn)
theorem Part.light_of_offScan {p q : Part} (h : p.offScan = q.offScan) : p.light = q.light := (congrArg Part.light h : p.offScan.light = q.offScan.light)
theorem Part.fr_of_offScan {p q : Part} (h : p.offScan = q.offScan) : p.fr = q.fr := (congrArg Part.fr h : p.offScan.fr = q.offScan.fr)

@[simp] theorem updKl_offScan (p : Part) (g : Klink → Klink) : (p.updKl g).offScan = p.offScan := rfl
@[simp] theorem updLane_offScan (f : Nat) (g : Lane → Lane) (p : Part) : (updLane f g p).offScan = p.offScan := rfl
@[simp] theorem updTile_offScan (f k : Nat) (g : TileRt → TileRt) (p : Part) : (updTile f k g p).offScan = p.offScan := rfl
@[simp] theorem setMark_offScan (f k : Nat) (p : Part) : (setMark f k p).offScan = p.offScan := rfl
@[simp] theorem countBy_offScan (b i x n : Nat) (p : Part) : (countBy b i x n p).offScan = p.offScan := rfl
@[simp] theorem laneCount_offScan (f i : Nat) (p : Part) : (laneCount f i p).offScan = p.offScan := rfl
@[simp] theorem passed_offScan (f n : Nat) (b : Bool) (x : ScanItem) (p : Part) : (passed f n b x p).offScan = p.offScan := rfl
@[simp] theorem raise_offScan (n i a : Nat) (p : Part) : (raise n i a p).offScan = p.offScan := Part.offScan_of_quiet (raise_quiet ..)

@[simp] theorem sendHold_offScan (f : Nat) (p : Part) (x : ScanItem) : (sendHold f p x).offScan = p.offScan :=
  Part.offScan_of_quiet (sendHold_quiet ..)

@[simp] theorem sendFull_offScan (hbm : Memory) (f : Nat) (x : ScanItem) (p : Part) : (sendFull hbm f x p).offScan = p.offScan :=
  Part.offScan_of_quiet (sendFull_quiet ..)

@[simp] theorem markSent_offScan (f n : Nat) (full : List Nat) (p : Part) : (markSent f n full p).offScan = p.offScan :=
  foldl_keeps Part.offScan (by simp) ..

@[simp] theorem bandLate_offScan (b : Nat) (p : Part) : (bandLate b p).offScan = p.offScan := by
  unfold bandLate; split <;> rfl

/-- A generator that goes on changes what scan-out changes. -/
@[simp] theorem scanLane_offScan (hbm : Memory) (f lim : Nat) (l : List ScanItem) (p : Part) :
    (scanLane hbm f lim l p).offScan = p.offScan := by
  induction l generalizing p with
  | nil => simp only [scanLane, updLane_offScan]; split <;> simp
  | cons x rest ih => unfold scanLane; split <;> simp [ih]

@[simp] theorem scanTo_offScan (hbm : Memory) (lim : Nat) (p : Part) : (scanTo hbm lim p).offScan = p.offScan :=
  foldl_keeps Part.offScan (fun _ _ => by split <;> simp) ..

@[simp] theorem scanStart_offScan (short : List (Nat × Nat)) (p : Part) (f : Nat) : (scanStart short p f).offScan = p.offScan := by
  unfold scanStart; split <;> rfl

@[simp] theorem scanStepFrame_offScan (p : Part) : (scanStepFrame p).offScan = p.offScan := by
  unfold scanStepFrame; split
  · exact foldl_keeps Part.offScan (fun _ _ => by split <;> simp) ..
  · rfl

@[simp] theorem scanLeft_offScan (p : Part) : (scanLeft p).offScan = p.offScan :=
  foldl_keeps Part.offScan (fun q e => by simp [foldl_keeps Part.offScan (sendHold_offScan e.1)]) ..

@[simp] theorem scanClose_offScan (hbm : Memory) (p : Part) : (scanClose hbm p).offScan = p.offScan := by
  unfold scanClose; dsimp only; split <;> simp

@[simp] theorem judgeRun_offScan (p : Part) (f : Nat) : (judgeRun p f).offScan = p.offScan := by
  unfold judgeRun; dsimp only; split
  · rfl
  · rw [foldl_keeps Part.offScan (by simp)]; rfl

end Sys2Proof.Machine
end

section
/-! The light stage: what it and the ledger leave, and the feeder estimates (R161, R172). -/

namespace Sys2Proof.Machine

open Sys2Proof

/-- The part without what scan-out, the light stage and the ledger change. -/
def Part.offLight (p : Part) : Part := { p.offScan with light := {}, txn := {} }

theorem Part.offLight_of_offScan {p q : Part} (h : p.offScan = q.offScan) : p.offLight = q.offLight :=
  congrArg (fun r : Part => { r with light := {}, txn := {} }) h

/-- What the light stage leaves, group by group. -/
theorem Part.groups_of_offLight {p q : Part} (h : p.offLight = q.offLight) :
    p.sys = q.sys ∧ p.maint = q.maint ∧ p.host = q.host ∧ p.cfg = q.cfg ∧ p.inp = q.inp ∧ p.frc = q.frc ∧
      p.comp.done = q.comp.done ∧ p.fr = q.fr ∧ p.aud = q.aud ∧ p.tb = q.tb ∧ p.pair = q.pair ∧
      p.hrt = q.hrt ∧ p.fab = q.fab ∧ p.pwr = q.pwr ∧ p.free = q.free := by
  simp only [Part.offLight, Part.offScan, Part.quiet, Part.rest, Part.mk.injEq, Comp.mk.injEq] at h
  tauto

@[simp] theorem updLight_offLight (p : Part) (g : Light → Light) : (p.updLight g).offLight = p.offLight := rfl
@[simp] theorem updTxn_offLight (p : Part) (g : TxnSt → TxnSt) : (p.updTxn g).offLight = p.offLight := rfl
@[simp] theorem updTile_offLight (f k : Nat) (g : TileRt → TileRt) (p : Part) : (updTile f k g p).offLight = p.offLight := rfl
@[simp] theorem setMark_offLight (f k : Nat) (p : Part) : (setMark f k p).offLight = p.offLight := rfl
@[simp] theorem count_offLight (b i x : Nat) (p : Part) : (count b i x p).offLight = p.offLight := rfl
@[simp] theorem raise_offLight (n i a : Nat) (p : Part) : (raise n i a p).offLight = p.offLight := Part.offLight_of_offScan (raise_offScan ..)

/-! ### The ledger -/

section Keeps

/-! An observation that looks neither at the jobs nor at what marks, `wearSat` and reports change stands through the ledger. -/

variable {β : Type} (π : Part → β) (htxn : ∀ p g, π (p.updTxn g) = π p) (hmark : ∀ f k p, π (setMark f k p) = π p)
  (htile : ∀ f k g p, π (updTile f k g p) = π p) (hraise : ∀ n i a p, π (raise n i a p) = π p)
include htxn hmark htile hraise

theorem ledgerPixel_keeps (n per : Nat) (jobs : List WearJob) (on : Bool) (f pos : Nat) (e : TileEntry) (s : Both) (xy : Nat × Nat) :
    π (ledgerPixel n per jobs on f pos e s xy).1 = π s.1 := by
  simp only [ledgerPixel, htxn, apply_ite π, hraise, htile, hmark, ite_self]

theorem ledgerBand_keeps (n : Nat) (s : Both) (due : Nat × Nat) : π (ledgerBand n s due).1 = π s.1 := by
  simp only [ledgerBand, htxn]
  exact foldl_keeps (fun b : Both => π b.1) (fun r e => foldl_keeps (fun b : Both => π b.1) (ledgerPixel_keeps π htxn hmark htile hraise n _ _ _ _ _ _) ..) ..

theorem ledgerBands_keep (n : Nat) (s : Both) (due : List (Nat × Nat)) : π (due.foldl (ledgerBand n) s).1 = π s.1 :=
  foldl_keeps (fun b : Both => π b.1) (ledgerBand_keeps π htxn hmark htile hraise n) ..

end Keeps

@[simp] theorem ledgerUpdates_offLight (n : Nat) (s : Both) : (ledgerUpdates n s).1.offLight = s.1.offLight :=
  ledgerBands_keep Part.offLight (by simp) (by simp) (by simp) (by simp) n ..

theorem ledgerUpdates_light (n : Nat) (s : Both) : (ledgerUpdates n s).1.light = { s.1.light with due := [] } :=
  congrArg (fun l : Light => { l with due := [] })
    (ledgerBands_keep Part.light (by simp) (by simp [setMark, updTile]) (by simp [updTile]) (by simp) n ..)

/-- With no band due the ledger stands, and so do its jobs. -/
theorem ledgerUpdates_idle {s : Both} (h : s.1.light.due = []) (n : Nat) :
    ledgerUpdates n s = (s.1.updLight fun l => { l with due := [] }, s.2) := by
  simp [ledgerUpdates, h]

/-! ### The light stage -/

@[simp] theorem lightStage_offLight (s : Both) : (lightStage s).1.offLight = s.1.offLight := by
  unfold lightStage; dsimp only; split <;> simp

/-- The light stage keeps the flags of the scan window. -/
@[simp] theorem lightStage_window (s : Both) :
    (lightStage s).1.light.opened = s.1.light.opened ∧ (lightStage s).1.light.scanned = s.1.light.scanned := by
  unfold lightStage; dsimp only; split <;> simp [ledgerUpdates_light]

/-- With no ledger update due the light stage writes nothing. -/
theorem lightStage_idle {s : Both} (h : s.1.light.due = []) : (lightStage s).2 = s.2 ∧ (lightStage s).1.txn = s.1.txn := by
  unfold lightStage; dsimp only; split
  · exact ⟨rfl, rfl⟩
  · rw [ledgerUpdates_idle (by simpa using h)]; exact ⟨rfl, rfl⟩

/-- Once a frame the light stage takes the pixels: it has nothing left to do then. -/
theorem lightStage_taken {s : Both} (h : s.1.light.taken = true) : lightStage s = s := by simp [lightStage, h]

/-! ### Feeder estimates -/

/-- The estimate of feeder `k`, from the part `p` as the frame leaves it, enters its registers in `q`, and is counted where it
stands above the limit (R172, R174). -/
def estimateFeeder (p q : Part) (k : Nat) : Part :=
  let (pu, pa, st, du) := feederEstimate p k
  let lim := (p.cfg.feeders.getD k {}).limit * 1000000
  let q1 := q.updLight fun l => { l with feeders := l.feeders.upd k {} fun r => { r with pu := pu, pa := pa, st := st, du := du } }
  if lim ≠ 0 ∧ lim < pa then count blkLight k 0 q1 else q1

theorem feedersDone_eq (p : Part) :
    feedersDone p = ((List.range 64).foldl (estimateFeeder p) p).updLight fun l => { l with scanned := false } := by
  unfold feedersDone; generalize List.range 64 = ks; rfl

@[simp] theorem estimateFeeder_offLight (p q : Part) (k : Nat) : (estimateFeeder p q k).offLight = q.offLight := by
  unfold estimateFeeder; dsimp only; split <;> rfl

@[simp] theorem estimateFeeder_kl (p q : Part) (k : Nat) : (estimateFeeder p q k).kl = q.kl := by
  unfold estimateFeeder; dsimp only; split <;> rfl

@[simp] theorem estimateFeeder_comp (p q : Part) (k : Nat) : (estimateFeeder p q k).comp = q.comp := by
  unfold estimateFeeder; dsimp only; split <;> rfl

/-- The four values of a feeder's estimate as its registers hold them. -/
def FeederRt.estimate (r : FeederRt) : Nat × Nat × Nat × Nat := (r.pu, r.pa, r.st, r.du)

theorem estimateFeeder_feeder (p q : Part) (j k : Nat) :
    ((estimateFeeder p q j).feeder k).estimate = if k = j then feederEstimate p k else (q.feeder k).estimate := by
  have hfeeders : (estimateFeeder p q j).light.feeders = q.light.feeders.upd j {} fun r => { r with
      pu := (feederEstimate p j).1, pa := (feederEstimate p j).2.1, st := (feederEstimate p j).2.2.1, du := (feederEstimate p j).2.2.2 } := by
    unfold estimateFeeder; dsimp only; split <;> rfl
  rw [Part.feeder, hfeeders, Tab.getD_upd]
  split
  · subst_vars; rfl
  · rfl

/-- After the first `n` feeders, each of them holds its estimate. -/
theorem estimateFeeder_fold (p q : Part) {n k : Nat} (hk : k < n) :
    (((List.range n).foldl (estimateFeeder p) q).feeder k).estimate = feederEstimate p k := by
  induction n with
  | zero => omega
  | succ n ih =>
    rw [List.range_succ, List.foldl_append, List.foldl_cons, List.foldl_nil, estimateFeeder_feeder]
    split
    · rfl
    · exact ih (by omega)

@[simp] theorem feedersDone_offLight (p : Part) : (feedersDone p).offLight = p.offLight := by
  rw [feedersDone_eq, updLight_offLight, foldl_keeps Part.offLight (by simp)]

@[simp] theorem feedersDone_kl (p : Part) : (feedersDone p).kl = p.kl := by
  rw [feedersDone_eq, Part.updLight_kl, foldl_keeps Part.kl (by simp)]

@[simp] theorem feedersDone_comp (p : Part) : (feedersDone p).comp = p.comp := by
  rw [feedersDone_eq, Part.updLight_comp, foldl_keeps Part.comp (by simp)]

theorem feedersDone_scanned (p : Part) : (feedersDone p).light.scanned = false := by
  rw [feedersDone_eq, Part.updLight_light]

/-- Every feeder's registers hold its estimate (R172). -/
theorem feedersDone_estimate (p : Part) {k : Nat} (hk : k < 64) : ((feedersDone p).feeder k).estimate = feederEstimate p k := by
  have hfeeder : ∀ q : Part, (q.updLight fun l => { l with scanned := false }).feeder k = q.feeder k := fun _ => rfl
  rw [feedersDone_eq, hfeeder, estimateFeeder_fold p p hk]

end Sys2Proof.Machine
end

section
/-! Which event counters a raised event moves: those of a refused event or report (R322, R374), and no other (R376). -/

namespace Sys2Proof.Machine

open Sys2Proof

/-- A counter that neither a refused event nor a refused report of `source` moves. -/
def counterApart (source key : Nat) : Prop := key ≠ cntKey blkEvent 0 0 ∧ key ≠ cntKey blkLog 0 source

theorem countBy_cnt (b i x n k : Nat) (p : Part) :
    (countBy b i x n p).cnt.getD k 0 = if k = cntKey b i x then satAdd32 (p.cnt.getD k 0) n else p.cnt.getD k 0 := by
  rw [countBy, Part.updCnt_cnt, Tab.getD_upd]
  split
  · subst_vars; rfl
  · rfl

theorem count_cnt_of_ne {b i x k : Nat} (h : k ≠ cntKey b i x) (p : Part) : (count b i x p).cnt.getD k 0 = p.cnt.getD k 0 := by
  rw [count, countBy_cnt, if_neg h]

theorem signalVector_cnt (v : Nat) (p : Part) : (signalVector v p).cnt = p.cnt := by
  unfold signalVector; split <;> rfl

theorem setPend_cnt (n : Nat) (p : Part) : (setPend n p).cnt = p.cnt := by
  unfold setPend; dsimp only; split
  · rw [signalVector_cnt]; rfl
  · rfl

theorem raiseEvent_cnt {k : Nat} (h : k ≠ cntKey blkEvent 0 0) (n i a : Nat) (p : Part) :
    (raiseEvent n i a p).cnt.getD k 0 = p.cnt.getD k 0 := by
  unfold raiseEvent; dsimp only; split
  · unfold pushEvent; split
    · rw [Part.updEv_cnt, setPend_cnt]
    · rw [setPend_cnt, count_cnt_of_ne h, Part.updEv_cnt, setPend_cnt]
  · rw [setPend_cnt]

theorem pushIntake_cnt {x : LogEntry} {k : Nat} (h : counterApart x.source k) (p : Part) :
    (pushIntake x p).cnt.getD k 0 = p.cnt.getD k 0 := by
  obtain ⟨hev, hlog⟩ := h
  unfold pushIntake; split
  · rfl
  · rw [raiseEvent_cnt hev, count_cnt_of_ne hlog]; rfl

theorem report_cnt {source k : Nat} (h : counterApart source k) (i c v w a : Nat) (p : Part) :
    (report source i c v w a p).cnt.getD k 0 = p.cnt.getD k 0 := by
  unfold report; dsimp only; split
  · rfl
  · rw [pushIntake_cnt h, Part.updLog_cnt]; split <;> (try split) <;> (try split) <;> rfl

/-- A raised event leaves every counter but the two of refusals. -/
theorem raise_cnt {n k : Nat} (h : counterApart (evSource n) k) (i a : Nat) (p : Part) :
    (raise n i a p).cnt.getD k 0 = p.cnt.getD k 0 := by
  unfold raise raiseAs; dsimp only
  rw [report_cnt h]
  split
  · rw [raiseEvent_cnt h.1, raiseEvent_cnt h.1]
  · rw [raiseEvent_cnt h.1]

theorem perfSync_cnt (p : Part) : (perfSync p).cnt = p.cnt := by
  rw [perfSync, Part.updPerf_cnt]
  exact foldl_keeps Part.cnt (fun q g => by unfold perfSyncGroup; dsimp only; split <;> rfl) ..

theorem perfWrapped_cnt (g c : Nat) (p : Part) : (perfWrapped g c p).cnt = p.cnt := by
  unfold perfWrapped; dsimp only; split
  · rw [Part.updPerf_cnt, perfSync_cnt]; rfl
  · rfl

theorem perfCarry_cnt {k : Nat} (h : counterApart blkPerf k) (g c : Nat) (p : Part) :
    (perfCarry g c p).cnt.getD k 0 = p.cnt.getD k 0 := by
  have hraise : ∀ i a (q : Part), (raise evPerfOverflow i a q).cnt.getD k 0 = q.cnt.getD k 0 := raise_cnt (n := evPerfOverflow) h
  unfold perfCarry; dsimp only; split
  · split
    · rw [hraise, perfWrapped_cnt]; rfl
    · rfl
  · rw [hraise]

/-- A performance signal moves no event counter but, by an overflow that is refused, those of refusals. -/
theorem perfSignal_cnt {k : Nat} (h : counterApart blkPerf k) (g code inst n : Nat) (p : Part) :
    (perfSignal g code inst n p).cnt.getD k 0 = p.cnt.getD k 0 := by
  unfold perfSignal; split
  · rfl
  · refine foldl_keeps (fun q : Part => q.cnt.getD k 0) (fun q c => ?_) ..
    unfold perfAdd; dsimp only; split
    · rfl
    · rw [perfCarry_cnt h, perfWrapped_cnt]; rfl

end Sys2Proof.Machine
end

section
/-! The scan window: its opening, the generators at rest, and its close (R25, R27). -/

namespace Sys2Proof.Machine

open Sys2Proof

/-! ### Generators at rest -/

/-- With no segment left to any generator, scan-out stands still. -/
theorem scanTo_idle {p : Part} (h : ∀ e ∈ p.kl.lanes, e.2.scan = []) (hbm : Memory) (lim : Nat) : scanTo hbm lim p = p := by
  have hnone : (p.kl.lanes.filter fun e => !e.2.scan.isEmpty) = [] :=
    List.filter_eq_nil_iff.mpr fun e he => by simp [h e he]
  rw [scanTo, hnone, List.foldl_nil]

/-! ### The window opens -/

@[simp] theorem scanOn_offLight (s : Both) : (scanOn s).1.offLight = s.1.offLight := by
  unfold scanOn; dsimp only; split
  · rw [lightStage_offLight]; exact Part.offLight_of_offScan (scanTo_offScan ..)
  · exact Part.offLight_of_offScan (scanTo_offScan ..)

@[simp] theorem scanTo_light (hbm : Memory) (lim : Nat) (p : Part) : (scanTo hbm lim p).light = p.light :=
  Part.light_of_offScan (scanTo_offScan hbm lim p)

/-- Scan-out that goes on keeps the flags of the window. -/
@[simp] theorem scanOn_window (s : Both) :
    (scanOn s).1.light.opened = s.1.light.opened ∧ (scanOn s).1.light.scanned = s.1.light.scanned := by
  unfold scanOn; dsimp only; split <;> simp

/-- With no ledger update due, scan-out that goes on writes nothing. -/
theorem scanOn_idle {s : Both} (h : s.1.light.due = []) : (scanOn s).2 = s.2 ∧ (scanOn s).1.txn = s.1.txn := by
  have htxn : (scanTo s.2 s.1.sys.now s.1).txn = s.1.txn := Part.txn_of_offScan (scanTo_offScan ..)
  unfold scanOn; dsimp only; split
  · obtain ⟨hmem, hjobs⟩ := lightStage_idle (s := (scanTo s.2 s.1.sys.now s.1, s.2)) (by simpa using h)
    exact ⟨hmem, hjobs.trans htxn⟩
  · exact ⟨rfl, htxn⟩

/-- The part as the window opens: the status runs are judged, the window is open. -/
def windowOpened (p : Part) : Part := ((p.cfg.furrows.keys).foldl judgeRun p).updLight fun l => { l with opened := true }

/-- The generators take their furrows' segments (R25). -/
def generatorsStart (short : List (Nat × Nat)) (p : Part) : Part :=
  if inService p then (scannedFurrows p).foldl (scanStart short) p else p

theorem scanOpen_eq (short : List (Nat × Nat)) (s : Both) :
    scanOpen short s =
      if (windowOpened s.1).fr.stepFrame then (scanStepFrame (windowOpened s.1), s.2)
      else scanOn (generatorsStart short ((windowOpened s.1).updLight fun l => { l with scanned := true }), s.2) := rfl

theorem windowOpened_offScan (p : Part) : (windowOpened p).offScan = (p.updLight fun l => { l with opened := true }).offScan :=
  congrArg (fun q : Part => q.updLight fun l => { l with opened := true }) (foldl_keeps Part.offScan judgeRun_offScan p.cfg.furrows.keys p)

@[simp] theorem generatorsStart_offScan (short : List (Nat × Nat)) (p : Part) : (generatorsStart short p).offScan = p.offScan := by
  unfold generatorsStart; split
  · exact foldl_keeps Part.offScan (scanStart_offScan short) ..
  · rfl

/-- What the opening leaves: all but scan-out, the light stage and the ledger. -/
theorem scanOpen_offLight (short : List (Nat × Nat)) (s : Both) : (scanOpen short s).1.offLight = s.1.offLight := by
  have hopen : (windowOpened s.1).offLight = s.1.offLight := (Part.offLight_of_offScan (windowOpened_offScan s.1)).trans (updLight_offLight ..)
  rw [scanOpen_eq]; split
  · exact (Part.offLight_of_offScan (scanStepFrame_offScan _)).trans hopen
  · rw [scanOn_offLight, Part.offLight_of_offScan (generatorsStart_offScan ..), updLight_offLight, hopen]

theorem windowOpened_light (p : Part) : (windowOpened p).light = { p.light with opened := true } :=
  Part.light_of_offScan (windowOpened_offScan p)

/-- The window is open, and outside step frames its frame is scanned (R25, R130). -/
theorem scanOpen_window (short : List (Nat × Nat)) (s : Both) :
    (scanOpen short s).1.light.opened = true ∧ (s.1.fr.stepFrame = false → (scanOpen short s).1.light.scanned = true) := by
  have hfr : (windowOpened s.1).fr = s.1.fr := (Part.fr_of_offScan (windowOpened_offScan s.1)).trans rfl
  rw [scanOpen_eq, hfr]; split
  next hstep =>
    have hlight : (scanStepFrame (windowOpened s.1)).light = (windowOpened s.1).light := Part.light_of_offScan (scanStepFrame_offScan _)
    exact ⟨by rw [hlight, windowOpened_light], fun h => absurd hstep (by simp [h])⟩
  · have hlight : ∀ p, (generatorsStart short p).light = p.light := fun p => Part.light_of_offScan (generatorsStart_offScan short p)
    simp [hlight, windowOpened_light]

/-- With no ledger update due the opening writes nothing. -/
theorem scanOpen_idle {s : Both} (h : s.1.light.due = []) (short : List (Nat × Nat)) :
    (scanOpen short s).2 = s.2 ∧ (scanOpen short s).1.txn = s.1.txn := by
  have hopen : (windowOpened s.1).txn = s.1.txn := (Part.txn_of_offScan (windowOpened_offScan s.1)).trans rfl
  rw [scanOpen_eq]; split
  · exact ⟨rfl, (Part.txn_of_offScan (scanStepFrame_offScan _)).trans hopen⟩
  · have hgen := generatorsStart_offScan short ((windowOpened s.1).updLight fun l => { l with scanned := true })
    have hlight := Part.light_of_offScan hgen
    obtain ⟨hmem, htxn⟩ := scanOn_idle (s := (generatorsStart short ((windowOpened s.1).updLight fun l => { l with scanned := true }), s.2))
      ((congrArg Light.due hlight).trans (by rw [Part.updLight_light, windowOpened_light, h]))
    exact ⟨hmem, htxn.trans ((Part.txn_of_offScan hgen).trans hopen)⟩

/-! ### The window closes -/

/-- What is left of one furrow goes out as HOLD, and the furrow counts SCAN_LATE (R27). -/
def heldBack (q : Part) (e : Nat × Lane) : Part :=
  updLane e.1 (fun l => { l with scan := [], left := [] }) (laneCount e.1 17 ((e.2.scan ++ e.2.left).foldl (sendHold e.1) q))

theorem scanLeft_eq (p : Part) : scanLeft p = (p.kl.lanes.filter fun e => !(e.2.scan ++ e.2.left).isEmpty).foldl heldBack p := rfl

/-- The lane's generator has nothing more to send. -/
def Lane.swept (l : Lane) : Prop := l.scan = [] ∧ l.left = []

theorem sendHold_fold_quiet (f : Nat) (l : List ScanItem) (q : Part) : (l.foldl (sendHold f) q).quiet = q.quiet :=
  foldl_keeps Part.quiet (sendHold_quiet f) l q

theorem heldBack_lane (q : Part) (e : Nat × Lane) (f : Nat) :
    (heldBack q e).lane f = if f = e.1 then { q.lane f with scan := [], left := [] } else q.lane f := by
  have hkl : ((e.2.scan ++ e.2.left).foldl (sendHold e.1) q).kl = q.kl :=
    Part.kl_of_quiet (sendHold_fold_quiet e.1 (e.2.scan ++ e.2.left) q)
  rw [heldBack, updLane_lane, laneCount_lane, laneCount_lane, Part.lane_of_kl hkl, Part.lane_of_kl hkl]
  split
  · subst_vars; rfl
  · rfl

/-- After the furrows of a list were held back, a furrow is swept if it is one of them or was swept before. -/
theorem heldBack_fold_swept {f : Nat} (l : List (Nat × Lane)) (q : Part) (h : f ∈ l.map (·.1) ∨ (q.lane f).swept) :
    ((l.foldl heldBack q).lane f).swept := by
  induction l generalizing q with
  | nil => exact h.resolve_left (by simp)
  | cons e r ih =>
    refine ih _ ?_
    rw [heldBack_lane]
    by_cases hf : f = e.1
    · exact .inr (by rw [if_pos hf]; exact ⟨rfl, rfl⟩)
    · rw [if_neg hf]
      exact h.imp_left fun hm => (List.mem_cons.mp hm).resolve_left hf

theorem mem_of_get? {α : Type} {m : Tab α} {k : Nat} {v : α} (h : m.get? k = some v) : (k, v) ∈ m := by
  induction m with
  | nil => exact absurd h (by simp [Tab.get?])
  | cons e r ih =>
    obtain ⟨j, w⟩ := e
    rw [Tab.get?] at h
    split at h
    · simp_all
    · exact List.mem_cons_of_mem _ (ih h)

/-- A lane with something left has its entry in the table. -/
theorem lane_entry {p : Part} {f : Nat} (h : ¬ (p.lane f).swept) : (f, p.lane f) ∈ p.kl.lanes := by
  cases hl : p.kl.lanes.get? f with
  | none => exact absurd (show (p.lane f).swept by simp [Part.lane, Tab.getD, hl, Lane.swept]) h
  | some l => simpa [Part.lane, Tab.getD, hl] using mem_of_get? hl

/-- A lane with something left is one that `scanLeft` holds back. -/
theorem lane_heldBack {p : Part} {f : Nat} (h : ¬ (p.lane f).swept) :
    (f, p.lane f) ∈ p.kl.lanes.filter fun e => !(e.2.scan ++ e.2.left).isEmpty :=
  List.mem_filter.mpr ⟨lane_entry h, by simpa [Lane.swept] using h⟩

/-- At the close nothing is left to any furrow (R27). -/
theorem scanLeft_swept (p : Part) (f : Nat) : ((scanLeft p).lane f).swept := by
  refine heldBack_fold_swept _ p ?_
  by_cases h : (p.lane f).swept
  · exact .inr h
  · exact .inl (List.mem_map_of_mem (f := (·.1)) (lane_heldBack h))

theorem scanClose_swept (hbm : Memory) (p : Part) (f : Nat) : ((scanClose hbm p).lane f).swept := by
  unfold scanClose; dsimp only; split
  · exact scanLeft_swept ..
  · simp only [Part.lane, Part.updKl_kl, Tab.getD, Tab.get?_mapVals]
    cases Tab.get? _ f <;> exact ⟨rfl, rfl⟩

/-- The counter SCAN_LATE of a furrow. -/
theorem counterApart_scanLate (f : Nat) : counterApart blkPerf (cntKey blkKlink f 17) := by
  constructor <;> (simp only [cntKey, blkKlink, blkEvent, blkLog, blkPerf]; omega)

theorem heldBack_scanLate (q : Part) (e : Nat × Lane) (f : Nat) :
    counter blkKlink f 17 (heldBack q e) =
      if f = e.1 then satAdd32 (counter blkKlink f 17 q) 1 else counter blkKlink f 17 q := by
  have hhold : ∀ l : List ScanItem, (l.foldl (sendHold e.1) q).cnt.getD (cntKey blkKlink f 17) 0 = q.cnt.getD (cntKey blkKlink f 17) 0 :=
    fun l => foldl_keeps (fun r : Part => r.cnt.getD (cntKey blkKlink f 17) 0)
      (fun r x => by rw [sendHold, perfSignal_cnt (counterApart_scanLate f)]; rfl) l q
  have hkey : cntKey blkKlink f 17 = cntKey blkKlink e.1 17 ↔ f = e.1 := by unfold cntKey; omega
  unfold counter heldBack laneCount count
  rw [show ∀ g (r : Part), (updLane e.1 g r).cnt = r.cnt from fun _ _ => rfl, countBy_cnt, hhold]
  simp only [hkey]

/-- Of furrows held back, each once, every one counts SCAN_LATE once (R27). -/
theorem heldBack_fold_scanLate {f : Nat} (l : List (Nat × Lane)) (hnodup : (l.map (·.1)).Nodup) (q : Part) :
    counter blkKlink f 17 (l.foldl heldBack q) =
      if f ∈ l.map (·.1) then satAdd32 (counter blkKlink f 17 q) 1 else counter blkKlink f 17 q := by
  induction l generalizing q with
  | nil => simp
  | cons e r ih =>
    obtain ⟨hnot, hrest⟩ := List.nodup_cons.mp hnodup
    rw [List.foldl_cons, ih hrest, heldBack_scanLate]
    by_cases hf : f = e.1
    · subst hf; simp [hnot]
    · simp only [List.map_cons, List.mem_cons, hf, if_false, false_or]

theorem scanLeft_scanLate {p : Part} (hnodup : p.kl.lanes.keys.Nodup) {f : Nat} (hleft : ¬ (p.lane f).swept) :
    counter blkKlink f 17 (scanLeft p) = satAdd32 (counter blkKlink f 17 p) 1 := by
  rw [scanLeft_eq, heldBack_fold_scanLate _ (hnodup.sublist (List.filter_sublist.map _)),
    if_pos (List.mem_map_of_mem (f := (·.1)) (lane_heldBack hleft))]

theorem heldBack_tiles (q : Part) (e : Nat × Lane) : (heldBack q e).kl.tiles = q.kl.tiles := by
  have htiles := congrArg Klink.tiles (Part.kl_of_quiet (sendHold_fold_quiet e.1 (e.2.scan ++ e.2.left) q))
  exact htiles

theorem heldBack_comp (q : Part) (e : Nat × Lane) : (heldBack q e).comp = q.comp := by
  have hcomp := Part.comp_of_quiet (sendHold_fold_quiet e.1 (e.2.scan ++ e.2.left) q)
  exact hcomp

/-- Where no generator still runs, the close changes neither tiles nor composition. -/
theorem scanClose_atRest {p : Part} (h : ∀ e ∈ p.kl.lanes, e.2.scan = []) (hbm : Memory) :
    (scanClose hbm p).kl.tiles = p.kl.tiles ∧ (scanClose hbm p).comp = p.comp := by
  unfold scanClose; rw [scanTo_idle h]; dsimp only; split
  · exact ⟨foldl_keeps (fun q : Part => q.kl.tiles) heldBack_tiles .., foldl_keeps Part.comp heldBack_comp ..⟩
  · exact ⟨rfl, rfl⟩

/-- Where no generator still runs, every furrow with lines left counts SCAN_LATE (R27). -/
theorem scanClose_scanLate {p : Part} (h : ∀ e ∈ p.kl.lanes, e.2.scan = []) (hserve : inService p = true)
    (hnodup : p.kl.lanes.keys.Nodup) {f : Nat} (hleft : (p.lane f).left ≠ []) (hbm : Memory) :
    counter blkKlink f 17 (scanClose hbm p) = satAdd32 (counter blkKlink f 17 p) 1 := by
  unfold scanClose; rw [scanTo_idle h]; dsimp only
  rw [if_pos hserve, scanLeft_scanLate hnodup fun hswept => hleft hswept.2]

/-! ### The estimates -/

@[simp] theorem estimatesDone_offLight (s : Both) : (estimatesDone s).1.offLight = s.1.offLight := by
  rw [estimatesDone, feedersDone_offLight, lightStage_offLight]

/-! ### The commands -/

theorem exec_scanWindowOpen {t : Nat} {short : List (Nat × Nat)} {s : State} (halive : s.m.alive = true)
    (hguard : scanOpenGuard (advance t s.m) = true) :
    exec (.scanWindowOpen t short) s = .next { s with
      m := (scanOpen short (advance t s.m, s.hbm)).1, hbm := (scanOpen short (advance t s.m, s.hbm)).2 } := by
  simp only [exec, execScanWindowOpen, scanWindowOpen, if_pos halive, if_pos hguard]

theorem exec_scanWindowClose {t : Nat} {s : State} (halive : s.m.alive = true) (hopen : s.m.light.opened = true)
    (hclose : scanCloseAt s.m ≤ (advance t s.m).sys.now) :
    exec (.scanWindowClose t) s = .next { s with m := scanClose s.hbm (advance t s.m) } := by
  have hguard : ((advance t s.m).light.opened && decide (scanCloseAt (advance t s.m) ≤ (advance t s.m).sys.now)) = true := by
    rw [advance_light, hopen, Bool.true_and]; exact decide_eq_true hclose
  simp only [exec, execScanWindowClose, onPartMem, timed_alive halive, guarded, if_pos hguard]

theorem exec_feederEstimateDone {t : Nat} {s : State} (halive : s.m.alive = true) (hscanned : s.m.light.scanned = true) :
    exec (.feederEstimateDone t) s = .next { s with
      m := (estimatesDone (scanTo s.hbm t (advance t s.m), s.hbm)).1
      hbm := (estimatesDone (scanTo s.hbm t (advance t s.m), s.hbm)).2 } := by
  simp only [exec, execFeederEstimateDone, if_pos halive, advance_light, hscanned, if_true]

end Sys2Proof.Machine

open Sys2Proof Sys2Proof.Machine

/-- Settles O49: the frames of the three commands come from the observers that scan-out and the light stage leave, the sweep of
the close from the fold over the furrows that are held back. -/
theorem scanWindow : Obligations.ScanWindow := by
  unfold Obligations.ScanWindow
  rintro t s ⟨halive, hnow⟩
  have ht : (advance t s.m).sys.now = t := by rw [advance_now, max_eq_right hnow]
  refine ⟨?opens, ?closes, ?estimates⟩
  case opens =>
    intro short hstarted hfirst hroot hclosed hlead hbefore
    have hguard : scanOpenGuard (advance t s.m) = true := by
      have hclose : scanCloseAt (advance t s.m) = scanCloseAt s.m := rfl
      simp [scanOpenGuard, hclose, hstarted, hfirst, hroot, hclosed, hlead, hbefore, hnow.trans_lt hbefore]
    obtain ⟨-, -, -, hcfg, hinp, -, -, hfr, -, htb, hpair, -⟩ := Part.groups_of_offLight (scanOpen_offLight short (advance t s.m, s.hbm))
    obtain ⟨hopened, hscanned⟩ := scanOpen_window short (advance t s.m, s.hbm)
    exact ⟨_, exec_scanWindowOpen halive hguard, hopened, hscanned, fun hdue => scanOpen_idle (s := (advance t s.m, s.hbm)) hdue short,
      hcfg, hfr, hinp, htb, hpair, rfl, rfl⟩
  case closes =>
    intro hopen hclose
    obtain ⟨-, hmaint, -, htxn, hcfg, hinp, hfrc, -, hfr, hlight, haud, htb, hpair, hhrt, hfab, -⟩ :=
      Part.groups_of_offScan (scanClose_offScan s.hbm (advance t s.m))
    refine ⟨_, exec_scanWindowClose halive hopen (ht.symm ▸ hclose), scanClose_swept s.hbm (advance t s.m), fun hrest => ?_,
      hlight, hcfg, hinp, hfrc, hfr, haud, htb, hpair, htxn, hhrt, hfab, hmaint, rfl, rfl, rfl⟩
    obtain ⟨htiles, hcomp⟩ := scanClose_atRest (p := advance t s.m) hrest s.hbm
    exact ⟨htiles, hcomp, fun hserve hnodup f hleft => scanClose_scanLate (p := advance t s.m) hrest hserve hnodup hleft s.hbm⟩
  case estimates =>
    intro hscanned
    obtain ⟨-, hmaint, -, hcfg, hinp, hfrc, -, hfr, haud, htb, hpair, hhrt, hfab, -⟩ := Part.groups_of_offLight
      ((estimatesDone_offLight (scanTo s.hbm t (advance t s.m), s.hbm)).trans (Part.offLight_of_offScan (scanTo_offScan ..)))
    refine ⟨_, exec_feederEstimateDone halive hscanned, feedersDone_scanned _, fun k hk => feedersDone_estimate _ hk, ?_,
      hcfg, hinp, hfrc, hfr, haud, htb, hpair, hhrt, hfab, hmaint, rfl, rfl⟩
    intro hrest htaken
    have hidle : lightStage (scanTo s.hbm t (advance t s.m), s.hbm) = (advance t s.m, s.hbm) := by
      rw [scanTo_idle (p := advance t s.m) hrest, lightStage_taken htaken]
    simp only [estimatesDone, hidle, feedersDone_kl, feedersDone_comp]
    exact ⟨rfl, rfl, trivial, fun k hk => feedersDone_estimate (advance t s.m) hk⟩

end

section
/-! What traffic between the two heads, journal entries, replies, phase steps and the loss of a lane leave (R120, R128, R281,
R291, R306). -/

namespace Sys2Proof.Machine

open Sys2Proof

/-- The part without its reports, and without what the pair, the journal, replies and swaps of the headland change. -/
def Part.offPair (p : Part) : Part := { p.quiet with sys := {}, host := {}, txn := {}, pair := {}, hrt := {}, free := 0 }

theorem Part.offPair_of_quiet {p q : Part} (h : p.quiet = q.quiet) : p.offPair = q.offPair :=
  congrArg (fun r : Part => { r with sys := {}, host := {}, txn := {}, pair := {}, hrt := {}, free := 0 }) h

theorem Part.offPair_of_rest {p q : Part} (h : p.rest = q.rest) : p.offPair = q.offPair := Part.offPair_of_quiet (Part.quiet_of_rest h)

/-- What the pair's operations leave, group by group. -/
theorem Part.groups_of_offPair {p q : Part} (h : p.offPair = q.offPair) :
    p.maint = q.maint ∧ p.cfg = q.cfg ∧ p.inp = q.inp ∧ p.frc = q.frc ∧ p.comp = q.comp ∧ p.fr = q.fr ∧ p.light = q.light ∧
      p.kl = q.kl ∧ p.aud = q.aud ∧ p.tb = q.tb ∧ p.fab = q.fab ∧ p.pwr = q.pwr := by
  simpa [Part.offPair, Part.quiet, Part.rest] using h

theorem Part.fr_of_offPair {p q : Part} (h : p.offPair = q.offPair) : p.fr = q.fr := (congrArg Part.fr h : p.offPair.fr = q.offPair.fr)

@[simp] theorem updSys_offPair (p : Part) (g : Sys → Sys) : (p.updSys g).offPair = p.offPair := rfl
@[simp] theorem updHost_offPair (p : Part) (g : HostIf → HostIf) : (p.updHost g).offPair = p.offPair := rfl
@[simp] theorem updTxn_offPair (p : Part) (g : TxnSt → TxnSt) : (p.updTxn g).offPair = p.offPair := rfl
@[simp] theorem updPair_offPair (p : Part) (g : Pair → Pair) : (p.updPair g).offPair = p.offPair := rfl
@[simp] theorem updHrt_offPair (p : Part) (g : Hearth → Hearth) : (p.updHrt g).offPair = p.offPair := rfl
@[simp] theorem updFree_offPair (p : Part) (g : Nat → Nat) : (p.updFree g).offPair = p.offPair := rfl
@[simp] theorem faultOn_offPair (p : Part) : (faultOn p).offPair = p.offPair := rfl
@[simp] theorem faultOff_offPair (p : Part) : (faultOff p).offPair = p.offPair := rfl
@[simp] theorem count_offPair (b i x : Nat) (p : Part) : (count b i x p).offPair = p.offPair := rfl
@[simp] theorem raise_offPair (n i a : Nat) (p : Part) : (raise n i a p).offPair = p.offPair := Part.offPair_of_rest (raise_rest ..)
@[simp] theorem setLevel_offPair (n i : Nat) (on : Bool) (p : Part) : (setLevel n i on p).offPair = p.offPair :=
  Part.offPair_of_rest (setLevel_rest ..)
@[simp] theorem perfSync_offPair (p : Part) : (perfSync p).offPair = p.offPair := Part.offPair_of_quiet (perfSync_quiet p)

/-! ### Frames of the pair and the journal -/

@[simp] theorem updPairLink_offPair (b : Bool) (f : PairLink → PairLink) (p : Part) : (updPairLink b f p).offPair = p.offPair := rfl
@[simp] theorem sendPair_offPair (b : Bool) (n : Nat) (x : PairBody) (p : Part) : (sendPair b n x p).offPair = p.offPair := rfl

@[simp] theorem toPartner_offPair (n : Nat) (x : PairBody) (p : Part) : (toPartner n x p).offPair = p.offPair :=
  foldl_keeps Part.offPair (by simp) ..

/-- With both links down nothing is sent to the partner. -/
theorem toPartner_alone {p : Part} (h : anyLinkUp p = false) (n : Nat) (x : PairBody) : toPartner n x p = p := by
  have hlinks : upLinks p = [] := by simpa [upLinks, anyLinkUp, Part.pairLink, b2n] using h
  rw [toPartner, hlinks, List.foldl_nil]

@[simp] theorem sendAcked_offPair (k n : Nat) (x : PairBody) (p : Part) : (sendAcked k n x p).offPair = p.offPair :=
  foldl_keeps Part.offPair (by simp) ..

@[simp] theorem sendAcked_txn (k n : Nat) (x : PairBody) (p : Part) : (sendAcked k n x p).txn = p.txn := by
  unfold sendAcked; exact foldl_keeps Part.txn (by intros; rfl) ..

@[simp] theorem sendAcked_host (k n : Nat) (x : PairBody) (p : Part) : (sendAcked k n x p).host = p.host := by
  unfold sendAcked; exact foldl_keeps Part.host (by intros; rfl) ..

@[simp] theorem sendAcked_role (k n : Nat) (x : PairBody) (p : Part) : (sendAcked k n x p).pair.role = p.pair.role := by
  unfold sendAcked; exact foldl_keeps (fun q : Part => q.pair.role) (by intros; rfl) ..

@[simp] theorem writeJournal_offPair (n : Nat) (txn : Half) (tag : Word) (b : JournalBody) (p : Part) :
    (writeJournal n txn tag b p).offPair = p.offPair := by
  unfold writeJournal; split
  · rw [sendAcked_offPair, updTxn_offPair]
  · rfl

/-- A journal entry leaves the commits, the host's side and the role. -/
@[simp] theorem writeJournal_keeps (n : Nat) (txn : Half) (tag : Word) (b : JournalBody) (p : Part) :
    (writeJournal n txn tag b p).txn.commits = p.txn.commits ∧ (writeJournal n txn tag b p).host = p.host ∧
      (writeJournal n txn tag b p).pair.role = p.pair.role := by
  unfold writeJournal; split
  · rw [sendAcked_txn, sendAcked_host, sendAcked_role, Part.updTxn_txn, Part.updTxn_host, Part.updTxn_pair]
    exact ⟨rfl, rfl, rfl⟩
  · exact ⟨rfl, rfl, rfl⟩

/-! ### Phase steps -/

/-- The part without what a phase step that is reported changes. -/
def Part.offStep (p : Part) : Part := { p.offPair with fr := { p.fr with step := none } }

/-- What a phase step that is reported leaves. -/
theorem Part.groups_of_offStep {p q : Part} (h : p.offStep = q.offStep) :
    p.cfg = q.cfg ∧ p.inp = q.inp ∧ p.comp = q.comp ∧ p.kl = q.kl ∧ p.fr.cfn = q.fr.cfn ∧ p.fr.first = q.fr.first ∧
      p.fr.started = q.fr.started := by
  simp only [Part.offStep, Part.offPair, Part.quiet, Part.rest, Part.mk.injEq, Frames.mk.injEq] at h
  tauto

theorem Part.offStep_of_offPair {p q : Part} (h : p.offPair = q.offPair) : p.offStep = q.offStep :=
  congrArg (fun r : Part => { r with fr := { r.fr with step := none } }) h

@[simp] theorem ownStep_offStep (e : Int) (p : Part) : (ownStep e p).offStep = p.offStep := rfl

@[simp] theorem reportStep_offStep (e : Int) (p : Part) : (reportStep e p).offStep = p.offStep := by
  unfold reportStep; split
  · rfl
  · dsimp only; split
    · exact (Part.offStep_of_offPair (writeJournal_offPair ..)).trans (ownStep_offStep e p)
    · rfl

/-! ### Replies -/

@[simp] theorem sendReply_offPair (r : Reply) (p : Part) : (sendReply r p).offPair = p.offPair := by
  unfold sendReply; dsimp only; split
  · rfl
  · split <;> rfl

/-- A reply leaves transactions, the pair and tag memory. -/
@[simp] theorem sendReply_keeps (r : Reply) (p : Part) :
    (sendReply r p).txn = p.txn ∧ (sendReply r p).pair = p.pair ∧ (sendReply r p).host.tags = p.host.tags := by
  unfold sendReply; dsimp only; split
  · exact ⟨rfl, rfl, rfl⟩
  · split <;> exact ⟨rfl, rfl, rfl⟩

@[simp] theorem updTag_offPair (tag : Word) (f : TagEntry → TagEntry) (p : Part) : (updTag tag f p).offPair = p.offPair := rfl

@[simp] theorem finalReply_offPair (tag : Word) (st : Nat) (params : List Byte) (p : Part) :
    (finalReply tag st params p).offPair = p.offPair := by
  unfold finalReply; split
  · split
    · dsimp only; split <;> simp
    · rfl
  · rfl

/-- A final reply leaves transactions and the pair. -/
@[simp] theorem finalReply_keeps (tag : Word) (st : Nat) (params : List Byte) (p : Part) :
    (finalReply tag st params p).txn = p.txn ∧ (finalReply tag st params p).pair = p.pair := by
  unfold finalReply; split
  · split
    · dsimp only; split <;> simp [updTag]
    · simp
  · simp

@[simp] theorem finalError_offPair (tag : Word) (st : Nat) (p : Part) : (finalError tag st p).offPair = p.offPair := finalReply_offPair ..

/-- The entry that takes the place of a tag's entry is the one found under it. -/
theorem tagOf_updTag {p : Part} {tag : Word} {e e' : TagEntry} (h : tagOf p tag = some e) (htag : e'.tag = tag) :
    tagOf (updTag tag (fun _ => e') p) tag = some e' := by
  have hmatch : ((fun x : TagEntry => x.tag == tag) ∘ fun x => if x.tag == tag then e' else x) = fun x => x.tag == tag := by
    funext x
    by_cases hx : x.tag = tag <;> simp [hx, htag]
  have hfound : (e.tag == tag) = true := List.find?_some (p := fun x : TagEntry => x.tag == tag) h
  simp only [tagOf, updTag, Part.updHost_host, List.find?_map, hmatch] at h ⊢
  rw [h, Option.map_some, if_pos hfound]

/-- A final reply that is owed stands in tag memory with its status and parameters, and is owed no more (R341). -/
theorem finalReply_tagOf {p : Part} {tag : Word} {e : TagEntry} {k : OwedKind} (h : tagOf p tag = some e) (hk : e.owes = some k)
    (st : Nat) (params : List Byte) : ∃ e', tagOf (finalReply tag st params p) tag = some e' ∧ e'.owes = none ∧
      e'.reply = some (BitVec.ofNat 16 (settle p st), params) := by
  have htag : e.tag = tag := by simpa using List.find?_some (p := fun x : TagEntry => x.tag == tag) h
  have hsent : ∀ (r : Reply) (q : Part), tagOf (sendReply r q) tag = tagOf q tag := fun r q => by simp [tagOf]
  refine ⟨{ e with
    reply := some (BitVec.ofNat 16 (settle p st), params), owes := none
    held := p.hrt.kilnReset && (k == .other || p.pair.role == .primary) }, ?_, rfl, rfl⟩
  simp only [finalReply, h, hk]
  split
  · exact (hsent ..).trans (tagOf_updTag h htag)
  · exact tagOf_updTag h htag

/-! ### A lane that fails -/

@[simp] theorem releaseTenure_offPair (p : Part) : (releaseTenure p).offPair = p.offPair := rfl

@[simp] theorem yieldHead_offPair (p : Part) : (yieldHead p).offPair = p.offPair := by
  unfold yieldHead; split
  · rfl
  · split
    · simp
    · split <;> simp

/-- The swap of a lane costs no picture. -/
theorem startSwap_lane {s : Swap} (h : s.kind = .lane) (p : Part) : (startSwap s p).offPair = p.offPair := by
  unfold startSwap; split
  · rfl
  · unfold swapCost; rw [h]; split <;> rfl

theorem irreplaceable_lane (l : Nat) (p : Part) : (irreplaceable .lane l p).offPair = p.offPair := by
  unfold irreplaceable; dsimp only; split
  · simp
  · simp [degradedUnit]

/-- A fault of a lane leaves the picture, the inputs and the configuration (R306, R310, R311). -/
@[simp] theorem unitFault_lane (l : Nat) (single : Bool) (p : Part) : (unitFault .lane l single p).offPair = p.offPair := by
  unfold unitFault; split
  · rfl
  · split
    · simp
    · split
      · rfl
      · dsimp only; split
        · rw [startSwap_lane rfl]; simp
        · simp [noSpare, unanswered, irreplaceable_lane]

/-! ### The shadow check -/

@[simp] theorem inputDiverges_offPair (b : Nat) (p : Part) : (inputDiverges b p).offPair = p.offPair := by
  unfold inputDiverges; dsimp only; split <;> simp

@[simp] theorem shadowOutcome_offPair (b own theirs : Nat) (p : Part) : (shadowOutcome b own theirs p).offPair = p.offPair := by
  unfold shadowOutcome; split
  · simp
  · split
    · simp
    · split <;> simp

@[simp] theorem shadowEnds_offPair (n b theirs : Nat) (p : Part) : (shadowEnds n b theirs p).offPair = p.offPair := by
  unfold shadowEnds; split <;> simp

@[simp] theorem shadowStarts_offPair (n b : Nat) (p : Part) : (shadowStarts n b p).offPair = p.offPair := by
  unfold shadowStarts; split
  · rfl
  · have hfree : ∀ c : Prop, [Decidable c] → (if c then p.updFree (· + 1) else p).offPair = p.offPair := fun c _ => by split <;> simp
    dsimp only; split <;> simp [hfree]

/-- The comparison of a band's checksums leaves the picture, the inputs and the configuration (R291). -/
@[simp] theorem compareBand_offPair (n b : Nat) (p : Part) : (compareBand n b p).offPair = p.offPair := by
  unfold compareBand; split
  · split <;> simp
  · rfl

end Sys2Proof.Machine
end

section
/-! Timers of the canvas: gates, fences, low-latency mode, monitor outputs and the slate (R31, R63, R122, R142, R146, R148). -/

namespace Sys2Proof.Machine

open Sys2Proof

/-- What a command on the part alone does where the part lives and the condition of its row holds. -/
theorem onPart_timed_guarded {t : Nat} {c : Part → Bool} {f : Part → Part} {s : State} (halive : s.m.alive = true)
    (hc : c (advance t s.m) = true) :
    onPart (timed t (guarded c f)) s = .next { s with m := f (advance t s.m) } := by
  rw [onPart, timed_alive halive, guarded_on hc]

/-! ### Gates -/

theorem gateTimesOut_eq {x : Commit} {g : Gate} (hg : x.gate = some g) (p : Part) :
    gateTimesOut p x = raise evGateTimeout 0 g.group (gateLeaves x stTimeout (x.apply + g.deadline)
      (writeJournal (x.apply + g.deadline) x.txn x.tag (.withdraw x.jseq) p)) := by
  simp only [gateTimesOut, hg]

@[simp] theorem gateLeaves_offPair (x : Commit) (st cfn : Nat) (p : Part) : (gateLeaves x st cfn p).offPair = p.offPair := by
  unfold gateLeaves; dsimp only; split
  · rw [finalCommit, finalReply_offPair]; rfl
  · rfl

/-- A gated commit that leaves is gone from the commits, and the pair stands. -/
theorem gateLeaves_keeps (x : Commit) (st cfn : Nat) (p : Part) :
    (gateLeaves x st cfn p).txn.commits = p.txn.commits.filter (fun y => y.jseq != x.jseq) ∧ (gateLeaves x st cfn p).pair = p.pair := by
  unfold gateLeaves; dsimp only; split <;> simp [finalCommit]

/-- A gated commit that owes its reply pays it as it leaves (R122, R352). -/
theorem gateLeaves_tagOf {x : Commit} {p : Part} {e : TagEntry} {k : OwedKind} (howes : x.owes = true) (h : tagOf p x.tag = some e)
    (hk : e.owes = some k) {st : Nat} (hst : st ≠ stOk) (cfn : Nat) : ∃ e', tagOf (gateLeaves x st cfn p) x.tag = some e' ∧
      e'.owes = none ∧ e'.reply = some (BitVec.ofNat 16 st, commitBlock cfn) := by
  obtain ⟨e', htag, hpaid, hreply⟩ := finalReply_tagOf
    (p := p.updTxn fun t => { t with commits := t.commits.filter fun y => y.jseq != x.jseq }) h hk st (commitBlock cfn ++ [])
  rw [settle, if_neg hst, List.append_nil] at hreply
  exact ⟨e', by rw [gateLeaves, if_pos howes, finalCommit]; exact htag, hpaid, hreply⟩

@[simp] theorem gateTimesOut_offPair (p : Part) (x : Commit) : (gateTimesOut p x).offPair = p.offPair := by
  unfold gateTimesOut; split <;> simp

/-- What a gated commit at the end of its deadline leaves: no commit of its JSEQ, and the roles (R122). -/
theorem gateTimesOut_keeps {x : Commit} {g : Gate} (hg : x.gate = some g) (p : Part) :
    (gateTimesOut p x).txn.commits = p.txn.commits.filter (fun y => y.jseq != x.jseq) ∧
      (gateTimesOut p x).pair.role = p.pair.role := by
  rw [gateTimesOut_eq hg, raise_txn, raise_pair]
  obtain ⟨hcommits, hpair⟩ := gateLeaves_keeps x stTimeout (x.apply + g.deadline)
    (writeJournal (x.apply + g.deadline) x.txn x.tag (.withdraw x.jseq) p)
  rw [hcommits, hpair]
  simp

/-- The final reply of a gated commit at the end of its deadline is TIMEOUT with that frame (R122). -/
theorem gateTimesOut_tagOf {x : Commit} {g : Gate} (hg : x.gate = some g) {p : Part} {e : TagEntry} {k : OwedKind}
    (howes : x.owes = true) (h : tagOf p x.tag = some e) (hk : e.owes = some k) : ∃ e', tagOf (gateTimesOut p x) x.tag = some e' ∧
      e'.owes = none ∧ e'.reply = some (BitVec.ofNat 16 stTimeout, commitBlock (x.apply + g.deadline)) := by
  have hhost : ∀ q : Part, tagOf (raise evGateTimeout 0 g.group q) x.tag = tagOf q x.tag := fun q => by simp [tagOf]
  rw [gateTimesOut_eq hg, hhost]
  exact gateLeaves_tagOf howes (by simpa [tagOf] using h) hk (by decide) _

theorem exec_gateTimeout {t : Nat} {s : State} {x : Commit} (halive : s.m.alive = true) (hrole : s.m.pair.role ≠ .standby)
    (hx : (s.m.txn.commits.find? fun y => y.jseq == x.jseq && gateExpired s.m y) = some x) :
    exec (.gateTimeout t x.jseq) s = .next { s with m := gateTimesOut (advance t s.m) x } := by
  have hfind : ((advance t s.m).txn.commits.find? fun y => y.jseq == x.jseq && gateExpired (advance t s.m) y) = some x := hx
  rw [exec, execGateTimeout, onPart_timed_guarded halive (by simpa using hrole)]
  simp only [hfind]

theorem exec_gateTimeout_standby {t j : Nat} {s : State} (halive : s.m.alive = true) (hrole : s.m.pair.role = .standby) :
    exec (.gateTimeout t j) s = .next { s with m := advance t s.m } := by
  rw [exec, execGateTimeout, onPart, timed_alive halive, guarded_off (by simp [hrole])]

/-! ### Fences -/

/-- The part without its reports and its streams. -/
def Part.offStreams (p : Part) : Part := { p.rest with inp := { p.inp with streams := [] } }

theorem Part.offStreams_of_rest {p q : Part} (h : p.rest = q.rest) : p.offStreams = q.offStreams :=
  congrArg (fun r : Part => { r with inp := { r.inp with streams := [] } }) h

/-- What an operation on streams leaves, group by group; of the inputs the fence groups. -/
theorem Part.groups_of_offStreams {p q : Part} (h : p.offStreams = q.offStreams) :
    p.cfg = q.cfg ∧ p.txn = q.txn ∧ p.comp = q.comp ∧ p.fr = q.fr ∧ p.light = q.light ∧ p.kl = q.kl ∧ p.aud = q.aud ∧ p.tb = q.tb ∧
      p.pair = q.pair ∧ p.hrt = q.hrt ∧ p.fab = q.fab ∧ p.pwr = q.pwr ∧ p.maint = q.maint ∧ p.host = q.host ∧ p.frc = q.frc ∧
      p.inp.groups = q.inp.groups := by
  simp only [Part.offStreams, Part.rest, Part.mk.injEq, Inputs.mk.injEq] at h
  tauto

@[simp] theorem updStream_offStreams (n : Nat) (f : StreamRt → StreamRt) (p : Part) : (updStream n f p).offStreams = p.offStreams := rfl
@[simp] theorem countBy_offStreams (b i x n : Nat) (p : Part) : (countBy b i x n p).offStreams = p.offStreams := rfl
@[simp] theorem count_offStreams (b i x : Nat) (p : Part) : (count b i x p).offStreams = p.offStreams := rfl
@[simp] theorem raise_offStreams (n i a : Nat) (p : Part) : (raise n i a p).offStreams = p.offStreams := Part.offStreams_of_rest (raise_rest ..)
@[simp] theorem showSlot_offStreams (n : Nat) (a b : Bool) (e : Nat × Slot) (p : Part) : (showSlot n a b e p).offStreams = p.offStreams := rfl

@[simp] theorem showNewestTag_offStreams (fe : Nat) (ok : Word → Bool) (p : Part) (n : Nat) :
    (showNewestTag fe ok p n).offStreams = p.offStreams := by
  unfold showNewestTag; split <;> rfl

@[simp] theorem fenceRepeats_offStreams (before after : Part) (ms : List Nat) : (fenceRepeats before after ms).offStreams = after.offStreams :=
  foldl_keeps Part.offStreams (fun _ _ => by split <;> rfl) ..

/-- A group at its timeout: its tag becomes the newest one shown, it waits no more, and the timeout is counted (R63). -/
def groupTimedOut (tag : Word) (x : GroupRt) : GroupRt :=
  { x with curG := tag, seen := true, wait := 0, due := false, timeouts := x.timeouts + 1 }

/-- Besides streams and reports a fence timeout changes the group alone. -/
theorem fenceTimeout_offStreams (fe g : Nat) (before p : Part) :
    ∃ tag, (fenceTimeout fe g before p).offStreams = (updGroupRt g (groupTimedOut tag) p).offStreams := by
  have hshown := foldl_keeps Part.offStreams (fun q n => showNewestTag_offStreams fe (groupNewer (p.groupRt g)) q n) (fenceMembers g p) p
  unfold fenceTimeout
  simp only [raise_offStreams, fenceRepeats_offStreams]
  exact ⟨_, congrArg (fun q : Part => updGroupRt g (groupTimedOut _) q) hshown⟩

theorem updGroupRt_groupRt (g j : Nat) (f : GroupRt → GroupRt) (p : Part) :
    (updGroupRt g f p).groupRt j = if j = g then f (p.groupRt g) else p.groupRt j := by
  rw [Part.groupRt, updGroupRt, Part.updInp_inp, Tab.getD_upd]; rfl

theorem Part.groupRt_of_groups {p q : Part} (h : p.inp.groups = q.inp.groups) (j : Nat) : p.groupRt j = q.groupRt j := by
  rw [Part.groupRt, Part.groupRt, h]

theorem exec_fenceTimeout {t g : Nat} {s : State} (halive : s.m.alive = true) (hgroup : s.m.cfg.groups.has g = true)
    (hdue : (s.m.groupRt g).due = true) :
    exec (.fenceTimeout t g) s = .next { s with m := fenceTimeout s.m.fr.lastFe g (advance t s.m) (advance t s.m) } := by
  have hrt : (advance t s.m).groupRt g = s.m.groupRt g := rfl
  rw [exec, execFenceTimeout, onPart_timed_guarded halive (by simp [hgroup, hrt, hdue])]
  rfl

/-! ### Low-latency mode, monitor outputs -/

theorem exec_lowlatExit {t : Nat} {s : State} (halive : s.m.alive = true) (hmode : s.m.comp.lowlat = true)
    (htwice : 2 ≤ s.m.comp.behindRun + b2n s.m.comp.behind) :
    exec (.lowlatExit t) s = .next { s with m := raise evLowlatExit 0 0 (leaveLowlat (advance t s.m)) } := by
  rw [exec, execLowlatExit, onPart_timed_guarded halive (by simp [hmode, htwice])]

theorem leaveLowlat_offStep (p : Part) : (leaveLowlat p).offStep =
    (p.updComp fun c => { c with lowlat := false, lowlatBy := 0, behind := false, behindRun := 0 }).offStep := reportStep_offStep ..

theorem exec_monOutputFrame {t k d : Nat} {s : State} {w : MonPicture} {rest : List MonPicture} (hlives : livesAt t s)
    (henable : (s.m.cfg.mon.getD k {}).enable = true) (hroot : s.m.tb.rootLock = true)
    (hwaits : (s.m.comp.mon.getD k {}).waiting = w :: rest) (hdue : w.due = some d) (hd : d ≤ t) :
    exec (.monOutputFrame t k) s = .next { s with m := monitorBegin k (advance t s.m) } := by
  obtain ⟨halive, hnow⟩ := hlives
  rw [exec, execMonOutputFrame, onPart_timed_guarded halive]
  simp [henable, hroot, hwaits, hdue, hd]

/-- An output that begins a picture takes it from those that wait, and sends it. -/
theorem monitorBegin_eq {k : Nat} {p : Part} {w : MonPicture} {rest : List MonPicture}
    (hwaits : (p.comp.mon.getD k {}).waiting = w :: rest) : ∃ px,
    monitorBegin k p = emit (.monFrame k w.cfn (monitorId p.cfg (p.cfg.mon.getD k {})) px)
      (updMon k (fun x => { x with waiting := rest, picture := w.picture, frames := x.frames + 1, cfn := w.cfn }) p) := by
  simp only [monitorBegin, hwaits]
  exact ⟨_, rfl⟩

/-! ### The slate -/

theorem exec_slateAutoTrigger {t : Nat} {s : State} (halive : s.m.alive = true) (hrole : s.m.pair.role ≠ .standby)
    (hdue : slateAutoDue (advance t s.m) = true) : exec (.slateAutoTrigger t) s =
      .next { s with m := (advance t s.m).updComp fun c => { c with slate := { c.slate with autoOn := true } } } := by
  rw [exec, execSlateAutoTrigger, onPart_timed_guarded halive (by simpa [hdue] using hrole)]

theorem exec_slatePinRelease {t x : Nat} {s : State} (halive : s.m.alive = true) (hon : s.m.comp.slate.pinOn = true)
    (hleft : s.m.comp.slate.pinLeft = some x) (hpast : x + sec ≤ t) : exec (.slatePinRelease t) s =
      .next { s with m := (advance t s.m).updComp fun c => { c with slate := { c.slate with pinOn := false, pinLeft := none } } } := by
  have hdue : x + sec ≤ (advance t s.m).sys.now := le_max_of_le_right hpast
  rw [exec, execSlatePinRelease, onPart_timed_guarded halive (by rw [advance_comp, hon, hleft, Option.map_some, decide_eq_true hdue]; rfl)]

end Sys2Proof.Machine

open Sys2Proof Sys2Proof.Machine

/-- Settles O50: each row through what its operation does to the group it is about and the observer of the part that it leaves. -/
theorem canvasTimers : Obligations.CanvasTimers := by
  unfold Obligations.CanvasTimers
  refine ⟨fun t s hlives => ⟨?gate, ?standby, ?fence⟩, fun t s hlives => ⟨?lowlat, ?monitor, ?slateAuto, ?slatePin⟩⟩
  all_goals obtain ⟨halive, hnow⟩ := id hlives
  case gate =>
    intro x g hx hg hrole
    obtain ⟨-, hcfg, hinp, -, hcomp, hfr, -, hkl, -, htb, -⟩ := Part.groups_of_offPair (gateTimesOut_offPair (advance t s.m) x)
    obtain ⟨hcommits, hrole'⟩ := gateTimesOut_keeps hg (advance t s.m)
    refine ⟨_, exec_gateTimeout halive hrole hx, hcommits, fun e howes htag hk => gateTimesOut_tagOf hg howes htag hk, ?_, hcfg, hfr, hinp,
      hcomp, hkl, htb, hrole', rfl, rfl⟩
    rw [gateTimesOut_eq hg]
    exact raise_sets_pend (by decide)
  case standby =>
    exact fun j hrole => exec_gateTimeout_standby halive hrole
  case fence =>
    intro g hgroup hdue
    obtain ⟨tag, hoff⟩ := fenceTimeout_offStreams s.m.fr.lastFe g (advance t s.m) (advance t s.m)
    obtain ⟨hcfg, htxn, hcomp, hfr, hlight, hkl, haud, htb, hpair, hhrt, hfab, hpwr, hmaint, hhost, hfrc, hgroups⟩ :=
      Part.groups_of_offStreams hoff
    have hrt : ∀ j, (fenceTimeout s.m.fr.lastFe g (advance t s.m) (advance t s.m)).groupRt j =
        if j = g then groupTimedOut tag (s.m.groupRt g) else s.m.groupRt j := fun j => by
      rw [Part.groupRt_of_groups hgroups, updGroupRt_groupRt]; rfl
    have hself := hrt g
    rw [if_pos rfl] at hself
    exact ⟨_, exec_fenceTimeout halive hgroup hdue, by rw [hself]; rfl, by rw [hself]; rfl, by rw [hself]; rfl, raise_sets_pend (by decide),
      fun j hj => (hrt j).trans (if_neg hj), hfrc, hcfg, htxn, hcomp, hfr, hlight, hkl, haud, htb, hpair, hhrt, hfab, hpwr, hmaint, hhost,
      rfl, rfl, rfl⟩
  case lowlat =>
    intro hmode htwice
    obtain ⟨hcfg, hinp, hcomp, hkl, hcfn, -, -⟩ := Part.groups_of_offStep (leaveLowlat_offStep (advance t s.m))
    refine ⟨_, exec_lowlatExit halive hmode htwice, ?_, raise_sets_pend (by decide), ?_⟩
    · rw [raise_comp, hcomp]; rfl
    · rw [raise_fr, raise_cfg, raise_inp, raise_kl]
      exact ⟨hcfn, hcfg, hinp, hkl, rfl, rfl⟩
  case monitor =>
    intro k d w rest henable hroot hwaits hdue hd
    obtain ⟨px, hbegin⟩ := monitorBegin_eq (p := advance t s.m) hwaits
    refine ⟨_, exec_monOutputFrame hlives henable hroot hwaits hdue hd, ?_⟩
    simp only [hbegin]
    refine ⟨?_, ⟨px, rfl⟩, rfl, rfl, rfl, rfl, trivial, trivial⟩
    rw [emit_comp, updMon, Part.updComp_comp, Tab.getD_upd, if_pos rfl]
    rfl
  case slateAuto =>
    exact fun hrole hdue => ⟨_, exec_slateAutoTrigger halive hrole hdue, rfl⟩
  case slatePin =>
    exact fun x hon hleft hpast => ⟨_, exec_slatePinRelease halive hon hleft hpast, rfl⟩

end

section
/-! A composed band (R24, R30 to R33, R132 to R135, R291). -/

namespace Sys2Proof.Machine

open Sys2Proof

/-- The part without its reports, its performance counters and composition. -/
def Part.offComp (p : Part) : Part := { p.quiet with comp := {} }

theorem Part.offComp_of_quiet {p q : Part} (h : p.quiet = q.quiet) : p.offComp = q.offComp :=
  congrArg (fun r : Part => { r with comp := {} }) h

/-- What composition leaves, group by group. -/
theorem Part.groups_of_offComp {p q : Part} (h : p.offComp = q.offComp) :
    p.txn = q.txn ∧ p.cfg = q.cfg ∧ p.inp = q.inp ∧ p.fr = q.fr ∧ p.light = q.light ∧ p.kl = q.kl ∧ p.tb = q.tb ∧ p.pair = q.pair ∧
      p.hrt = q.hrt ∧ p.fab = q.fab := by
  simp only [Part.offComp, Part.quiet, Part.rest, Part.mk.injEq] at h
  tauto

/-- The part without its reports, its performance counters and the turn of the lanes' scalers. -/
def Part.offTurn (p : Part) : Part := { p.quiet with comp := { p.comp with turn := [] } }

theorem Part.offTurn_of_quiet {p q : Part} (h : p.quiet = q.quiet) : p.offTurn = q.offTurn :=
  congrArg (fun r : Part => { r with comp := { r.comp with turn := [] } }) h

theorem Part.offComp_of_offTurn {p q : Part} (h : p.offTurn = q.offTurn) : p.offComp = q.offComp :=
  congrArg (fun r : Part => { r with comp := {} }) h

/-- What the passes of a band leave of composition. -/
theorem Part.comp_of_offTurn {p q : Part} (h : p.offTurn = q.offTurn) :
    p.comp.done = q.comp.done ∧ p.comp.plots = q.comp.plots ∧ p.comp.behind = q.comp.behind := by
  simp only [Part.offTurn, Part.quiet, Part.rest, Part.mk.injEq, Comp.mk.injEq] at h
  tauto

@[simp] theorem countBy_offTurn (b i x n : Nat) (p : Part) : (countBy b i x n p).offTurn = p.offTurn := rfl
@[simp] theorem perfSignal_offTurn (g c i n : Nat) (p : Part) : (perfSignal g c i n p).offTurn = p.offTurn :=
  Part.offTurn_of_quiet (perfSignal_quiet ..)

/-- A layer's pass counts, and turns its lane to the other scaler. -/
@[simp] theorem passCounts_offTurn (n b : Nat) (p : Part) (l : Layer) : (passCounts n b p l).offTurn = p.offTurn := by
  have hturn : ∀ (q : Part) (g : List Nat → List Nat), (q.updComp fun c => { c with turn := g c.turn }).offTurn = q.offTurn := fun _ _ => rfl
  unfold passCounts; dsimp only
  refine (hturn _ fun l => if p.comp.turn.contains (b % 16) then l.filter (· != b % 16) else b % 16 :: l).trans ?_
  rw [perfSignal_offTurn, perfSignal_offTurn, perfSignal_offTurn]
  split <;> (try rw [perfSignal_offTurn]) <;> split <;> rfl

@[simp] theorem slateCounts_offTurn (n b : Nat) (p : Part) : (slateCounts n b p).offTurn = p.offTurn := by
  unfold slateCounts; dsimp only; split
  · rfl
  · split
    · rfl
    · split <;> rfl

/-- The passes of a band: the slate's, or those of the layers that meet it. -/
def bandPasses (n b : Nat) (p q : Part) : Part :=
  if p.comp.slate.shown then slateCounts n b q else (bandLayers p.cfg b).foldl (passCounts n b) q

@[simp] theorem bandPasses_offTurn (n b : Nat) (p q : Part) : (bandPasses n b p q).offTurn = q.offTurn := by
  unfold bandPasses; split
  · simp
  · exact foldl_keeps Part.offTurn (passCounts_offTurn n b) ..

/-- The checksum that a band of these plots sends, where it has one (R133, R291). -/
def bandSumSent (b : Nat) (plots : List DWord) (p : Part) : Option DWord :=
  if !p.comp.noSum.contains b && !shedBand p b then some (bandSum plots) else none

/-- The record of a composed band in the compositor (R24, R132 to R135). -/
def bandRecorded (b : Nat) (lines : List (List Rgba)) (p : Part) : Part :=
  let plots := plotSums p.cfg.canvas lines
  let ok := !p.comp.noSum.contains b && !shedBand p b
  p.updComp fun c => { c with
    done := b :: c.done
    plots := c.plots.set b plots
    noSum := if ok then c.noSum else if c.noSum.contains b then c.noSum else b :: c.noSum
    stills := c.stills.set b (stillCounts p b plots ok)
    sums := if ok then c.sums.set b (bandSum plots) else c.sums }

/-- The record with the frame's checksums, where the band is the frame's last (R133). -/
def bandEntered (n b : Nat) (lines : List (List Rgba)) (p : Part) : Part :=
  if (bandRecorded b lines p).comp.done.length = bandCount p.cfg.canvas then
    (bandRecorded b lines p).updComp fun c => { c with fullCfn := n, fullSums := c.sums, fullNoSum := c.noSum }
  else bandRecorded b lines p

/-- A composed band, before its checksum goes to the partner. -/
def bandLocal (n b : Nat) (lines : List (List Rgba)) (p : Part) : Part :=
  perfSignal 3 0x10 (b % 16) 1 (bandPasses n b p (bandEntered n b lines p))

theorem bandDone_eq (n b : Nat) (lines : List (List Rgba)) (p : Part) :
    bandDone n b lines p = toPartner n (.bandsum b (bandSumSent b (plotSums p.cfg.canvas lines) p)) (bandLocal n b lines p) := rfl

theorem bandEntered_offComp (n b : Nat) (lines : List (List Rgba)) (p : Part) : (bandEntered n b lines p).offComp = p.offComp := by
  unfold bandEntered; split <;> rfl

theorem bandEntered_comp (n b : Nat) (lines : List (List Rgba)) (p : Part) :
    (bandEntered n b lines p).comp.done = b :: p.comp.done ∧
      (bandEntered n b lines p).comp.plots = p.comp.plots.set b (plotSums p.cfg.canvas lines) ∧
      (bandEntered n b lines p).comp.behind = p.comp.behind := by
  unfold bandEntered; split <;> exact ⟨rfl, rfl, rfl⟩

theorem bandLocal_offTurn (n b : Nat) (lines : List (List Rgba)) (p : Part) :
    (bandLocal n b lines p).offTurn = (bandEntered n b lines p).offTurn := by simp [bandLocal]

theorem bandLocal_offComp (n b : Nat) (lines : List (List Rgba)) (p : Part) : (bandLocal n b lines p).offComp = p.offComp :=
  (Part.offComp_of_offTurn (bandLocal_offTurn n b lines p)).trans (bandEntered_offComp n b lines p)

/-- A composed band is done, with its plot checksums (R132). -/
theorem bandLocal_comp (n b : Nat) (lines : List (List Rgba)) (p : Part) :
    (bandLocal n b lines p).comp.done = b :: p.comp.done ∧
      (bandLocal n b lines p).comp.plots = p.comp.plots.set b (plotSums p.cfg.canvas lines) ∧
      (bandLocal n b lines p).comp.behind = p.comp.behind := by
  obtain ⟨hdone, hplots, hbehind⟩ := Part.comp_of_offTurn (bandLocal_offTurn n b lines p)
  rw [hdone, hplots, hbehind]
  exact bandEntered_comp n b lines p

theorem bandDone_offPair (n b : Nat) (lines : List (List Rgba)) (p : Part) :
    (bandDone n b lines p).offPair = (bandLocal n b lines p).offPair := by rw [bandDone_eq, toPartner_offPair]

/-- With both links down a composed band is the compositor's affair alone. -/
theorem bandDone_alone {p : Part} (h : anyLinkUp p = false) (n b : Nat) (lines : List (List Rgba)) :
    bandDone n b lines p = bandLocal n b lines p := by
  obtain ⟨-, -, -, -, -, -, -, hpair, -⟩ := Part.groups_of_offComp (bandLocal_offComp n b lines p)
  rw [bandDone_eq, toPartner_alone (by rw [← h, anyLinkUp, anyLinkUp, Part.pairLink, Part.pairLink, hpair]; rfl)]

/-! ### Falling behind -/

@[simp] theorem fallBehind_offComp (p : Part) : (fallBehind p).offComp = p.offComp := by
  unfold fallBehind; split
  · exact (Part.offComp_of_quiet (raise_quiet ..)).trans rfl
  · rfl

@[simp] theorem fallBehind_done (p : Part) : (fallBehind p).comp.done = p.comp.done := by
  unfold fallBehind; split
  · rw [raise_comp]; rfl
  · rfl

/-- The first band of a low-latency frame that falls behind marks the frame and raises LOWLAT_BEHIND (R31). -/
theorem fallBehind_first {p : Part} (hmode : p.comp.lowlat = true) (hfirst : p.comp.behind = false) :
    (fallBehind p).comp.behind = true ∧ (fallBehind p).ev.pend.getLsbD evLowlatBehind = true := by
  rw [fallBehind, if_pos (by simp [hmode, hfirst])]
  exact ⟨by rw [raise_comp]; rfl, raise_sets_pend (by decide)⟩

/-! ### Pending bits -/

theorem perfWrapped_ev (g c : Nat) (p : Part) : (perfWrapped g c p).ev = p.ev := by
  have hsync : ∀ q : Part, (perfSync q).ev = q.ev := fun q => by
    rw [perfSync, Part.updPerf_ev]
    exact foldl_keeps Part.ev (fun r g => by unfold perfSyncGroup; dsimp only; split <;> rfl) ..
  unfold perfWrapped; dsimp only; split
  · rw [Part.updPerf_ev, hsync]; rfl
  · rfl

section Pending

variable {k : Nat} (hk : k < 384)
include hk

theorem perfSignal_keeps_pend (g code inst n : Nat) {p : Part} (h : p.ev.pend.getLsbD k = true) :
    (perfSignal g code inst n p).ev.pend.getLsbD k = true := by
  have hcarry : ∀ c {q : Part}, q.ev.pend.getLsbD k = true → (perfCarry g c q).ev.pend.getLsbD k = true := fun c q hq => by
    unfold perfCarry; dsimp only; split
    · split
      · exact raise_keeps_pend hk (by rw [perfWrapped_ev]; exact hq)
      · exact hq
    · exact raise_keeps_pend hk hq
  unfold perfSignal; split
  · exact h
  · refine List.foldlRecOn (motive := fun q : Part => q.ev.pend.getLsbD k = true) _ (perfAdd g n) h fun q hq c _ => ?_
    unfold perfAdd; dsimp only; split
    · exact hq
    · exact hcarry c (by rw [perfWrapped_ev]; exact hq)

theorem passCounts_keeps_pend (n b : Nat) {p : Part} (h : p.ev.pend.getLsbD k = true) (l : Layer) :
    (passCounts n b p l).ev.pend.getLsbD k = true := by
  unfold passCounts; dsimp only
  rw [Part.updComp_ev]
  refine perfSignal_keeps_pend hk _ _ _ _ (perfSignal_keeps_pend hk _ _ _ _ (perfSignal_keeps_pend hk _ _ _ _ ?_))
  split <;> (try apply perfSignal_keeps_pend hk) <;> split <;> exact h

theorem bandPasses_keeps_pend (n b : Nat) (p : Part) {q : Part} (h : q.ev.pend.getLsbD k = true) :
    (bandPasses n b p q).ev.pend.getLsbD k = true := by
  unfold bandPasses; split
  · unfold slateCounts; dsimp only; split
    · exact h
    · split
      · exact h
      · split <;> exact h
  · exact List.foldlRecOn (motive := fun q : Part => q.ev.pend.getLsbD k = true) _ (passCounts n b) h
      fun q hq l _ => passCounts_keeps_pend hk n b hq l

/-- A composed band clears no pending bit. -/
theorem bandLocal_keeps_pend (n b : Nat) (lines : List (List Rgba)) {p : Part} (h : p.ev.pend.getLsbD k = true) :
    (bandLocal n b lines p).ev.pend.getLsbD k = true := by
  refine perfSignal_keeps_pend hk _ _ _ _ (bandPasses_keeps_pend hk n b p ?_)
  unfold bandEntered; split <;> exact h

end Pending

/-! ### The command -/

/-- Whether a band's input lines are there does not hang on the instant at which it is asked. -/
theorem linesThere_advance (t : Nat) (p : Part) (b : Nat) : linesThere (advance t p) b = linesThere p b := by
  have harriving : ∀ k, (arrivingSlot (advance t p) k).isSome = (arrivingSlot p k).isSome := fun k => by
    have hfmt : (advance t p).format k = p.format k := rfl
    have hstream : (advance t p).stream k = p.stream k := rfl
    simp only [arrivingSlot, hfmt, hstream]
    cases p.format k with
    | none => rfl
    | some f => cases (p.stream k).rtp.getLast? <;> rfl
  have hlayers : bandLayers (advance t p).cfg b = bandLayers p.cfg b := rfl
  simp only [linesThere, hlayers, harriving]
  rfl

/-- The part as the lane composes band `b`: the lead may have fallen behind. -/
def composing (behind : Bool) (p : Part) : Part := if behind then fallBehind p else p

@[simp] theorem composing_offComp (behind : Bool) (p : Part) : (composing behind p).offComp = p.offComp := by
  unfold composing; split <;> simp

@[simp] theorem composing_done (behind : Bool) (p : Part) : (composing behind p).comp.done = p.comp.done := by
  unfold composing; split <;> simp

/-- Scan-out goes on with a band where the window is open. -/
def scanFollows (opened : Bool) (s : Both) : Both := if opened then scanOn s else s

/-- The pair compares a band where a link is up (R291). -/
def bandCompared (b : Nat) (p : Part) : Part := if anyLinkUp p then compareBand p.fr.cfn b p else p

/-- What becomes of the part where the band may be composed. -/
def bandStep (b : Nat) (behind : Bool) (p : Part) (hbm : Memory) : Both :=
  let q := composing behind p
  scanFollows p.light.opened (bandDone q.fr.cfn b (bandPixels q hbm q.fr.cfn b) q,
    writeBand q.fr.cfn b 0 (bandPixels q hbm q.fr.cfn b) hbm)

/-- Where the band may be composed, scan-out comes up to it, the band is composed, scan-out goes on, and the pair compares it. -/
theorem exec_bandComposed_open {t b : Nat} {behind : Bool} {s : State} (h : bandOpen b behind (advance t s.m) = true) :
    exec (.bandComposed t b behind) s = .next { s with
      m := bandCompared b (bandStep b behind (scanTo s.hbm t (advance t s.m)) s.hbm).1
      hbm := (bandStep b behind (scanTo s.hbm t (advance t s.m)) s.hbm).2 } := by
  simp only [exec, execBandComposed, h, if_true, bandStep, scanTo_light]
  rfl

/-- Where the band may not be composed, only time goes on. -/
theorem exec_bandComposed_shut {t b : Nat} {behind : Bool} {s : State} (halive : s.m.alive = true)
    (h : bandOpen b behind (advance t s.m) = false) : exec (.bandComposed t b behind) s = .next { s with m := advance t s.m } := by
  simp [exec, execBandComposed, h, halive]

@[simp] theorem scanFollows_offLight (opened : Bool) (s : Both) : (scanFollows opened s).1.offLight = s.1.offLight := by
  unfold scanFollows; split <;> simp

theorem bandCompared_offPair (b : Nat) (p : Part) : (bandCompared b p).offPair = p.offPair := by
  unfold bandCompared; split <;> simp

/-- The band is composed once, and configuration and inputs stand, whatever scan-out and the pair do beside it. -/
theorem bandStep_keeps (b : Nat) (behind : Bool) (p : Part) (hbm : Memory) :
    (bandCompared b (bandStep b behind p hbm).1).comp.done = b :: p.comp.done ∧
      (bandCompared b (bandStep b behind p hbm).1).cfg = p.cfg ∧ (bandCompared b (bandStep b behind p hbm).1).inp = p.inp := by
  obtain ⟨-, hcfg4, hinp4, -, hcomp4, -⟩ := Part.groups_of_offPair (bandCompared_offPair b (bandStep b behind p hbm).1)
  obtain ⟨-, -, -, hcfg3, hinp3, -, hdone3, -⟩ := Part.groups_of_offLight (scanFollows_offLight p.light.opened
    (bandDone (composing behind p).fr.cfn b (bandPixels (composing behind p) hbm (composing behind p).fr.cfn b) (composing behind p),
      writeBand (composing behind p).fr.cfn b 0 (bandPixels (composing behind p) hbm (composing behind p).fr.cfn b) hbm))
  obtain ⟨-, hcfg2, hinp2, -, hcomp2, -⟩ := Part.groups_of_offPair (bandDone_offPair (composing behind p).fr.cfn b
    (bandPixels (composing behind p) hbm (composing behind p).fr.cfn b) (composing behind p))
  obtain ⟨-, hcfg1, hinp1, -⟩ := Part.groups_of_offComp ((bandLocal_offComp (composing behind p).fr.cfn b
    (bandPixels (composing behind p) hbm (composing behind p).fr.cfn b) (composing behind p)).trans (composing_offComp behind p))
  obtain ⟨hdone1, -⟩ := bandLocal_comp (composing behind p).fr.cfn b
    (bandPixels (composing behind p) hbm (composing behind p).fr.cfn b) (composing behind p)
  rw [composing_done] at hdone1
  exact ⟨by rw [hcomp4]; exact hdone3.trans ((congrArg Comp.done hcomp2).trans hdone1),
    hcfg4.trans (hcfg3.trans (hcfg2.trans hcfg1)), hinp4.trans (hinp3.trans (hinp2.trans hinp1))⟩

/-- With the window shut and both links down, the band is composed into the frame's buffer and nothing beside it happens. -/
theorem bandStep_alone {p : Part} (hlinks : anyLinkUp p = false) (hshut : p.light.opened = false) (b : Nat) (behind : Bool) (hbm : Memory) :
    bandCompared b (bandStep b behind p hbm).1 = bandLocal (composing behind p).fr.cfn b
        (bandPixels (composing behind p) hbm (composing behind p).fr.cfn b) (composing behind p) ∧
      (bandStep b behind p hbm).2 =
        writeBand (composing behind p).fr.cfn b 0 (bandPixels (composing behind p) hbm (composing behind p).fr.cfn b) hbm := by
  have hlinksOf : ∀ {q r : Part}, q.offComp = r.offComp → anyLinkUp q = anyLinkUp r := fun h => by
    obtain ⟨-, -, -, -, -, -, -, hpair, -⟩ := Part.groups_of_offComp h
    rw [anyLinkUp, anyLinkUp, Part.pairLink, Part.pairLink, hpair]; rfl
  have hlinks' : anyLinkUp (composing behind p) = false := (hlinksOf (composing_offComp behind p)).trans hlinks
  simp only [bandStep, hshut, scanFollows, Bool.false_eq_true, if_false, bandDone_alone hlinks', and_true]
  rw [bandCompared, if_neg]
  rw [hlinksOf (bandLocal_offComp ..), hlinks']
  exact Bool.false_ne_true

end Sys2Proof.Machine

open Sys2Proof Sys2Proof.Machine

/-- Settles O48: a composed band step by step, from scan-out up to it to its comparison, through what each step leaves. -/
theorem bandsComposed : Obligations.BandsComposed := by
  unfold Obligations.BandsComposed
  refine ⟨?anyState, fun t b s hlinks hshut hrest => ?atRest⟩
  case anyState =>
    intro t b behind s hopen
    obtain ⟨hdone, hcfg, hinp⟩ := bandStep_keeps b behind (scanTo s.hbm t (advance t s.m)) s.hbm
    obtain ⟨-, -, -, -, hcfg', hinp', -, hdone', -⟩ := Part.groups_of_offScan (scanTo_offScan s.hbm t (advance t s.m))
    exact ⟨_, exec_bandComposed_open hopen, hdone.trans (by rw [hdone']; rfl), hcfg.trans hcfg', hinp.trans hinp', rfl, rfl⟩
  case atRest =>
    have hidle : scanTo s.hbm t (advance t s.m) = advance t s.m := scanTo_idle (p := advance t s.m) hrest s.hbm t
    have hexec : ∀ behind, bandOpen b behind (advance t s.m) = true → exec (.bandComposed t b behind) s = .next { s with
        m := bandLocal (composing behind (advance t s.m)).fr.cfn b (bandPixels (composing behind (advance t s.m)) s.hbm
          (composing behind (advance t s.m)).fr.cfn b) (composing behind (advance t s.m))
        hbm := writeBand (composing behind (advance t s.m)).fr.cfn b 0 (bandPixels (composing behind (advance t s.m)) s.hbm
          (composing behind (advance t s.m)).fr.cfn b) s.hbm } := fun behind h => by
      obtain ⟨hpart, hmem⟩ := bandStep_alone (p := advance t s.m) hlinks hshut b behind s.hbm
      rw [exec_bandComposed_open h, hidle, hpart, hmem]
    refine ⟨?composed, ?fallsBehind, ?waits, ?once⟩
    case composed =>
      intro hopen
      obtain ⟨htxn, hcfg, hinp, hfr, -, hkl, htb, -, hhrt, hfab⟩ := Part.groups_of_offComp
        (bandLocal_offComp s.m.fr.cfn b (bandPixels (advance t s.m) s.hbm s.m.fr.cfn b) (advance t s.m))
      obtain ⟨hdone, hplots, -⟩ := bandLocal_comp s.m.fr.cfn b (bandPixels (advance t s.m) s.hbm s.m.fr.cfn b) (advance t s.m)
      exact ⟨_, hexec false hopen, hdone, rfl, (congrArg (Tab.get? · b) hplots).trans (by simp), hcfg, htxn, hinp, hfr, hkl, htb, hhrt,
        hfab, rfl, rfl⟩
    case fallsBehind =>
      intro hmode hfirst hopen
      obtain ⟨hbehind, hpend⟩ := fallBehind_first (p := advance t s.m) hmode hfirst
      obtain ⟨htxn, hcfg, hinp, hfr, -, hkl, -⟩ := Part.groups_of_offComp
        ((bandLocal_offComp (fallBehind (advance t s.m)).fr.cfn b (bandPixels (fallBehind (advance t s.m)) s.hbm
          (fallBehind (advance t s.m)).fr.cfn b) (fallBehind (advance t s.m))).trans (fallBehind_offComp (advance t s.m)))
      obtain ⟨hdone, -, hmark⟩ := bandLocal_comp (fallBehind (advance t s.m)).fr.cfn b (bandPixels (fallBehind (advance t s.m)) s.hbm
        (fallBehind (advance t s.m)).fr.cfn b) (fallBehind (advance t s.m))
      exact ⟨_, hexec true hopen, hdone.trans (by rw [fallBehind_done]; rfl), hmark.trans hbehind,
        bandLocal_keeps_pend (by decide) _ _ _ hpend, hcfg, htxn, hinp, hfr, hkl, rfl⟩
    case waits =>
      intro hmode hfirst hlines halive
      have hlines' : linesThere (advance t s.m) b = false := (linesThere_advance ..).trans hlines
      exact exec_bandComposed_shut halive (by simp [bandOpen, hmode, hfirst, hlines'])
    case once =>
      rintro c w halive rfl
      exact exec_bandComposed_shut halive (by simp [bandOpen])

end

section

/-! ## What leaves the frame count alone

One frame rule per function that the frame event and the root lock's commands run and that writes no register of `Part.fr`:
`(f p).fr = p.fr`. Where an observer of the sections above says more, the rule is read off it. -/

namespace Sys2Proof.Machine
open Sys2Proof

theorem Part.fr_of_offLight {p q : Part} (h : p.offLight = q.offLight) : p.fr = q.fr :=
  (congrArg Part.fr h : p.offLight.fr = q.offLight.fr)

@[simp] theorem foldl_fr {α : Type} {f : Part → α → Part} (h : ∀ p a, (f p a).fr = p.fr) (l : List α) (p : Part) :
    (l.foldl f p).fr = p.fr :=
  foldl_keeps Part.fr h l p

theorem ite_fr {c : Prop} [Decidable c] (p q : Part) : (if c then p else q).fr = if c then p.fr else q.fr := apply_ite ..

/-! ### Counters and the pair's messages -/

@[simp] theorem perfSync_fr (p : Part) : (perfSync p).fr = p.fr := Part.fr_of_offPair (perfSync_offPair ..)

@[simp] theorem takeSnapshot_fr (p : Part) : (takeSnapshot p).fr = p.fr := by simp [takeSnapshot]

@[simp] theorem toPartner_fr (cfn : Nat) (x : PairBody) (p : Part) : (toPartner cfn x p).fr = p.fr :=
  Part.fr_of_offPair (toPartner_offPair ..)

@[simp] theorem writeJournal_fr (cfn : Nat) (txn : Half) (tag : Word) (body : JournalBody) (p : Part) :
    (writeJournal cfn txn tag body p).fr = p.fr :=
  Part.fr_of_offPair (writeJournal_offPair ..)

/-! ### Streams, converters and fences -/

@[simp] theorem updConv_fr (n : Nat) (f : FrcRt → FrcRt) (p : Part) : (updConv n f p).fr = p.fr := by simp [updConv]

@[simp] theorem frcFrameEvent_fr (fe : Nat) (f : VideoFormat) (p : Part) (conv : Nat) : (frcFrameEvent fe f p conv).fr = p.fr := by
  unfold frcFrameEvent
  extract_lets c r shed started p0 tout
  have h0 : p0.fr = p.fr := by
    unfold p0
    split <;> simp
  split
  · exact h0
  · split
    · dsimp only
      split <;> simp [h0]
    · dsimp only
      split <;> simp [h0]

@[simp] theorem frcRestart_fr (conv : Nat) (p : Part) : (frcRestart conv p).fr = p.fr := by simp [frcRestart]

@[simp] theorem updStream_fr (n : Nat) (f : StreamRt → StreamRt) (p : Part) : (updStream n f p).fr = p.fr := by simp [updStream]

@[simp] theorem streamRestored_fr (n : Nat) (p : Part) : (streamRestored n p).fr = p.fr := by
  unfold streamRestored
  extract_lets st now fmt changed p1 p2 p3
  have h2 : p2.fr = p.fr := by
    unfold p2
    split <;> simp [p1]
  split <;> simp [p3, h2]

@[simp] theorem returnStep_fr (p : Part) (n : Nat) : (returnStep p n).fr = p.fr := by
  unfold returnStep
  split <;> simp

@[simp] theorem showSlot_fr (n : Nat) (fenced first : Bool) (e : Nat × Slot) (p : Part) :
    (showSlot n fenced first e p).fr = p.fr :=
  by simp [showSlot]

@[simp] theorem updGroupRt_fr (g : Nat) (f : GroupRt → GroupRt) (p : Part) : (updGroupRt g f p).fr = p.fr := by simp [updGroupRt]

@[simp] theorem showNewestTag_fr (fe : Nat) (ok : Word → Bool) (p : Part) (n : Nat) : (showNewestTag fe ok p n).fr = p.fr := by
  unfold showNewestTag
  split <;> simp

@[simp] theorem fenceRejoin_fr (fe : Nat) (p : Part) (n : Nat) : (fenceRejoin fe p n).fr = p.fr := by
  unfold fenceRejoin
  dsimp only
  split
  · rfl
  · split
    · split
      · split <;> simp
      · rfl
    · split
      · split <;> simp
      · rfl

@[simp] theorem fenceRepeats_fr (before after : Part) (ms : List Nat) : (fenceRepeats before after ms).fr = after.fr :=
  by simp [fenceRepeats, ite_fr]

@[simp] theorem fenceDecide_fr (fe : Nat) (p : Part) (g : Nat) : (fenceDecide fe p g).fr = p.fr := by
  unfold fenceDecide
  extract_lets +onlyGivenNames ms top p0 gr p1 tags held common
  have h0 : p0.fr = p.fr := by
    unfold p0
    generalize top = t
    split
    · split <;> simp
    · rfl
  have h1 : p1.fr = p.fr := by
    unfold p1
    split <;> simp [h0]
  generalize common = t
  split
  · simp [h1]
  · split
    · simp [h1]
    · dsimp only
      split <;> simp [h1]

@[simp] theorem fenceTimeout_fr (fe g : Nat) (before p : Part) : (fenceTimeout fe g before p).fr = p.fr := by
  obtain ⟨_, h⟩ := fenceTimeout_offStreams fe g before p
  obtain ⟨-, -, -, hfr, -⟩ := Part.groups_of_offStreams h
  exact hfr

@[simp] theorem syncDecide_fr (fe n : Nat) (p : Part) : (syncDecide fe n p).fr = p.fr := by
  unfold syncDecide
  dsimp only
  split
  · simp
  · split <;> simp

@[simp] theorem lossDecide_fr (n : Nat) (p : Part) : (lossDecide n p).fr = p.fr := by
  unfold lossDecide
  dsimp only
  split <;> simp

@[simp] theorem incompleteCount_fr (n : Nat) (p : Part) : (incompleteCount n p).fr = p.fr := by
  unfold incompleteCount
  split <;> simp

@[simp] theorem streamFrameEvent_fr (fe : Nat) (p : Part) (n : Nat) : (streamFrameEvent fe p n).fr = p.fr := by
  unfold streamFrameEvent
  dsimp only
  split
  · simp
  · split <;> simp

@[simp] theorem convFrameEvent_fr (fe : Nat) (p : Part) (e : Nat × FrcCfg) : (convFrameEvent fe p e).fr = p.fr := by
  unfold convFrameEvent
  split
  · rfl
  · split
    · rfl
    · split
      · rfl
      · dsimp only
        split
        · simp
        · split <;> simp

@[simp] theorem membershipChange_fr (old new : Cfg) (p : Part) : (membershipChange old new p).fr = p.fr :=
  by simp [membershipChange]

/-! ### Monitor outputs -/

@[simp] theorem updPtp_fr (f : PtpRt → PtpRt) (p : Part) : (updPtp f p).fr = p.fr := by simp [updPtp]

@[simp] theorem updMon_fr (n : Nat) (f : MonRt → MonRt) (p : Part) : (updMon n f p).fr = p.fr := by simp [updMon]

@[simp] theorem monitorCapture_fr (hbm : Memory) (old : Cfg) (first : Bool) (p : Part) :
    (monitorCapture hbm old first p).fr = p.fr :=
  by simp [monitorCapture, ite_fr]

@[simp] theorem monitorDue_fr (fe : Nat) (p : Part) : (monitorDue fe p).fr = p.fr := by simp [monitorDue]

/-! ### Furrows, tiles and feeders -/

@[simp] theorem updTile_fr (f pos : Nat) (g : TileRt → TileRt) (p : Part) : (updTile f pos g p).fr = p.fr := by simp [updTile]

@[simp] theorem updLane_fr (f : Nat) (g : Lane → Lane) (p : Part) : (updLane f g p).fr = p.fr := by simp [updLane]

@[simp] theorem setMark_fr (f pos : Nat) (p : Part) : (setMark f pos p).fr = p.fr := by simp [setMark]

@[simp] theorem setMarks_fr (ok : Nat → Nat → TileEntry → Bool) (p : Part) : (setMarks ok p).fr = p.fr := by simp [setMarks]

@[simp] theorem supplyFixed_fr (p : Part) : (supplyFixed p).fr = p.fr := by simp [supplyFixed]

@[simp] theorem feedersDone_fr (p : Part) : (feedersDone p).fr = p.fr := Part.fr_of_offLight (feedersDone_offLight ..)

@[simp] theorem feederFrameEvent_fr (p : Part) (k : Nat) : (feederFrameEvent p k).fr = p.fr := by simp [feederFrameEvent, ite_fr]

@[simp] theorem derateFrameEvent_fr (p : Part) : (derateFrameEvent p).fr = p.fr := by simp [derateFrameEvent, ite_fr]

@[simp] theorem ledgerSchedule_fr (p : Part) : (ledgerSchedule p).fr = p.fr := by simp [ledgerSchedule]

@[simp] theorem flipBanks_fr (foot : List (Nat × Nat)) (p : Part) : (flipBanks foot p).fr = p.fr := by simp [flipBanks]

@[simp] theorem laneCount_fr (f idx : Nat) (p : Part) : (laneCount f idx p).fr = p.fr := by simp [laneCount]

@[simp] theorem updLink_fr (f key : Nat) (g : LinkSt → LinkSt) (p : Part) : (updLink f key g p).fr = p.fr := by simp [updLink]

@[simp] theorem ctrlqFull_fr (f : Nat) (p : Part) : (ctrlqFull f p).fr = p.fr := by simp [ctrlqFull]

@[simp] theorem queueCtrl_fr (f : Nat) (c : Ctrl) (p : Part) : (queueCtrl f c p).fr = p.fr := by
  unfold queueCtrl
  split <;> simp

@[simp] theorem queueQuery_fr (f pos : Nat) (p : Part) : (queueQuery f pos p).fr = p.fr := by simp [queueQuery]

@[simp] theorem setUncertain_fr (f : Nat) (p : Part) : (setUncertain f p).fr = p.fr := by
  unfold setUncertain
  dsimp only
  split
  · rfl
  · split <;> simp

@[simp] theorem checkUncertain_fr (f : Nat) (p : Part) : (checkUncertain f p).fr = p.fr := by
  unfold checkUncertain
  dsimp only
  split <;> simp

@[simp] theorem beginStep_fr (f pos level cfn : Nat) (due : Option Nat) (p : Part) :
    (beginStep f pos level cfn due p).fr = p.fr :=
  by simp [beginStep]

@[simp] theorem supplyFrameEvent_fr (fe : Nat) (p : Part) : (supplyFrameEvent fe p).fr = p.fr := by
  unfold supplyFrameEvent
  refine (foldl_fr (fun r f => checkUncertain_fr f r) _ _).trans (foldl_fr (fun q e => ?_) _ p)
  extract_lets t q1
  have h1 : q1.fr = q.fr := by
    unfold q1
    split <;> simp
  split
  · split
    · simp [h1]
    · split <;> simp [h1]
  · exact h1

@[simp] theorem setLatch_fr (f pos : Nat) (hop : Option Nat) (oneway : Int) (p : Part) :
    (setLatch f pos hop oneway p).fr = p.fr := by
  unfold setLatch
  dsimp only
  split <;> simp

@[simp] theorem setLatchAll_fr (p : Part) : (setLatchAll p).fr = p.fr := by simp [setLatchAll]

@[simp] theorem hopCtrl_fr (f hop op : Nat) (reply : Bool) (payload : List Byte) (why : Purpose) (p : Part) :
    (hopCtrl f hop op reply payload why p).fr = p.fr :=
  by simp [hopCtrl]

@[simp] theorem enumHop_fr (f hop found : Nat) (asymSum : Int) (p : Part) : (enumHop f hop found asymSum p).fr = p.fr :=
  by simp [enumHop]

@[simp] theorem startEnum_fr (f hop : Nat) (p : Part) : (startEnum f hop p).fr = p.fr := by
  unfold startEnum
  split
  · rfl
  · split
    · split <;> simp
    · simp

@[simp] theorem toState_fr (f st : Nat) (p : Part) : (toState f st p).fr = p.fr := by
  unfold toState
  dsimp only
  split
  · simp
  · split <;> simp

@[simp] theorem laneLeaves_fr (f st : Nat) (p : Part) : (laneLeaves f st p).fr = p.fr := by
  unfold laneLeaves
  dsimp only
  split <;> simp

@[simp] theorem laneFollows_fr (f : Nat) (p : Part) : (laneFollows f p).fr = p.fr := by simp [laneFollows, ite_fr]

@[simp] theorem clearTile_fr (f pos : Nat) (p : Part) : (clearTile f pos p).fr = p.fr := by simp [clearTile]

/-! ### Replies, the lighting stage and applied furrows -/

@[simp] theorem sendReply_fr (r : Reply) (p : Part) : (sendReply r p).fr = p.fr := Part.fr_of_offPair (sendReply_offPair ..)

@[simp] theorem finalReply_fr (tag : Word) (st : Nat) (params : List Byte) (p : Part) : (finalReply tag st params p).fr = p.fr :=
  Part.fr_of_offPair (finalReply_offPair ..)

@[simp] theorem sendHeld_fr (p : Part) : (sendHeld p).fr = p.fr := by simp [sendHeld]

@[simp] theorem finalCommit_fr (tag : Word) (st cfn : Nat) (more : List Byte) (p : Part) :
    (finalCommit tag st cfn more p).fr = p.fr :=
  by simp [finalCommit]

@[simp] theorem finalError_fr (tag : Word) (st : Nat) (p : Part) : (finalError tag st p).fr = p.fr :=
  Part.fr_of_offPair (finalError_offPair ..)

@[simp] theorem lightStage_fr (s : Both) : (lightStage s).1.fr = s.1.fr := Part.fr_of_offLight (lightStage_offLight ..)

@[simp] theorem scanClose_fr (hbm : Memory) (p : Part) : (scanClose hbm p).fr = p.fr := Part.fr_of_offScan (scanClose_offScan ..)

@[simp] theorem estimatesDone_fr (s : Both) : (estimatesDone s).1.fr = s.1.fr := Part.fr_of_offLight (estimatesDone_offLight ..)

@[simp] theorem resendLoss_fr (f : Nat) (p : Part) : (resendLoss f p).fr = p.fr := by simp [resendLoss]

@[simp] theorem entryApplied_fr (fe f : Nat) (old new : Tab TileEntry) (p : Part) (pos : Nat) :
    (entryApplied fe f old new p pos).fr = p.fr := by
  unfold entryApplied
  split
  · simp [ite_fr]
  · simp
  · simp
  · rfl

@[simp] theorem furrowApplied_fr (fe : Nat) (old : Cfg) (p : Part) (f : Nat) : (furrowApplied fe old p f).fr = p.fr :=
  by simp [furrowApplied, ite_fr]

/-! ### Audio -/

@[simp] theorem updChan_fr (k : Nat) (f : Chan → Chan) (p : Part) : (updChan k f p).fr = p.fr := by simp [updChan]

@[simp] theorem updAudPort_fr (n : Nat) (f : AudPort → AudPort) (p : Part) : (updAudPort n f p).fr = p.fr := by simp [updAudPort]

@[simp] theorem updDom_fr (d : Nat) (f : AudDom → AudDom) (p : Part) : (updDom d f p).fr = p.fr := by simp [updDom]

@[simp] theorem chanTakes_fr (muted : Bool) (d channel : Nat) (x : AudSample) (p : Part) (k : Nat) :
    (chanTakes muted d channel x p k).fr = p.fr :=
  by simp [chanTakes]

@[simp] theorem domainBack_fr (d : Nat) (p : Part) : (domainBack d p).fr = p.fr := by
  unfold domainBack
  split <;> simp

@[simp] theorem routerTakes_fr (d channel : Nat) (x : AudSample) (p : Part) : (routerTakes d channel x p).fr = p.fr :=
  by simp [routerTakes]

@[simp] theorem flushEarly_fr (d : Nat) (p : Part) : (flushEarly d p).fr = p.fr := by simp [flushEarly]

@[simp] theorem flushAll_fr (p : Part) : (flushAll p).fr = p.fr := by simp [flushAll]

@[simp] theorem portStops_fr (n : Nat) (p : Part) : (portStops n p).fr = p.fr := by
  unfold portStops
  dsimp only
  split <;> simp

@[simp] theorem chanFollows_fr (lv k : Nat) (p : Part) : (chanFollows lv k p).fr = p.fr := by simp [chanFollows, ite_fr]

@[simp] theorem gainFollows_fr (k : Nat) (p : Part) : (gainFollows k p).fr = p.fr := by
  unfold gainFollows
  dsimp only
  split <;> simp

@[simp] theorem chanFrameEvent_fr (old : Cfg) (p : Part) (k : Nat) : (chanFrameEvent old p k).fr = p.fr := by
  unfold chanFrameEvent
  dsimp only
  split <;> simp

@[simp] theorem portFollows_fr (p : Part) (n : Nat) : (portFollows p n).fr = p.fr := by
  unfold portFollows
  dsimp only
  split
  · split <;> simp
  · simp

@[simp] theorem audioFrameEvent_fr (prevFe fe : Nat) (old : Cfg) (p0 : Part) : (audioFrameEvent prevFe fe old p0).fr = p0.fr :=
  by simp [audioFrameEvent]

/-! ### The timebase -/

@[simp] theorem updSlotRt_fr (k : Nat) (f : SlotRt → SlotRt) (p : Part) : (updSlotRt k f p).fr = p.fr := by simp [updSlotRt]

@[simp] theorem setW_fr (v : Int) (p : Part) : (setW v p).fr = p.fr := by simp [setW]

@[simp] theorem rampW_fr (v : Int) (p : Part) : (rampW v p).fr = p.fr := by simp [rampW]

@[simp] theorem steerInForce_fr (p : Part) : (steerInForce p).fr = p.fr := by simp [steerInForce]

@[simp] theorem bankValue_fr (p : Part) : (bankValue p).fr = p.fr := by
  unfold bankValue
  dsimp only
  split
  · simp
  · split <;> simp

@[simp] theorem enterTb_fr (st : TbState) (p : Part) : (enterTb st p).fr = p.fr := by simp [enterTb]

@[simp] theorem leaveSlot_fr (p : Part) : (leaveSlot p).fr = p.fr := by simp [leaveSlot]

@[simp] theorem checkClamp_fr (k : Nat) (p : Part) : (checkClamp k p).fr = p.fr := by
  unfold checkClamp
  split <;> simp

@[simp] theorem takeSlot_fr (k : Nat) (p : Part) : (takeSlot k p).fr = p.fr := by
  unfold takeSlot
  dsimp only
  split <;> simp

@[simp] theorem reselect_fr (p : Part) : (reselect p).fr = p.fr := by
  unfold reselect
  split
  · rfl
  · split
    · simp
    · split <;> simp
    · split <;> simp
    · split <;> simp
    · rfl

@[simp] theorem takeNamed_fr (p : Part) : (takeNamed p).fr = p.fr := by
  unfold takeNamed
  split
  · rfl
  · extract_lets rests p1
    have h1 : p1.fr = p.fr := by
      unfold p1
      split <;> simp
    split
    · split <;> simp [h1]
    · simp [h1]

@[simp] theorem checkSlot_fr (k : Nat) (p : Part) : (checkSlot k p).fr = p.fr := by simp [checkSlot]

@[simp] theorem updCou_fr (k : Nat) (f : CouRt → CouRt) (p : Part) : (updCou k f p).fr = p.fr := by simp [updCou]

@[simp] theorem couFollows_fr (p : Part) : (couFollows p).fr = p.fr := by simp [couFollows, ite_fr]

@[simp] theorem couAligns_fr (fe k : Nat) (p : Part) : (couAligns fe k p).fr = p.fr := by simp [couAligns]

@[simp] theorem couFrameEvent_fr (moved : Bool) (fe : Nat) (p : Part) : (couFrameEvent moved fe p).fr = p.fr :=
  by simp [couFrameEvent, ite_fr]

@[simp] theorem buildBands_fr (plan : Int) (p : Part) : (buildBands plan p).fr = p.fr := by simp [buildBands]

@[simp] theorem bandsFollow_fr (p : Part) : (bandsFollow p).fr = p.fr := by simp [bandsFollow, ite_fr]

@[simp] theorem marginFollows_fr (p : Part) : (marginFollows p).fr = p.fr := by
  unfold marginFollows
  split <;> simp

@[simp] theorem tbFrameEvent_fr (p : Part) : (tbFrameEvent p).fr = p.fr := by simp [tbFrameEvent]

@[simp] theorem entersSteered_fr (w : Int) (p : Part) : (entersSteered w p).fr = p.fr := by simp [entersSteered]

@[simp] theorem afterSearch_fr (p : Part) : (afterSearch p).fr = p.fr := by
  unfold afterSearch
  dsimp only
  split
  · simp
  · split <;> simp

@[simp] theorem rootLockLost_fr (pt : Part) : (rootLockLost pt).fr = pt.fr := by
  unfold rootLockLost
  dsimp only
  split <;> simp

/-! ### Root lock and swaps -/

@[simp] theorem releaseTenure_fr (p : Part) : (releaseTenure p).fr = p.fr := Part.fr_of_offPair (releaseTenure_offPair ..)

@[simp] theorem becomeUnsynced_fr (p : Part) : (becomeUnsynced p).fr = p.fr := by simp [becomeUnsynced]

@[simp] theorem yieldHead_fr (p : Part) : (yieldHead p).fr = p.fr := Part.fr_of_offPair (yieldHead_offPair ..)

@[simp] theorem unyield_fr (p : Part) : (unyield p).fr = p.fr := by
  unfold unyield
  split <;> simp

@[simp] theorem kindlingStops_fr (cause : Nat) (p : Part) : (kindlingStops cause p).fr = p.fr := by simp [kindlingStops]

@[simp] theorem bandFails_fr (p : Part) : (bandFails p).fr = p.fr := by
  unfold bandFails
  dsimp only
  split
  · split <;> simp
  · split <;> simp

@[simp] theorem xoFails_fr (p : Part) : (xoFails p).fr = p.fr := by
  unfold xoFails
  dsimp only
  split <;> simp

@[simp] theorem abortFrame_fr (n : Nat) (p : Part) : (abortFrame n p).fr = p.fr := by
  unfold abortFrame
  split <;> simp

@[simp] theorem swapCost_fr (s : Swap) (p : Part) : (swapCost s p).fr = p.fr := by
  unfold swapCost
  split
  · rfl
  · split <;> simp

@[simp] theorem startSwap_fr (s : Swap) (p : Part) : (startSwap s p).fr = p.fr := by
  unfold startSwap
  split <;> simp

@[simp] theorem degradedUnit_fr (k : UnitKind) (logical : Nat) (p : Part) : (degradedUnit k logical p).fr = p.fr := by
  unfold degradedUnit
  split <;> simp

@[simp] theorem unanswered_fr (tag : Option Word) (p : Part) : (unanswered tag p).fr = p.fr := by
  unfold unanswered
  split <;> simp

@[simp] theorem irreplaceable_fr (k : UnitKind) (logical : Nat) (p : Part) : (irreplaceable k logical p).fr = p.fr := by
  unfold irreplaceable
  dsimp only
  split <;> simp

@[simp] theorem noSpare_fr (s : Swap) (p : Part) : (noSpare s p).fr = p.fr := by
  unfold noSpare
  split <;> simp

@[simp] theorem plannedSwap_fr (k : UnitKind) (logical : Nat) (p : Part) : (plannedSwap k logical p).fr = p.fr := by
  unfold plannedSwap
  dsimp only
  split
  · rfl
  · split <;> simp

@[simp] theorem plannedFrameEvent_fr (p : Part) : (plannedFrameEvent p).fr = p.fr := by simp [plannedFrameEvent]

/-! ### Loads, commits and gates -/

@[simp] theorem loadFinal_fr (l : Load) (st cfn : Nat) (p : Part) : (loadFinal l st cfn p).fr = p.fr := by simp [loadFinal]

@[simp] theorem dropLoad_fr (l : Load) (p : Part) : (dropLoad l p).fr = p.fr := by simp [dropLoad]

@[simp] theorem loadsApply_fr (p : Part) : (loadsApply p).fr = p.fr := by simp [loadsApply, ite_fr]

@[simp] theorem wearDone_fr (p : Part) : (wearDone p).fr = p.fr := by
  unfold wearDone
  refine foldl_fr (fun q j => ?_) _ p
  dsimp only
  split <;> simp

@[simp] theorem streamsApplied_fr (old : Cfg) (cmds : List ConfigCmd) (p : Part) : (streamsApplied old cmds p).fr = p.fr :=
  by simp [streamsApplied, ite_fr]

@[simp] theorem groupsApplied_fr (old : Cfg) (p : Part) : (groupsApplied old p).fr = p.fr := by simp [groupsApplied, ite_fr]

@[simp] theorem convertersApplied_fr (old : Cfg) (p : Part) : (convertersApplied old p).fr = p.fr :=
  by simp [convertersApplied, ite_fr]

@[simp] theorem typesApplied_fr (old : Cfg) (cmds : List ConfigCmd) (p : Part) : (typesApplied old cmds p).fr = p.fr :=
  by simp [typesApplied]

@[simp] theorem slateApplied_fr (old : Cfg) (cmds : List ConfigCmd) (p : Part) : (slateApplied old cmds p).fr = p.fr :=
  by simp [slateApplied]

@[simp] theorem outputsApplied_fr (old : Cfg) (p : Part) : (outputsApplied old p).fr = p.fr := by
  unfold outputsApplied
  split <;> simp

@[simp] theorem commitStands_fr (n : Nat) (p : Part) (x : Commit) : (commitStands n p x).fr = p.fr := by
  unfold commitStands
  split <;> simp

@[simp] theorem gateLeaves_fr (x : Commit) (st cfn : Nat) (p : Part) : (gateLeaves x st cfn p).fr = p.fr :=
  Part.fr_of_offPair (gateLeaves_offPair ..)

@[simp] theorem gateOpens_fr (p : Part) (x : Commit) : (gateOpens p x).fr = p.fr := by simp [gateOpens]

@[simp] theorem gateTimesOut_fr (p : Part) (x : Commit) : (gateTimesOut p x).fr = p.fr :=
  Part.fr_of_offPair (gateTimesOut_offPair ..)

@[simp] theorem gateWithdrawn_fr (p : Part) (x : Commit) : (gateWithdrawn p x).fr = p.fr := by
  unfold gateWithdrawn
  split <;> simp

@[simp] theorem gatesWithdraw_fr (p : Part) : (gatesWithdraw p).fr = p.fr := by simp [gatesWithdraw]

@[simp] theorem gatesStep_fr (p : Part) : (gatesStep p).fr = p.fr := by
  unfold gatesStep
  split <;> simp

@[simp] theorem fencesStep_fr (fe : Nat) (p : Part) : (fencesStep fe p).fr = p.fr := by simp [fencesStep, ite_fr]

/-! ### The slate -/

@[simp] theorem slateInputs_fr (p : Part) : (slateInputs p).fr = p.fr := by simp [slateInputs]

@[simp] theorem slatePin_fr (p : Part) : (slatePin p).fr = p.fr := by
  unfold slatePin
  split <;> simp

@[simp] theorem slateOn_fr (p : Part) : (slateOn p).fr = p.fr := by simp [slateOn]

@[simp] theorem slateOff_fr (p : Part) : (slateOff p).fr = p.fr := by simp [slateOff]

@[simp] theorem slateComes_fr (cause : Nat) (p : Part) : (slateComes cause p).fr = p.fr := by simp [slateComes]

@[simp] theorem slateStep_fr (p : Part) : (slateStep p).fr = p.fr := by
  unfold slateStep
  dsimp only
  split
  · split <;> simp
  · split
    · split <;> simp
    · simp [ite_fr]

/-! ### The steps of a frame event -/

@[simp] theorem frameEnds_fr (s : Both) : (frameEnds s).1.fr = s.1.fr := by
  unfold frameEnds
  extract_lets closed ended
  have hclosed : closed.1.fr = s.1.fr := scanClose_fr s.2 s.1
  have hended : ended.1.fr = closed.1.fr := by
    unfold ended
    split
    · exact estimatesDone_fr closed
    · rfl
  exact (Part.updLight_fr ..).trans (hended.trans hclosed)

@[simp] theorem lightStep_fr (p : Part) : (lightStep p).fr = p.fr :=
  (derateFrameEvent_fr _).trans (foldl_fr feederFrameEvent_fr _ p)

@[simp] theorem shedStep_fr (p : Part) : (shedStep p).fr = p.fr := by
  unfold shedStep
  dsimp only
  split <;> simp

@[simp] theorem composeStarts_fr (old : CanvasCfg) (first fresh : Bool) (p : Part) :
    (composeStarts old first fresh p).fr = p.fr :=
  by simp [composeStarts]

@[simp] theorem sowTenure_fr (p : Part) : (sowTenure p).fr = p.fr := by
  unfold sowTenure
  extract_lets +onlyGivenNames n
  generalize n = cfn
  split
  · refine foldl_fr (fun q f => ?_) _ p
    extract_lets r
    have hr : r.fr = q.fr := (emit_fr ..).trans (updLane_fr ..)
    split
    · exact hr
    · exact (emit_fr ..).trans hr
  · rfl

@[simp] theorem becomeReady_fr (p : Part) : (becomeReady p).fr = p.fr := by
  unfold becomeReady
  split
  · rfl
  · exact (raise_fr ..).trans (Part.updSys_fr ..)

@[simp] theorem joinStep_fr (p : Part) : (joinStep p).fr = p.fr := by
  unfold joinStep
  split <;> simp

@[simp] theorem witnessStep_fr (p : Part) : (witnessStep p).fr = p.fr := by simp [witnessStep]

@[simp] theorem takeShown_fr (p : Part) (e : SyncEntry) : (takeShown p e).fr = p.fr := by
  unfold takeShown
  extract_lets p1
  have h1 : p1.fr = p.fr := by
    unfold p1
    split <;> simp
  split <;> simp [h1]

@[simp] theorem gatesCorrect_fr (n : Nat) (p : Part) : (gatesCorrect n p).fr = p.fr := by
  unfold gatesCorrect
  dsimp only
  split
  · split <;> simp
  · rfl

@[simp] theorem lateStep_fr (p : Part) : (lateStep p).fr = p.fr := by
  unfold lateStep
  split
  · rfl
  · simp [ite_fr]

@[simp] theorem yieldStep_fr (p : Part) : (yieldStep p).fr = p.fr := by
  unfold yieldStep
  split <;> simp

@[simp] theorem syncStep_fr (p : Part) : (syncStep p).fr = p.fr := by
  unfold syncStep
  split <;> simp

@[simp] theorem pairFrame_fr (p : Part) : (pairFrame p).fr = p.fr := by simp [pairFrame]

@[simp] theorem middleSteps_fr (prevFe fe : Nat) (old : Cfg) (p : Part) : (middleSteps prevFe fe old p).fr = p.fr :=
  by simp [middleSteps]

@[simp] theorem lastSteps_fr (hbm : Memory) (fe : Nat) (old : Cfg) (first fresh : Bool) (p : Part) :
    (lastSteps hbm fe old first fresh p).fr = p.fr := by
  unfold lastSteps
  dsimp only
  split <;> simp

end Sys2Proof.Machine

end

section

/-! ## The CFN through the root lock's commands and the frame event (R20)

`Frames.place` is what R20 speaks of. The functions that write the raster's registers at all (phase steps, the raster's
origin) keep it, so only `cfnAdvances` moves the CFN. -/

namespace Sys2Proof.Machine
open Sys2Proof

/-- Where the frame count stands: the CFN, whether its frame event is still to come, and whether the raster has started. -/
def Frames.place (f : Frames) : Nat × Bool × Bool := (f.cfn, f.first, f.started)

theorem Frames.place_eq_iff {f g : Frames} :
    f.place = g.place ↔ f.cfn = g.cfn ∧ f.first = g.first ∧ f.started = g.started := by
  simp [Frames.place]

theorem ite_place {c : Prop} [Decidable c] (p q : Part) :
    (if c then p else q).fr.place = if c then p.fr.place else q.fr.place :=
  apply_ite (fun r : Part => r.fr.place) ..

@[simp] theorem foldl_place {α : Type} {f : Part → α → Part} (h : ∀ p a, (f p a).fr.place = p.fr.place) (l : List α) (p : Part) :
    (l.foldl f p).fr.place = p.fr.place :=
  foldl_keeps (fun r : Part => r.fr.place) h l p

/-! ### Phase steps and the raster's origin -/

@[simp] theorem ownStep_place (e : Int) (p : Part) : (ownStep e p).fr.place = p.fr.place := rfl

@[simp] theorem reportStep_place (e : Int) (p : Part) : (reportStep e p).fr.place = p.fr.place := by
  obtain ⟨-, -, -, -, hplace⟩ := Part.groups_of_offStep (reportStep_offStep e p)
  exact Frames.place_eq_iff.2 hplace

@[simp] theorem enterLowlat_place (p : Part) : (enterLowlat p).fr.place = p.fr.place := reportStep_place ..

@[simp] theorem moveLowlat_place (p : Part) : (moveLowlat p).fr.place = p.fr.place := reportStep_place ..

@[simp] theorem leaveLowlat_place (p : Part) : (leaveLowlat p).fr.place = p.fr.place := reportStep_place ..

@[simp] theorem ungate_place (p : Part) : (ungate p).fr.place = p.fr.place := by
  unfold ungate
  split
  · rfl
  · exact reportStep_place ..

@[simp] theorem absorbStep_place (p : Part) : (absorbStep p).fr.place = p.fr.place := by
  unfold absorbStep
  split
  · rfl
  · split
    · rfl
    · dsimp only
      split <;> simp [Frames.place]

@[simp] theorem offsetStep_place (p : Part) : (offsetStep p).fr.place = p.fr.place := by
  unfold offsetStep
  split
  · rfl
  · dsimp only
    split
    · simp
    · split
      · split <;> simp
      · split <;> simp

/-! ### Commits -/

@[simp] theorem slotApplied_place (old : Cfg) (p : Part) (k : Nat) : (slotApplied old p k).fr.place = p.fr.place := by
  unfold slotApplied
  dsimp only
  split
  · simp [ite_fr]
  · split
    · simp
    · split
      · simp [ite_fr]
      · split <;> simp

@[simp] theorem rasterApplied_place (fe : Nat) (old : Cfg) (p : Part) : (rasterApplied fe old p).fr.place = p.fr.place := by
  unfold rasterApplied
  dsimp only
  split
  · split
    · exact reportStep_place ..
    · rfl
  · split <;> simp

@[simp] theorem lowlatApplied_place (old : Cfg) (cmds : List ConfigCmd) (p : Part) :
    (lowlatApplied old cmds p).fr.place = p.fr.place := by
  unfold lowlatApplied
  simp only [ite_place, enterLowlat_place, leaveLowlat_place, moveLowlat_place, ite_self]

@[simp] theorem tbApplied_place (old : Cfg) (p : Part) : (tbApplied old p).fr.place = p.fr.place := by
  unfold tbApplied
  extract_lets +onlyGivenNames p1 running q p2 p3 p4
  have h1 : p1.fr.place = p.fr.place := foldl_place (slotApplied_place old) _ p
  have hq : q.fr = p1.fr := by
    unfold q
    split <;> simp
  have h2 : p2.fr = p1.fr := by
    unfold p2
    split
    · rfl
    · split
      · simp [hq]
      · split <;> simp
  have h4 : p4.fr = p2.fr := by
    unfold p4
    split <;> simp [p3]
  simp [h4, h2, h1]

@[simp] theorem configApplied_place (fe : Nat) (old : Cfg) (cmds : List ConfigCmd) (p : Part) :
    (configApplied fe old cmds p).fr.place = p.fr.place := by
  simp [configApplied, ite_fr]

@[simp] theorem commitsApply_place (fe : Nat) (p : Part) : (commitsApply fe p).fr.place = p.fr.place := by
  simp [commitsApply, ite_place]

/-! ### The root lock's commands -/

@[simp] theorem bandFound_place (band : Nat) (fine : Int) (p : Part) : (bandFound band fine p).fr.place = p.fr.place := by
  simp [bandFound, ite_fr]

/-- A guarded command of the part keeps the frame count's place if its action does, whether it acts or not. -/
theorem onPart_timed_guarded_place {t : Nat} {c : Part → Bool} {f : Part → Part} (hf : ∀ p, (f p).fr.place = p.fr.place) (s : State) :
    ∃ u, onPart (timed t (guarded c f)) s = .next u ∧ u.m.fr.cfn = s.m.fr.cfn ∧ u.m.fr.first = s.m.fr.first := by
  have hplace : (timed t (guarded c f) s.m).fr.place = s.m.fr.place := by
    unfold timed guarded
    simp only [ite_place, hf, advance_fr, ite_self]
  obtain ⟨hcfn, hfirst, -⟩ := Frames.place_eq_iff.1 hplace
  exact ⟨_, rfl, hcfn, hfirst⟩

/-! ### The frame event -/

theorem becomePrimary_fr {p : Part} (split : Bool) (hstarted : p.fr.started = true) : (becomePrimary split p).fr = p.fr := by
  simp [becomePrimary, hstarted]

theorem switchStep_fr {p : Part} (hstarted : p.fr.started = true) : (switchStep p).fr = p.fr := by
  unfold switchStep
  split
  · rfl
  · split
    · rfl
    · dsimp only
      split
      · split <;> simp
      · simp [becomePrimary_fr, hstarted]
      · simp

theorem cfnAdvances_place (fe n : Nat) (p : Part) : (cfnAdvances fe n p).fr.place = (n, false, p.fr.started) := rfl

theorem firstSteps_place {p : Part} (fe n : Nat) (hstarted : p.fr.started = true) :
    (firstSteps fe n p).fr.place = (n, false, true) := by
  unfold firstSteps
  extract_lets p1 p2
  have h1 : p1.fr.place = (n, false, true) := by
    simp [p1, cfnAdvances_place, hstarted]
  have hyield : (yieldStep (offsetStep p1)).fr.place = (n, false, true) := by simp [h1]
  have hon : (yieldStep (offsetStep p1)).fr.started = true := congrArg (·.2.2) hyield
  have h2 : p2.fr.place = (n, false, true) := by
    simp only [p2, pairFrame_fr, joinStep_fr, switchStep_fr hon, hyield]
  simp [h2]

theorem frameEvent_place {s : Both} (hstarted : s.1.fr.started = true) :
    (frameEvent s).1.fr.place = (nextCfn s.1, false, true) := by
  have hends (fe : Nat) : (frameEnds (advance fe s.1, s.2)).1.fr.started = true := by
    rw [frameEnds_fr, advance_fr]
    exact hstarted
  unfold frameEvent
  simp only [lastSteps_fr, middleSteps_fr, firstSteps_place _ _ (hends _)]

theorem rasterRuns_started {p : Part} (h : rasterRuns p = true) : p.fr.started = true := by
  simp only [rasterRuns, Bool.and_eq_true] at h
  exact h.1.1.2

theorem rasterRuns_gated {p : Part} (hroot : p.tb.rootLock = false) : rasterRuns p = false := by
  simp [rasterRuns, hroot]

end Sys2Proof.Machine

open Sys2Proof Sys2Proof.Machine

/-- Settles O52: the frame event is the only action here that moves `Frames.place`, and it does so by `nextCfn`. -/
theorem gatedFrames : Obligations.GatedFrames := by
  unfold Obligations.GatedFrames
  refine ⟨?gated, ?rootLock, ?resumed⟩
  case gated =>
    intro gpio s hroot
    show execFrameEvent gpio s = _
    rw [execFrameEvent, if_neg (by simp [rasterRuns_gated hroot])]
  case rootLock =>
    rintro t band fine s c (rfl | rfl | rfl | rfl | rfl | rfl)
    · exact onPart_timed_guarded_place (fun p => by rw [rootLockLost_fr]) s
    · exact onPart_timed_guarded_place (fun p => by rw [xoFails_fr]) s
    · exact onPart_timed_guarded_place (fun p => by simp) s
    · exact onPart_timed_guarded_place (fun p => by rw [enterTb_fr]) s
    · exact onPart_timed_guarded_place (fun p => by rw [bandFails_fr]) s
    · exact onPart_timed_guarded_place (bandFound_place band fine) s
  case resumed =>
    intro gpio s hruns hfirst
    have hplace := frameEvent_place (s := (s.m.updSys fun y => { y with gpioIn := gpio }, s.hbm)) (rasterRuns_started hruns)
    have hnext : nextCfn (s.m.updSys fun y => { y with gpioIn := gpio }) = s.m.fr.cfn + 1 := by
      simp [nextCfn, hfirst]
    rw [hnext] at hplace
    show ∃ u, execFrameEvent gpio s = .next u ∧ _
    rw [execFrameEvent, if_pos hruns]
    generalize frameEvent (s.m.updSys fun y => { y with gpioIn := gpio }, s.hbm) = r at hplace ⊢
    simp only [Frames.place, Prod.mk.injEq] at hplace
    obtain ⟨hcfn, hfirst', -⟩ := hplace
    exact ⟨_, rfl, hcfn, hfirst'⟩

end

section
/-! What a command of an input leaves (everything but the inputs and the reports), and what a read of a stream gives after a
change. -/

namespace Sys2Proof.Machine

open Sys2Proof

/-! ### Observers -/

/-- The part without its time, its inputs, its reports and its performance counters. -/
def Part.offInputs (p : Part) : Part := { p.quiet with sys := {}, inp := {} }

/-- The part without its converters either. -/
def Part.offIngest (p : Part) : Part := { p.offInputs with frc := [] }

/-- What a command of stream `n` leaves: the part off its inputs, and each other stream. -/
def Part.besideStream (n : Nat) (p : Part) : Part × (Nat → StreamRt) :=
  (p.offInputs, fun k => if k = n then {} else p.stream k)

theorem Part.offInputs_of_quiet {p q : Part} (h : p.quiet = q.quiet) : p.offInputs = q.offInputs :=
  congrArg (fun r : Part => { r with sys := {}, inp := {} }) h

theorem Part.offIngest_of_offInputs {p q : Part} (h : p.offInputs = q.offInputs) : p.offIngest = q.offIngest :=
  congrArg (fun r : Part => { r with frc := [] }) h

theorem Part.besideStream_of_quiet {p q : Part} (h : p.quiet = q.quiet) (n : Nat) : p.besideStream n = q.besideStream n :=
  show p.quiet.besideStream n = q.quiet.besideStream n from congrArg _ h

theorem Part.inp_of_quiet {p q : Part} (h : p.quiet = q.quiet) : p.inp = q.inp :=
  show p.quiet.inp = q.quiet.inp from congrArg _ h

theorem Part.frc_of_quiet {p q : Part} (h : p.quiet = q.quiet) : p.frc = q.frc :=
  show p.quiet.frc = q.quiet.frc from congrArg _ h

theorem Part.stream_of_streams {p q : Part} (h : p.inp.streams = q.inp.streams) (n : Nat) : p.stream n = q.stream n := by
  rw [Part.stream, h, Part.stream]

theorem Part.besideStream_of_offInputs {p q : Part} (h : p.offInputs = q.offInputs) (hs : p.inp.streams = q.inp.streams) (n : Nat) :
    p.besideStream n = q.besideStream n := by
  simp only [Part.besideStream, h, Part.stream_of_streams hs]

theorem beyondInputs_of_offIngest {s : State} {q : Part} (h : q.offIngest = s.m.offIngest) :
    beyondInputs s { s with m := q } := by
  simp only [Part.offIngest, Part.offInputs, Part.quiet, Part.rest, Part.mk.injEq] at h
  unfold beyondInputs
  tauto

theorem inputsAlone_of_offInputs {s : State} {q : Part} (h : q.offInputs = s.m.offInputs) :
    q.frc = s.m.frc ∧ beyondInputs s { s with m := q } :=
  ⟨show q.offInputs.frc = s.m.offInputs.frc from congrArg _ h, beyondInputs_of_offIngest (Part.offIngest_of_offInputs h)⟩

/-- What a command of one stream leaves. -/
theorem streamAlone_of_besideStream {n : Nat} {s : State} {q : Part} (h : q.besideStream n = s.m.besideStream n) :
    otherStreams n s { s with m := q } ∧ q.frc = s.m.frc ∧ beyondInputs s { s with m := q } := by
  obtain ⟨hoff, hstreams⟩ := Prod.mk.inj h
  refine ⟨fun k hk => ?_, inputsAlone_of_offInputs hoff⟩
  simpa [hk] using congrFun hstreams k

/-! ### Time -/

@[simp] theorem advance_offInputs (t : Nat) (p : Part) : (advance t p).offInputs = p.offInputs := rfl
@[simp] theorem advance_besideStream (n t : Nat) (p : Part) : (advance t p).besideStream n = p.besideStream n := rfl
@[simp] theorem advance_stream (t n : Nat) (p : Part) : (advance t p).stream n = p.stream n := rfl
@[simp] theorem advance_format (t n : Nat) (p : Part) : (advance t p).format n = p.format n := rfl
@[simp] theorem advance_receives (t : Nat) (p : Part) : receives (advance t p) = receives p := rfl
@[simp] theorem advance_laneWorks (t k : Nat) (p : Part) : laneWorks (advance t p) k = laneWorks p k := rfl

theorem advance_now_of_livesAt {t : Nat} {s : State} (h : livesAt t s) : (advance t s.m).sys.now = t := max_eq_right h.2

/-! ### Streams and ports -/

theorem updStream_stream (n k : Nat) (f : StreamRt → StreamRt) (p : Part) :
    (updStream n f p).stream k = if k = n then f (p.stream n) else p.stream k := Tab.getD_upd ..

@[simp] theorem updStream_stream_self (n : Nat) (f : StreamRt → StreamRt) (p : Part) :
    (updStream n f p).stream n = f (p.stream n) := by rw [updStream_stream, if_pos rfl]

@[simp] theorem updStream_cnt (n : Nat) (f : StreamRt → StreamRt) (p : Part) : (updStream n f p).cnt = p.cnt := rfl

@[simp] theorem updStream_besideStream (n : Nat) (f : StreamRt → StreamRt) (p : Part) :
    (updStream n f p).besideStream n = p.besideStream n := by
  refine Prod.ext rfl (funext fun k => ?_)
  by_cases hk : k = n <;> simp [Part.besideStream, hk, updStream_stream]

@[simp] theorem updPort_cfg (eth : Bool) (i : Nat) (f : PortRt → PortRt) (p : Part) : (updPort eth i f p).cfg = p.cfg := rfl

@[simp] theorem updPort_sdi_self (i : Nat) (f : PortRt → PortRt) (p : Part) :
    (updPort false i f p).inp.sdi.getD i {} = f (p.inp.sdi.getD i {}) := (Tab.getD_upd ..).trans (if_pos rfl)

@[simp] theorem updPort_eth_self (i : Nat) (f : PortRt → PortRt) (p : Part) :
    (updPort true i f p).inp.eth.getD i {} = f (p.inp.eth.getD i {}) := (Tab.getD_upd ..).trans (if_pos rfl)

@[simp] theorem updPort_streams (eth : Bool) (i : Nat) (f : PortRt → PortRt) (p : Part) :
    (updPort eth i f p).inp.streams = p.inp.streams := by cases eth <;> rfl

@[simp] theorem updPort_stream (eth : Bool) (i n : Nat) (f : PortRt → PortRt) (p : Part) :
    (updPort eth i f p).stream n = p.stream n := by cases eth <;> rfl

@[simp] theorem updPort_offInputs (eth : Bool) (i : Nat) (f : PortRt → PortRt) (p : Part) :
    (updPort eth i f p).offInputs = p.offInputs := rfl

@[simp] theorem updPort_besideStream (eth : Bool) (i n : Nat) (f : PortRt → PortRt) (p : Part) :
    (updPort eth i f p).besideStream n = p.besideStream n := by cases eth <;> rfl

/-! ### Reports -/

@[simp] theorem raise_offInputs (k i a : Nat) (p : Part) : (raise k i a p).offInputs = p.offInputs :=
  Part.offInputs_of_quiet (raise_quiet ..)
@[simp] theorem raise_besideStream (n k i a : Nat) (p : Part) : (raise k i a p).besideStream n = p.besideStream n :=
  Part.besideStream_of_quiet (raise_quiet ..) n
@[simp] theorem raise_stream (n k i a : Nat) (p : Part) : (raise k i a p).stream n = p.stream n := by
  rw [Part.stream, raise_inp, Part.stream]
@[simp] theorem count_besideStream (n b i x : Nat) (p : Part) : (count b i x p).besideStream n = p.besideStream n := rfl
@[simp] theorem countBack_besideStream (n b i x : Nat) (p : Part) : (countBack b i x p).besideStream n = p.besideStream n := rfl
@[simp] theorem countBack_stream (n b i x : Nat) (p : Part) : (countBack b i x p).stream n = p.stream n := rfl

end Sys2Proof.Machine
end

section
/-! Input frames and fence packets (R38, R53 to R64). -/

namespace Sys2Proof.Machine

open Sys2Proof

/-! ### A frame starts -/

@[simp] theorem frameStart_besideStream (n : Nat) (lines : Option InFrame) (p : Part) :
    (frameStart n lines p).besideStream n = p.besideStream n := by simp [frameStart]

theorem exec_inputFrameStart {t n : Nat} {s : State} (halive : s.m.alive = true) (hrec : receives s.m = true)
    (hbound : (s.m.cfg.stream n).bound = true) (lines : Option InFrame) :
    exec (.inputFrameStart t n lines) s = .next { s with m := frameStart n lines (advance t s.m) } := by
  rw [exec, execInputFrameStart, onPart_timed_guarded halive (by simp [hrec, hbound])]

/-! ### A frame is stored -/

/-- The part without its converters, its reports and its performance counters. -/
def Part.offConvert (p : Part) : Part := { p.quiet with frc := [] }

theorem Part.offConvert_of_quiet {p q : Part} (h : p.quiet = q.quiet) : p.offConvert = q.offConvert :=
  congrArg (fun r : Part => { r with frc := [] }) h

theorem Part.offIngest_of_offConvert {p q : Part} (h : p.offConvert = q.offConvert) : p.offIngest = q.offIngest :=
  congrArg (fun r : Part => { r with sys := {}, inp := {} }) h

theorem Part.inp_of_offConvert {p q : Part} (h : p.offConvert = q.offConvert) : p.inp = q.inp :=
  show p.offConvert.inp = q.offConvert.inp from congrArg _ h

@[simp] theorem updConv_offConvert (v : Nat) (g : FrcRt → FrcRt) (p : Part) : (updConv v g p).offConvert = p.offConvert := rfl
@[simp] theorem count_offConvert (b i x : Nat) (p : Part) : (count b i x p).offConvert = p.offConvert := rfl
@[simp] theorem raise_offConvert (k i a : Nat) (p : Part) : (raise k i a p).offConvert = p.offConvert :=
  Part.offConvert_of_quiet (raise_quiet ..)
@[simp] theorem perfSignal_offConvert (g c i k : Nat) (p : Part) : (perfSignal g c i k p).offConvert = p.offConvert :=
  Part.offConvert_of_quiet (perfSignal_quiet ..)

/-- A frame that reaches its converter changes that converter and what is counted and raised. -/
@[simp] theorem frcStore_offConvert (v : Nat) (f : VideoFormat) (seq : Word) (at' : Int) (luma : List Nat) (held : Word → Bool)
    (p : Part) : (frcStore v f seq at' luma held p).offConvert = p.offConvert := by
  unfold frcStore
  extract_lets c r d rep first cut
  split
  extract_lets nom r2 p1 p2
  have h2 : p2.offConvert = p.offConvert := by
    simp only [p2, p1, apply_ite Part.offConvert, count_offConvert, raise_offConvert, ite_self]
  split
  · simp [h2]
  · split
    simp only [updConv_offConvert, apply_ite Part.offConvert, count_offConvert, ite_self, h2]

/-- The frame goes into the slot that is being written, under the next SEQ; besides the stream, its converter is told of it
(R55). -/
theorem frameStored_of_writing {n k : Nat} {p : Part} (h : (p.stream n).writing = some k) (f : InFrame) :
    ∃ g : StreamRt → StreamRt, (frameStored n f p).offConvert = (updStream n g p).offConvert ∧
      ∀ x, (g x).slots = x.slots.set k (filledSlot p n k f) ∧ (g x).nextSeq = (p.stream n).nextSeq + 1 ∧
        (g x).writing = none ∧ (g x).cause = x.cause := by
  unfold frameStored
  extract_lets p0 st c px seq fenced tagged w rows good
  have h0 : p0 = p := by simp [p0, h]
  clear_value p0
  subst h0
  split
  next hnone => exact absurd (hnone.symm.trans h) nofun
  next k' hk =>
    obtain rfl : k' = k := Option.some.inj (hk.symm.trans h)
    extract_lets p1 p2 p3 p4
    have h2 : p2.offConvert = p1.offConvert := by
      simp only [p2, apply_ite Part.offConvert, count_offConvert, ite_self]
    have h3 : p3.offConvert = p2.offConvert := by
      unfold p3
      split
      · split <;> simp
      · rfl
    refine ⟨_, (?_ : _ = p1.offConvert), fun x => ⟨rfl, rfl, rfl, rfl⟩⟩
    simp only [p4, apply_ite Part.offConvert, perfSignal_offConvert, ite_self, h3, h2]

/-- A slot that is tagged holds the tag and the group of its frame's fence packet (R59). -/
theorem filledSlot_fence (p : Part) (n k : Nat) (f : InFrame) (htagged : (filledSlot p n k f).tagged = true) :
    frameFence (p.cfg.stream n) (p.stream n) f.rtp = some ((filledSlot p n k f).tag, (filledSlot p n k f).group) := by
  obtain ⟨e, he⟩ := Option.isSome_iff_exists.mp htagged
  simp [filledSlot, he]

@[simp] theorem lossMet_besideStream (n : Nat) (cause : LossCause) (p : Part) :
    (lossMet n cause p).besideStream n = p.besideStream n := by simp [lossMet]

/-- Links past the bound of their skew are the stream's loss condition; its slots stand (R38). -/
theorem skewSeen_past (n : Nat) (p : Part) :
    ((skewSeen n false p).stream n).slots = (p.stream n).slots ∧ ((skewSeen n false p).stream n).nextSeq = (p.stream n).nextSeq ∧
      ((skewSeen n false p).stream n).writing = (p.stream n).writing ∧
      ((skewSeen n false p).stream n).cause = some .quadSkew := by
  unfold skewSeen
  extract_lets st
  rw [if_pos (by rfl)]
  split
  next hknown =>
    have hcause : st.cause == some .quadSkew := (Bool.and_eq_true_iff.mp hknown).1
    exact ⟨rfl, rfl, rfl, eq_of_beq hcause⟩
  · simp [lossMet]

@[simp] theorem skewSeen_besideStream (n : Nat) (ok : Bool) (p : Part) :
    (skewSeen n ok p).besideStream n = p.besideStream n := by
  simp only [skewSeen, apply_ite (Part.besideStream n), lossMet_besideStream, raise_besideStream, updStream_besideStream, ite_self]

/-- What the part does with a frame whose last line has come: it is stored, and links past the bound lose the stream (R38, R55). -/
def frameTaken (n : Nat) (f : InFrame) (p : Part) : Part :=
  if skewOk (p.cfg.stream n) f then frameStored n f p else skewSeen n false (frameStored n f p)

theorem exec_frameStored {t n : Nat} {s : State} {f : InFrame} {fmt : VideoFormat} (halive : s.m.alive = true)
    (hrec : receives s.m = true) (hfmt : s.m.format n = some fmt) (hsame : samePicture f.fmt fmt = true) :
    exec (.frameStored t n f) s = .next { s with m := frameTaken n f (advance t s.m) } := by
  rw [exec, execFrameStored, onPart_timed_guarded halive (by simp [hrec, hfmt, hsame])]
  rfl

section

variable {n k : Nat} {p : Part} (hwriting : (p.stream n).writing = some k) (f : InFrame)
include hwriting

/-- The stream holds the frame in the slot being written, under the next SEQ. -/
theorem frameTaken_stream :
    ((frameTaken n f p).stream n).slots = (p.stream n).slots.set k (filledSlot p n k f) ∧
      ((frameTaken n f p).stream n).nextSeq = (p.stream n).nextSeq + 1 ∧ ((frameTaken n f p).stream n).writing = none ∧
      (skewOk (p.cfg.stream n) f = false → ((frameTaken n f p).stream n).cause = some .quadSkew) := by
  obtain ⟨g, hoff, hg⟩ := frameStored_of_writing hwriting f
  obtain ⟨hslots, hseq, hdone, -⟩ := hg (p.stream n)
  have hstream : (frameStored n f p).stream n = g (p.stream n) := by
    rw [Part.stream, Part.inp_of_offConvert hoff, ← Part.stream, updStream_stream_self]
  obtain ⟨hslots', hseq', hdone', hcause⟩ := skewSeen_past n (frameStored n f p)
  rw [hstream] at hslots' hseq' hdone'
  unfold frameTaken
  split
  next hok => exact ⟨by rw [hstream, hslots], by rw [hstream, hseq], by rw [hstream, hdone], by simp [hok]⟩
  · exact ⟨hslots'.trans hslots, hseq'.trans hseq, hdone'.trans hdone, fun _ => hcause⟩

/-- Each other stream stands, and besides the inputs the converters alone change. -/
theorem frameTaken_others :
    (∀ j, j ≠ n → (frameTaken n f p).stream j = p.stream j) ∧ (frameTaken n f p).offIngest = p.offIngest := by
  obtain ⟨g, hoff, -⟩ := frameStored_of_writing hwriting f
  have hbeside : (frameTaken n f p).besideStream n = (frameStored n f p).besideStream n := by
    simp only [frameTaken, apply_ite (Part.besideStream n), skewSeen_besideStream, ite_self]
  obtain ⟨hinputs, hstreams⟩ := Prod.mk.inj hbeside
  refine ⟨fun j hj => ?_, (Part.offIngest_of_offInputs hinputs).trans ((Part.offIngest_of_offConvert hoff).trans rfl)⟩
  have hj' : (frameTaken n f p).stream j = (frameStored n f p).stream j := by simpa [hj] using congrFun hstreams j
  rw [hj', Part.stream, Part.inp_of_offConvert hoff, ← Part.stream, updStream_stream, if_neg hj]

end

/-! ### Fence packets -/

/-- A packet of another DID, SDID or length is no fence packet (R58). -/
theorem fencePacket_foreign {n : Nat} {pkt : FencePkt} {p : Part} (h : isFence p.cfg pkt = false) : fencePacket n pkt p = p := by
  simp [fencePacket, h]

@[simp] theorem fencePacket_besideStream (n : Nat) (pkt : FencePkt) (p : Part) :
    (fencePacket n pkt p).besideStream n = p.besideStream n := by
  unfold fencePacket
  extract_lets c st tag bad q
  split
  · rfl
  · split
    · simp [bad]
    · split
      · split <;> simp [bad, q]
      · split <;> simp [bad, q]

section

/-! A fence packet for a fenced stream, in the flow bound to it where the stream comes over ST 2110 (R59). -/

variable {n : Nat} {pkt : FencePkt} {p : Part} (hfence : isFence p.cfg pkt = true)
  (hflow : isIp (p.cfg.stream n).bind = true → p.cfg.ancFlows.has n = true) (hgroup : (p.cfg.stream n).par.fenceGroup ≠ 0)
include hfence hflow hgroup

theorem fencePacket_passes :
    ((p.cfg.stream n).par.fenceGroup = 0 || !isFence p.cfg pkt || isIp (p.cfg.stream n).bind && !p.cfg.ancFlows.has n) = false := by
  cases hip : isIp (p.cfg.stream n).bind
  · simp [hfence, hgroup]
  · simp [hfence, hgroup, hflow hip]

/-- A packet whose words are not valid for the group is counted (R60). -/
theorem fencePacket_refused (hbad : fenceValid (p.cfg.stream n).par.fenceGroup pkt = false) :
    fencePacket n pkt p = count blkIngest n 3 p := by
  have hpass := fencePacket_passes hfence hflow hgroup
  simp [fencePacket, hpass, hbad]

/-- A valid packet waits with its tag for the frame being stored (R59). -/
theorem fencePacket_waits (hvalid : fenceValid (p.cfg.stream n).par.fenceGroup pkt = true)
    (hbehind : frameBehind (p.cfg.stream n) (p.stream n) pkt = none)
    (hspare : fenceSpare (p.cfg.stream n) (p.stream n) pkt = false) :
    ((fencePacket n pkt p).stream n).fences = (p.stream n).fences ++
        [(pkt.rtp, BitVec.ofNat 32 (leAt pkt.udw 4 4), (p.cfg.stream n).par.fenceGroup)] ∧
      ((fencePacket n pkt p).stream n).slots = (p.stream n).slots := by
  have hpass := fencePacket_passes hfence hflow hgroup
  simp [fencePacket, hpass, hvalid, hbehind, hspare]

/-- A valid packet tags the ST 2110 frame just stored that it names, at most 2 ms after it (R59). -/
theorem fencePacket_tags (hvalid : fenceValid (p.cfg.stream n).par.fenceGroup pkt = true) {e : Nat × Slot}
    (hbehind : frameBehind (p.cfg.stream n) (p.stream n) pkt = some e) (huntagged : e.2.tagged = false)
    (hsoon : p.sys.now ≤ e.2.storedAt + 2 * msec) :
    ((fencePacket n pkt p).stream n).slots = (p.stream n).slots.set e.1
      { e.2 with tag := BitVec.ofNat 32 (leAt pkt.udw 4 4), group := (p.cfg.stream n).par.fenceGroup, tagged := true } := by
  have hpass := fencePacket_passes hfence hflow hgroup
  have hlate : decide (e.2.storedAt + 2 * msec < p.sys.now) = false := by simpa using hsoon
  simp [fencePacket, hpass, hvalid, hbehind, huntagged, hlate]

end

theorem exec_fencePacket {t n : Nat} {s : State} (halive : s.m.alive = true) (hrec : receives s.m = true)
    (hbound : (s.m.cfg.stream n).bound = true) (pkt : FencePkt) :
    exec (.fencePacket t n pkt) s = .next { s with m := fencePacket n pkt (advance t s.m) } := by
  rw [exec, execFencePacket, onPart_timed_guarded halive (by simp [hrec, hbound])]

/-- Whether the head receives or not, a packet that is no fence packet moves time alone. -/
theorem exec_fencePacket_foreign {t n : Nat} {s : State} {pkt : FencePkt} (halive : s.m.alive = true)
    (h : isFence s.m.cfg pkt = false) : exec (.fencePacket t n pkt) s = .next { s with m := advance t s.m } := by
  rw [exec, execFencePacket, onPart, timed_alive halive, guarded, fencePacket_foreign (p := advance t s.m) h, ite_self]

theorem exec_fenceMemberLost {t n : Nat} {s : State} (halive : s.m.alive = true)
    (hgroup : (s.m.cfg.stream n).par.fenceGroup ≠ 0) (hmember : (s.m.stream n).unfenced = false)
    (hrun : 2 * s.m.cfg.groups.getD (s.m.cfg.stream n).par.fenceGroup 3 ≤ (s.m.stream n).untagged) :
    exec (.fenceMemberLost t n) s = .next { s with
      m := raise evFenceMemberLost n 0 (updStream n (fun x => { x with unfenced := true, rejoin := none }) (advance t s.m)) } := by
  rw [exec, execFenceMemberLost, onPart_timed_guarded halive (by simp [hgroup, hmember, hrun])]

end Sys2Proof.Machine

open Sys2Proof Sys2Proof.Machine

/-- Settles O44: each form is its command's own rule on the stream; besides the stream nothing but a frame's converter, the
reports and the counters change. -/
theorem framesStored : Obligations.FramesStored := by
  unfold Obligations.FramesStored
  intro t n s hlives hbound
  have hnow := advance_now_of_livesAt hlives
  obtain ⟨halive, -⟩ := hlives
  refine ⟨?starts, ?stored, ?waits, ?tags, ?foreign, ?refused, ?memberLost⟩
  case starts =>
    intro lines hrec
    refine ⟨_, exec_inputFrameStart halive hrec hbound lines, ?_⟩
    have hkept := streamAlone_of_besideStream (s := s) (frameStart_besideStream n lines (advance t s.m))
    have hstream : (frameStart n lines (advance t s.m)).stream n = _ := updStream_stream_self ..
    simp only [hstream, hnow]
    exact ⟨rfl, trivial, rfl, rfl, rfl, hkept⟩
  case stored =>
    intro f fmt k hrec hfmt hsame hwriting
    obtain ⟨hslots, hseq, hdone, hskew⟩ := frameTaken_stream (p := advance t s.m) hwriting f
    obtain ⟨hothers, hoff⟩ := frameTaken_others (p := advance t s.m) hwriting f
    refine ⟨_, filledSlot (advance t s.m) n k f, exec_frameStored halive hrec hfmt hsame, ?_, rfl, rfl, rfl, hnow, rfl, rfl, ?_, rfl,
      hskew, hseq, hdone, fun j hj => ?_, hothers, beyondInputs_of_offIngest hoff⟩
    · rw [hslots, Tab.get?_set, if_pos rfl]
    · exact filledSlot_fence _ n k f
    · rw [hslots, Tab.get?_set, if_neg hj]; rfl
  case waits =>
    intro pkt hrec hfence hflow hvalid hgroup hbehind hspare
    obtain ⟨hfences, hslots⟩ := fencePacket_waits (p := advance t s.m) hfence hflow hgroup hvalid hbehind hspare
    exact ⟨_, exec_fencePacket halive hrec hbound pkt, hfences, hslots,
      streamAlone_of_besideStream (fencePacket_besideStream n pkt (advance t s.m))⟩
  case tags =>
    intro pkt e hrec hfence hflow hvalid hgroup hbehind huntagged hsoon
    have hslots := fencePacket_tags (p := advance t s.m) hfence (fun _ => hflow) hgroup hvalid hbehind huntagged (hnow.trans_le hsoon)
    exact ⟨_, _, exec_fencePacket halive hrec hbound pkt, by rw [hslots, Tab.get?_set, if_pos rfl]; rfl, rfl,
      streamAlone_of_besideStream (fencePacket_besideStream n pkt (advance t s.m))⟩
  case foreign =>
    intro pkt hforeign
    exact ⟨_, exec_fencePacket_foreign halive hforeign, rfl, rfl, inputsAlone_of_offInputs rfl⟩
  case refused =>
    intro pkt hrec hfence hflow hbad hgroup
    refine ⟨_, exec_fencePacket halive hrec hbound pkt, ?_⟩
    rw [fencePacket_refused (p := advance t s.m) hfence hflow hgroup hbad]
    exact ⟨(countBy_cnt ..).trans (if_pos rfl), rfl, inputsAlone_of_offInputs rfl⟩
  case memberLost =>
    intro hgroup hmember hrun
    exact ⟨_, exec_fenceMemberLost halive hgroup hmember hrun, by simp, raise_sets_pend (by decide),
      streamAlone_of_besideStream (by simp)⟩

end

section
/-! Identification, loss, fallback and return of a stream (R35 to R39, R65 to R68). -/

namespace Sys2Proof.Machine

open Sys2Proof

/-! ### Payload identification -/

@[simp] theorem streamOfInput_updPort (eth : Bool) (i input : Nat) (f : PortRt → PortRt) (p : Part) :
    streamOfInput (updPort eth i f p) input = streamOfInput p input := rfl

@[simp] theorem updStream_sdi (n : Nat) (f : StreamRt → StreamRt) (p : Part) : (updStream n f p).inp.sdi = p.inp.sdi := rfl

/-- On an input of no stream the port alone keeps the identification (R36). -/
theorem st352Received_unbound {input : Nat} {p : Part} (hnone : streamOfInput p input = none) (id : PayloadId) :
    ((st352Received input id p).inp.sdi.getD input {}).st352 = some id.bytes ∧
      (st352Received input id p).inp.streams = p.inp.streams ∧ (st352Received input id p).offInputs = p.offInputs := by
  simp [st352Received, hnone]

/-- A stream of one link whose declared format the identification meets keeps it, and no loss comes of it (R39). -/
theorem st352Received_agreed {input n : Nat} {id : PayloadId} {p : Part} (hstream : streamOfInput p input = some n)
    (hinputs : (p.cfg.stream n).bind.inputs = [input]) (hagrees : payloadDiffers (p.cfg.stream n) id = false)
    (hdeclared : (p.cfg.stream n).par.fmt ≠ VideoFormat.auto) :
    ((st352Received input id p).inp.sdi.getD input {}).st352 = some id.bytes ∧
      ((st352Received input id p).stream n).id = some (streamId id) ∧ ((st352Received input id p).stream n).mismatch = false ∧
      ((st352Received input id p).stream n).lossDue = (p.stream n).lossDue ∧
      ((st352Received input id p).stream n).slots = (p.stream n).slots ∧
      (st352Received input id p).besideStream n = p.besideStream n := by
  simp [st352Received, hstream, hinputs, hagrees, hdeclared]

theorem exec_st352Received {t input : Nat} {s : State} (halive : s.m.alive = true) (hrec : receives s.m = true)
    (hlane : laneWorks s.m (148 + input) = true) (id : PayloadId) :
    exec (.st352Received t input id) s = .next { s with m := st352Received input id (advance t s.m) } := by
  rw [exec, execSt352Received, onPart_timed_guarded halive (by simp [hrec, hlane])]

/-! ### Detected format -/

/-- Ports that change leave the streams and everything beyond the inputs. -/
theorem foldl_updPort_keeps {eth : Bool} (f : PortRt → PortRt) (l : List Nat) (p : Part) :
    (l.foldl (fun q i => updPort eth i f q) p).inp.streams = p.inp.streams ∧
      (l.foldl (fun q i => updPort eth i f q) p).offInputs = p.offInputs :=
  ⟨foldl_keeps (fun q : Part => q.inp.streams) (by simp) l p, foldl_keeps Part.offInputs (by simp) l p⟩

/-- A detected format that the links carry and that is the one declared is taken (R35, R39). -/
theorem formatDetected_declared {n first links tail : Nat} {fmt : VideoFormat} {p : Part}
    (hbind : (p.cfg.stream n).bind = .sdi first links tail) (hcarries : sdiFormatOk links fmt = true)
    (hdeclared : (p.cfg.stream n).par.fmt = fmt) (hauto : fmt ≠ VideoFormat.auto) :
    ((formatDetected n fmt p).stream n).det = some fmt ∧ ((formatDetected n fmt p).stream n).lossDue = (p.stream n).lossDue ∧
      ((formatDetected n fmt p).stream n).slots = (p.stream n).slots ∧ (formatDetected n fmt p).besideStream n = p.besideStream n := by
  have hsame : declaredDiffers (p.cfg.stream n) fmt = false := by simp [declaredDiffers, samePicture, hdeclared]
  obtain ⟨hstreams, hoff⟩ := foldl_updPort_keeps (eth := false)
    (fun x => { x with signal := true, cdr := true, trs := true, fmt := some fmt }) (p.cfg.stream n).bind.inputs p
  unfold formatDetected
  rw [hbind] at hstreams hoff
  simp [hbind, hcarries, hsame, hdeclared, hauto, Part.stream_of_streams hstreams, Part.besideStream_of_offInputs hoff hstreams]

theorem exec_formatDetected {t n : Nat} {s : State} (halive : s.m.alive = true) (hrec : receives s.m = true)
    (hlanes : ((s.m.cfg.stream n).bind.inputs.all fun i => laneWorks s.m (148 + i)) = true) (fmt : VideoFormat) :
    exec (.formatDetected t n fmt) s = .next { s with m := formatDetected n fmt (advance t s.m) } := by
  rw [exec, execFormatDetected, onPart_timed_guarded halive]
  rw [advance_receives, hrec]
  exact hlanes

/-! ### Loss -/

/-- Naming a cause raises its event or clears its ports; the streams stand. -/
theorem lossNamed_keeps (n : Nat) (cause : LossCause) (p : Part) :
    (lossNamed n cause p).inp.streams = p.inp.streams ∧ (lossNamed n cause p).offInputs = p.offInputs := by
  unfold lossNamed
  split
  · exact ⟨rfl, rfl⟩
  · cases cause with
    | signal => exact foldl_updPort_keeps ..
    | noTrs => exact foldl_updPort_keeps ..
    | _ => simp

theorem exec_streamLost {t n : Nat} {s : State} {cause : LossCause} (halive : s.m.alive = true)
    (hbound : (s.m.cfg.stream n).bound = true) (hholds : lossHolds n cause (advance t s.m) = true) :
    exec (.streamLost t n cause) s = .next { s with m := lossMet n cause (lossNamed n cause (advance t s.m)) } := by
  rw [exec, execStreamLost, onPart_timed_guarded halive (by simp [hbound, hholds])]

/-! ### Fallback and return -/

theorem exec_holdTimeExpiry {t n : Nat} {s : State} (halive : s.m.alive = true) (hlost : (s.m.stream n).lost = true)
    (haction : (s.m.cfg.stream n).par.lossAction = 0)
    (hheld : (s.m.stream n).lostSince + (s.m.cfg.stream n).par.holdMs * msec ≤ t) :
    exec (.holdTimeExpiry t n) s =
      .next { s with m := updStream n (fun x => { x with fallbackOn := true }) (advance t s.m) } := by
  rw [exec, execHoldTimeExpiry, onPart_timed_guarded halive (by simp [hlost, haction, hheld])]

theorem exec_streamRestored {t n : Nat} {s : State} (halive : s.m.alive = true) (hlost : (s.m.stream n).lost = true)
    (hrun : (s.m.cfg.stream n).par.returnCount ≤ (s.m.stream n).returnRun) :
    exec (.streamRestored t n) s = .next { s with m := updStream n (fun x => { x with returnDue := true }) (advance t s.m) } := by
  rw [exec, execStreamRestored, onPart_timed_guarded halive (by simp [hlost, hrun])]

/-- A stream that returns is lost no more, shows no fallback and has no cause; its slots and the other streams stand (R67). -/
theorem streamRestored_returns (n : Nat) (p : Part) :
    ((streamRestored n p).stream n).lost = false ∧ ((streamRestored n p).stream n).fallbackOn = false ∧
      ((streamRestored n p).stream n).cause = none ∧ ((streamRestored n p).stream n).slots = (p.stream n).slots ∧
      (streamRestored n p).ev.pend.getLsbD evStreamRestored = true ∧
      ∀ k, k ≠ n → (streamRestored n p).stream k = p.stream k := by
  unfold streamRestored
  extract_lets st now fmt changed p1 p2 p3
  have h2 : p2.inp = p1.inp := by
    unfold p2
    split <;> rfl
  have h3 : p3.inp = p1.inp := (raise_inp ..).trans h2
  have hraised : p3.ev.pend.getLsbD evStreamRestored = true := raise_sets_pend (by decide)
  generalize hq : (if changed = true then raise evFormatChanged n 0 p3 else p3) = q
  have hinp : q.inp = p1.inp := by rw [← hq, apply_ite Part.inp, raise_inp, ite_self, h3]
  have hpend : q.ev.pend.getLsbD evStreamRestored = true := by
    rw [← hq]
    split
    · exact raise_keeps_pend (by decide) hraised
    · exact hraised
  have hstream (k : Nat) : q.stream k = p1.stream k := Part.stream_of_streams (congrArg Inputs.streams hinp) k
  simp only [hstream, p1, updStream_stream_self, hpend, true_and]
  exact fun k hk => (updStream_stream ..).trans (if_neg hk)

end Sys2Proof.Machine

open Sys2Proof Sys2Proof.Machine

/-- Settles O45: each form is its command's own rule on the stream and on its ports, which leaves the other streams and everything
beyond the inputs. -/
theorem streamsIdentified : Obligations.StreamsIdentified := by
  unfold Obligations.StreamsIdentified
  intro t n s hlives
  have hnow := advance_now_of_livesAt hlives
  obtain ⟨halive, -⟩ := hlives
  refine ⟨?unboundInput, ?identified, ?detected, ?loss, ?fallback, ?returnDue, ?returned⟩
  case unboundInput =>
    intro input id hrec hlane hnone
    obtain ⟨hport, hstreams, hoff⟩ := st352Received_unbound (p := advance t s.m) hnone id
    exact ⟨_, exec_st352Received halive hrec hlane id, hport, hstreams, inputsAlone_of_offInputs hoff⟩
  case identified =>
    intro input id hrec hlane hstream hinputs hagrees hdeclared
    obtain ⟨hport, hid, hmatch, hdue, hslots, hbeside⟩ := st352Received_agreed (p := advance t s.m) hstream hinputs hagrees hdeclared
    exact ⟨_, exec_st352Received halive hrec hlane id, hport, hid, hmatch, hdue, hslots, streamAlone_of_besideStream hbeside⟩
  case detected =>
    intro first links tail fmt hrec hbind hlanes hcarries hdeclared hauto
    obtain ⟨hdet, hdue, hslots, hbeside⟩ := formatDetected_declared (p := advance t s.m) hbind hcarries hdeclared hauto
    exact ⟨_, exec_formatDetected halive hrec hlanes fmt, hdet, hdue, hslots, streamAlone_of_besideStream hbeside⟩
  case loss =>
    intro cause hbound hholds hlost
    obtain ⟨hstreams, hoff⟩ := lossNamed_keeps n cause (advance t s.m)
    have hstream : (lossNamed n cause (advance t s.m)).stream n = s.m.stream n := Part.stream_of_streams hstreams n
    have hbeside : (lossMet n cause (lossNamed n cause (advance t s.m))).besideStream n = s.m.besideStream n :=
      (lossMet_besideStream ..).trans (Part.besideStream_of_offInputs hoff hstreams n)
    refine ⟨_, exec_streamLost halive hbound hholds, ?_, ?_, ?_, ?_, streamAlone_of_besideStream hbeside⟩ <;>
      simp [lossMet, hstream, hlost]
  case fallback =>
    intro hlost haction hheld
    exact ⟨_, exec_holdTimeExpiry halive hlost haction hheld, by simp, streamAlone_of_besideStream (by simp)⟩
  case returnDue =>
    intro hlost hrun
    exact ⟨_, exec_streamRestored halive hlost hrun, by simp, streamAlone_of_besideStream (by simp)⟩
  case returned =>
    intro hlost hdue
    rw [returnStep, if_pos (by simp [hlost, hdue])]
    exact streamRestored_returns n s.m

end

section
/-! ST 2110 packets and legs, the Ethernet ports and PTP, and a converter's vector fields (R43 to R50, R80). -/

namespace Sys2Proof.Machine

open Sys2Proof

/-! ### RTP packets -/

@[simp] theorem rtpPlace_besideStream (n : Nat) (k : RtpPacket) (p : Part) : (rtpPlace n k p).besideStream n = p.besideStream n := by
  simp only [rtpPlace, apply_ite (Part.besideStream n), frameStart_besideStream, updStream_besideStream, ite_self]

theorem serialNewer_self (x : Word) : serialNewer 32 x.toNat x.toNat = false := by
  have hx := x.isLt
  have hd : (x.toNat + 2 ^ 32 - x.toNat % 2 ^ 32) % 2 ^ 32 = 0 := by omega
  rw [serialNewer, hd]
  rfl

section

/-! One frame is being received; no leg has gone past its end, and a packet of it comes that does not end it. -/

variable {r : RtpFrame} {k : RtpPacket} (hts : r.ts = k.ts) (hlast : r.last = none) (hended : r.ended = [])
  (hat : r.endedAt = none) (hmarker : k.marker = false)

include hts hmarker in
/-- The packet tells of no leg past the frame's end (R47). -/
theorem rtpPassed_within (leg now : Nat) : rtpPassed leg now k r = r := by
  have hnewer : serialNewer 32 k.ts.toNat r.ts.toNat = false := by rw [hts, serialNewer_self]
  simp [rtpPassed, hmarker, hnewer]

include hlast hended hat in
theorem rtpEnds_within (f : VideoFormat) (b : IpBind) (window now : Nat) (st : StreamRt) (next : Option RtpFrame) :
    rtpEnds f b window now st r next = false := by
  simp [rtpEnds, hlast, hended, hat]

include hts hmarker in
/-- A packet that fits is put at its place in the frame (R47). -/
theorem rtpPut_fits (hfits : k.fits = true) :
    rtpPut k r = { r with got := r.got ++ [k.seq], pix := r.pix ++ [(k.line, k.offset, k.c0, k.c1, k.c2)] } := by
  simp [rtpPut, hts, hmarker, hfits]

include hts in
/-- A packet of the frame being written changes that frame alone (R47). -/
theorem rtpPlace_stream {n slot : Nat} {p : Part} (hrtp : (p.stream n).rtp = [r]) (hwriting : (p.stream n).writing = some slot)
    (hover : rtpOver (p.stream n) k = false) : (rtpPlace n k p).stream n = { p.stream n with rtp := [rtpPut k r] } := by
  simp [rtpPlace, hover, hrtp, hts, hwriting]

include hlast hended hat in
/-- The frame goes on being received. -/
theorem rtpClose_within (n : Nat) (f : VideoFormat) (b : IpBind) (p : Part) : rtpClose n f b [r] p = p := by
  simp [rtpClose, rtpEnds_within hlast hended hat]

variable {n : Nat} {p : Part} (leg : Nat) (b : IpBind) (hrtp : (p.stream n).rtp = [r])
include hts hlast hended hat hmarker hrtp

/-- A second copy within the window of its first is not placed and not counted (R47, R49). -/
theorem rtpReceived_copy {e : Nat × Nat × Nat} (hfirst : ((p.stream n).rtpSeen.find? fun e => e.1 == k.seq) = some e)
    (hwithin : p.sys.now ≤ e.2.2 + (p.cfg.stream n).par.seamless * (msec / 10)) :
    ((rtpReceived n leg b k p).stream n).lastPkt = p.sys.now ∧ ((rtpReceived n leg b k p).stream n).rtp = [r] ∧
      ((rtpReceived n leg b k p).stream n).slots = (p.stream n).slots ∧ (rtpReceived n leg b k p).cnt = p.cnt ∧
      (rtpReceived n leg b k p).besideStream n = p.besideStream n := by
  simp [rtpReceived, hfirst, not_lt.mpr hwithin, hrtp, rtpPassed_within hts hmarker, rtpClose_within hlast hended hat]

/-- The first copy of a packet is placed in its frame (R47). -/
theorem rtpReceived_first {slot : Nat} (hfirst : ((p.stream n).rtpSeen.find? fun e => e.1 == k.seq) = none)
    (hwriting : (p.stream n).writing = some slot) (hover : rtpOver (p.stream n) k = false) (hfits : k.fits = true) :
    ((rtpReceived n leg b k p).stream n).lastPkt = p.sys.now ∧
      ((rtpReceived n leg b k p).stream n).rtp =
        [{ r with got := r.got ++ [k.seq], pix := r.pix ++ [(k.line, k.offset, k.c0, k.c1, k.c2)] }] ∧
      ((rtpReceived n leg b k p).stream n).slots = (p.stream n).slots ∧
      (rtpReceived n leg b k p).besideStream n = p.besideStream n := by
  unfold rtpReceived
  extract_lets st window twin p1 p2 p3
  have h1 : (p1.stream n).lastPkt = p.sys.now ∧ (p1.stream n).rtp = [r] ∧ (p1.stream n).slots = (p.stream n).slots ∧
      (p1.stream n).writing = some slot ∧ rtpOver (p1.stream n) k = false := by
    simp only [p1, updStream_stream_self]
    exact ⟨trivial, hrtp, trivial, hwriting, hover⟩
  obtain ⟨hpkt, hrtp1, hslots, hwriting1, hover1⟩ := h1
  have h2 : p2 = rtpPlace n k p1 := by
    unfold p2 twin st
    rw [hfirst]
  have hput := rtpPut_fits hts hmarker hfits
  obtain ⟨hts', hlast', hended', hat'⟩ : (rtpPut k r).ts = k.ts ∧ (rtpPut k r).last = none ∧ (rtpPut k r).ended = [] ∧
      (rtpPut k r).endedAt = none := by
    rw [hput]
    exact ⟨hts, hlast, hended, hat⟩
  have h3 : p3.stream n = { p1.stream n with rtp := [rtpPut k r] } := by
    simp [p3, h2, rtpPlace_stream hts hrtp1 hwriting1 hover1, rtpPassed_within hts' hmarker]
  have hbeside : p3.besideStream n = p.besideStream n := by simp [p3, h2, p1]
  have hrtp3 : (p3.stream n).rtp = [rtpPut k r] := by rw [h3]
  rw [hrtp3, rtpClose_within hlast' hended' hat', h3, hput]
  exact ⟨hpkt, rfl, hslots, hbeside⟩

end

theorem exec_rtpPacketReceived {t n : Nat} {b : IpBind} {s : State} (halive : s.m.alive = true) (hrec : receives s.m = true)
    (hbind : (s.m.cfg.stream n).bind = .ip b) (k : RtpPacket) :
    exec (.rtpPacketReceived t n 0 k) s = .next { s with m := rtpReceived n 0 b k (advance t s.m) } := by
  rw [exec, execRtpPacketReceived, onPart_timed_guarded halive (by simp [hrec])]
  simp [hbind]

/-! ### Legs and ports -/

theorem exec_legLost {t n leg : Nat} {b : IpBind} {s : State} (halive : s.m.alive = true)
    (hbind : (s.m.cfg.stream n).bind = .ip b) (hprotect : b.protect = true) (hheard : (s.m.stream n).legLost.getD leg true = false)
    (hsilent : (s.m.stream n).legLast.getD leg 0 + 3 * formatPeriod b.fmt ≤ t) :
    exec (.legLost t n leg) s = .next { s with
      m := raise evLegLost n 0 (updStream n (fun x => { x with legLost := x.legLost.set leg true }) (advance t s.m)) } := by
  rw [exec, execLegLost, onPart_timed_guarded halive]
  simp only [advance_cfg, advance_stream, advance_now, hbind, hprotect, hheard, Bool.not_false, Bool.true_and]
  exact decide_eq_true (le_max_of_le_right hsilent)

theorem exec_networkRequest_arp {t port : Nat} {a : List Byte} {s : State} (halive : s.m.alive = true) (hrec : receives s.m = true)
    (hlink : (s.m.inp.eth.getD port {}).link = true) (hown : ownAddress (s.m.cfg.eth.getD port {}) a = true) (hlen : a.length = 4) :
    exec (.networkRequest t port (.arp a)) s = .next { s with m := emit (.netReply port (.arp a)) (advance t s.m) } := by
  have hguard : (receives s.m && (s.m.inp.eth.getD port {}).link && (ownAddress (s.m.cfg.eth.getD port {}) a && a.length == 4)) = true := by
    rw [hrec, hlink, hown, hlen]
    rfl
  rw [exec, execNetworkRequest, onPart_timed_guarded halive hguard]

/-- What a run of sends adds to the ports, in order; the rest of the part stands. -/
theorem foldl_emit {α : Type} (g : α → Out) (l : List α) (p : Part) :
    l.foldl (fun q x => emit (g x) q) p = p.updOut (· ++ l.map g) := by
  induction l generalizing p with
  | nil => simp [Part.updOut]
  | cons x rest ih => rw [List.foldl_cons, ih]; simp [emit, Part.updOut]

/-- A report that joins a leg of a port and family names that port and family (R45). -/
theorem membershipReport_join {port : Nat} {v6 : Bool} {l : Nat × Nat × Nat × List Byte × List Byte}
    (h : (l.2.1 == port && l.2.2.1 == b2n v6) = true) :
    membershipReport true l = .membership port l.1 v6 true l.2.2.2.1 l.2.2.2.2 := by
  simp only [Bool.and_eq_true, beq_iff_eq] at h
  obtain ⟨hport, hfamily⟩ := h
  cases v6 <;> simp [membershipReport, hport, hfamily, b2n]

theorem exec_membershipQuery {t port : Nat} {v6 : Bool} {s : State} (halive : s.m.alive = true) (hrec : receives s.m = true) :
    exec (.membershipQuery t port v6) s = .next { s with
      m := (advance t s.m).updOut
        (· ++ (s.m.cfg.legs.filter fun l => l.2.1 == port && l.2.2.1 == b2n v6).map (membershipReport true)) } := by
  rw [exec, execMembershipQuery, onPart_timed_guarded halive (by simp [hrec])]
  simp only [foldl_emit, advance_cfg]

/-- A one-step Sync of the grandmaster that is heard sets the offset and asks for the path's delay (R50). -/
theorem ptpArrives_sync {p : Part} {gm : DWord} (hgm : gm = p.inp.ptp.gm) (hheard : ptpHeard p = true) (origin received : Int) :
    ptpArrives (.sync p.cfg.ptp.domain gm false origin received) p = emit (.delayReq (ptpPort p))
      (updPtp (fun y => { y with lastAt := p.sys.now }) (updPtp (fun y => ptpOffset y origin (stamp4 received)) p)) := by
  have hsync : ptpMessage (.sync p.cfg.ptp.domain gm false origin received) p = emit (.delayReq (ptpPort p))
      (updPtp (fun y => { y with lastAt := p.sys.now }) (updPtp (fun y => ptpOffset y origin (stamp4 received)) p)) := by
    simp [ptpMessage, hgm, hheard]
  rw [ptpArrives, hsync]
  exact if_pos rfl

theorem exec_ptpMessage {t : Nat} {s : State} (halive : s.m.alive = true) (hrec : receives s.m = true) (msg : PtpMessage) :
    exec (.ptpMessage t (ptpPort s.m) msg) s = .next { s with m := ptpArrives msg (advance t s.m) } := by
  have hport : ptpPort (advance t s.m) = ptpPort s.m := rfl
  rw [exec, execPtpMessage, onPart_timed_guarded halive (by simp [hrec, hport])]

theorem exec_ethLinkDown {t port : Nat} {s : State} (halive : s.m.alive = true) (hlink : (s.m.inp.eth.getD port {}).link = true) :
    exec (.ethLinkDown t port) s = .next { s with
      m := raise evEthLinkDown port 0 (updPort true port (fun x => { x with link := false }) (advance t s.m)) } := by
  rw [exec, execEthLinkDown, onPart_timed_guarded halive (by simp [hlink])]

theorem exec_ethLinkUp {t port : Nat} {s : State} (halive : s.m.alive = true) (hlink : (s.m.inp.eth.getD port {}).link = false)
    (hlanes : ((List.range 4).all fun i => laneWorks s.m (128 + 4 * port + i)) = true) :
    exec (.ethLinkUp t port) s = .next { s with
      m := raise evEthLinkUp port 0 (updPort true port (fun x => { x with link := true }) (advance t s.m)) } := by
  rw [exec, execEthLinkUp, onPart_timed_guarded halive]
  rw [advance_inp, hlink]
  exact hlanes

/-! ### Vector fields -/

theorem updConv_conv (v k : Nat) (f : FrcRt → FrcRt) (p : Part) :
    (updConv v f p).conv k = if k = v then f (p.conv v) else p.conv k := Tab.getD_upd ..

/-- A converter that has the vector field of the pair that ends at `seq` (R80). -/
def vectorsTaken (seq : Word) (blocks : List VecBlock) (fell : Bool) (r : FrcRt) : FrcRt :=
  { r with
    started := true
    uniq := r.uniq.map fun v => if v.seq == seq then { v with vecs := some blocks, fellBack := fell } else v }

theorem vectorsTaken_vecs {seq : Word} {blocks : List VecBlock} {fell : Bool} {r : FrcRt} {v : Unique}
    (hv : v ∈ (vectorsTaken seq blocks fell r).uniq) (hseq : v.seq = seq) : v.vecs = some blocks := by
  obtain ⟨w, -, rfl⟩ := List.mem_map.mp hv
  by_cases hw : w.seq = seq
  · simp [hw]
  · simp [hw] at hseq

/-- Besides what is counted, the field of a pair that waits for one changes its converter alone (R76, R82). -/
theorem frcVectors_of_waiting {conv : Nat} {seqB : Word} {blocks : List VecBlock} {p : Part} {x : Unique}
    (hwaits : ((p.conv conv).uniq.find? fun u => u.seq == seqB && u.vecs.isNone && !u.shed) = some x)
    (hmode : (p.cfg.conv conv).mode ≠ 0) (hshed : frcShed p = false) :
    ∃ fell, (frcVectors conv seqB blocks p).quiet = (updConv conv (vectorsTaken x.seq blocks fell) p).quiet := by
  simp only [frcVectors, hwaits, hmode, hshed, decide_false, Bool.or_self, Bool.false_eq_true, if_false, perfSignal_quiet,
    apply_ite Part.quiet, count_quiet, ite_self]
  exact ⟨_, rfl⟩

theorem exec_vectorEstimateDone {t conv seqB : Nat} {blocks : List VecBlock} {s : State} (halive : s.m.alive = true)
    (hfit : vectorsFit ((s.m.cfg.conv conv).stream.bind s.m.format) blocks = true) :
    exec (.vectorEstimateDone t conv seqB blocks) s =
      .next { s with m := frcVectors conv (BitVec.ofNat 32 seqB) blocks (advance t s.m) } := by
  rw [exec, execVectorEstimateDone, onPart_timed_guarded halive]
  exact hfit

end Sys2Proof.Machine

open Sys2Proof Sys2Proof.Machine

/-- Settles O46: each form is its command's own rule; a packet is followed through placing and the frame's end, a vector field
through its converter. -/
theorem networkInputs : Obligations.NetworkInputs := by
  unfold Obligations.NetworkInputs
  intro t n s hlives
  have hnow := advance_now_of_livesAt hlives
  have halive := hlives.1
  refine ⟨?copy, ?first, ?leg, ?request, ?query, ?sync, ?linkDown, ?linkUp, ?vectors⟩
  case copy =>
    intro b k r e hrec hbind hfirst hwithin hrtp hts hlast hended hat hmarker
    obtain ⟨hpkt, hrtp', hslots, hcnt, hbeside⟩ := rtpReceived_copy (p := advance t s.m) hts hlast hended hat hmarker 0 b hrtp hfirst
      (hnow.trans_le hwithin)
    exact ⟨_, exec_rtpPacketReceived halive hrec hbind k, hpkt.trans hnow, hrtp', hslots, hcnt, streamAlone_of_besideStream hbeside⟩
  case first =>
    intro b k r slot hrec hbind hfirst hrtp hts hlast hended hat hwriting hover hfits hmarker
    obtain ⟨hpkt, hrtp', hslots, hbeside⟩ := rtpReceived_first (p := advance t s.m) hts hlast hended hat hmarker 0 b hrtp hfirst
      hwriting hover hfits
    exact ⟨_, exec_rtpPacketReceived halive hrec hbind k, hpkt.trans hnow, hrtp', hslots, streamAlone_of_besideStream hbeside⟩
  case leg =>
    intro b leg hbind hprotect hheard hsilent
    exact ⟨_, exec_legLost halive hbind hprotect hheard hsilent, by simp, raise_sets_pend (by decide),
      streamAlone_of_besideStream (by simp)⟩
  case request =>
    intro port a hrec hlink hown hlen
    exact ⟨_, exec_networkRequest_arp halive hrec hlink hown hlen, rfl, rfl, inputsAlone_of_offInputs rfl⟩
  case query =>
    intro port v6 hrec
    refine ⟨_, exec_membershipQuery halive hrec, ?_, rfl, inputsAlone_of_offInputs rfl⟩
    exact congrArg (s.m.out ++ ·) (List.map_congr_left fun l hl => membershipReport_join (List.mem_filter.mp hl).2)
  case sync =>
    rintro port gm origin received hrec rfl hgm hrank hheard
    have hheard' : ptpHeard (advance t s.m) = true := by
      simp [ptpHeard, Option.isSome_iff_ne_none.mpr hrank, hlives.2, hheard]
    refine ⟨_, exec_ptpMessage halive hrec _, ?_⟩
    have hsync := ptpArrives_sync (p := advance t s.m) hgm hheard' origin received
    rw [advance_cfg] at hsync
    rw [hsync]
    exact ⟨rfl, hnow, rfl, rfl, inputsAlone_of_offInputs rfl⟩
  case linkDown =>
    intro port hlink
    exact ⟨_, exec_ethLinkDown halive hlink, by simp, raise_sets_pend (by decide), by simp, inputsAlone_of_offInputs (by simp)⟩
  case linkUp =>
    intro port hlink hlanes
    exact ⟨_, exec_ethLinkUp halive hlink hlanes, by simp, raise_sets_pend (by decide), by simp, inputsAlone_of_offInputs (by simp)⟩
  case vectors =>
    intro conv seqB blocks x hwaits hmode hshed hfit
    obtain ⟨fell, hquiet⟩ := frcVectors_of_waiting (p := advance t s.m) (blocks := blocks) hwaits hmode hshed
    have hconv (k : Nat) : (frcVectors conv (BitVec.ofNat 32 seqB) blocks (advance t s.m)).conv k =
        if k = conv then vectorsTaken x.seq blocks fell (s.m.conv conv) else s.m.conv k := by
      rw [Part.conv, Part.frc_of_quiet hquiet]
      exact updConv_conv ..
    have hself := (hconv conv).trans (if_pos rfl)
    refine ⟨_, exec_vectorEstimateDone halive hfit, fun v hv hseq => ?_, ?_, fun k hk => (hconv k).trans (if_neg hk),
      (Part.inp_of_quiet hquiet).trans rfl,
      beyondInputs_of_offIngest ((Part.offIngest_of_offInputs (Part.offInputs_of_quiet hquiet)).trans rfl)⟩
    · exact vectorsTaken_vecs (hself ▸ hv) hseq
    · rw [hself]; rfl

end

section
/-! A host command that arrives whole on a ready head (Table 13.2): it reaches its own handler, and the answer is recorded under its
tag and sent or mirrored (R284, R331, R341). What taking, answering and sealing leave. -/

namespace Sys2Proof.Machine

open Sys2Proof

/-! ### Taking a command -/

/-- The part without its reports, its performance counters, its command queue and the time of the last packet: what stands
through the taking of a command. -/
def Part.taken (p : Part) : Part := { p.quiet with host := { p.host with cmdQueue := [], lastPacket := 0 } }

theorem Part.taken_of_quiet {p q : Part} (h : p.quiet = q.quiet) : p.taken = q.taken :=
  congrArg (fun r : Part => { r with host := { r.host with cmdQueue := [], lastPacket := 0 } }) h

theorem popped_taken (uart : Bool) (b : List Byte) (p : Part) : (popped uart b p).taken = p.taken := by
  unfold popped
  split
  · split <;> rfl
  · rfl

/-- The part that a handler meets: time has come to the command, its packet is off the queue and counted, and nothing else. -/
theorem commandAt_taken (op t : Nat) (k : CmdPkt) (s : State) : (commandAt op t k s).taken = (advance t s.m).taken :=
  calc (commandAt op t k s).taken
      = (perfSignal 8 0x11 0 1 (popped k.uart (cmdBytes op k) (advance t s.m))).taken := rfl
    _ = (popped k.uart (cmdBytes op k) (advance t s.m)).taken := Part.taken_of_quiet (perfSignal_quiet ..)
    _ = (advance t s.m).taken := popped_taken ..

section Fields

variable (op t : Nat) (k : CmdPkt) (s : State)

theorem commandAt_sys : (commandAt op t k s).sys = (advance t s.m).sys := (congrArg Part.sys (commandAt_taken op t k s) :)
@[simp] theorem commandAt_maint : (commandAt op t k s).maint = s.m.maint := (congrArg Part.maint (commandAt_taken op t k s) :)
@[simp] theorem commandAt_txn : (commandAt op t k s).txn = s.m.txn := (congrArg Part.txn (commandAt_taken op t k s) :)
@[simp] theorem commandAt_fr : (commandAt op t k s).fr = s.m.fr := (congrArg Part.fr (commandAt_taken op t k s) :)
@[simp] theorem commandAt_kl : (commandAt op t k s).kl = s.m.kl := (congrArg Part.kl (commandAt_taken op t k s) :)
@[simp] theorem commandAt_pair : (commandAt op t k s).pair = s.m.pair := (congrArg Part.pair (commandAt_taken op t k s) :)
@[simp] theorem commandAt_hrt : (commandAt op t k s).hrt = s.m.hrt := (congrArg Part.hrt (commandAt_taken op t k s) :)
@[simp] theorem commandAt_fab : (commandAt op t k s).fab = s.m.fab := (congrArg Part.fab (commandAt_taken op t k s) :)
@[simp] theorem commandAt_tags : (commandAt op t k s).host.tags = s.m.host.tags :=
  (congrArg (fun p : Part => p.host.tags) (commandAt_taken op t k s) :)

end Fields

theorem commandAt_now {op t : Nat} {k : CmdPkt} {s : State} (h : takesCommand op t k s) : (commandAt op t k s).sys.now = t := by
  obtain ⟨-, -, -, -, -, -, -, -, -, -, -, -, -, -, hnow⟩ := h
  rw [commandAt_sys, advance_now, max_eq_right hnow]

/-- A command that only a primary takes meets one (R285). -/
theorem commandAt_primary {op t : Nat} {k : CmdPkt} {s : State} (h : takesCommand op t k s) (honly : onlyPrimary op = true) :
    (commandAt op t k s).pair.role = .primary := by
  obtain ⟨-, -, -, -, -, -, -, -, -, -, -, hrole, -⟩ := h
  rw [commandAt_pair, hrole honly]

/-! ### What answers and seals leave -/

/-- The part without what taking, answering and sealing a command change: reports and counters, the queues and tag memory, the
transactions, the pair, and the packets queued on the Kralys link. -/
def Part.offAnswer (p : Part) : Part :=
  { p.taken with host := { p.taken.host with tags := [], replyQueue := [] }, txn := {}, pair := {}, kl := {} }

theorem Part.offAnswer_of_taken {p q : Part} (h : p.taken = q.taken) : p.offAnswer = q.offAnswer :=
  congrArg (fun r : Part => { r with host := { r.host with tags := [], replyQueue := [] }, txn := {}, pair := {}, kl := {} }) h

theorem Part.offAnswer_of_quiet {p q : Part} (h : p.quiet = q.quiet) : p.offAnswer = q.offAnswer :=
  Part.offAnswer_of_taken (Part.taken_of_quiet h)

theorem Part.sys_of_offAnswer {p q : Part} (h : p.offAnswer = q.offAnswer) : p.sys = q.sys :=
  (congrArg Part.sys h : p.offAnswer.sys = q.offAnswer.sys)

/-- What answers and seals leave, group by group. -/
theorem Part.groups_of_offAnswer {p q : Part} (h : p.offAnswer = q.offAnswer) :
    p.maint = q.maint ∧ p.cfg = q.cfg ∧ p.inp = q.inp ∧ p.comp = q.comp ∧ p.fr = q.fr ∧ p.light = q.light ∧ p.tb = q.tb ∧
      p.hrt = q.hrt ∧ p.fab = q.fab := by
  simp only [Part.offAnswer, Part.taken, Part.quiet, Part.rest, Part.mk.injEq] at h
  tauto

theorem commandAt_offAnswer (op t : Nat) (k : CmdPkt) (s : State) : (commandAt op t k s).offAnswer = (advance t s.m).offAnswer :=
  Part.offAnswer_of_taken (commandAt_taken ..)

@[simp] theorem updTxn_offAnswer (p : Part) (g : TxnSt → TxnSt) : (p.updTxn g).offAnswer = p.offAnswer := rfl
@[simp] theorem updPair_offAnswer (p : Part) (g : Pair → Pair) : (p.updPair g).offAnswer = p.offAnswer := rfl
@[simp] theorem updKl_offAnswer (p : Part) (g : Klink → Klink) : (p.updKl g).offAnswer = p.offAnswer := rfl
@[simp] theorem count_offAnswer (b i x : Nat) (p : Part) : (count b i x p).offAnswer = p.offAnswer := rfl
@[simp] theorem raise_offAnswer (n i a : Nat) (p : Part) : (raise n i a p).offAnswer = p.offAnswer :=
  Part.offAnswer_of_quiet (raise_quiet ..)

@[simp] theorem sendReply_offAnswer (r : Reply) (p : Part) : (sendReply r p).offAnswer = p.offAnswer := by
  unfold sendReply; dsimp only; split
  · rfl
  · split <;> rfl

@[simp] theorem sendAcked_offAnswer (kind seq : Nat) (x : PairBody) (p : Part) : (sendAcked kind seq x p).offAnswer = p.offAnswer :=
  foldl_keeps Part.offAnswer (by intros; rfl) ..

@[simp] theorem recordTag_offAnswer (e : TagEntry) (p : Part) : (recordTag e p).offAnswer = p.offAnswer := by
  unfold recordTag; split <;> rfl

@[simp] theorem recordTag_txn (e : TagEntry) (p : Part) : (recordTag e p).txn = p.txn := by
  unfold recordTag; split <;> rfl

/-! ### Answering -/

/-- What leaves the transactions, tag memory and everything outside an answer alone. -/
abbrev keepsRecord (p q : Part) : Prop := q.txn = p.txn ∧ q.host.tags = p.host.tags ∧ q.offAnswer = p.offAnswer

theorem sendReply_keepsRecord (r : Reply) (p : Part) : keepsRecord p (sendReply r p) := by
  obtain ⟨htxn, -, htags⟩ := sendReply_keeps r p
  exact ⟨htxn, htags, sendReply_offAnswer ..⟩

theorem configReply_keepsRecord (r : Reply) (p : Part) : keepsRecord p (configReply r p) := by
  unfold configReply; split
  · exact ⟨rfl, rfl, rfl⟩
  · exact sendReply_keepsRecord r p

theorem mirrorStale_keepsRecord (p : Part) : keepsRecord p (mirrorStale p) := by
  unfold mirrorStale; split
  · exact ⟨rfl, rfl, rfl⟩
  · simp [keepsRecord]

theorem mirrorOut_keepsRecord (op : Nat) (k : CmdPkt) (r : Reply) (p : Part) : keepsRecord p (mirrorOut op k r p) := by
  unfold mirrorOut; split
  · obtain ⟨htxn, htags, hoff⟩ := mirrorStale_keepsRecord p
    obtain ⟨htxn', htags', hoff'⟩ := sendReply_keepsRecord r (mirrorStale p)
    exact ⟨htxn'.trans htxn, htags'.trans htags, hoff'.trans hoff⟩
  · simp [keepsRecord]

/-- The entry of tag memory for a command answered so (R341). -/
def recordOf (op : Nat) (k : CmdPkt) (st : Nat) (a : Answer) : TagEntry :=
  { tag := k.tag, opcode := op, crc := k.crc, uart := k.uart, flags := k.flags
    reply := some (BitVec.ofNat 16 st, a.params), owes := a.owes }

/-- An answer is recorded, and then only sent, held or mirrored. -/
theorem answerWith_keepsRecord (r : OpRule) (op : Nat) (k : CmdPkt) (a : Answer) (p : Part) :
    keepsRecord (recordTag (recordOf op k (settle p a.status) a) p) (answerWith r op k a p) := by
  unfold answerWith; dsimp only; split
  · exact mirrorOut_keepsRecord ..
  · split
    · exact configReply_keepsRecord ..
    · exact sendReply_keepsRecord ..

@[simp] theorem answerWith_txn (r : OpRule) (op : Nat) (k : CmdPkt) (a : Answer) (p : Part) : (answerWith r op k a p).txn = p.txn :=
  (answerWith_keepsRecord r op k a p).1.trans (recordTag_txn ..)

@[simp] theorem answerWith_offAnswer (r : OpRule) (op : Nat) (k : CmdPkt) (a : Answer) (p : Part) :
    (answerWith r op k a p).offAnswer = p.offAnswer :=
  (answerWith_keepsRecord r op k a p).2.2.trans (recordTag_offAnswer ..)

/-- Where tag memory is kept, the answer stands in it (R341). -/
theorem answerWith_recorded {p : Part} (h : tagsKept p = true) (r : OpRule) (op : Nat) (k : CmdPkt) (a : Answer) :
    recordOf op k (settle p a.status) a ∈ (answerWith r op k a p).host.tags := by
  rw [(answerWith_keepsRecord r op k a p).2.1, recordTag, if_pos h]
  simp

/-! ### From the packet to its handler -/

/-- No rate change and no firmware switch waits for a reply to leave. -/
theorem repliesGone_idle {p : Part} (hbaud : p.host.newBaud = none) (htrial : p.hrt.pendingTrial = none) : repliesGone p = p := by
  have hsettled : uartSettles p = p := by rw [uartSettles, hbaud]
  rw [repliesGone, hsettled, switchStarts, htrial]

/-- Step 8 of Table 13.2: class, lock and room do not refuse the command. -/
theorem handle_passes {r : OpRule} {k : CmdPkt} {p : Part} (hclass : classOk r k = true)
    (hopen : r.cls = .maint true → p.maint.unlocked = true) (hroom : r.pends = true → othersOwed p < 32) (h : Handler) :
    handle r h k p = h k p := by
  have hlock : (decide (r.cls = .maint true) && !p.maint.unlocked) = false := by
    by_cases hc : r.cls = .maint true <;> simp [hc, hopen]
  have hroom' : (r.pends && decide (32 ≤ othersOwed p)) = false := by
    cases hp : r.pends
    · rfl
    · simpa using hroom hp
  rw [handle, hclass, hlock, hroom']
  rfl

/-- Steps 4 to 7 of Table 13.2 pass under an unknown tag on a ready head whose role takes the command. -/
theorem judged_passes {op : Nat} {k : CmdPkt} {p : Part} (htag : tagOf p k.tag = none) (hready : p.sys.ready = true)
    (hrole : onlyPrimary op = true → p.pair.role = .primary) (r : OpRule) (h : Handler) :
    judged (some r) op h k p = answerWith r op k (handle r h k p).1 (handle r h k p).2 := by
  have hserves : (onlyPrimary op && (p.pair.role == .standby || p.pair.role == .unsynced)) = false := by
    cases ho : onlyPrimary op
    · rfl
    · rw [hrole ho]; rfl
  simp [judged, htag, hready, hserves]

/-- Steps 2 and 3 of Table 13.2 pass on a head whose kindling has not stopped and that is not yielding. -/
theorem checked_passes {op : Nat} {k : CmdPkt} {p : Part} (hcrc : crcOk op k = true) (hhead : headerOk k = true)
    (hrole : p.pair.role ≠ .yielding) (hruns : p.sys.stopped = false) (rule : Option OpRule) (h : Handler) :
    checked rule op h k p = judged rule op h k (p.updHost fun x => { x with lastPacket := p.sys.now }) := by
  simp [checked, hcrc, hhead, hrole, stopResponder, hruns]

/-- A command that Table 13.2 lets through is answered by its handler. -/
theorem execHost_takes {op t : Nat} {k : CmdPkt} {s : State} (htakes : takesCommand op t k s) {r : OpRule}
    (hclass : classOk r k = true) (hopen : r.cls = .maint true → s.m.maint.unlocked = true)
    (hroom : r.pends = true → othersOwed s.m < 32) (h : Handler) :
    execHost r op h t k s = .next { s with
      m := repliesGone (answerWith r op k (h k (commandAt op t k s)).1 (h k (commandAt op t k s)).2) } := by
  have hnow := commandAt_now htakes
  obtain ⟨halive, hready, hstep, hruns, hkiln, hvia, hlen, hcrc, hhead, htag, hyield, hrole, -, -, -⟩ := htakes
  have hpops : popsCommands k.uart (advance t s.m) = true := by
    simp [popsCommands, served, Part.bar0, advance_sys, hstep, hkiln, halive, hvia]
  have hsys := commandAt_sys op t k s
  have hjudged : judged (some r) op h k (commandAt op t k s) =
      answerWith r op k (h k (commandAt op t k s)).1 (h k (commandAt op t k s)).2 := by
    rw [judged_passes (by simpa [tagOf] using htag) (by rw [hsys]; exact hready) (by simpa using hrole),
      handle_passes hclass (by simpa using hopen) (by simpa [othersOwed] using hroom)]
  have hchecked : checked (some r) op h k (perfSignal 8 0x11 0 1 (popped k.uart (cmdBytes op k) (advance t s.m))) =
      judged (some r) op h k (commandAt op t k s) := by
    have hpair : (perfSignal 8 0x11 0 1 (popped k.uart (cmdBytes op k) (advance t s.m))).pair = s.m.pair := commandAt_pair op t k s
    have hsys' : (perfSignal 8 0x11 0 1 (popped k.uart (cmdBytes op k) (advance t s.m))).sys = (advance t s.m).sys := hsys
    rw [checked_passes hcrc hhead (by rw [hpair]; exact hyield) (by rw [hsys']; exact hruns)]
    rw [hsys, ← hsys'] at hnow
    rw [hnow, commandAt]
  rw [execHost, onPart, timed_alive halive, hostCommand, hpops, hlen]
  simp only [Bool.not_true, Bool.false_eq_true, if_false]
  rw [hchecked, hjudged]

/-- Where its handler changes nothing but what answers and seals change, nothing waits for the reply to leave. -/
theorem execHost_answers {op t : Nat} {k : CmdPkt} {s : State} (htakes : takesCommand op t k s) {r : OpRule}
    (hclass : classOk r k = true) (hopen : r.cls = .maint true → s.m.maint.unlocked = true)
    (hroom : r.pends = true → othersOwed s.m < 32) {h : Handler} {a : Answer} {q : Part}
    (hact : h k (commandAt op t k s) = (a, q)) (hoff : q.offAnswer = (commandAt op t k s).offAnswer) :
    execHost r op h t k s = .next { s with m := answerWith r op k a q } := by
  rw [execHost_takes htakes hclass hopen hroom, hact]
  obtain ⟨-, -, -, -, -, -, -, -, -, -, -, -, htrial, hbaud, -⟩ := htakes
  have hkept : (answerWith r op k a q).offAnswer = (advance t s.m).offAnswer :=
    (answerWith_offAnswer ..).trans (hoff.trans (commandAt_offAnswer ..))
  have hbaud' : (answerWith r op k a q).host.newBaud = s.m.host.newBaud := (congrArg (fun p : Part => p.host.newBaud) hkept :)
  have htrial' : (answerWith r op k a q).hrt = s.m.hrt := (congrArg Part.hrt hkept :)
  rw [repliesGone_idle (hbaud'.trans hbaud) (by rw [htrial', htrial])]

/-- The tag of a command taken on a ready head is kept (R344). -/
theorem tagsKept_of_takes {op t : Nat} {k : CmdPkt} {s : State} (htakes : takesCommand op t k s) {q : Part}
    (hoff : q.offAnswer = (commandAt op t k s).offAnswer) : tagsKept q = true := by
  obtain ⟨-, -, hstep, hruns, -⟩ := htakes
  have hsys : q.sys = (advance t s.m).sys := (Part.sys_of_offAnswer hoff).trans (commandAt_sys ..)
  simp [tagsKept, hsys, advance_sys, hstep, hruns]

/-- What stands through a command whose handler changes nothing but what answers and seals change. -/
theorem answered_groups {op t : Nat} {k : CmdPkt} {s : State} {q : Part} (hoff : q.offAnswer = (commandAt op t k s).offAnswer)
    (r : OpRule) (a : Answer) :
    (answerWith r op k a q).maint = s.m.maint ∧ (answerWith r op k a q).cfg = s.m.cfg ∧ (answerWith r op k a q).inp = s.m.inp ∧
      (answerWith r op k a q).comp = s.m.comp ∧ (answerWith r op k a q).fr = s.m.fr ∧ (answerWith r op k a q).light = s.m.light ∧
      (answerWith r op k a q).tb = s.m.tb ∧ (answerWith r op k a q).hrt = s.m.hrt ∧ (answerWith r op k a q).fab = s.m.fab :=
  Part.groups_of_offAnswer (q := advance t s.m) ((answerWith_offAnswer ..).trans (hoff.trans (commandAt_offAnswer ..)))

end Sys2Proof.Machine
end

section
/-! What a head's degraded state rests on stands through reports and counts (R301). -/

namespace Sys2Proof.Machine

open Sys2Proof

/-- The fields of the log that R301 reads. -/
def Log.banks (l : Log) : Bool × Bool × Bool × Nat := (l.emberOn, l.failA, l.failB, l.spares)

@[simp] theorem signalVector_log (v : Nat) (p : Part) : (signalVector v p).log = p.log := by
  unfold signalVector; split <;> rfl

@[simp] theorem setPend_log (n : Nat) (p : Part) : (setPend n p).log = p.log := by
  unfold setPend; dsimp only; split
  · exact signalVector_log ..
  · rfl

@[simp] theorem pushEvent_log (x : EvEntry) (p : Part) : (pushEvent x p).log = p.log := by
  unfold pushEvent; split
  · rfl
  · exact setPend_log ..

@[simp] theorem raiseEvent_log (n i a : Nat) (p : Part) : (raiseEvent n i a p).log = p.log := by
  unfold raiseEvent; dsimp only; split
  · exact (pushEvent_log ..).trans (setPend_log ..)
  · exact setPend_log ..

@[simp] theorem pushIntake_banks (x : LogEntry) (p : Part) : (pushIntake x p).log.banks = p.log.banks := by
  unfold pushIntake; split
  · rfl
  · rw [raiseEvent_log]; rfl

@[simp] theorem report_banks (s i c v k a : Nat) (p : Part) : (report s i c v k a p).log.banks = p.log.banks := by
  unfold report
  extract_lets same p1 p2 p3
  have h1 : p1.log.banks = p.log.banks := by unfold p1; split <;> rfl
  have h2 : p2.log.banks = p1.log.banks := by
    unfold p2; split
    · split <;> rfl
    · rfl
  split
  · rfl
  · exact (pushIntake_banks ..).trans (h2.trans h1)

@[simp] theorem raise_banks (n i a : Nat) (p : Part) : (raise n i a p).log.banks = p.log.banks := by
  unfold raise raiseAs; dsimp only; rw [report_banks]; split <;> simp

@[simp] theorem perfSync_log (p : Part) : (perfSync p).log = p.log :=
  foldl_keeps Part.log (fun q g => by unfold perfSyncGroup; dsimp only; split <;> rfl) ..

@[simp] theorem perfWrapped_log (g c : Nat) (p : Part) : (perfWrapped g c p).log = p.log := by
  unfold perfWrapped; dsimp only; split
  · exact perfSync_log ..
  · rfl

@[simp] theorem perfCarry_banks (g c : Nat) (p : Part) : (perfCarry g c p).log.banks = p.log.banks := by
  unfold perfCarry; dsimp only; split
  · split
    · rw [raise_banks, perfWrapped_log]; rfl
    · rfl
  · exact raise_banks ..

@[simp] theorem perfAdd_banks (g n : Nat) (p : Part) (c : Nat) : (perfAdd g n p c).log.banks = p.log.banks := by
  unfold perfAdd; dsimp only; split
  · rfl
  · rw [perfCarry_banks, perfWrapped_log]; rfl

@[simp] theorem perfSignal_banks (g code inst n : Nat) (p : Part) : (perfSignal g code inst n p).log.banks = p.log.banks := by
  unfold perfSignal; split
  · rfl
  · exact foldl_keeps (fun q : Part => q.log.banks) (perfAdd_banks g n) ..

theorem popped_log (uart : Bool) (b : List Byte) (p : Part) : (popped uart b p).log = p.log := by
  unfold popped; split
  · split <;> rfl
  · rfl

@[simp] theorem commandAt_banks (op t : Nat) (k : CmdPkt) (s : State) : (commandAt op t k s).log.banks = s.m.log.banks := by
  rw [commandAt, Part.updHost_log, perfSignal_banks, popped_log, advance_log]

/-- The status OK or DEGRADED_OK rests on the lanes, the units, the fabric and the banks of the log (R301). -/
theorem okStatus_congr {p q : Part} (hkl : p.kl = q.kl) (hhrt : p.hrt = q.hrt) (hfab : p.fab = q.fab)
    (hbanks : p.log.banks = q.log.banks) : okStatus p = okStatus q := by
  simp only [Log.banks, Prod.mk.injEq] at hbanks
  obtain ⟨hember, hfailA, hfailB, hspares⟩ := hbanks
  have hfallow : fallowCount p = fallowCount q := by
    funext kind
    simp only [fallowCount, fallowPcs, unitsOf, pcState, Part.pc, hhrt, hfab]
  have hdegraded : degraded p = degraded q := by
    simp only [degraded, headlandEmpty, logDegraded, hfallow, hkl, hhrt, hember, hfailA, hfailB, hspares]
  rw [okStatus, okStatus, hdegraded]

@[simp] theorem commandAt_okStatus (op t : Nat) (k : CmdPkt) (s : State) : okStatus (commandAt op t k s) = okStatus s.m :=
  okStatus_congr (by simp) (by simp) (by simp) (by simp)

end Sys2Proof.Machine
end

section
/-! Seals: what a seal that passed adds to the pending commits, and what it leaves (R116 to R120, R231). -/

namespace Sys2Proof.Machine

open Sys2Proof

/-- A seal that passes gives the commit as it was asked for. -/
theorem judgeSeal_commit {p : Part} {tag : Word} {txn : Half} {cmds : List Staged} {gate : Option Gate} {req : Option Nat}
    {z : Sealing} (h : judgeSeal p tag txn cmds gate req = .ok z) :
    z.commit.tag = tag ∧ z.commit.txn = txn ∧ z.commit.cmds = cmds ∧ z.commit.gate = gate := by
  unfold judgeSeal at h
  dsimp only at h
  split at h
  · cases h
  · split at h
    · cases h
    · split at h
      · cases h
      · cases h
        exact ⟨rfl, rfl, rfl, rfl⟩

/-! ### Withdrawals and journal entries -/

@[simp] theorem writeJournal_offAnswer (n : Nat) (txn : Half) (tag : Word) (b : JournalBody) (p : Part) :
    (writeJournal n txn tag b p).offAnswer = p.offAnswer := by
  unfold writeJournal; split
  · rw [sendAcked_offAnswer, updTxn_offAnswer]
  · rfl

@[simp] theorem finalReply_offAnswer (tag : Word) (st : Nat) (params : List Byte) (p : Part) :
    (finalReply tag st params p).offAnswer = p.offAnswer := by
  unfold finalReply; split
  · split
    · dsimp only; split
      · exact sendReply_offAnswer ..
      · rfl
    · rfl
  · rfl

@[simp] theorem withdrawCommit_offAnswer (f : Nat) (p : Part) (x : Commit) : (withdrawCommit f p x).offAnswer = p.offAnswer := by
  unfold withdrawCommit; dsimp only; split
  · simp
  · split <;> simp [finalCommit]

/-! ### Power steps of a commit -/

/-- A packet queued on a lane leaves transactions and tag memory. -/
theorem queueCtrl_keepsRecord (f : Nat) (c : Ctrl) (p : Part) : keepsRecord p (queueCtrl f c p) := by
  unfold queueCtrl updLane; split
  · simp [keepsRecord, ctrlqFull, laneCount]
  · exact ⟨rfl, rfl, rfl⟩

theorem foldl_keepsRecord {α : Type} {f : Part → α → Part} (h : ∀ p a, keepsRecord p (f p a)) (l : List α) (p : Part) :
    keepsRecord p (l.foldl f p) :=
  ⟨foldl_keeps Part.txn (fun q a => (h q a).1) .., foldl_keeps (fun r : Part => r.host.tags) (fun q a => (h q a).2.1) ..,
    foldl_keeps Part.offAnswer (fun q a => (h q a).2.2) ..⟩

theorem sendPowerSteps_keepsRecord (apply f : Nat) (old new : Tab TileEntry) (p : Part) :
    keepsRecord p (sendPowerSteps apply f old new p) := by
  unfold sendPowerSteps; split
  · exact ⟨rfl, rfl, rfl⟩
  · refine foldl_keepsRecord (fun q e => ?_) ..
    split
    · split
      · exact queueCtrl_keepsRecord ..
      · exact ⟨rfl, rfl, rfl⟩
    · exact ⟨rfl, rfl, rfl⟩

theorem sealPower_keepsRecord (old new : Cfg) (apply : Nat) (p : Part) : keepsRecord p (sealPower old new apply p) :=
  foldl_keepsRecord (fun _ _ => sendPowerSteps_keepsRecord ..) ..

/-! ### The seal -/

theorem addCommit_txn (x : Commit) (p : Part) : (addCommit x p).txn = { p.txn with commits := p.txn.commits ++ [x] } :=
  (sealPower_keepsRecord ..).1

@[simp] theorem addCommit_offAnswer (x : Commit) (p : Part) : (addCommit x p).offAnswer = p.offAnswer :=
  (sealPower_keepsRecord ..).2.2

/-- A seal adds its commit under the newest journal number (R120). -/
theorem sealCommit_adds (z : Sealing) (p : Part) :
    { z.commit with jseq := (sealCommit z p).txn.jseq } ∈ (sealCommit z p).txn.commits := by
  simp [sealCommit, addCommit_txn]

@[simp] theorem sealCommit_offAnswer (z : Sealing) (p : Part) : (sealCommit z p).offAnswer = p.offAnswer := by
  unfold sealCommit
  simp only [addCommit_offAnswer, writeJournal_offAnswer]
  exact foldl_keeps Part.offAnswer (withdrawCommit_offAnswer _) ..

theorem takeSeal_primary {p : Part} (h : p.pair.role = .primary) (z : Sealing) : takeSeal z p = sealCommit z p := if_pos h

end Sys2Proof.Machine
end

section
/-! The commands of class C: staged, or sealed alone (R116 to R118, R352). -/

namespace Sys2Proof.Machine

open Sys2Proof

/-- Every command of class C is carried out by `configCommand` of its opcode, and only a primary takes it. -/
theorem exec_of_configRow {c : Instr} {op t : Nat} {k : CmdPkt} (h : configRow c = some (op, t, k)) :
    onlyPrimary op = true ∧ ∀ s, exec c s = execHost ruleConfig op (configCommand op) t k s := by
  unfold configRow at h
  split at h <;> cases h <;> exact ⟨rfl, fun _ => rfl⟩

theorem prefixBad_congr {p q : Part} (h : p.fr = q.fr) (k : CmdPkt) : prefixBad p k = prefixBad q k := by
  simp only [prefixBad, h]

/-! ### Sealed alone -/

/-- Outside a transaction, a command that passes its checks is sealed with PENDING and the commit block (R352). -/
theorem configCommand_alone {op : Nat} {k : CmdPkt} {x : ConfigCmd} {z : Sealing} {p : Part} (halone : k.flags.getLsbD 2 = false)
    (hprefix : prefixBad p k = none) (hparse : parseConfig op k = .ok x)
    (hseal : judgeSeal p k.tag 0 [{ tag := k.tag, opcode := op, pkt := k, cmd := x }] none (prefixCfn k) = .ok z) :
    configCommand op k p = ({ status := stPending, params := commitBlock z.commit.apply, owes := some .commit }, takeSeal z p) := by
  simp only [configCommand, halone, sealAlone, hprefix, hparse, hseal, Bool.false_eq_true, if_false]

/-! ### Staged -/

/-- A restarted idle time leaves the commits. -/
@[simp] theorem touchTxn_commits (id : Nat) (p : Part) : (touchTxn id p).txn.commits = p.txn.commits := by
  unfold touchTxn; rw [Part.updTxn_txn]; split <;> rfl

/-- The part with transaction `id` as `y`, its idle time restarted. -/
def stagedIn (id : Nat) (y : Txn) (p : Part) : Part := (touchTxn id p).updTxn fun x => { x with open_ := x.open_.set id y }

/-- In a transaction with room, a command that its layout allows goes to the end of the staging order (R116). -/
theorem configCommand_staged {op : Nat} {k : CmdPkt} {x : ConfigCmd} {y : Txn} {p : Part} (hin : k.flags.getLsbD 2 = true)
    (hopen : p.txn.open_.get? k.txn.toNat = some y) (hparse : parseConfig op k = .ok x) (hroom : y.staged.length < 1024) :
    configCommand op k p = (okAnswer [], stagedIn k.txn.toNat
      { idle := y.idle, lastUse := p.sys.now, staged := y.staged ++ [{ tag := k.tag, opcode := op, pkt := k, cmd := x }] } p) := by
  simp [configCommand, hin, stageCommand, hopen, hparse, Nat.not_le.mpr hroom, stagedIn]

@[simp] theorem stagedIn_open (id : Nat) (y : Txn) (p : Part) : (stagedIn id y p).txn.open_.get? id = some y := by
  simp [stagedIn]

@[simp] theorem stagedIn_commits (id : Nat) (y : Txn) (p : Part) : (stagedIn id y p).txn.commits = p.txn.commits :=
  touchTxn_commits ..

@[simp] theorem stagedIn_offAnswer (id : Nat) (y : Txn) (p : Part) : (stagedIn id y p).offAnswer = p.offAnswer := rfl

@[simp] theorem stagedIn_okStatus (id : Nat) (y : Txn) (p : Part) : okStatus (stagedIn id y p) = okStatus p := rfl

end Sys2Proof.Machine

open Sys2Proof Sys2Proof.Machine

/-- Settles O35: the command reaches `configCommand`, whose seal adds the commit; the answer is recorded, and seal and answer leave
what `Part.offAnswer` holds. -/
theorem configSealed : Obligations.ConfigSealed := by
  unfold Obligations.ConfigSealed
  intro c op t k x z s hrow htakes hclass halone hprefix hparse hseal
  obtain ⟨honly, hexec⟩ := exec_of_configRow hrow
  have hact := configCommand_alone halone ((prefixBad_congr (commandAt_fr op t k s) k).trans hprefix) hparse hseal
  rw [takeSeal_primary (commandAt_primary htakes honly)] at hact
  have hoff := sealCommit_offAnswer z (commandAt op t k s)
  obtain ⟨htag, htxn, hcmds, -⟩ := judgeSeal_commit hseal
  obtain ⟨hmaint, hcfg, hinp, hcomp, hfr, hlight, htb, hhrt, hfab⟩ := answered_groups hoff ruleConfig
    { status := stPending, params := commitBlock z.commit.apply, owes := some .commit }
  refine ⟨_, (hexec s).trans (execHost_answers htakes hclass nofun nofun hact hoff), ?commit,
    ⟨_, answerWith_recorded (tagsKept_of_takes htakes hoff) .., rfl, rfl, rfl, rfl, rfl⟩,
    hcfg, hfr, htb, hinp, hcomp, hlight, hhrt, hfab, hmaint, rfl, rfl, rfl⟩
  case commit =>
    rw [answerWith_txn]
    exact ⟨_, sealCommit_adds z _, htag, htxn, rfl, rfl, hcmds⟩

/-- Settles O36: the command reaches `configCommand`, which stages it; the answer is OK, since a head's degraded state stands. -/
theorem configStaged : Obligations.ConfigStaged := by
  unfold Obligations.ConfigStaged
  intro c op t k x y s hrow htakes hclass hin hopen hparse hroom
  obtain ⟨-, hexec⟩ := exec_of_configRow hrow
  have hact := configCommand_staged hin ((congrArg (fun w : TxnSt => w.open_.get? k.txn.toNat) (commandAt_txn op t k s)).trans hopen)
    hparse hroom
  rw [commandAt_now htakes] at hact
  have hoff := stagedIn_offAnswer k.txn.toNat
    { idle := y.idle, lastUse := t, staged := y.staged ++ [{ tag := k.tag, opcode := op, pkt := k, cmd := x }] } (commandAt op t k s)
  obtain ⟨-, hcfg, hinp, -, hfr, -, htb, hhrt, -⟩ := answered_groups hoff ruleConfig (okAnswer [])
  refine ⟨_, (hexec s).trans (execHost_answers htakes hclass nofun nofun hact hoff), ?staged,
    ⟨_, answerWith_recorded (tagsKept_of_takes htakes hoff) .., rfl, rfl, rfl, ?status⟩, ?commits, hcfg, hfr, htb, hinp, hhrt, rfl, rfl⟩
  case staged => simp
  case status => simp [recordOf, okAnswer, settle]
  case commits => simp

end

section
/-! Transactions: opening, abort, seal and expiry (R116, R117). -/

namespace Sys2Proof.Machine

open Sys2Proof

theorem firstBad_eq_none {l : List (Bool × Nat)} (h : ∀ c ∈ l, c.1 = true) : firstBad l = none := by
  induction l with
  | nil => rfl
  | cons c rest ih =>
    rw [firstBad, if_pos (h c List.mem_cons_self), ih fun d hd => h d (List.mem_cons_of_mem c hd)]

/-- A layout of the right length whose every field passes gives its value (R347). -/
theorem layout_ok {α : Type} {b : List Byte} {len : Nat} {checks : List (Bool × Nat)} (hlen : b.length = len)
    (hall : ∀ c ∈ checks, c.1 = true) (v : α) : layout b len checks v = .ok v := by
  rw [layout, if_neg (not_not.mpr hlen), firstBad_eq_none hall]

/-- The part with a new transaction `id` (R116). -/
def openedTxn (id : Nat) (y : Txn) (p : Part) : Part := p.updTxn fun x => { x with open_ := x.open_.set id y }

@[simp] theorem openedTxn_offAnswer (id : Nat) (y : Txn) (p : Part) : (openedTxn id y p).offAnswer = p.offAnswer := rfl

@[simp] theorem openedTxn_open (id : Nat) (y : Txn) (p : Part) : (openedTxn id y p).txn.open_.get? id = some y := by
  simp [openedTxn]

@[simp] theorem openedTxn_commits (id : Nat) (y : Txn) (p : Part) : (openedTxn id y p).txn.commits = p.txn.commits := rfl

theorem txnOpen_opens {k : CmdPkt} {p : Part} (hlen : k.params.length = 4) (hlo : 1 ≤ leAt k.params 0 4)
    (hhi : leAt k.params 0 4 ≤ 600) (hid : k.txn ≠ 0) (hnew : p.txn.open_.has k.txn.toNat = false) (hroom : p.txn.open_.length < 16) :
    txnOpen k p = (okAnswer [], openedTxn k.txn.toNat { idle := leAt k.params 0 4 * sec, lastUse := p.sys.now } p) := by
  have hlayout : layout k.params 4 [within k.params 0 4 1 600, (k.txn != 0, noOffset)] (leAt k.params 0 4) = .ok (leAt k.params 0 4) :=
    layout_ok hlen (by simpa [within, hlo, hhi] using hid) _
  simp only [txnOpen, hlayout, hnew, Nat.not_le.mpr hroom, openedTxn, Bool.false_eq_true, if_false]

theorem txnAbort_closes {k : CmdPkt} {p : Part} (hnone : k.params = []) (hopen : p.txn.open_.has k.txn.toNat = true) :
    txnAbort k p = (okAnswer [], closeTxn k.txn.toNat p) := by
  simp [txnAbort, hnone, hopen]

theorem txnSeal_seals {k : CmdPkt} {p : Part} {gate : Option Gate} {y : Txn} {z : Sealing}
    (hlayout : layout k.params 16 (sealChecks p k) (gateOf k.params) = .ok gate) (hopen : p.txn.open_.get? k.txn.toNat = some y)
    (hstaged : y.staged ≠ [])
    (hseal : judgeSeal p k.tag k.txn y.staged gate (if k.flags.getLsbD 1 then some (leAt k.params 0 6) else none) = .ok z) :
    txnSeal k p = ({ status := stPending, params := commitBlock z.commit.apply, owes := some .commit },
      closeTxn k.txn.toNat (takeSeal z p)) := by
  simp only [txnSeal, hlayout, hopen, hseal, List.isEmpty_eq_false_iff.mpr hstaged, Bool.false_eq_true, if_false]

theorem sealChecks_congr {p q : Part} (h : p.fr = q.fr) (k : CmdPkt) : sealChecks p k = sealChecks q k := by
  simp only [sealChecks, h]

/-! ### A transaction that leaves -/

@[simp] theorem closeTxn_closed (id : Nat) (p : Part) : (closeTxn id p).txn.open_.has id = false := by
  simp [closeTxn]

@[simp] theorem closeTxn_commits (id : Nat) (p : Part) : (closeTxn id p).txn.commits = p.txn.commits := rfl

@[simp] theorem closeTxn_cfg (id : Nat) (p : Part) : (closeTxn id p).cfg = p.cfg := rfl
@[simp] theorem closeTxn_pair (id : Nat) (p : Part) : (closeTxn id p).pair = p.pair := rfl
@[simp] theorem closeTxn_offAnswer (id : Nat) (p : Part) : (closeTxn id p).offAnswer = p.offAnswer := rfl

theorem txnExpires_closes {id : Nat} {y : Txn} {p : Part} (hopen : p.txn.open_.get? id = some y)
    (hidle : y.lastUse + y.idle ≤ p.sys.now) : txnExpires id p = raise evTxnExpired id 0 (closeTxn id p) := by
  simp [txnExpires, hopen, hidle]

theorem exec_txnExpired {t id : Nat} {s : State} (halive : s.m.alive = true) (hkiln : s.m.hrt.kilnReset = false) :
    exec (.txnExpired t id) s = .next { s with m := txnExpires id (advance t s.m) } := by
  rw [exec, execTxnExpired, onPart_timed_guarded halive (by simp [hkiln])]

end Sys2Proof.Machine

open Sys2Proof Sys2Proof.Machine

/-- Settles O37: each command through what its handler does to the transactions; the answer leaves those as the handler left
them, and the configuration. -/
theorem transactions : Obligations.Transactions := by
  unfold Obligations.Transactions
  intro t k s
  refine ⟨?opens, ?aborts, ?seals, ?expires⟩
  case opens =>
    intro htakes hclass hlen hlo hhi hid hnew hroom
    have hact := txnOpen_opens (p := commandAt 0x0101 t k s) hlen hlo hhi hid (by simpa using hnew) (by simpa using hroom)
    rw [commandAt_now htakes] at hact
    have hoff := openedTxn_offAnswer k.txn.toNat { idle := leAt k.params 0 4 * sec, lastUse := t } (commandAt 0x0101 t k s)
    obtain ⟨-, hcfg, -⟩ := answered_groups hoff ruleTxn (okAnswer [])
    exact ⟨_, execHost_answers htakes hclass nofun nofun hact hoff, by simp, by simp, hcfg, rfl, rfl⟩
  case aborts =>
    intro htakes hclass hnone hopen
    have hact := txnAbort_closes (p := commandAt 0x0103 t k s) hnone (by simpa using hopen)
    have hoff := closeTxn_offAnswer k.txn.toNat (commandAt 0x0103 t k s)
    obtain ⟨-, hcfg, -⟩ := answered_groups hoff ruleTxn (okAnswer [])
    exact ⟨_, execHost_answers htakes hclass nofun nofun hact hoff, by simp, by simp, hcfg, rfl, rfl⟩
  case seals =>
    intro y gate z htakes hclass hlayout hopen hstaged hseal
    have hact := txnSeal_seals (by rw [sealChecks_congr (commandAt_fr ..)]; exact hlayout) (by simpa using hopen) hstaged hseal
    rw [takeSeal_primary (commandAt_primary htakes rfl)] at hact
    have hoff := (closeTxn_offAnswer k.txn.toNat _).trans (sealCommit_offAnswer z (commandAt 0x0102 t k s))
    obtain ⟨htag, htxn, hcmds, hgate⟩ := judgeSeal_commit hseal
    obtain ⟨-, hcfg, -⟩ := answered_groups hoff { ruleTxn with seal_ := true }
      { status := stPending, params := commitBlock z.commit.apply, owes := some .commit }
    refine ⟨_, execHost_answers htakes hclass nofun nofun hact hoff, ?commit, by simp, hcfg, rfl, rfl⟩
    rw [answerWith_txn, closeTxn_commits]
    exact ⟨_, sealCommit_adds z _, htag, htxn, hcmds, hgate, rfl⟩
  case expires =>
    intro id y hlives hkiln hopen hidle
    have hexpires := txnExpires_closes (p := advance t s.m) hopen (hidle.trans_eq (advance_now_of_livesAt hlives).symm)
    refine ⟨_, (exec_txnExpired hlives.1 hkiln).trans (by rw [hexpires]), ?_⟩
    simp

end

section
/-! The Kralys link: what an operation of one tile and its lane leaves, and what reads of lanes, tiles and ports give after it. -/

namespace Sys2Proof.Machine

open Sys2Proof

/-! ### Observers -/

/-- The part without its time, its reports, its performance counters and the state of the Kralys link. -/
def Part.offKlink (p : Part) : Part := { p.quiet with sys := {}, kl := {} }

/-- What an operation of the tile at `pos` of furrow `f` leaves: the part off the link, each other lane, and each other tile of
the furrow. -/
def Part.besideTile (f pos : Nat) (p : Part) : Part × (Nat → Lane) × (Nat → TileRt) :=
  (p.offKlink, fun g => if g = f then {} else p.lane g, fun k => if k = pos then {} else p.tile f k)

theorem Part.offKlink_of_quiet {p q : Part} (h : p.quiet = q.quiet) : p.offKlink = q.offKlink :=
  congrArg (fun r : Part => { r with sys := {}, kl := {} }) h

theorem Part.offKlink_of_rest {p q : Part} (h : p.rest = q.rest) : p.offKlink = q.offKlink :=
  Part.offKlink_of_quiet (Part.quiet_of_rest h)

theorem Part.besideTile_of_rest {p q : Part} (h : p.rest = q.rest) (f pos : Nat) : p.besideTile f pos = q.besideTile f pos :=
  show p.rest.besideTile f pos = q.rest.besideTile f pos from congrArg _ h

theorem furrowKept_of_offKlink {s : State} {q : Part} (h : q.offKlink = s.m.offKlink) : furrowKept s { s with m := q } := by
  simp only [Part.offKlink, Part.quiet, Part.rest, Part.mk.injEq] at h
  unfold furrowKept
  tauto

theorem otherLanes_of_lanes {f : Nat} {s u : State} (h : u.m.kl.lanes = s.m.kl.lanes) : otherLanes f s u := fun g _ => by
  rw [Part.lane, h, Part.lane]

theorem furrowAlone_of_besideTile {f pos : Nat} {s : State} {q : Part} (h : q.besideTile f pos = s.m.besideTile f pos) :
    (∀ k, k ≠ pos → q.tile f k = s.m.tile f k) ∧ otherLanes f s { s with m := q } ∧ furrowKept s { s with m := q } := by
  obtain ⟨hoff, hlanes, htiles⟩ : _ ∧ _ ∧ _ := by simpa only [Part.besideTile, Prod.mk.injEq] using h
  refine ⟨fun k hk => ?_, fun g hg => ?_, furrowKept_of_offKlink hoff⟩
  · simpa [hk] using congrFun htiles k
  · simpa [hg] using congrFun hlanes g

/-! ### Time and reports -/

@[simp] theorem advance_offKlink (t : Nat) (p : Part) : (advance t p).offKlink = p.offKlink := rfl
@[simp] theorem advance_besideTile (t f pos : Nat) (p : Part) : (advance t p).besideTile f pos = p.besideTile f pos := rfl
@[simp] theorem advance_lane (t f : Nat) (p : Part) : (advance t p).lane f = p.lane f := rfl
@[simp] theorem advance_tile (t f pos : Nat) (p : Part) : (advance t p).tile f pos = p.tile f pos := rfl
@[simp] theorem advance_link (t f key : Nat) (p : Part) : (advance t p).link f key = p.link f key := rfl
@[simp] theorem raise_offKlink (n i a : Nat) (p : Part) : (raise n i a p).offKlink = p.offKlink := Part.offKlink_of_rest (raise_rest ..)
@[simp] theorem raise_besideTile (n i a f pos : Nat) (p : Part) : (raise n i a p).besideTile f pos = p.besideTile f pos :=
  Part.besideTile_of_rest (raise_rest ..) f pos

/-! ### Lanes, tiles and links -/

theorem tileKey_inj {f j k : Nat} : tileKey f j = tileKey f k ↔ j = k := by
  simp [tileKey]

@[simp] theorem updLane_offKlink (f : Nat) (g : Lane → Lane) (p : Part) : (updLane f g p).offKlink = p.offKlink := rfl
@[simp] theorem updTile_offKlink (f k : Nat) (g : TileRt → TileRt) (p : Part) : (updTile f k g p).offKlink = p.offKlink := rfl

@[simp] theorem updLane_besideTile (f pos : Nat) (g : Lane → Lane) (p : Part) :
    (updLane f g p).besideTile f pos = p.besideTile f pos := by
  refine Prod.ext rfl (Prod.ext (funext fun j => ?_) rfl)
  by_cases hj : j = f <;> simp [Part.besideTile, hj]

@[simp] theorem updTile_besideTile (f pos : Nat) (g : TileRt → TileRt) (p : Part) :
    (updTile f pos g p).besideTile f pos = p.besideTile f pos := by
  refine Prod.ext rfl (Prod.ext rfl (funext fun k => ?_))
  by_cases hk : k = pos <;> simp [Part.besideTile, hk, tileKey_inj]

/-- A header whose HOP check holds is neither counted nor a link error (R182). -/
theorem hopCheck_good {h : UpHeader} (hgood : hopBad h = false) (f : Nat) (p : Part) : hopCheck f h p = p := by
  simp [hopCheck, hgood]

end Sys2Proof.Machine
end

section
/-! The status run and a tile's STATUS: supply, silence and temperature with them (R164, R195, R210, R218, R223, R224, R231). -/

namespace Sys2Proof.Machine

open Sys2Proof

/-! ### The status run -/

/-- No STATUS has arrived from the tile at `pos`. -/
def awaitTile (f : Nat) (p : Part) (pos : Nat) : Part := updTile f pos (fun t => { t with got := false }) p

theorem awaitTile_got (f k pos : Nat) (p : Part) :
    ((awaitTile f p pos).tile f k).got = if k = pos then false else (p.tile f k).got := by
  simp only [awaitTile, updTile_tile, tileKey_inj, apply_ite TileRt.got]

/-- Of every tile that a run names, and of every other that it waited for already, it waits for the STATUS. -/
theorem awaitTiles_got {f k : Nat} (ks : List Nat) (p : Part) (h : k ∈ ks ∨ (p.tile f k).got = false) :
    ((ks.foldl (awaitTile f) p).tile f k).got = false := by
  induction ks generalizing p with
  | nil => simpa using h
  | cons x rest ih =>
    refine ih _ ?_
    rw [awaitTile_got]
    by_cases hx : k = x
    · exact .inr (if_pos hx)
    · rw [if_neg hx]
      exact h.imp_left fun hmem => (List.mem_cons.mp hmem).resolve_left hx

/-- The furrow's balks, one for each position up to the highest in service. -/
def runBalks (f : Nat) (p : Part) : List Out :=
  (List.range ((((p.cfg.furrow f).map.keys.filter fun k => (p.tile f k).inService)).foldl max 0)).map fun _ => .balk f

/-- The status run: its balks go out, each mapped tile is waited for, and the lane is in its run (R223). -/
theorem statusRun_eq (f : Nat) (p : Part) : statusRun f p =
    updLane f (fun l => { l with statusRun := true, ackSlot := true, runDue := false })
      ((p.cfg.furrow f).map.keys.foldl (awaitTile f) (p.updOut (· ++ runBalks f p))) := by
  unfold statusRun
  dsimp only
  rw [foldl_emit]
  rfl

theorem statusRun_offKlink (f : Nat) (p : Part) : (statusRun f p).offKlink = p.offKlink := by
  have hwaits := foldl_keeps Part.offKlink (f := awaitTile f) (fun _ _ => rfl)
  rw [statusRun_eq, updLane_offKlink, hwaits]; rfl

theorem statusRun_lane (f g : Nat) (p : Part) : (statusRun f p).lane g =
    if g = f then { p.lane f with statusRun := true, ackSlot := true, runDue := false } else p.lane g := by
  have hlanes (j : Nat) :
      ((p.cfg.furrow f).map.keys.foldl (awaitTile f) (p.updOut (· ++ runBalks f p))).lane j = p.lane j :=
    foldl_keeps (fun q : Part => q.lane j) (f := awaitTile f) (fun _ _ => rfl) ..
  rw [statusRun_eq, updLane_lane, hlanes, hlanes]

theorem statusRun_got {f k : Nat} {p : Part} (hmapped : k ∈ (p.cfg.furrow f).map.keys) :
    ((statusRun f p).tile f k).got = false := by
  rw [statusRun_eq, updLane_tile]
  exact awaitTiles_got _ _ (.inl hmapped)

theorem exec_statusRun {t f : Nat} {s : State} (halive : s.m.alive = true) (hup : (s.m.lane f).state = 7)
    (hsound : (s.m.lane f).faulted = false) (hstarted : s.m.fr.started = true) (hrole : s.m.pair.role ≠ .yielding) :
    exec (.statusRun t f) s = .next { s with m := statusRun f (advance t s.m) } := by
  rw [exec, execStatusRun, onPart_timed_guarded halive (by simp [laneUp, maySend, hup, hsound, hstarted, hrole])]

/-! ### STATUS -/

/-- What a STATUS says of its tile: heard, no run missed, the packet itself, and late or not. -/
def TileRt.heard (t : TileRt) : Bool × Nat × Option TileStatus × Bool := (t.got, t.missed, t.status, t.late)

/-- What the last STATUS of the tile at `pos` said, and all that an operation of that tile leaves. -/
def Part.statusAt (f pos : Nat) (p : Part) : (Bool × Nat × Option TileStatus × Bool) × (Part × (Nat → Lane) × (Nat → TileRt)) :=
  ((p.tile f pos).heard, p.besideTile f pos)

@[simp] theorem raise_statusAt (n i a f pos : Nat) (p : Part) : (raise n i a p).statusAt f pos = p.statusAt f pos := by
  simp [Part.statusAt]

@[simp] theorem updLane_statusAt (f pos : Nat) (g : Lane → Lane) (p : Part) : (updLane f g p).statusAt f pos = p.statusAt f pos := by
  simp [Part.statusAt]

/-- An operation on the tile itself that changes nothing of what its STATUS said. -/
theorem updTile_statusAt {g : TileRt → TileRt} (h : ∀ t, (g t).heard = t.heard) (f pos : Nat) (p : Part) :
    (updTile f pos g p).statusAt f pos = p.statusAt f pos := by
  simp [Part.statusAt, h]

@[simp] theorem setMark_statusAt (f pos : Nat) (p : Part) : (setMark f pos p).statusAt f pos = p.statusAt f pos :=
  updTile_statusAt (by intro; rfl) ..

@[simp] theorem laneCount_statusAt (f i g pos : Nat) (p : Part) : (laneCount f i p).statusAt g pos = p.statusAt g pos := rfl

@[simp] theorem linkError_statusAt (f pos : Nat) (p : Part) : (linkError f p).statusAt f pos = p.statusAt f pos :=
  updLane_statusAt ..

@[simp] theorem tempUnknown_statusAt (f pos : Nat) (p : Part) : (tempUnknown f pos p).statusAt f pos = p.statusAt f pos := by
  have htile : (updTile f pos (fun t => { t with ta := none, unkRaised := true }) p).statusAt f pos = p.statusAt f pos :=
    updTile_statusAt (by intro; rfl) ..
  unfold tempUnknown; dsimp only; split
  · exact htile
  · rw [raise_statusAt, htile]

@[simp] theorem tempReported_statusAt (f pos : Nat) (raw : Half) (p : Part) :
    (tempReported f pos raw p).statusAt f pos = p.statusAt f pos := by
  unfold tempReported; dsimp only; split
  · exact tempUnknown_statusAt ..
  · exact updTile_statusAt (by intro; rfl) ..

@[simp] theorem setHop_statusAt (f hop v pos : Nat) (p : Part) : (setHop f hop v p).statusAt f pos = p.statusAt f pos := by
  unfold setHop; split
  · rfl
  · rw [raise_statusAt, updLane_statusAt]

@[simp] theorem statusHops_statusAt (f : Nat) (h : UpHeader) (ports : Byte) (pos : Nat) (p : Part) :
    (statusHops f h ports p).statusAt f pos = p.statusAt f pos := by
  unfold statusHops; dsimp only; rw [setHop_statusAt, setHop_statusAt]

/-- A STATUS whose tile is not silent: the tile takes it in, late where it is of an earlier frame or says so itself; of the rest
only the lane may change, by a link error and its hop reports (R195, R208, R210, R224). -/
theorem tileStatus_statusAt {f : Nat} {h : UpHeader} {p : Part} (hgood : hopBad h = false)
    (hspeaks : (p.tile f h.addr).silent = false) (x : TileStatus) :
    (tileStatus f h x p).statusAt f h.addr =
      ((true, 0, some x, (p.tile f h.addr).inService && (!onTime p.fr.cfn x.latched || x.flags.getLsbD 0)),
        p.besideTile f h.addr) := by
  unfold tileStatus
  extract_lets pos p0 t n late follow moved level full again p1 p2 p3 p4 p5 p6
  have hp0 : p0 = p := hopCheck_good hgood ..
  have hp1 : p1 = p := by simp [p1, again, t, hp0, pos, hspeaks]
  have hmarks : (statusHops f h x.ports p6).statusAt f h.addr = p2.statusAt f h.addr := by
    simp only [p6, p5, p4, p3, pos, statusHops_statusAt, apply_ite (Part.statusAt f h.addr), linkError_statusAt,
      setMark_statusAt, laneCount_statusAt, tempReported_statusAt, ite_self]
  rw [hmarks, Part.statusAt, updTile_besideTile, updTile_tile, if_pos rfl, hp1]
  simp only [TileRt.heard, late, t, n, hp0, pos]

theorem exec_tileStatusReceived {t f : Nat} {h : UpHeader} {s : State} (halive : s.m.alive = true)
    (hup : (s.m.lane f).state = 7) (hend : h.endB = s.m.sys.endB) (hmapped : (s.m.cfg.furrow f).map.has h.addr = true)
    (x : TileStatus) :
    exec (.tileStatusReceived t f h x) s = .next { s with m := tileStatus f h x (advance t s.m) } := by
  rw [exec, execTileStatusReceived, onPart_timed_guarded halive (by simp [laneUp, hup, hend, advance_sys])]
  simp only [advance_cfg, hmapped, if_true]

/-! ### Silence, supply and temperature -/

theorem tileLost_sound {f pos : Nat} {p : Part} (hsound : powerRisk p f pos = false) :
    tileLost f pos p = raise evTileLost f pos (updTile f pos (fun t => { t with silent := true }) p) := by
  rw [tileLost, hsound]
  rfl

theorem exec_tileLost {t f pos : Nat} {s : State} (halive : s.m.alive = true) (hserves : (s.m.tile f pos).inService = true)
    (hspeaks : (s.m.tile f pos).silent = false) (hmissed : 3 ≤ (s.m.tile f pos).missed) :
    exec (.tileLost t f pos) s = .next { s with m := tileLost f pos (advance t s.m) } := by
  have hthrice : ∀ n, 3 ≤ (s.m.tile f pos).missed + n := fun n => hmissed.trans (Nat.le_add_right ..)
  rw [exec, execTileLost, onPart_timed_guarded halive (by simp [hserves, hspeaks, hthrice])]

theorem exec_tilePowerStuck {t f pos d : Nat} {s : State} (hlives : livesAt t s) (hsteps : stepping (s.m.tile f pos) = true)
    (hseen : (s.m.tile f pos).targetSeen = false) (hdue : (s.m.tile f pos).supplyDue = some d) (hpast : d ≤ t) :
    exec (.tilePowerStuck t f pos) s = .next { s with
      m := raise evTilePowerStuck f pos (updTile f pos (fun x => { x with supplyDue := none }) (advance t s.m)) } := by
  have hnow := advance_now_of_livesAt hlives
  rw [exec, execTilePowerStuck, onPart_timed_guarded hlives.1 (by simp only [advance_tile, hsteps, hseen, hdue, hnow]; simp [hpast])]

theorem tempUnknown_first {f pos : Nat} {p : Part} (hfirst : (p.tile f pos).unkRaised = false) :
    tempUnknown f pos p = raise evTempUnknown f pos (updTile f pos (fun t => { t with ta := none, unkRaised := true }) p) := by
  rw [tempUnknown, hfirst]
  rfl

theorem exec_tempUnknown {t f pos : Nat} {s : State} (halive : s.m.alive = true) (hmapped : (s.m.cfg.furrow f).map.has pos = true)
    (hserves : (s.m.tile f pos).inService = true) (hfirst : (s.m.tile f pos).unkRaised = false)
    (hlong : (s.m.tile f pos).lastTemp + s.m.cfg.light.timeout ≤ s.m.fr.cfn) :
    exec (.tempUnknown t f pos) s = .next { s with m := tempUnknown f pos (advance t s.m) } := by
  rw [exec, execTempUnknown, onPart_timed_guarded halive (by simp [hmapped, hserves, hfirst, hlong])]

end Sys2Proof.Machine
end

section
/-! Alarms of the tiles: acknowledged each time, reported once per ASEQ (R194, R205, R215). -/

namespace Sys2Proof.Machine

open Sys2Proof

/-! ### What stands on the ports -/

section Ports

variable {o : Out} {p : Part}

theorem signalVector_keeps_out (h : o ∈ p.out) (v : Nat) : o ∈ (signalVector v p).out := by
  unfold signalVector; split
  · exact h
  · exact List.mem_append_left _ h

theorem setPend_keeps_out (h : o ∈ p.out) (n : Nat) : o ∈ (setPend n p).out := by
  unfold setPend; dsimp only; split
  · refine signalVector_keeps_out ?_ _
    exact h
  · exact h

theorem pushEvent_keeps_out (h : o ∈ p.out) (x : EvEntry) : o ∈ (pushEvent x p).out := by
  unfold pushEvent; split
  · exact h
  · refine setPend_keeps_out ?_ _
    exact h

theorem raiseEvent_keeps_out (h : o ∈ p.out) (n i a : Nat) : o ∈ (raiseEvent n i a p).out := by
  have hpend := setPend_keeps_out h n
  unfold raiseEvent; dsimp only; split
  · exact pushEvent_keeps_out hpend _
  · exact hpend

theorem pushIntake_keeps_out (h : o ∈ p.out) (x : LogEntry) : o ∈ (pushIntake x p).out := by
  unfold pushIntake; split
  · exact h
  · refine raiseEvent_keeps_out ?_ ..
    exact h

/-- A report to the log takes nothing off the ports. -/
theorem report_keeps_out (h : o ∈ p.out) (source i c v k a : Nat) : o ∈ (report source i c v k a p).out := by
  unfold report; dsimp only; split
  · exact h
  · refine pushIntake_keeps_out ?_ _
    rw [Part.updLog_out]
    split <;> (try split) <;> (try split) <;> exact h

end Ports

/-! ### Reporting an alarm -/

/-- What holds once an alarm's two events are raised, and stands through a report to the log, holds of an alarm reported, unless it
is the one that ends the tile's temperature (R215). -/
theorem alarmReported_of_raised {motive : Part → Prop} {f pos : Nat} {a : Alarm} {p : Part} (hcode : a.code ≠ 1)
    (hreport : ∀ c arg q, motive q → motive (report blkKlink f c 0 0 arg q))
    (hraised : motive (raiseEvent (160 + f) f pos (raiseEvent evTileAlarm f pos p))) : motive (alarmReported f pos a p) := by
  unfold alarmReported
  extract_lets p1 p2 p3 p4
  have hlogged : motive p3 := hreport _ _ _ (hreport _ _ _ hraised)
  rw [if_neg hcode]
  unfold p4
  split
  · exact hlogged
  · exact hreport _ _ _ hlogged

theorem alarmReported_rest {f pos : Nat} {a : Alarm} (hcode : a.code ≠ 1) (p : Part) : (alarmReported f pos a p).rest = p.rest :=
  alarmReported_of_raised (motive := fun q => q.rest = p.rest) hcode (fun _ _ _ hq => (report_rest ..).trans hq) (by simp)

theorem alarmReported_keeps_out {f pos : Nat} {a : Alarm} (hcode : a.code ≠ 1) {o : Out} {p : Part} (h : o ∈ p.out) :
    o ∈ (alarmReported f pos a p).out :=
  alarmReported_of_raised (motive := fun q => o ∈ q.out) hcode (fun _ _ _ hq => report_keeps_out hq ..)
    (raiseEvent_keeps_out (raiseEvent_keeps_out h ..) ..)

/-- An alarm reported raises TILE_ALARM and the furrow's own attention event (R215, R369). -/
theorem alarmReported_sets_pend {f : Nat} (hf : f < 128) {pos : Nat} {a : Alarm} (hcode : a.code ≠ 1) (p : Part) :
    (alarmReported f pos a p).ev.pend.getLsbD evTileAlarm = true ∧ (alarmReported f pos a p).ev.pend.getLsbD (160 + f) = true :=
  have hfurrow : 160 + f < 384 := by omega
  ⟨alarmReported_of_raised (motive := fun q => q.ev.pend.getLsbD evTileAlarm = true) hcode
      (fun _ _ _ hq => report_keeps_pend (by decide) hq) (raiseEvent_keeps_pend (by decide) (raiseEvent_sets_pend (by decide))),
    alarmReported_of_raised (motive := fun q => q.ev.pend.getLsbD (160 + f) = true) hcode
      (fun _ _ _ hq => report_keeps_pend hfurrow hq) (raiseEvent_sets_pend hfurrow)⟩

/-! ### An alarm that arrives -/

/-- The acknowledgement goes by the position where the packet names one, else by the hop (R194, R205). -/
theorem linkAck_at {f : Nat} {h : UpHeader} {p : Part} (hgood : hopBad h = false) (hrole : p.pair.role ≠ .yielding) (aseq : Byte) :
    linkAck f h aseq p = emit (if h.addr = 0 then .linkAck f 0 (some h.hop.toNat) aseq else .linkAck f h.addr none aseq) p := by
  by_cases haddr : h.addr = 0 <;> simp [linkAck, maySend, hrole, hgood, haddr]

/-- An alarm counted, and its acknowledgement on the port. -/
def alarmAcked (f : Nat) (h : UpHeader) (aseq : Byte) (p : Part) : Part :=
  emit (if h.addr = 0 then .linkAck f 0 (some h.hop.toNat) aseq else .linkAck f h.addr none aseq) (laneCount f 14 p)

/-- The ASEQ of an alarm is among those acknowledged to its sender. -/
def alarmNoted (f key : Nat) (aseq : Byte) (p : Part) : Part := updLink f key (fun k => { k with acked := noteAseq aseq k.acked }) p

theorem alarmNoted_acked (f key : Nat) (aseq : Byte) (p : Part) : aseq ∈ ((alarmNoted f key aseq p).link f key).acked := by
  simp [alarmNoted, noteAseq]

section Received

variable {f : Nat} {h : UpHeader} {a : Alarm} {p : Part} (hgood : hopBad h = false) (hrole : p.pair.role ≠ .yielding)
include hgood hrole

/-- An alarm whose ASEQ was acknowledged before is acknowledged again, and no more (R205). -/
theorem alarmReceived_again (hold : a.aseq ∈ (p.link f (senderKey p f h)).acked) : alarmReceived f h a p = alarmAcked f h a.aseq p := by
  unfold alarmReceived
  rw [hopCheck_good hgood, linkAck_at hgood (p := laneCount f 14 p) hrole]
  exact if_pos (List.contains_iff_mem.mpr hold)

/-- An alarm with a new ASEQ is acknowledged and reported (R205, R215). -/
theorem alarmReceived_first (hnew : a.aseq ∉ (p.link f (senderKey p f h)).acked) :
    alarmReceived f h a p = alarmReported f h.addr a (alarmNoted f (senderKey p f h) a.aseq (alarmAcked f h a.aseq p)) := by
  unfold alarmReceived
  rw [hopCheck_good hgood, linkAck_at hgood (p := laneCount f 14 p) hrole]
  exact if_neg fun hseen => hnew (List.contains_iff_mem.mp hseen)

end Received

theorem exec_alarmReceived {t f : Nat} {s : State} (halive : s.m.alive = true) (hup : (s.m.lane f).state = 7) (h : UpHeader)
    (a : Alarm) : exec (.alarmReceived t f h a) s = .next { s with m := alarmReceived f h a (advance t s.m) } := by
  rw [exec, execAlarmReceived, onPart_timed_guarded halive (by simp [laneUp, hup])]

end Sys2Proof.Machine

open Sys2Proof Sys2Proof.Machine

/-- Settles O43: each form is its command's own rule on the tile, its lane or its link; the observers say what it leaves. -/
theorem tilesReport : Obligations.TilesReport := by
  unfold Obligations.TilesReport
  intro t f pos s hlives hf hup
  obtain ⟨halive, -⟩ := id hlives
  refine ⟨?run, ?status, ?alarm, ?again, ?lost, ?stuck, ?unknown⟩
  case run =>
    intro hsound hstarted hrole
    have hkept : furrowKept s { s with m := statusRun f (advance t s.m) } := furrowKept_of_offKlink (statusRun_offKlink ..)
    refine ⟨_, exec_statusRun halive hup hsound hstarted hrole, by simp [statusRun_lane], fun k hk => statusRun_got hk,
      fun g hg => ?_, hkept⟩
    rw [statusRun_lane, if_neg hg, advance_lane]
  case status =>
    rintro h x rfl hgood hend hmapped hspeaks
    have hstatus := tileStatus_statusAt (f := f) (p := advance t s.m) hgood hspeaks x
    refine ⟨_, exec_tileStatusReceived halive hup hend hmapped x, ?_⟩
    generalize tileStatus f h x (advance t s.m) = q at hstatus
    obtain ⟨hheard, hbeside⟩ := Prod.mk.inj hstatus
    simp only [TileRt.heard, Prod.mk.injEq] at hheard
    obtain ⟨hgot, hmissed, hpacket, hlate⟩ := hheard
    exact ⟨hgot, hmissed, hpacket, hlate, furrowAlone_of_besideTile hbeside⟩
  case alarm =>
    rintro h a rfl hpos hgood hcode hrole hnew
    have hkey : senderKey (advance t s.m) f h = h.addr := if_pos hpos
    refine ⟨_, exec_alarmReceived halive hup h a, ?_⟩
    rw [alarmReceived_first (p := advance t s.m) hgood hrole (by rwa [hkey, advance_link]), hkey]
    generalize hq : alarmNoted f h.addr a.aseq (alarmAcked f h a.aseq (advance t s.m)) = q
    have hrest := alarmReported_rest (f := f) (pos := h.addr) hcode q
    have hkl : (alarmReported f h.addr a q).kl = q.kl := Part.kl_of_rest hrest
    obtain ⟨halarm, hfurrow⟩ := alarmReported_sets_pend hf (pos := h.addr) hcode q
    have hsent : .linkAck f h.addr none a.aseq ∈ q.out := by
      rw [← hq]
      simp [alarmNoted, alarmAcked, updLink, emit, hpos]
    refine ⟨?_, alarmReported_keeps_out hcode hsent, halarm, hfurrow, ?_, ?_, otherLanes_of_lanes ?_,
      furrowKept_of_offKlink ((Part.offKlink_of_rest hrest).trans ?_)⟩
    · rw [Part.link_of_kl hkl, ← hq]
      exact alarmNoted_acked ..
    · rw [Part.lane_of_kl hkl, ← hq]; rfl
    · rw [hkl, ← hq]; rfl
    · rw [hkl, ← hq]; rfl
    · rw [← hq]; rfl
  case again =>
    intro h a haddr hgood hrole hold
    have hkey : senderKey (advance t s.m) f h = keyAtHop s.m f h.hop.toNat := by
      simp only [senderKey, haddr, hgood]; rfl
    refine ⟨_, exec_alarmReceived halive hup h a, ?_⟩
    rw [alarmReceived_again (p := advance t s.m) hgood hrole (by rwa [hkey]), alarmAcked, if_pos haddr]
    exact ⟨rfl, rfl, rfl, furrowKept_of_offKlink rfl⟩
  case lost =>
    intro hserves hspeaks hmissed hsound
    refine ⟨_, exec_tileLost halive hserves hspeaks hmissed, ?_⟩
    rw [tileLost_sound (p := advance t s.m) hsound]
    obtain ⟨-, hlanes, hkept⟩ := furrowAlone_of_besideTile (f := f) (pos := pos) (s := s)
      (q := raise evTileLost f pos (updTile f pos (fun t => { t with silent := true }) (advance t s.m))) (by simp)
    exact ⟨by simp, raise_sets_pend (by decide), by simp, hlanes, hkept⟩
  case stuck =>
    intro d hsteps hseen hdue hpast
    exact ⟨_, exec_tilePowerStuck hlives hsteps hseen hdue hpast, by simp, raise_sets_pend (by decide), by simp [updTile],
      furrowKept_of_offKlink (by simp)⟩
  case unknown =>
    intro hmapped hserves hfirst hlong
    refine ⟨_, exec_tempUnknown halive hmapped hserves hfirst hlong, ?_⟩
    rw [tempUnknown_first (p := advance t s.m) hfirst]
    exact ⟨by simp, raise_sets_pend (by decide), by simp [updTile], furrowKept_of_offKlink (by simp)⟩

end

section
/-! Host-memory transfers, loads and exports: how each ends (R158, R163, R338, R359, R361). -/

namespace Sys2Proof.Machine

open Sys2Proof

/-! ### Replies and the partner -/

@[simp] theorem sendReply_out (r : Reply) (p : Part) : (sendReply r p).out = p.out := by
  unfold sendReply; dsimp only; split
  · rfl
  · split <;> rfl

/-- A final reply waits for its transport: nothing goes out on the ports at once. -/
@[simp] theorem finalReply_out (tag : Word) (st : Nat) (params : List Byte) (p : Part) : (finalReply tag st params p).out = p.out := by
  unfold finalReply; split
  · split
    · dsimp only; split
      · exact sendReply_out ..
      · rfl
    · rfl
  · rfl

/-- What a final reply leaves of the groups that a transfer or a wear job is about. -/
theorem finalReply_groups (tag : Word) (st : Nat) (params : List Byte) (p : Part) :
    (finalReply tag st params p).txn = p.txn ∧ (finalReply tag st params p).comp = p.comp ∧
      (finalReply tag st params p).light = p.light ∧ (finalReply tag st params p).cfg = p.cfg := by
  obtain ⟨-, hcfg, -, -, hcomp, -, hlight, -⟩ := Part.groups_of_offPair (finalReply_offPair tag st params p)
  exact ⟨(finalReply_keeps ..).1, hcomp, hlight, hcfg⟩

theorem upLinks_alone {p : Part} (h : anyLinkUp p = false) : upLinks p = [] := by
  simpa [upLinks, anyLinkUp, Part.pairLink, b2n] using h

/-- With both links down no frame goes to the partner, and none waits for its acknowledgement. -/
theorem sendAcked_alone {p : Part} (h : anyLinkUp p = false) (kind seq : Nat) (x : PairBody) : sendAcked kind seq x p = p := by
  rw [sendAcked, upLinks_alone h, List.foldl_nil]

/-! ### Host-memory transfers -/

/-- The transfer that the end of one under `tag` concerns (R338). -/
def transferOf (p : Part) (tag : Word) : Option Transfer :=
  p.txn.transfers.find? fun y => y.tag == tag && (y.opcode == 0x0408 && p.pair.role == .primary || y.opcode == 0x0608)

/-- The section of the live records that a CAL_READ asked for (R361). -/
def calReadSection (hbm : Memory) (x : Transfer) (p : Part) : List Byte :=
  calSection p hbm (leAt x.params 0 2) (leAt x.params 2 2) (leAt x.params 4 2) (leAt x.params 6 2)

/-- CAL_READ: the section goes to host memory, and the final reply names its length (R361). -/
theorem hostTransferDone_calRead {p : Part} {x : Transfer} (hx : transferOf p x.tag = some x) (hop : x.opcode = 0x0608)
    (hbm : Memory) (data : List Byte) :
    hostTransferDone hbm x.tag true data p = finalReply x.tag stOk (le 8 (calReadSection hbm x p).length)
      (emit (.hostWrite (BitVec.ofNat 64 (leAt x.params 8 8)) (calReadSection hbm x p)) (dropTransfer x.tag p)) := by
  rw [transferOf] at hx
  have hread : ¬ x.opcode = 0x0408 := by rw [hop]; decide
  simp only [hostTransferDone, hx, hread, Bool.not_true, Bool.false_eq_true, if_false, calReadSection]

/-- The object that an OBJ_LOAD names holds the frames that came (R359). -/
def objectStored (x : Transfer) (data : List Byte) (o : Obj) (p : Part) : Part :=
  p.updComp fun c => { c with objs := c.objs.set (leAt x.params 0 2) (storeFrames (leAt x.params 4 4) (leAt x.params 8 4) data o) }

/-- With no link to a partner the frames of an OBJ_LOAD are stored, and the final reply follows at once (R359). -/
theorem objLoaded_alone {p : Part} {x : Transfer} {o : Obj} (halone : anyLinkUp p = false)
    (hobj : p.comp.objs.get? (leAt x.params 0 2) = some o) (data : List Byte) :
    objLoaded x data p = finalReply x.tag stOk [] (objectStored x data o p) := by
  unfold objLoaded
  extract_lets k first count n p1 p2
  have hp1 : p1 = objectStored x data o p := by
    simp only [p1, setObject, k, hobj]
    rfl
  have hp2 : p2 = p1 := List.foldl_fixed' (fun i => sendAcked_alone (by rw [hp1]; exact halone) ..) _
  have hlinks : upLinks (objectStored x data o p) = [] := upLinks_alone halone
  simp only [hp2, hp1, hlinks, List.isEmpty_nil, Bool.not_true, Bool.and_false, Bool.false_and, Bool.false_eq_true, if_false]

theorem hostTransferDone_objLoad {p : Part} {x : Transfer} (hx : transferOf p x.tag = some x) (hop : x.opcode = 0x0408)
    (hbm : Memory) (data : List Byte) : hostTransferDone hbm x.tag true data p = objLoaded x data (dropTransfer x.tag p) := by
  rw [transferOf] at hx
  simp only [hostTransferDone, hx, hop, Bool.not_true, Bool.false_eq_true, if_false, if_true]

theorem exec_hostTransferDone {t : Nat} {s : State} (halive : s.m.alive = true) (hkiln : s.m.hrt.kilnReset = false) (tag : Word)
    (ok : Bool) (data : List Byte) :
    exec (.hostTransferDone t tag ok data) s = .next { s with m := hostTransferDone s.hbm tag ok data (advance t s.m) } := by
  simp only [exec, execHostTransferDone, onPartMem, timed_alive halive, guarded, advance_hrt, hkiln, Bool.not_false, if_true]

/-! ### Loads -/

@[simp] theorem loadFinal_offPair (l : Load) (st cfn : Nat) (p : Part) : (loadFinal l st cfn p).offPair = p.offPair := finalReply_offPair ..

@[simp] theorem loadFinal_txn (l : Load) (st cfn : Nat) (p : Part) : (loadFinal l st cfn p).txn = p.txn := (finalReply_keeps ..).1

theorem loadDone_failed {s : State} {l : Load} (hl : (s.m.txn.loads.find? fun y => y.tag == l.tag && y.state == 1) = some l)
    (hkiln : s.m.hrt.kilnReset = false) (hrole : s.m.pair.role = .primary) (partner : Bool) :
    loadDone l.tag false partner s = { s with m := loadFinal l stTimeout 0 (dropLoad l s.m) } := by
  simp [loadDone, hl, hkiln, hrole]

theorem loadDone_checked {s : State} {l : Load} (hl : (s.m.txn.loads.find? fun y => y.tag == l.tag && y.state == 1) = some l)
    (hkiln : s.m.hrt.kilnReset = false) (hrole : s.m.pair.role = .primary) (hwhole : packageFault s.m.cfg.canvas l.bytes = none)
    (partner : Bool) : loadDone l.tag true partner s = loadHeld l partner s := by
  simp [loadDone, hl, hkiln, hrole, hwhole]

/-- The apply CFN hangs on the time, the configuration and the frame counter (R118). -/
theorem applyCfn_congr {p q : Part} (hsys : p.sys = q.sys) (hcfg : p.cfg = q.cfg) (hfr : p.fr = q.fr) (req : Option Nat) :
    applyCfn p req = applyCfn q req := by
  show applyCfn { sys := p.sys, cfg := p.cfg, fr := p.fr } req = applyCfn { sys := q.sys, cfg := q.cfg, fr := q.fr } req
  rw [hsys, hcfg, hfr]

/-- A package that the partner does not hold is stale there, which is raised (R158). -/
def partnerTakes (l : Load) (partnerHolds : Bool) (p : Part) : Part :=
  if partnerHolds then p else raise evCalPartnerStale 0 l.package.toNat (p.updTxn fun x => { x with stale := x.stale ++ [l] })

theorem loadHeld_eq (l : Load) (partnerHolds : Bool) (s : State) : loadHeld l partnerHolds s =
    { s with m := sealLoad l (partnerTakes l partnerHolds s.m)
             hbm := if l.kind = 1 then stageCal s.m l.bytes l.footprint s.hbm else s.hbm } := rfl

@[simp] theorem partnerTakes_offPair (l : Load) (b : Bool) (p : Part) : (partnerTakes l b p).offPair = p.offPair := by
  unfold partnerTakes; split <;> simp

/-- Whether or not the partner holds the package, the loads, the journal, the role and the time stand. -/
theorem partnerTakes_keeps (l : Load) (b : Bool) (p : Part) :
    (partnerTakes l b p).txn.loads = p.txn.loads ∧ (partnerTakes l b p).txn.jseq = p.txn.jseq ∧
      (partnerTakes l b p).pair = p.pair ∧ (partnerTakes l b p).sys = p.sys := by
  unfold partnerTakes; split <;> simp

@[simp] theorem sealLoad_offPair (l : Load) (p : Part) : (sealLoad l p).offPair = p.offPair := by
  rw [sealLoad, updTxn_offPair, writeJournal_offPair]

theorem writeJournal_txn {p : Part} (hrole : p.pair.role = .primary) (n : Nat) (txn : Half) (tag : Word) (b : JournalBody) :
    (writeJournal n txn tag b p).txn.jseq = p.txn.jseq + 1 ∧ (writeJournal n txn tag b p).txn.loads = p.txn.loads := by
  simp only [writeJournal, if_pos hrole, sendAcked_txn, Part.updTxn_txn, and_self]

/-- A load sealed by the primary stands among the loads with its apply CFN, under the next JSEQ (R158). -/
theorem sealLoad_primary {p : Part} {l : Load} (hrole : p.pair.role = .primary) (hl : l ∈ p.txn.loads) :
    ({ l with state := 2, apply := applyCfn p l.reqCfn } : Load) ∈ (sealLoad l p).txn.loads ∧
      (sealLoad l p).txn.jseq = p.txn.jseq + 1 := by
  obtain ⟨hjseq, hloads⟩ := writeJournal_txn hrole (applyCfn p l.reqCfn) 0 l.tag (.loadSeal l.package)
  rw [sealLoad, Part.updTxn_txn]
  simp only [hjseq, hloads, and_true]
  exact List.mem_map.mpr ⟨l, hl, if_pos (beq_self_eq_true _)⟩

theorem exec_calTransferDone {t : Nat} {s : State} (halive : s.m.alive = true) (tag : Word) (ok partner : Bool) :
    exec (.calTransferDone t tag ok partner) s = .next (loadDone tag ok partner { s with m := advance t s.m }) := by
  simp only [exec, execCalTransferDone, if_pos halive]

/-- A load that waits alone has its way clear: it starts (R158, Table 6.7). -/
theorem exec_loadDequeue {t : Nat} {s : State} {l : Load} (halive : s.m.alive = true) (hkiln : s.m.hrt.kilnReset = false)
    (hloads : s.m.txn.loads = [l]) (hwaits : l.state = 0) :
    exec (.loadDequeue t l.tag) s = .next { s with m := startLoad l (advance t s.m) } := by
  simp [exec, execLoadDequeue, onPart, timed_alive halive, hloads, hwaits, hkiln, loadRunning]

@[simp] theorem startLoad_offPair (l : Load) (p : Part) : (startLoad l p).offPair = p.offPair := by
  simp [startLoad, sendPackage]

@[simp] theorem startLoad_txn (l : Load) (p : Part) : (startLoad l p).txn =
    { p.txn with loads := p.txn.loads.map fun y => if y.tag == l.tag then { y with state := 1 } else y } := by
  simp [startLoad, sendPackage]

/-! ### Exports -/

/-- The job under `tag` leaves the exports. -/
def exportLeaves (tag : Word) (p : Part) : Part := p.updTxn fun x => { x with exports := x.exports.filter fun y => y.tag != tag }

/-- A job of WEAR_EXPORT whose bands are all done: its package goes to host memory, it leaves the exports, and its final reply names
the length (R163). -/
theorem exec_wearExportDone {t : Nat} {s : State} {j : WearJob} (halive : s.m.alive = true) (hexports : s.m.txn.exports = [j])
    (hready : exportReady s.m j = true) :
    exec (.wearExportDone t j.tag) s = .next { s with
      m := finalCommit j.tag stOk j.apply (le 8 (exportPackage s.m.cfg j).length) (emit (.hostWrite j.hostAddr (exportPackage s.m.cfg j))
        (exportLeaves j.tag (advance t s.m))) } := by
  have hready' : exportReady (advance t s.m) j = true := hready
  simp [exec, execWearExportDone, onPart, timed_alive halive, hexports, hready', exportLeaves]

end Sys2Proof.Machine

open Sys2Proof Sys2Proof.Machine

/-- Settles O58: each form is its command's own rule; replies, journal entries and the pair's frames leave the rest. -/
theorem transfersEnd : Obligations.TransfersEnd := by
  unfold Obligations.TransfersEnd
  intro t s hlives hkiln
  obtain ⟨halive, -⟩ := hlives
  refine ⟨?calRead, ?objLoad, ?sealed, ?failed, ?dequeued, ?exported⟩
  case calRead =>
    intro x data hop hx
    refine ⟨_, exec_hostTransferDone halive hkiln x.tag true data, ?_⟩
    rw [hostTransferDone_calRead (p := advance t s.m) hx hop]
    simp only [finalReply_groups, finalReply_out]
    exact ⟨rfl, rfl, rfl, rfl, trivial, trivial⟩
  case objLoad =>
    intro x data o hop hrole halone hx hobj
    refine ⟨_, exec_hostTransferDone halive hkiln x.tag true data, ?_⟩
    rw [hostTransferDone_objLoad (p := advance t s.m) hx hop, objLoaded_alone (p := dropTransfer x.tag (advance t s.m)) halone hobj]
    simp only [finalReply_groups]
    refine ⟨?_, fun k hk => ?_, rfl, rfl, trivial, trivial⟩
    · exact (Tab.get?_set ..).trans (if_pos rfl)
    · exact (Tab.get?_set ..).trans (if_neg hk)
  case sealed =>
    intro l partner hrole hl hwhole
    have hmem := List.mem_of_find?_eq_some hl
    obtain ⟨hloads, hjseq, hpair, hsys⟩ := partnerTakes_keeps l partner (advance t s.m)
    have hheld := partnerTakes_offPair l partner (advance t s.m)
    have hoff := (sealLoad_offPair l _).trans hheld
    obtain ⟨-, hcfg', -, -, -, hfr', -⟩ := Part.groups_of_offPair hheld
    obtain ⟨-, hcfg, -, -, -, -, -, hkl, -⟩ := Part.groups_of_offPair hoff
    obtain ⟨hstands, hnext⟩ := sealLoad_primary (p := partnerTakes l partner (advance t s.m)) (l := l)
      (by rw [hpair]; exact hrole) (by rw [hloads]; exact hmem)
    refine ⟨_, exec_calTransferDone halive l.tag true partner, ?_⟩
    rw [loadDone_checked (s := { s with m := advance t s.m }) hl hkiln hrole hwhole, loadHeld_eq]
    exact ⟨⟨_, hstands, rfl, rfl, rfl, applyCfn_congr hsys hcfg' hfr' _⟩, rfl, hnext.trans (congrArg (· + 1) hjseq), hkl, hcfg,
      rfl⟩
  case failed =>
    intro l partner hrole hl
    obtain ⟨-, hcfg, -⟩ := Part.groups_of_offPair (loadFinal_offPair l stTimeout 0 (dropLoad l (advance t s.m)))
    refine ⟨_, exec_calTransferDone halive l.tag false partner, ?_⟩
    rw [loadDone_failed (s := { s with m := advance t s.m }) hl hkiln hrole]
    exact ⟨congrArg TxnSt.loads (loadFinal_txn ..), rfl, hcfg, rfl⟩
  case dequeued =>
    intro l hloads hwaits
    obtain ⟨-, hcfg, -⟩ := Part.groups_of_offPair (startLoad_offPair l (advance t s.m))
    exact ⟨_, exec_loadDequeue halive hkiln hloads hwaits, by simp [hloads], hcfg, by simp, rfl, rfl⟩
  case exported =>
    intro j hexports hready
    refine ⟨_, exec_wearExportDone halive hexports hready, ?_⟩
    simp only [finalCommit, finalReply_groups, finalReply_out]
    exact ⟨by simp [exportLeaves, hexports], rfl, rfl, rfl, trivial, trivial⟩

end

section
/-! A lane of the Kralys link: what its operations leave of the part and of the other lanes, where they take it, and what every
operation that follows on a change of state keeps (R197, R200, R207, R208). -/

namespace Sys2Proof.Machine

open Sys2Proof

/-! ### Observers -/

/-- What an operation of the lane of furrow `f` leaves: the part off the link, and each other lane. -/
def Part.besideLane (f : Nat) (p : Part) : Part × (Nat → Lane) := (p.offKlink, fun g => if g = f then {} else p.lane g)

theorem Part.besideLane_of_quiet {p q : Part} (h : p.quiet = q.quiet) (f : Nat) : p.besideLane f = q.besideLane f :=
  show p.quiet.besideLane f = q.quiet.besideLane f from congrArg _ h

theorem laneAlone_of_besideLane {f : Nat} {s : State} {q : Part} (h : q.besideLane f = s.m.besideLane f) :
    otherLanes f s { s with m := q } ∧ furrowKept s { s with m := q } := by
  obtain ⟨hoff, hlanes⟩ : _ ∧ _ := by simpa only [Part.besideLane, Prod.mk.injEq] using h
  refine ⟨fun g hg => ?_, furrowKept_of_offKlink hoff⟩
  simpa [hg] using congrFun hlanes g

@[simp] theorem advance_besideLane (t f : Nat) (p : Part) : (advance t p).besideLane f = p.besideLane f := rfl
@[simp] theorem emit_besideLane (o : Out) (f : Nat) (p : Part) : (emit o p).besideLane f = p.besideLane f := rfl
@[simp] theorem countBy_besideLane (b i x n f : Nat) (p : Part) : (countBy b i x n p).besideLane f = p.besideLane f := rfl
@[simp] theorem laneCount_besideLane (g i f : Nat) (p : Part) : (laneCount g i p).besideLane f = p.besideLane f := rfl
@[simp] theorem updTile_besideLane (g k f : Nat) (h : TileRt → TileRt) (p : Part) : (updTile g k h p).besideLane f = p.besideLane f := rfl
@[simp] theorem updLink_besideLane (g k f : Nat) (h : LinkSt → LinkSt) (p : Part) : (updLink g k h p).besideLane f = p.besideLane f := rfl
@[simp] theorem raise_besideLane (n i a f : Nat) (p : Part) : (raise n i a p).besideLane f = p.besideLane f :=
  Part.besideLane_of_quiet (raise_quiet ..) f

@[simp] theorem updLane_besideLane (f : Nat) (g : Lane → Lane) (p : Part) : (updLane f g p).besideLane f = p.besideLane f := by
  refine Prod.ext rfl (funext fun j => ?_)
  by_cases hj : j = f <;> simp [Part.besideLane, hj]

@[simp] theorem laneCount_sys (f i : Nat) (p : Part) : (laneCount f i p).sys = p.sys := rfl
@[simp] theorem updLane_sys (f : Nat) (g : Lane → Lane) (p : Part) : (updLane f g p).sys = p.sys := rfl

@[simp] theorem linkError_besideLane (f : Nat) (p : Part) : (linkError f p).besideLane f = p.besideLane f := updLane_besideLane ..

/-- The lane's state and the instant at which it entered it. -/
def Lane.phase (l : Lane) : Nat × Nat := (l.state, l.since)

/-! ### Entering a state -/

theorem toState_eq (f st : Nat) (p : Part) : toState f st p =
    (updLane f (fun l => { l with state := st, since := p.sys.now }) p).updOut
      (· ++ if st = 7 then [] else [if st = 0 then .laneIdle f else .training f (headSet p f st)]) := by
  unfold toState; dsimp only; split
  · exact congrArg (fun o => { updLane f _ p with out := o }) (List.append_nil p.out).symm
  · split <;> rfl

@[simp] theorem toState_lane (f st g : Nat) (p : Part) : (toState f st p).lane g =
    if g = f then { p.lane f with state := st, since := p.sys.now } else p.lane g := by
  rw [toState_eq]; exact updLane_lane ..

@[simp] theorem toState_besideLane (f st : Nat) (p : Part) : (toState f st p).besideLane f = p.besideLane f := by
  rw [toState_eq]
  exact updLane_besideLane f _ p

theorem toState_training {st : Nat} (hoff : st ≠ 0) (hup : st ≠ 7) (f : Nat) (p : Part) :
    (toState f st p).out = p.out ++ [.training f (headSet p f st)] := by
  rw [toState_eq, if_neg hup, if_neg hoff]; rfl

@[simp] theorem toState_tiles (f st : Nat) (p : Part) : (toState f st p).kl.tiles = p.kl.tiles := by
  rw [toState_eq]; rfl

/-! ### Bring-up -/

/-- A lane moves on to the state that its receiver's report gives (Table 7.13). -/
theorem bringUp_moves {t f a b : Nat} {s : State} (hlives : livesAt t s) (hoff : b ≠ 0) (hup : b ≠ 7)
    (hstate : (s.m.lane f).state = a) :
    ∃ u, onPart (bringUp t f a b) s = .next u ∧ u.m.lane f = { s.m.lane f with state := b, since := t } ∧
      u.m.out = s.m.out ++ [.training f (headSet s.m f b)] ∧ otherLanes f s u ∧ u.m.kl.tiles = s.m.kl.tiles ∧ furrowKept s u := by
  obtain ⟨hlanes, hkept⟩ := laneAlone_of_besideLane (f := f) (s := s) (q := toState f b (advance t s.m)) (by simp)
  refine ⟨_, onPart_timed_guarded hlives.1 (by simpa using hstate), ?_, toState_training hoff hup .., hlanes, by simp, hkept⟩
  rw [toState_lane, if_pos rfl, advance_now_of_livesAt hlives, advance_lane]

/-- Of two kinds of training sequence that exclude each other, the last `n` are not of both. -/
theorem lastSets_excludes {n : Nat} (hn : 0 < n) {ok other : TrainSet → Bool} (hexcl : ∀ x, ok x = true → other x = false)
    {sets : List TrainSet} (h : lastSets n ok sets = true) : lastSets n other sets = false := by
  simp only [lastSets, Bool.and_eq_true, decide_eq_true_eq, List.all_eq_true] at h ⊢
  obtain ⟨hlong, hall⟩ := h
  obtain ⟨x, hx⟩ : ∃ x, x ∈ sets.drop (sets.length - n) := List.exists_mem_of_length_pos (by rw [List.length_drop]; omega)
  exact Bool.and_eq_false_imp.mpr fun _ => List.all_eq_false.mpr ⟨x, hx, by simp [hexcl x (hall x hx)]⟩

theorem tsReceived_straight {f : Nat} {sets : List TrainSet} {p : Part} (hstate : (p.lane f).state = 4)
    (hsets : lastSets 8 (fun x => !x.inverted) sets = true) : tsReceived f sets p = toState f 6 p := by
  rw [tsReceived, hstate]; exact if_pos hsets

theorem tsReceived_inverted {f : Nat} {sets : List TrainSet} {p : Part} (hstate : (p.lane f).state = 4)
    (hsets : lastSets 8 (fun x => x.inverted) sets = true) :
    tsReceived f sets p = toState f 3 (updLane f (fun l => { l with rxInv := !l.rxInv }) p) := by
  have hstraight : lastSets 8 (fun x => !x.inverted) sets = false := lastSets_excludes (by decide) (by simp) hsets
  rw [tsReceived, hstate]
  simp only [hstraight, hsets, if_true, Bool.false_eq_true, if_false]

theorem exec_klinkTsReceived {t f : Nat} {s : State} (halive : s.m.alive = true) (sets : List TrainSet) :
    exec (.klinkTsReceived t f sets) s = .next { s with m := tsReceived f sets (advance t s.m) } := by
  rw [exec, execKlinkTsReceived, onPart, timed_alive halive]

/-! ### A bring-up that fails -/

@[simp] theorem trainFail_besideLane (f st : Nat) (p : Part) : (trainFail f st p).besideLane f = p.besideLane f := by
  unfold trainFail; dsimp only; split <;> simp

theorem trainFail_lane (f st : Nat) (p : Part) : ((trainFail f st p).lane f).phase = (st, p.sys.now) ∧
    ((trainFail f st p).lane f).fails = (p.lane f).fails + 1 := by
  unfold trainFail; dsimp only; split <;> simp [Lane.phase]

/-- A timer that runs out takes ALIGN back to ACQUIRE, and is a failure in every other state (Table 7.13). -/
theorem trainTimeout_eq (f : Nat) (p : Part) : trainTimeout f p =
    if (p.lane f).state = 3 then toState f 2 p
    else trainFail f (if (p.lane f).state = 4 ∨ (p.lane f).state = 5 then 3 else 1) p := by
  unfold trainTimeout
  split
  case h_1 h => rw [if_pos h]
  case h_2 h => simp [h]
  case h_3 h => simp [h]
  case h_4 h3 h4 h5 => rw [if_neg h3, if_neg (not_or.mpr ⟨h4, h5⟩)]

theorem exec_klinkTrainTimeout {t f d : Nat} {s : State} (hlives : livesAt t s) (htimer : trainTimer (s.m.lane f).state = some d)
    (hpast : (s.m.lane f).since + d ≤ t) :
    exec (.klinkTrainTimeout t f) s = .next { s with m := trainTimeout f (advance t s.m) } := by
  rw [exec, execKlinkTrainTimeout, onPart_timed_guarded hlives.1
    (by simp only [advance_lane, htimer, advance_now_of_livesAt hlives]; simp [hpast])]

end Sys2Proof.Machine

open Sys2Proof Sys2Proof.Machine

/-- Settles O39: each form moves the lane to one state, and the lane's observer says what that leaves. -/
theorem laneBringUp : Obligations.LaneBringUp := by
  unfold Obligations.LaneBringUp
  intro t f s hlives
  have hnow := advance_now_of_livesAt hlives
  refine ⟨bringUp_moves hlives (by decide) (by decide), bringUp_moves hlives (by decide) (by decide),
    bringUp_moves hlives (by decide) (by decide), ?straight, ?inverted, ?timeout⟩
  case straight =>
    intro sets hstate hsets
    refine ⟨_, exec_klinkTsReceived hlives.1 sets, ?_⟩
    rw [tsReceived_straight (p := advance t s.m) hstate hsets]
    exact ⟨by simp [hlives.2], toState_training (by decide) (by decide) .., laneAlone_of_besideLane (by simp)⟩
  case inverted =>
    intro sets hstate hsets
    refine ⟨_, exec_klinkTsReceived hlives.1 sets, ?_⟩
    rw [tsReceived_inverted (p := advance t s.m) hstate hsets]
    exact ⟨by simp [hlives.2], laneAlone_of_besideLane (by simp)⟩
  case timeout =>
    intro d htimer hpast
    refine ⟨_, exec_klinkTrainTimeout hlives htimer hpast, ?_⟩
    rw [trainTimeout_eq, advance_lane]
    by_cases hstate : (s.m.lane f).state = 3
    · rw [if_pos hstate, if_pos hstate]
      exact ⟨by simp, by simp [hlives.2], absurd hstate, laneAlone_of_besideLane (by simp)⟩
    · rw [if_neg hstate, if_neg hstate]
      obtain ⟨hphase, hfails⟩ := trainFail_lane f (if (s.m.lane f).state = 4 ∨ (s.m.lane f).state = 5 then 3 else 1) (advance t s.m)
      obtain ⟨hst, hsince⟩ := Prod.mk.inj hphase
      exact ⟨hst, hsince.trans hnow, fun _ => hfails, laneAlone_of_besideLane (by simp)⟩

end

section
/-! What becomes of a lane that enters UP or leaves it: the operations that follow on the change touch its queue, its tiles and
their links, and raise events; what all of these keep stands after them (R200, R216, R218, R233, R234). -/

namespace Sys2Proof.Machine

open Sys2Proof

/-! ### Counters of a furrow -/

theorem countBy_counter (f i j n : Nat) (p : Part) : counter blkKlink f i (countBy blkKlink f j n p) =
    if i = j then satAdd32 (counter blkKlink f i p) n else counter blkKlink f i p := by
  have hkey : cntKey blkKlink f i = cntKey blkKlink f j ↔ i = j := by unfold cntKey; omega
  simp only [counter, countBy_cnt, hkey]

theorem laneCount_counter (f i j : Nat) (p : Part) : counter blkKlink f i (laneCount f j p) =
    if i = j then satAdd32 (counter blkKlink f i p) 1 else counter blkKlink f i p := countBy_counter ..

/-- The counters of a furrow are none of those of refusals. -/
theorem counterApart_klink {f i : Nat} (hf : f < 128) (hi : i < 256) (source : Nat) : counterApart source (cntKey blkKlink f i) := by
  constructor <;> (simp only [cntKey, blkKlink, blkEvent, blkLog]; omega)

theorem raise_counter {f i : Nat} (hf : f < 128) (hi : i < 256) (n j a : Nat) (p : Part) :
    counter blkKlink f i (raise n j a p) = counter blkKlink f i p := raise_cnt (counterApart_klink hf hi _) ..

/-! ### What the link's operations keep -/

/-- A property of the part that operations of furrow `f` keep: the lane may change in all but its state, the tiles and their links in
anything; an event may be raised, and a packet refused by a full queue. -/
structure KeptOnLink (f : Nat) (motive : Part → Prop) : Prop where
  lane {g : Lane → Lane} {p : Part} (hp : motive p) (hg : ∀ l, (g l).phase = l.phase := by intro; rfl) : motive (updLane f g p)
  tile (j k : Nat) (g : TileRt → TileRt) {p : Part} (hp : motive p) : motive (updTile j k g p)
  links (g : Tab LinkSt → Tab LinkSt) {p : Part} (hp : motive p) : motive (p.updKl fun k => { k with links := g k.links })
  levels (g : List Nat → List Nat) {p : Part} (hp : motive p) : motive (p.updEv fun e => { e with level := g e.level })
  refused {p : Part} (hp : motive p) : motive (laneCount f 15 p)
  raised (n i a : Nat) {p : Part} (hp : motive p) : motive (raise n i a p)

namespace KeptOnLink

variable {f : Nat} {motive : Part → Prop} (h : KeptOnLink f motive) {p : Part} (hp : motive p)
include h hp

theorem setLevel (n i : Nat) (on : Bool) : motive (setLevel n i on p) := by
  unfold Machine.setLevel; dsimp only; split
  · split
    · exact hp
    · exact h.raised _ _ _ (h.levels (· ++ [n + 384 * i]) hp)
  · exact h.levels (·.filter (· != n + 384 * i)) hp

theorem queueCtrl (c : Ctrl) : motive (queueCtrl f c p) := by
  unfold Machine.queueCtrl
  refine h.lane ?_
  split
  · exact h.raised _ _ _ (h.refused hp)
  · exact hp

theorem setMark (j k : Nat) : motive (setMark j k p) := h.tile j k _ hp

theorem setMarks (ok : Nat → Nat → TileEntry → Bool) : motive (setMarks ok p) :=
  List.foldlRecOn (motive := motive) _ _ hp fun _ hq _ _ => h.setMark hq ..

theorem setUncertain : motive (setUncertain f p) := by
  have hmarked := h.setMarks (h.setLevel (h.lane (g := fun l => { l with pwrUnc := true, queried := [] }) hp)
    evPowerUncertain f true) fun g _ _ => g == f
  unfold Machine.setUncertain; dsimp only; split
  · exact hp
  · split
    · exact h.queueCtrl hmarked _
    · exact hmarked

theorem setHop (hop v : Nat) : motive (setHop f hop v p) := by
  unfold Machine.setHop; split
  · exact hp
  · exact h.raised _ _ _ (h.lane hp)

theorem ownHop : motive (ownHop f p) := by
  unfold Machine.ownHop; exact h.setHop hp ..

theorem tilesRelink : motive (tilesRelink f p) := by
  refine List.foldlRecOn (motive := motive) _ _ hp fun q hq k _ => ?_
  split
  · exact h.queueCtrl (h.setMark hq f k) _
  · exact h.setMark hq f k

theorem enumHop (hop found : Nat) (sum : Int) : motive (enumHop f hop found sum p) := by
  unfold Machine.enumHop hopCtrl updLink
  refine h.queueCtrl (h.links (fun m => m.upd _ {} fun k => { k with resync := true }) ?_) _
  exact h.lane hp

theorem startEnum (hop : Nat) : motive (startEnum f hop p) := by
  unfold Machine.startEnum; split
  · exact hp
  · split
    · split
      · exact hp
      · exact h.enumHop hp ..
    · exact h.enumHop hp ..

theorem enumAgain : motive (enumAgain f p) := by
  unfold Machine.enumAgain; dsimp only; split
  · exact hp
  · exact h.startEnum hp _

end KeptOnLink

/-- An observation that each of these changes leaves alone stands. -/
theorem keptOnLink_of_eq {β : Type} {f : Nat} {π : Part → β} {v : β}
    (hlane : ∀ (g : Lane → Lane) (p : Part), (∀ l, (g l).phase = l.phase) → π (updLane f g p) = π p)
    (htile : ∀ j k g (p : Part), π (updTile j k g p) = π p)
    (hlinks : ∀ (g : Tab LinkSt → Tab LinkSt) (p : Part), π (p.updKl fun k => { k with links := g k.links }) = π p)
    (hlevels : ∀ (g : List Nat → List Nat) (p : Part), π (p.updEv fun e => { e with level := g e.level }) = π p)
    (hrefused : ∀ p, π (laneCount f 15 p) = π p) (hraised : ∀ n i a p, π (raise n i a p) = π p) :
    KeptOnLink f fun q => π q = v where
  lane hp hg := (hlane _ _ hg).trans hp
  tile _ _ _ _ hp := (htile ..).trans hp
  links _ _ hp := (hlinks ..).trans hp
  levels _ _ hp := (hlevels ..).trans hp
  refused hp := (hrefused _).trans hp
  raised _ _ _ _ hp := (hraised ..).trans hp

theorem phase_keptOnLink (f : Nat) (v : Nat × Nat) : KeptOnLink f fun q => (q.lane f).phase = v :=
  keptOnLink_of_eq (fun g p hg => by simp [hg]) (by simp) (fun _ _ => rfl) (fun _ _ => rfl) (by simp) (by simp)

theorem besideLane_keptOnLink (f : Nat) (v : Part × (Nat → Lane)) : KeptOnLink f fun q => q.besideLane f = v :=
  keptOnLink_of_eq (by simp) (by simp) (fun _ _ => rfl) (fun _ _ => rfl) (by simp) (by simp)

theorem sys_keptOnLink (f : Nat) (v : Sys) : KeptOnLink f fun q => q.sys = v :=
  keptOnLink_of_eq (by simp) (fun _ _ _ _ => rfl) (fun _ _ => rfl) (fun _ _ => rfl) (by simp) (by simp)

theorem counter_keptOnLink {f i : Nat} (hf : f < 128) (hi : i < 15) (v : Word) : KeptOnLink f fun q => counter blkKlink f i q = v :=
  keptOnLink_of_eq (fun _ _ _ => rfl) (fun _ _ _ _ => rfl) (fun _ _ => rfl) (fun _ _ => rfl)
    (fun p => by rw [laneCount_counter, if_neg (by omega)]) (raise_counter hf (by omega))

theorem pend_keptOnLink {n : Nat} (hn : n < 384) (f : Nat) : KeptOnLink f fun q => q.ev.pend.getLsbD n = true where
  lane hp _ := hp
  tile _ _ _ _ hp := hp
  links _ _ hp := hp
  levels _ _ hp := hp
  refused hp := hp
  raised _ _ _ _ hp := raise_keeps_pend hn hp

/-! ### The lane enters UP -/

/-- The lane in UP, and the event raised; what its tiles and its enumeration need comes after. -/
def laneUpRaised (f : Nat) (p : Part) : Part :=
  raise evKlinkUp f 0 (updLane f (fun l => { l with fails := 0, failRaised := false, ackSlot := true, runDue := false }) (toState f 7 p))

theorem laneEnters_of_up {f : Nat} {motive : Part → Prop} (h : KeptOnLink f motive) {p : Part} (hup : motive (laneUpRaised f p)) :
    motive (laneEnters f p) := by
  unfold laneEnters
  exact h.enumAgain (h.tilesRelink (h.ownHop (h.links (·.mapVals fun j x => if j / 1024 == f then { x with resync := true } else x) hup)))

theorem tsReceived_ready {f : Nat} {sets : List TrainSet} {p : Part} (hstate : (p.lane f).state = 6)
    (hsets : lastSets 8 (fun x => x.ready) sets = true) (hsent : readySent p f = true) : tsReceived f sets p = laneEnters f p := by
  rw [tsReceived, hstate]; exact if_pos (by simp [hsets, hsent])

/-! ### The lane leaves UP -/

/-- The lane out of UP, its enumeration ended, and the event raised; that its power is uncertain may follow. -/
def laneDownRaised (f st : Nat) (p : Part) : Part :=
  raise evKlinkDown f 0 (updLane f (fun l => { l with enum := none }) (toState f st p))

theorem laneLeaves_of_down {f : Nat} {motive : Part → Prop} (h : KeptOnLink f motive) {st : Nat} {p : Part}
    (hdown : motive (laneDownRaised f st p)) : motive (laneLeaves f st p) := by
  unfold laneLeaves; dsimp only; split
  · exact h.setUncertain hdown
  · exact hdown

theorem queueCtrl_enum (f : Nat) (c : Ctrl) (p : Part) : ((queueCtrl f c p).lane f).enum = (p.lane f).enum := by
  unfold queueCtrl; split <;> simp [refill, ctrlqFull]

theorem setUncertain_enum (f : Nat) (p : Part) : ((setUncertain f p).lane f).enum = (p.lane f).enum := by
  have hmarks (ok : Nat → Nat → TileEntry → Bool) (q : Part) : (setMarks ok q).lane f = q.lane f := by
    unfold setMarks; exact foldl_keeps (fun r : Part => r.lane f) (by intros; rfl) ..
  unfold setUncertain; dsimp only; split
  · rfl
  · split
    · rw [queueQuery, queueCtrl_enum, hmarks]; simp
    · rw [hmarks]; simp

theorem laneLeaves_enum (f st : Nat) (p : Part) : ((laneLeaves f st p).lane f).enum = none := by
  have hdown : ((laneDownRaised f st p).lane f).enum = none := by simp [laneDownRaised]
  unfold laneLeaves; dsimp only; split
  · exact (setUncertain_enum ..).trans hdown
  · exact hdown

@[simp] theorem laneLeaves_phase (f st : Nat) (p : Part) : ((laneLeaves f st p).lane f).phase = (st, p.sys.now) :=
  laneLeaves_of_down (phase_keptOnLink f _) (by simp [laneDownRaised, Lane.phase])

@[simp] theorem laneLeaves_besideLane (f st : Nat) (p : Part) : (laneLeaves f st p).besideLane f = p.besideLane f :=
  laneLeaves_of_down (besideLane_keptOnLink f _) (by simp [laneDownRaised])

@[simp] theorem laneLeaves_sys (f st : Nat) (p : Part) : (laneLeaves f st p).sys = p.sys :=
  laneLeaves_of_down (sys_keptOnLink f _) (by rw [laneDownRaised, raise_sys, updLane_sys, toState_eq]; rfl)

theorem laneLeaves_counter {f i : Nat} (hf : f < 128) (hi : i < 15) (st : Nat) (p : Part) :
    counter blkKlink f i (laneLeaves f st p) = counter blkKlink f i p :=
  laneLeaves_of_down (counter_keptOnLink hf hi _) (by rw [laneDownRaised, raise_counter hf (by omega), toState_eq]; rfl)

theorem laneLeaves_sets_pend (f st : Nat) (p : Part) : (laneLeaves f st p).ev.pend.getLsbD evKlinkDown = true :=
  laneLeaves_of_down (pend_keptOnLink (by decide) f) (raise_sets_pend (by decide))

theorem laneLeaves_keeps_pend {n : Nat} (hn : n < 384) (f st : Nat) {p : Part} (h : p.ev.pend.getLsbD n = true) :
    (laneLeaves f st p).ev.pend.getLsbD n = true :=
  laneLeaves_of_down (pend_keptOnLink hn f) (raise_keeps_pend hn (by rw [toState_eq]; exact h))

theorem tsReceived_up {f : Nat} {sets : List TrainSet} {p : Part} (hstate : (p.lane f).state = 7)
    (hsets : lastSets 2 (fun _ => true) sets = true) : tsReceived f sets p = laneLeaves f 6 (laneCount f 8 p) := by
  rw [tsReceived, hstate]; exact if_pos hsets

theorem onPart_laneExit {t f : Nat} {s : State} (halive : s.m.alive = true) (hup : (s.m.lane f).state = 7) (idx st ev : Nat) :
    onPart (laneExit t f idx st ev) s =
      .next { s with m := linkError f (laneLeaves f st (raise ev f 0 (laneCount f idx (advance t s.m)))) } :=
  onPart_timed_guarded halive (by simp [laneUp, hup])

/-- A lane leaves UP by a fault of its receiver: counted, its event and KLINK_DOWN raised, its furrow in error (R200, R208). -/
theorem laneExit_leaves {t f idx st ev : Nat} {s : State} (hlives : livesAt t s) (hf : f < 128) (hidx : idx < 15) (hev : ev < 384)
    (hup : (s.m.lane f).state = 7) :
    ∃ u, onPart (laneExit t f idx st ev) s = .next u ∧ (u.m.lane f).state = st ∧ (u.m.lane f).errAt = some t ∧
      (u.m.lane f).enum = none ∧ u.m.ev.pend.getLsbD ev = true ∧ u.m.ev.pend.getLsbD evKlinkDown = true ∧
      counter blkKlink f idx u.m = satAdd32 (counter blkKlink f idx s.m) 1 ∧ otherLanes f s u ∧ furrowKept s u := by
  refine ⟨_, onPart_laneExit hlives.1 hup idx st ev, ?_⟩
  generalize hq : raise ev f 0 (laneCount f idx (advance t s.m)) = q
  have hpend : q.ev.pend.getLsbD ev = true := by rw [← hq]; exact raise_sets_pend hev
  have hcount : counter blkKlink f idx q = satAdd32 (counter blkKlink f idx s.m) 1 := by
    rw [← hq, raise_counter hf (by omega), laneCount_counter, if_pos rfl]; rfl
  have hbeside : q.besideLane f = s.m.besideLane f := by rw [← hq]; simp
  have hnow : q.sys.now = t := by rw [← hq]; simp [hlives.2]
  have hphase := laneLeaves_phase f st q
  have henum := laneLeaves_enum f st q
  have hsys := laneLeaves_sys f st q
  have hkept := laneLeaves_keeps_pend hev f st hpend
  have hdown := laneLeaves_sets_pend f st q
  have hcounted := (laneLeaves_counter hf hidx st q).trans hcount
  have halone := (laneLeaves_besideLane f st q).trans hbeside
  generalize laneLeaves f st q = r at *
  obtain ⟨hstate, -⟩ := Prod.mk.inj hphase
  exact ⟨by simpa [linkError] using hstate, by simp [linkError, hsys, hnow], by simpa [linkError] using henum, hkept, hdown, hcounted,
    laneAlone_of_besideLane (by simpa using halone)⟩

end Sys2Proof.Machine

open Sys2Proof Sys2Proof.Machine

/-- Settles O40: what the lane's change of state raises and counts stands through all that follows on it. -/
theorem laneExits : Obligations.LaneExits := by
  unfold Obligations.LaneExits
  intro t f s hlives hf
  have hnow := advance_now_of_livesAt hlives
  refine ⟨?enters, ?retrains, laneExit_leaves hlives hf (by decide) (by decide), laneExit_leaves hlives hf (by decide) (by decide),
    laneExit_leaves hlives hf (by decide) (by decide)⟩
  case enters =>
    intro sets hstate hsets hsent
    have hready : readySent (advance t s.m) f = true := by
      rw [readySent, hnow]; exact decide_eq_true hsent
    refine ⟨_, exec_klinkTsReceived hlives.1 sets, ?_⟩
    rw [tsReceived_ready (p := advance t s.m) hstate hsets hready]
    have hphase := laneEnters_of_up (phase_keptOnLink f (7, t)) (p := advance t s.m) (by simp [laneUpRaised, Lane.phase, hlives.2])
    have hraised := laneEnters_of_up (pend_keptOnLink (n := evKlinkUp) (by decide) f) (p := advance t s.m) (raise_sets_pend (by decide))
    have hbeside := laneEnters_of_up (besideLane_keptOnLink f (s.m.besideLane f)) (p := advance t s.m) (by simp [laneUpRaised])
    generalize laneEnters f (advance t s.m) = q at hphase hraised hbeside
    obtain ⟨hup, hsince⟩ := Prod.mk.inj hphase
    exact ⟨hup, hsince, hraised, laneAlone_of_besideLane hbeside⟩
  case retrains =>
    intro sets hstate hsets
    refine ⟨_, exec_klinkTsReceived hlives.1 sets, ?_⟩
    rw [tsReceived_up (p := advance t s.m) hstate hsets]
    obtain ⟨hpeer, -⟩ := Prod.mk.inj (laneLeaves_phase f 6 (laneCount f 8 (advance t s.m)))
    refine ⟨hpeer, laneLeaves_sets_pend .., ?_, laneAlone_of_besideLane (by simp)⟩
    rw [laneLeaves_counter hf (by decide), laneCount_counter, if_pos rfl]; rfl

end

section
/-! Packets that a lane discards or gets from the ring, and symbol errors: each counted, and a link error where R208 says so (R181,
R207, R208). -/

namespace Sys2Proof.Machine

open Sys2Proof

section Commands

variable {t f : Nat} {s : State} (halive : s.m.alive = true)
include halive

theorem exec_klinkSymbolError (haligned : 4 ≤ (s.m.lane f).state) :
    exec (.klinkSymbolError t f) s = .next { s with m := linkError f (laneCount f 0 (advance t s.m)) } :=
  onPart_timed_guarded halive (decide_eq_true haligned)

theorem exec_klinkPacketDiscarded (hup : (s.m.lane f).state = 7) (crc : Bool) :
    exec (.klinkPacketDiscarded t f crc) s = .next { s with
      m := if crc then linkError f (laneCount f 2 (advance t s.m)) else laneCount f 1 (advance t s.m) } :=
  onPart_timed_guarded halive (beq_iff_eq.mpr hup)

theorem exec_foreignPacket (hup : (s.m.lane f).state = 7) (h : UpHeader) (isSow : Bool) :
    exec (.foreignPacket t f h isSow) s = .next { s with m := foreignPacket f h isSow (advance t s.m) } :=
  onPart_timed_guarded halive (beq_iff_eq.mpr hup)

end Commands

/-- A link error changes the lane's own mark and no counter (R138, R208). -/
theorem linkError_laneCount (f i : Nat) (p : Part) :
    counter blkKlink f i (linkError f (laneCount f i p)) = satAdd32 (counter blkKlink f i p) 1 ∧
      (linkError f (laneCount f i p)).lane f = { p.lane f with errAt := some p.sys.now } :=
  ⟨(laneCount_counter ..).trans (if_pos rfl), by simp [linkError]⟩

/-- A packet from the ring under a header whose HOP check holds: counted, and the furrow marked (R181). -/
theorem foreignPacket_marks {h : UpHeader} (hgood : hopBad h = false) (f : Nat) (isSow : Bool) (p : Part) :
    foreignPacket f h isSow p = updLane f (fun l => { l with
      foldedCfn := if h.endB = p.sys.endB then some p.fr.cfn else l.foldedCfn
      closedCfn := if h.endB ≠ p.sys.endB ∧ isSow = true then some p.fr.cfn else l.closedCfn }) (laneCount f 4 p) := by
  unfold foreignPacket; rw [hopCheck_good hgood]

end Sys2Proof.Machine

open Sys2Proof Sys2Proof.Machine

/-- Settles O41: each form is one count, with the lane's mark. -/
theorem linkErrors : Obligations.LinkErrors := by
  unfold Obligations.LinkErrors
  refine ⟨fun t f s hlives _ haligned => ?symbol, fun t f s hlives _ hup => ⟨?discarded, ?foreign⟩⟩
  case symbol =>
    obtain ⟨hcount, hmark⟩ := linkError_laneCount f 0 (advance t s.m)
    rw [advance_now_of_livesAt hlives] at hmark
    exact ⟨_, exec_klinkSymbolError hlives.1 haligned, hcount, hmark, rfl, rfl, laneAlone_of_besideLane (by simp)⟩
  case discarded =>
    rintro (_ | _)
    · exact ⟨_, exec_klinkPacketDiscarded hlives.1 hup false, (laneCount_counter ..).trans (if_pos rfl), rfl, rfl, rfl,
        laneAlone_of_besideLane (by simp)⟩
    · obtain ⟨hcount, hmark⟩ := linkError_laneCount f 2 (advance t s.m)
      rw [advance_now_of_livesAt hlives] at hmark
      exact ⟨_, exec_klinkPacketDiscarded hlives.1 hup true, hcount, hmark, rfl, rfl, laneAlone_of_besideLane (by simp)⟩
  case foreign =>
    intro h isSow hgood
    refine ⟨_, exec_foreignPacket hlives.1 hup h isSow, ?_⟩
    rw [foreignPacket_marks hgood]
    exact ⟨(laneCount_counter ..).trans (if_pos rfl), (updLane_lane ..).trans (if_pos rfl), rfl, rfl, laneAlone_of_besideLane (by simp)⟩

end

section
/-! CTRL packets on their way: what goes out and what the ports keep, what an answer retires, and what a replay timer sends again
(R186, R201, R203, R204). -/

namespace Sys2Proof.Machine

open Sys2Proof

/-! ### What stands on the ports -/

section Ports

variable {o : Out} {p : Part}

theorem raise_keeps_out (h : o ∈ p.out) (n i a : Nat) : o ∈ (raise n i a p).out := by
  unfold raise raiseAs; dsimp only
  refine report_keeps_out ?_ ..
  split
  · exact raiseEvent_keeps_out (raiseEvent_keeps_out h ..) ..
  · exact raiseEvent_keeps_out h ..

theorem perfWrapped_out (g c : Nat) (p : Part) : (perfWrapped g c p).out = p.out := by
  have hsync (q : Part) : (perfSync q).out = q.out := by
    rw [perfSync, Part.updPerf_out]
    exact foldl_keeps Part.out (fun r g => by unfold perfSyncGroup; dsimp only; split <;> rfl) ..
  unfold perfWrapped; dsimp only; split
  · rw [Part.updPerf_out, hsync]; rfl
  · rfl

theorem perfCarry_keeps_out (h : o ∈ p.out) (g c : Nat) : o ∈ (perfCarry g c p).out := by
  unfold perfCarry; dsimp only; split
  · split
    · exact raise_keeps_out (by rw [perfWrapped_out]; exact h) ..
    · exact h
  · exact raise_keeps_out h ..

/-- A performance signal takes nothing off the ports. -/
theorem perfSignal_keeps_out (h : o ∈ p.out) (g code inst n : Nat) : o ∈ (perfSignal g code inst n p).out := by
  unfold perfSignal; split
  · exact h
  · refine List.foldlRecOn (motive := fun q : Part => o ∈ q.out) _ (perfAdd g n) h fun q hq c _ => ?_
    unfold perfAdd; dsimp only; split
    · exact hq
    · exact perfCarry_keeps_out (by rw [perfWrapped_out]; exact hq) ..

end Ports

theorem perfSignal_kl (g code inst n : Nat) (p : Part) : (perfSignal g code inst n p).kl = p.kl :=
  Part.kl_of_quiet (perfSignal_quiet ..)

/-! ### Sending -/

/-- The packet as it goes out: under the tile's next SEQ, with the RESYNC that is due (R201). -/
def Ctrl.stamped (c : Ctrl) (k : LinkSt) : Ctrl := { c with seq := k.nextSeq, resync := k.resync }

/-- A packet leaves the queue for the port and is outstanding (R201, R203). -/
def ctrlLeaves (f : Nat) (c : Ctrl) (p : Part) : Part :=
  emit (.ctrl f (c.stamped (p.link f c.key))) <|
    updLink f c.key (fun k => { k with
      nextSeq := (k.nextSeq + 1) % 4096, resync := false, outst := k.outst ++ [c.stamped (p.link f c.key)]
      timer := if k.outst.isEmpty then some (p.sys.now + replayTime k) else k.timer }) <|
    updLane f (fun l => refill { l with queue := l.queue.drop 1, ackSlot := false }) p

theorem ctrlLeaves_lane (f : Nat) (c : Ctrl) (p : Part) : (ctrlLeaves f c p).lane f =
    refill { p.lane f with queue := (p.lane f).queue.drop 1, ackSlot := false } := by
  simp [ctrlLeaves]

theorem ctrlLeaves_link (f : Nat) (c : Ctrl) (p : Part) : (ctrlLeaves f c p).link f c.key = { p.link f c.key with
    nextSeq := ((p.link f c.key).nextSeq + 1) % 4096, resync := false
    outst := (p.link f c.key).outst ++ [c.stamped (p.link f c.key)]
    timer := if (p.link f c.key).outst.isEmpty then some (p.sys.now + replayTime (p.link f c.key)) else (p.link f c.key).timer } :=
  (updLink_link ..).trans (if_pos rfl)

theorem ctrlLeaves_out (f : Nat) (c : Ctrl) (p : Part) : (ctrlLeaves f c p).out = p.out ++ [.ctrl f (c.stamped (p.link f c.key))] := rfl

@[simp] theorem ctrlLeaves_besideLane (f : Nat) (c : Ctrl) (p : Part) : (ctrlLeaves f c p).besideLane f = p.besideLane f := by
  simp [ctrlLeaves]

theorem ctrlSend_eq {f : Nat} {c : Ctrl} {p : Part} (hresend : (p.lane f).resend = []) (hc : sendable p f = some c) :
    ctrlSend f p = perfSignal 4 0x12 f 1 (ctrlLeaves f c p) := by
  unfold ctrlSend
  rw [hresend, hc]; rfl

theorem exec_ctrlSend {t f : Nat} {s : State} (halive : s.m.alive = true) :
    exec (.ctrlSend t f) s = .next { s with m := ctrlSend f (advance t s.m) } := by
  rw [exec, execCtrlSend, onPart, timed_alive halive]

theorem exec_balkOpenerSend {t f : Nat} {s : State} (halive : s.m.alive = true) (hup : (s.m.lane f).state = 7)
    (hrun : (s.m.lane f).runDue = false) : exec (.balkOpenerSend t f) s =
      .next { s with m := emit (.balk f) (updLane f (fun l => { l with ackSlot := true }) (advance t s.m)) } :=
  onPart_timed_guarded halive (by simp [hup, hrun])

/-! ### Answers -/

/-- Nothing is outstanding at a tile any more (R203). -/
def linkCleared (f key : Nat) (p : Part) : Part := updLink f key (fun k => { k with outst := [], expiries := 0, timer := none }) p

theorem linkCleared_link (f key : Nat) (p : Part) :
    (linkCleared f key p).link f key = { p.link f key with outst := [], expiries := 0, timer := none } :=
  (updLink_link ..).trans (if_pos rfl)

theorem retire_only {f key next : Nat} {c : Ctrl} {p : Part} (hout : (p.link f key).outst = [c])
    (hnext : (next % 4096 + 4096 - c.seq) % 4096 = 1) : retire f key next p = (linkCleared f key p, false, [c]) := by
  unfold retire
  simp only [hout, hnext]; rfl

/-- An answer without GAP whose NEXT is one past the only packet outstanding retires that packet, and sends nothing again. -/
theorem answered_only {f key : Nat} {h : UpHeader} {next : Half} {c : Ctrl} {p : Part} (hgood : hopBad h = false)
    (hgap : next.getLsbD 15 = false) (hkey : answerKey p f h = some key) (hout : (p.link f key).outst = [c])
    (hnext : (next.toNat % 4096 + 4096 - c.seq) % 4096 = 1) (reply : Option CtrlReply) :
    answered f h next reply p = dropLost f (ctrlRetired f reply (linkCleared f key p) c) := by
  unfold answered
  simp only [hopCheck_good hgood, hgap, hkey, Bool.false_eq_true, if_false,
    retire_only (next := next.toNat % 4096) hout (by simpa using hnext), Bool.false_and, List.foldl_cons, List.foldl_nil]

/-- Where no packet of a tile found elsewhere waits, none is given up. -/
theorem dropLost_none {f : Nat} {p : Part} (h : (p.lane f).dropped = []) :
    dropLost f p = updLane f (fun l => { l with dropped := [] }) p := by
  rw [dropLost, h]; rfl

theorem ctrlRetired_clear {c : Ctrl} (hreply : c.reply = false) (hwhy : c.why = .clear) (f : Nat) (p : Part) :
    ctrlRetired f none p c = p := by
  simp only [ctrlRetired, ctrlDone, hreply, hwhy]

theorem ctrlRetired_query {f : Nat} {c : Ctrl} {p : Part} (hreply : c.reply = true) (hwhy : c.why = .powerQuery)
    (henum : (p.lane f).enum = none) (r : CtrlReply) :
    ctrlRetired f (some r) p c = powerAnswered f c.key (byteAt r.data 0) p := by
  simp only [ctrlRetired, ctrlDone, hreply, hwhy, henum, Option.filter_none]

/-- A tile reports the level that its map gives: it has answered, and the report takes effect (R234). -/
def levelReported (f pos level : Nat) (p : Part) : Part :=
  updTile f pos (fun t => { t with reported := some level })
    (updLane f (fun l => { l with queried := if l.queried.contains pos then l.queried else pos :: l.queried }) p)

theorem powerAnswered_level {f pos level : Nat} {e : TileEntry} {p : Part} (hmap : (p.cfg.furrow f).map.get? pos = some e)
    (hlevel : level = e.level) (hpower : (p.lane f).pwrUnc = false) : powerAnswered f pos level p = levelReported f pos level p := by
  unfold powerAnswered
  rw [hmap]; dsimp only
  rw [if_pos hlevel]
  exact if_neg (by simp [hpower])

theorem levelReported_queried (f pos level : Nat) (p : Part) : pos ∈ ((levelReported f pos level p).lane f).queried := by
  simp only [levelReported, updTile_lane, updLane_lane, if_true]
  by_cases hold : (p.lane f).queried.contains pos = true
  · rw [if_pos hold]; exact List.contains_iff_mem.mp hold
  · rw [if_neg hold]; exact List.mem_cons_self

theorem exec_ackReceived {t f : Nat} {s : State} (halive : s.m.alive = true) (hup : (s.m.lane f).state = 7) (h : UpHeader)
    (next : Half) : exec (.ackReceived t f h next) s = .next { s with m := answered f h next none (advance t s.m) } :=
  onPart_timed_guarded halive (beq_iff_eq.mpr hup)

theorem exec_ctrlReplyReceived {t f : Nat} {s : State} (halive : s.m.alive = true) (hup : (s.m.lane f).state = 7) (h : UpHeader)
    (r : CtrlReply) : exec (.ctrlReplyReceived t f h r) s = .next { s with m := answered f h r.next (some r) (advance t s.m) } :=
  onPart_timed_guarded halive (beq_iff_eq.mpr hup)

/-! ### Replays -/

/-- What is outstanding at a tile counted as replayed, and next in the lane's schedule (R204). -/
def replayDue (f key : Nat) (p : Part) : Part :=
  updLane f (fun x => { x with resend := x.resend.filter (fun c => c.key != key) ++ (p.link f key).outst })
    (countBy blkKlink f 12 (p.link f key).outst.length p)

theorem resendAll_eq (f key : Nat) (p : Part) : resendAll f key p = resendNext f (replayDue f key p) := rfl

/-- Sending packets again counts them as replays, changes the lane in what is due on it, and puts packets on the port: an observation
that none of these changes stands. -/
theorem resendAll_keeps {β : Type} {f : Nat} {π : Part → β} (hcount : ∀ n p, π (countBy blkKlink f 12 n p) = π p)
    (hlane : ∀ (g : Lane → Lane) p, (∀ l, (g l).enum = l.enum) → π (updLane f g p) = π p) (hout : ∀ o p, π (emit o p) = π p)
    (key : Nat) (p : Part) : π (resendAll f key p) = π p := by
  have hnext (q : Part) : π (resendNext f q) = π q := by
    unfold resendNext; split
    · rfl
    · split
      · exact (hout ..).trans (hlane _ _ (by intro; rfl))
      · rfl
  calc π (resendAll f key p) = π (replayDue f key p) := hnext _
    _ = π (countBy blkKlink f 12 (p.link f key).outst.length p) := hlane _ _ (by intro; rfl)
    _ = π p := hcount ..

theorem resendAll_besideLane (f key : Nat) (p : Part) : (resendAll f key p).besideLane f = p.besideLane f :=
  resendAll_keeps (by simp) (by simp) (by simp) ..

theorem resendAll_enum (f key : Nat) (p : Part) : ((resendAll f key p).lane f).enum = (p.lane f).enum :=
  resendAll_keeps (π := fun q => (q.lane f).enum) (fun _ _ => rfl) (fun g q hg => by simp [hg]) (fun _ _ => rfl) ..

theorem resendAll_link (f key : Nat) (p : Part) (k : Nat) : (resendAll f key p).link f k = p.link f k :=
  resendAll_keeps (π := fun q => q.link f k) (fun _ _ => rfl) (fun _ _ _ => rfl) (fun _ _ => rfl) ..

theorem resendAll_tiles (f key : Nat) (p : Part) : (resendAll f key p).kl.tiles = p.kl.tiles :=
  resendAll_keeps (π := fun q => q.kl.tiles) (fun _ _ => rfl) (fun _ _ _ => rfl) (fun _ _ => rfl) ..

theorem resendAll_counter {i : Nat} (hi : i ≠ 12) (f key : Nat) (p : Part) :
    counter blkKlink f i (resendAll f key p) = counter blkKlink f i p :=
  resendAll_keeps (fun _ _ => (countBy_counter ..).trans (if_neg hi)) (fun _ _ _ => rfl) (fun _ _ => rfl) ..

theorem resendNext_sends {f : Nat} {c : Ctrl} {rest : List Ctrl} {p : Part} (hresend : (p.lane f).resend = c :: rest)
    (hsends : laneSends p f = true) (hslot : (p.lane f).ackSlot = true) :
    resendNext f p = emit (.ctrl f c) (updLane f (fun l => { l with resend := rest, ackSlot := false }) p) := by
  unfold resendNext
  rw [hresend]
  exact if_pos (by rw [hsends, hslot]; rfl)

theorem replayDue_lane (f key : Nat) (p : Part) : (replayDue f key p).lane f =
    { p.lane f with resend := (p.lane f).resend.filter (fun c => c.key != key) ++ (p.link f key).outst } :=
  (updLane_lane ..).trans (if_pos rfl)

theorem replayDue_laneSends (f key : Nat) (p : Part) : laneSends (replayDue f key p) f = laneSends p f := by
  unfold laneSends; rw [replayDue_lane]; rfl

/-- The one packet outstanding goes out again at once, counted, where the schedule allows it (R186, R204). -/
theorem resendAll_only {f key : Nat} {c : Ctrl} {p : Part} (hout : (p.link f key).outst = [c]) (hresend : (p.lane f).resend = [])
    (hsends : laneSends p f = true) (hslot : (p.lane f).ackSlot = true) :
    (resendAll f key p).out = p.out ++ [.ctrl f c] ∧ (resendAll f key p).lane f = { p.lane f with ackSlot := false } ∧
      counter blkKlink f 12 (resendAll f key p) = satAdd32 (counter blkKlink f 12 p) 1 := by
  have hdue := replayDue_lane f key p
  rw [hresend, hout] at hdue
  have hlen : (p.link f key).outst.length = 1 := by rw [hout]; rfl
  rw [resendAll_eq, resendNext_sends (c := c) (rest := []) (by rw [hdue]; rfl) ((replayDue_laneSends ..).trans hsends)
    (by rw [hdue]; exact hslot)]
  refine ⟨rfl, ?_, ?_⟩
  · rw [emit_lane, updLane_lane, if_pos rfl, hdue, ← hresend]
  · have hcount : counter blkKlink f 12 (replayDue f key p) = counter blkKlink f 12 (countBy blkKlink f 12 1 p) := by rw [← hlen]; rfl
    exact hcount.trans ((countBy_counter ..).trans (if_pos rfl))

theorem ctrlGone_clear {f : Nat} {c : Ctrl} {p : Part} (hwhy : c.why = .clear) (henum : (p.lane f).enum = none) :
    ctrlGone f p c = p := by
  simp [ctrlGone, ctrlFailed, hwhy, henum]

theorem replayTimeout_again {f key : Nat} {p : Part} (h : (p.link f key).expiries + 1 < 8) : replayTimeout f key p =
    updLink f key (fun k => { k with expiries := k.expiries + 1, timer := some (p.sys.now + replayTime k) })
      (resendAll f key (laneCount f 13 p)) := if_pos h

/-- The eighth expiry gives up the one packet outstanding, where that is all that becomes of it (R204). -/
theorem replayTimeout_last {f key : Nat} {c : Ctrl} {p : Part} (h : (p.link f key).expiries = 7)
    (hout : (p.link f key).outst = [c]) (hwhy : c.why = .clear) (henum : (p.lane f).enum = none) : replayTimeout f key p =
      raise evCtrlUnreachable f 0 (updLink f key (fun k => { k with outst := [], expiries := 0, timer := none, resync := true })
        (resendAll f key (laneCount f 13 p))) := by
  unfold replayTimeout; dsimp only
  rw [if_neg (by omega), hout, List.foldl_cons, List.foldl_nil]
  exact ctrlGone_clear hwhy (by rw [raise_lane, updLink_lane, resendAll_enum]; exact henum)

theorem exec_replayTimeout {t f key d : Nat} {c : Ctrl} {s : State} (hlives : livesAt t s) (hout : (s.m.link f key).outst = [c])
    (htimer : (s.m.link f key).timer = some d) (hpast : d ≤ t) :
    exec (.replayTimeout t f key) s = .next { s with m := replayTimeout f key (advance t s.m) } :=
  onPart_timed_guarded hlives.1 (by simp only [advance_link, hout, htimer, advance_now_of_livesAt hlives]; simp [hpast])

end Sys2Proof.Machine

open Sys2Proof Sys2Proof.Machine

/-- Settles O42: each form is its command's own rule on the lane and the tile's link. -/
theorem controlDelivered : Obligations.ControlDelivered := by
  unfold Obligations.ControlDelivered
  intro t f s hlives hf hup
  obtain ⟨halive, -⟩ := id hlives
  have hnow := advance_now_of_livesAt hlives
  refine ⟨?opener, ?sent, ?acked, ?replied, ?again, ?last⟩
  case opener =>
    intro hrun
    exact ⟨_, exec_balkOpenerSend halive hup hrun, (updLane_lane ..).trans (if_pos rfl), rfl, rfl, rfl,
      laneAlone_of_besideLane (by simp)⟩
  case sent =>
    intro c rest hc hqueue hbacklog hresend
    refine ⟨_, exec_ctrlSend halive, ?_⟩
    rw [ctrlSend_eq (p := advance t s.m) hresend hc]
    have hkl := perfSignal_kl 4 0x12 f 1 (ctrlLeaves f c (advance t s.m))
    have hbeside : (perfSignal 4 0x12 f 1 (ctrlLeaves f c (advance t s.m))).besideLane f = s.m.besideLane f := by
      rw [Part.besideLane_of_quiet (perfSignal_quiet ..), ctrlLeaves_besideLane, advance_besideLane]
    rw [Part.lane_of_kl hkl, Part.link_of_kl hkl, hkl, ctrlLeaves_lane, ctrlLeaves_link]
    refine ⟨by simp [refill, hqueue, hbacklog], rfl, rfl, rfl, rfl, ?_, rfl, laneAlone_of_besideLane hbeside⟩
    exact perfSignal_keeps_out (by rw [ctrlLeaves_out]; exact List.mem_append_right _ List.mem_cons_self) ..
  case acked =>
    intro h next c key hgood hgap hkey hdropped hout hreply hwhy hnext
    refine ⟨_, exec_ackReceived halive hup h next, ?_⟩
    rw [answered_only (p := advance t s.m) hgood hgap hkey hout hnext, ctrlRetired_clear hreply hwhy,
      dropLost_none (p := linkCleared f key (advance t s.m)) hdropped]
    refine ⟨linkCleared_link .., ?_, rfl, laneAlone_of_besideLane (by simp [linkCleared])⟩
    simp [linkCleared, ← hdropped]
  case replied =>
    intro h r c e key hgood hgap hkey hdropped hout hreply hwhy hsame henum hpower hmap hlevel hnext
    subst hsame
    refine ⟨_, exec_ctrlReplyReceived halive hup h r, ?_⟩
    have hnone : ((levelReported f c.key (byteAt r.data 0) (linkCleared f c.key (advance t s.m))).lane f).dropped = [] := by
      simpa [levelReported, linkCleared] using hdropped
    rw [answered_only (p := advance t s.m) hgood hgap hkey hout hnext,
      ctrlRetired_query (p := linkCleared f c.key (advance t s.m)) hreply hwhy henum,
      powerAnswered_level (p := linkCleared f c.key (advance t s.m)) hmap hlevel hpower, dropLost_none hnone, hlevel]
    refine ⟨linkCleared_link .., ?_, ?_, laneAlone_of_besideLane (by simp [levelReported, linkCleared])⟩
    · simpa using levelReported_queried f c.key e.level (linkCleared f c.key (advance t s.m))
    · simp [levelReported, linkCleared]
  case again =>
    intro key d c hout htimer hpast hless hsends hslot hresend
    refine ⟨_, exec_replayTimeout hlives hout htimer hpast, ?_⟩
    rw [replayTimeout_again (p := advance t s.m) hless]
    obtain ⟨hport, hlane, hreplays⟩ := resendAll_only (p := laneCount f 13 (advance t s.m)) hout hresend hsends hslot
    have hlink := resendAll_link f key (laneCount f 13 (advance t s.m))
    have htiles := resendAll_tiles f key (laneCount f 13 (advance t s.m))
    have hexpired := resendAll_counter (i := 13) (by decide) f key (laneCount f 13 (advance t s.m))
    have hbeside := resendAll_besideLane f key (laneCount f 13 (advance t s.m))
    generalize resendAll f key (laneCount f 13 (advance t s.m)) = q at *
    rw [updLink_link, if_pos rfl, hlink key, hnow]
    refine ⟨rfl, hout, rfl, hport, hlane, ?_, ?_, htiles, laneAlone_of_besideLane (by simpa using hbeside)⟩
    · exact hreplays.trans (by rw [laneCount_counter, if_neg (by decide)]; rfl)
    · exact hexpired.trans ((laneCount_counter ..).trans (if_pos rfl))
  case last =>
    intro key d c hout htimer hpast hlast hwhy henum
    refine ⟨_, exec_replayTimeout hlives hout htimer hpast, ?_⟩
    rw [replayTimeout_last (p := advance t s.m) hlast hout hwhy henum]
    have htiles := resendAll_tiles f key (laneCount f 13 (advance t s.m))
    have hexpired := resendAll_counter (i := 13) (by decide) f key (laneCount f 13 (advance t s.m))
    have hbeside := resendAll_besideLane f key (laneCount f 13 (advance t s.m))
    generalize resendAll f key (laneCount f 13 (advance t s.m)) = q at *
    rw [raise_link, updLink_link, if_pos rfl, raise_counter hf (by decide), raise_kl]
    exact ⟨rfl, rfl, rfl, raise_sets_pend (by decide), hexpired.trans ((laneCount_counter ..).trans (if_pos rfl)), htiles,
      laneAlone_of_besideLane (by simpa using hbeside)⟩

end

section
/-! The audio block's state: what a channel, a port and a clock domain read after a write, and the observers of the part that
the operations of the audio block leave alone. -/

namespace Sys2Proof.Machine

open Sys2Proof

/-! ### Channels, ports and domains -/

@[simp] theorem updChan_chan (k j : Nat) (f : Chan → Chan) (p : Part) :
    (updChan k f p).chan j = if j = k then f (p.chan k) else p.chan j := by
  simp [updChan, Part.chan]
@[simp] theorem updChan_audPort (k n : Nat) (f : Chan → Chan) (p : Part) : (updChan k f p).audPort n = p.audPort n := rfl
@[simp] theorem updChan_dom (k d : Nat) (f : Chan → Chan) (p : Part) : (updChan k f p).dom d = p.dom d := rfl

@[simp] theorem updChan_cnt (k : Nat) (f : Chan → Chan) (p : Part) : (updChan k f p).cnt = p.cnt := rfl
@[simp] theorem updChan_out (k : Nat) (f : Chan → Chan) (p : Part) : (updChan k f p).out = p.out := rfl

@[simp] theorem updAudPort_chan (n k : Nat) (f : AudPort → AudPort) (p : Part) : (updAudPort n f p).chan k = p.chan k := rfl
@[simp] theorem updAudPort_audPort (n j : Nat) (f : AudPort → AudPort) (p : Part) :
    (updAudPort n f p).audPort j = if j = n then f (p.audPort n) else p.audPort j := by
  simp [updAudPort, Part.audPort]

@[simp] theorem updDom_chan (d k : Nat) (f : AudDom → AudDom) (p : Part) : (updDom d f p).chan k = p.chan k := rfl
@[simp] theorem updDom_dom (d j : Nat) (f : AudDom → AudDom) (p : Part) :
    (updDom d f p).dom j = if j = d then f (p.dom d) else p.dom j := by
  simp [updDom, Part.dom]

theorem Part.chan_of_aud {p q : Part} (h : p.aud = q.aud) (k : Nat) : p.chan k = q.chan k := by unfold Part.chan; rw [h]
theorem Part.audPort_of_aud {p q : Part} (h : p.aud = q.aud) (n : Nat) : p.audPort n = q.audPort n := by unfold Part.audPort; rw [h]
theorem Part.dom_of_aud {p q : Part} (h : p.aud = q.aud) (d : Nat) : p.dom d = q.dom d := by unfold Part.dom; rw [h]
theorem Part.aud_of_quiet {p q : Part} (h : p.quiet = q.quiet) : p.aud = q.aud := (congrArg Part.aud h : p.quiet.aud = q.quiet.aud)

@[simp] theorem advance_chan (t k : Nat) (p : Part) : (advance t p).chan k = p.chan k := rfl
@[simp] theorem advance_audPort (t n : Nat) (p : Part) : (advance t p).audPort n = p.audPort n := rfl
@[simp] theorem advance_dom (t d : Nat) (p : Part) : (advance t p).dom d = p.dom d := rfl
@[simp] theorem advance_chansOf (t d : Nat) (p : Part) : chansOf (advance t p) d = chansOf p d := rfl

@[simp] theorem count_audPort (b i x n : Nat) (p : Part) : (count b i x p).audPort n = p.audPort n := rfl
@[simp] theorem emit_audPort (o : Out) (n : Nat) (p : Part) : (emit o p).audPort n = p.audPort n := rfl
@[simp] theorem raise_chan (n i a k : Nat) (p : Part) : (raise n i a p).chan k = p.chan k := Part.chan_of_aud (raise_aud ..) k
@[simp] theorem raise_audPort (n i a j : Nat) (p : Part) : (raise n i a p).audPort j = p.audPort j :=
  Part.audPort_of_aud (raise_aud ..) j
@[simp] theorem raise_dom (n i a d : Nat) (p : Part) : (raise n i a p).dom d = p.dom d := Part.dom_of_aud (raise_aud ..) d
@[simp] theorem perfSignal_aud (g code i n : Nat) (p : Part) : (perfSignal g code i n p).aud = p.aud :=
  Part.aud_of_quiet (perfSignal_quiet ..)
@[simp] theorem perfSignal_audPort (g code i n j : Nat) (p : Part) : (perfSignal g code i n p).audPort j = p.audPort j :=
  Part.audPort_of_aud (perfSignal_aud ..) j

@[simp] theorem setSlot_out (a : AudPort) (right : Bool) (x : AudSlot) : (a.setSlot right x).out = a.out := by
  cases right <;> rfl
@[simp] theorem setSlot_stopping (a : AudPort) (right : Bool) (x : AudSlot) : (a.setSlot right x).stopping = a.stopping := by
  cases right <;> rfl

@[simp] theorem countCarriers_rest (ks : List Nat) (i : Nat) (p : Part) : (countCarriers ks i p).rest = p.rest :=
  foldl_keeps Part.rest (by simp) ..
@[simp] theorem countCarriers_chan (ks : List Nat) (i k : Nat) (p : Part) : (countCarriers ks i p).chan k = p.chan k :=
  Part.chan_of_aud (Part.aud_of_rest (countCarriers_rest ..)) k

/-- The channels of a domain are those whose content in play comes from it. -/
theorem mem_chansOf {p : Part} {d k : Nat} : k ∈ chansOf p d ↔ (sourceDom (p.chan k).cur.source).map (·.1) = some d := by
  rw [chansOf, List.mem_filter, beq_iff_eq, and_iff_right_iff_imp]
  intro hsource
  cases hget : p.aud.chans.get? k with
  | none => simp [Part.chan, Tab.getD, hget, sourceDom] at hsource
  | some c => exact List.mem_map_of_mem (mem_of_get? hget)

/-- What each step of a fold over channels brings about for its own channel, and keeps for the others, holds of them all. -/
theorem foldl_chan {P : Chan → Prop} {g : Part → Nat → Part} (hset : ∀ q j, P ((g q j).chan j))
    (hkeep : ∀ q i j, i ≠ j → (g q j).chan i = q.chan i) {k : Nat} (ks : List Nat) (p : Part) (h : k ∈ ks ∨ P (p.chan k)) :
    P ((ks.foldl g p).chan k) := by
  induction ks generalizing p with
  | nil => exact h.resolve_left (by simp)
  | cons j r ih =>
    refine ih _ ?_
    by_cases hk : k = j
    · exact .inr (hk ▸ hset p j)
    · rw [hkeep p k j hk]
      exact h.imp_left fun hm => (List.mem_cons.mp hm).resolve_left hk

/-! ### What stands -/

/-- The part without time, reports and counts, and without the audio block. -/
def Part.offAudio (p : Part) : Part := { p.quiet with sys := {}, aud := {} }

/-- The same with the I²S ports: what the router's channels and the clock domains are kept beside. -/
def Part.offRouter (p : Part) : Part := { p.quiet with sys := {}, aud := { ports := p.aud.ports } }

/-- The same with everything of the audio block but its ports. -/
def Part.offPorts (p : Part) : Part := { p.quiet with sys := {}, aud := { p.aud with ports := [] } }

theorem beyondAudio_of_offAudio {s : State} {q : Part} (h : q.offAudio = s.m.offAudio) : beyondAudio s { s with m := q } := by
  simp only [Part.offAudio, Part.quiet, Part.rest, Part.mk.injEq] at h
  unfold beyondAudio
  tauto

theorem Part.offAudio_of_offRouter {p q : Part} (h : p.offRouter = q.offRouter) : p.offAudio = q.offAudio :=
  congrArg (fun r : Part => { r with aud := {} }) h
theorem Part.offAudio_of_offPorts {p q : Part} (h : p.offPorts = q.offPorts) : p.offAudio = q.offAudio :=
  congrArg (fun r : Part => { r with aud := {} }) h
theorem Part.offRouter_of_quiet {p q : Part} (h : p.quiet = q.quiet) : p.offRouter = q.offRouter :=
  congrArg (fun r : Part => { r with sys := {}, aud := { ports := r.aud.ports } }) h
theorem Part.offPorts_of_quiet {p q : Part} (h : p.quiet = q.quiet) : p.offPorts = q.offPorts :=
  congrArg (fun r : Part => { r with sys := {}, aud := { r.aud with ports := [] } }) h

theorem Part.ports_of_offRouter {p q : Part} (h : p.offRouter = q.offRouter) : p.aud.ports = q.aud.ports :=
  (congrArg (fun r : Part => r.aud.ports) h : p.offRouter.aud.ports = q.offRouter.aud.ports)
theorem Part.hrt_of_offRouter {p q : Part} (h : p.offRouter = q.offRouter) : p.hrt = q.hrt :=
  (congrArg Part.hrt h : p.offRouter.hrt = q.offRouter.hrt)
theorem Part.audPort_of_offRouter {p q : Part} (h : p.offRouter = q.offRouter) (n : Nat) : p.audPort n = q.audPort n :=
  congrArg (fun ports : Tab AudPort => ports.getD n {}) (Part.ports_of_offRouter h)
theorem Part.chans_of_offPorts {p q : Part} (h : p.offPorts = q.offPorts) : p.aud.chans = q.aud.chans :=
  (congrArg (fun r : Part => r.aud.chans) h : p.offPorts.aud.chans = q.offPorts.aud.chans)
theorem Part.chan_of_offPorts {p q : Part} (h : p.offPorts = q.offPorts) (k : Nat) : p.chan k = q.chan k :=
  congrArg (fun chans : Tab Chan => chans.getD k {}) (Part.chans_of_offPorts h)

theorem beyondAudio_of_offRouter {s : State} {q : Part} (h : q.offRouter = s.m.offRouter) : beyondAudio s { s with m := q } :=
  beyondAudio_of_offAudio (Part.offAudio_of_offRouter h)

@[simp] theorem advance_offRouter (t : Nat) (p : Part) : (advance t p).offRouter = p.offRouter := rfl
@[simp] theorem updChan_offRouter (k : Nat) (f : Chan → Chan) (p : Part) : (updChan k f p).offRouter = p.offRouter := rfl
@[simp] theorem updDom_offRouter (d : Nat) (f : AudDom → AudDom) (p : Part) : (updDom d f p).offRouter = p.offRouter := rfl
@[simp] theorem raise_offRouter (n i a : Nat) (p : Part) : (raise n i a p).offRouter = p.offRouter :=
  Part.offRouter_of_quiet (raise_quiet ..)
@[simp] theorem perfSignal_offRouter (g code i n : Nat) (p : Part) : (perfSignal g code i n p).offRouter = p.offRouter :=
  Part.offRouter_of_quiet (perfSignal_quiet ..)
@[simp] theorem countCarriers_offRouter (ks : List Nat) (i : Nat) (p : Part) : (countCarriers ks i p).offRouter = p.offRouter :=
  Part.offRouter_of_quiet (Part.quiet_of_rest (countCarriers_rest ..))

@[simp] theorem advance_offPorts (t : Nat) (p : Part) : (advance t p).offPorts = p.offPorts := rfl
@[simp] theorem updAudPort_offPorts (n : Nat) (f : AudPort → AudPort) (p : Part) : (updAudPort n f p).offPorts = p.offPorts := rfl
@[simp] theorem emit_offPorts (o : Out) (p : Part) : (emit o p).offPorts = p.offPorts := rfl
@[simp] theorem count_offPorts (b i x : Nat) (p : Part) : (count b i x p).offPorts = p.offPorts := rfl
@[simp] theorem raise_offPorts (n i a : Nat) (p : Part) : (raise n i a p).offPorts = p.offPorts :=
  Part.offPorts_of_quiet (raise_quiet ..)
@[simp] theorem countCarriers_offPorts (ks : List Nat) (i : Nat) (p : Part) : (countCarriers ks i p).offPorts = p.offPorts :=
  Part.offPorts_of_quiet (Part.quiet_of_rest (countCarriers_rest ..))

@[simp] theorem advance_offAudio (t : Nat) (p : Part) : (advance t p).offAudio = p.offAudio := rfl
@[simp] theorem updAudPort_offAudio (n : Nat) (f : AudPort → AudPort) (p : Part) : (updAudPort n f p).offAudio = p.offAudio := rfl
@[simp] theorem raise_offAudio (n i a : Nat) (p : Part) : (raise n i a p).offAudio = p.offAudio :=
  Part.offAudio_of_offRouter (raise_offRouter ..)
@[simp] theorem perfSignal_offAudio (g code i n : Nat) (p : Part) : (perfSignal g code i n p).offAudio = p.offAudio :=
  Part.offAudio_of_offRouter (perfSignal_offRouter ..)

end Sys2Proof.Machine
end

section
/-! Samples into the router (R237, R239, R247, R251): what a sample does to the content it feeds, and to its clock domain. -/

namespace Sys2Proof.Machine

open Sys2Proof

/-- While no loss has ended a content, a sample goes where its buffer stands. -/
theorem writeSample_wr {c : Content} (hend : c.endAt = none) (own muted : Bool) (status : List Byte) (pos : Int) (delay : Nat)
    (x : AudSample) : (writeSample own muted status pos delay x c).wr = c.wr + 1 := by
  simp [writeSample, hend]

theorem writeSample_stores {c : Content} (hend : c.endAt = none) (own : Bool) (status : List Byte) (pos : Int) (delay : Nat)
    (x : AudSample) : ((writeSample own false status pos delay x c).buf.get? c.wr).map (·.1) = some x.value := by
  simp [writeSample, hend]

/-- A sample ends the loss of the content it is written to (R251). -/
@[simp] theorem writeSample_lost (own muted : Bool) (status : List Byte) (pos : Int) (delay : Nat) (x : AudSample) (c : Content) :
    (writeSample own muted status pos delay x c).lost = false := rfl

/-- The content in play of channel `k` once a sample of a domain's channel has come to it. -/
def routed (muted : Bool) (d channel : Nat) (x : AudSample) (p : Part) (k : Nat) : Content :=
  let c := p.chan k
  if sourceDom c.cur.source = some (d, channel) then
    writeSample (keepsBits p.cfg k) muted (p.cfg.chan k).status c.pos c.delay x c.cur
  else c.cur

section Routed

variable {muted : Bool} {d channel : Nat} {x : AudSample} {p : Part} {k : Nat}

theorem routed_congr {p q : Part} (hcfg : p.cfg = q.cfg) (hchan : p.chan k = q.chan k) :
    routed muted d channel x p k = routed muted d channel x q k := by
  simp only [routed, hcfg, hchan]

theorem routed_source : (routed muted d channel x p k).source = (p.chan k).cur.source := by
  unfold routed; dsimp only; split <;> rfl

/-- A sample never brings a loss about. -/
theorem routed_lost (h : (p.chan k).cur.lost = false) : (routed muted d channel x p k).lost = false := by
  unfold routed; dsimp only; split
  · rfl
  · exact h

theorem routed_of_fed (h : sourceDom (p.chan k).cur.source = some (d, channel)) :
    routed muted d channel x p k =
      writeSample (keepsBits p.cfg k) muted (p.cfg.chan k).status (p.chan k).pos (p.chan k).delay x (p.chan k).cur :=
  if_pos h

theorem chanTakes_cur_same : ((chanTakes muted d channel x p k).chan k).cur = routed muted d channel x p k := by
  rw [chanTakes, updChan_chan, if_pos rfl, routed]
  dsimp only
  split <;> rfl

theorem chanTakes_chan_of_ne {j : Nat} (h : j ≠ k) : (chanTakes muted d channel x p k).chan j = p.chan j :=
  (updChan_chan ..).trans (if_neg h)

@[simp] theorem chanTakes_offRouter : (chanTakes muted d channel x p k).offRouter = p.offRouter := rfl

/-- A sample comes to each channel of the router once. -/
theorem chanTakes_fold_cur {ks : List Nat} (hnodup : ks.Nodup) :
    ((ks.foldl (chanTakes muted d channel x) p).chan k).cur =
      if k ∈ ks then routed muted d channel x p k else (p.chan k).cur := by
  induction ks generalizing p with
  | nil => rfl
  | cons j r ih =>
    obtain ⟨hj, hr⟩ := List.nodup_cons.mp hnodup
    rw [List.foldl_cons, ih hr]
    by_cases hk : k = j
    · rw [hk, if_neg hj, if_pos List.mem_cons_self, chanTakes_cur_same]
    · have hchan := chanTakes_chan_of_ne (muted := muted) (d := d) (channel := channel) (x := x) (p := p) hk
      rw [routed_congr (p := chanTakes muted d channel x p j) (q := p) rfl hchan, hchan]
      simp only [List.mem_cons, hk, false_or]

theorem chanTakes_fold_dom (ks : List Nat) (j : Nat) : (ks.foldl (chanTakes muted d channel x) p).dom j = p.dom j :=
  foldl_keeps (fun q : Part => q.dom j) (by intros; rfl) ..

end Routed

/-! ### The domain -/

@[simp] theorem domainBack_chan (d k : Nat) (p : Part) : (domainBack d p).chan k = p.chan k := by
  unfold domainBack; split <;> simp

@[simp] theorem domainBack_offRouter (d : Nat) (p : Part) : (domainBack d p).offRouter = p.offRouter := by
  unfold domainBack; split <;> simp

theorem domainBack_last (d : Nat) (p : Part) : ((domainBack d p).dom d).last = (p.dom d).last := by
  unfold domainBack; split <;> simp

/-- With no channel of its own lost, a domain is whole (R251). -/
theorem domainBack_lost {d : Nat} {p : Part} (h : ∀ k ∈ chansOf p d, (p.chan k).cur.lost = false) :
    ((domainBack d p).dom d).lost = false := by
  have hwhole : ((chansOf p d).any fun k => (p.chan k).cur.lost) = false := by simpa using h
  unfold domainBack
  rw [hwhole]
  split
  · simp
  next hback => simpa using hback

@[simp] theorem routerTakes_offRouter (d channel : Nat) (x : AudSample) (p : Part) :
    (routerTakes d channel x p).offRouter = p.offRouter := by
  rw [routerTakes, domainBack_offRouter, foldl_keeps Part.offRouter (by simp)]

theorem routerTakes_last (d channel : Nat) (x : AudSample) (p : Part) :
    ((routerTakes d channel x p).dom d).last = (p.dom d).last := by
  rw [routerTakes, domainBack_last, chanTakes_fold_dom]

section Fed

variable {p : Part} (hnodup : p.aud.chans.keys.Nodup) (d channel : Nat) (x : AudSample)
include hnodup

theorem routerTakes_cur (k : Nat) : ((routerTakes d channel x p).chan k).cur =
    if k ∈ p.aud.chans.keys then routed (ingestSwapping p d) d channel x p k else (p.chan k).cur := by
  rw [routerTakes, domainBack_chan, chanTakes_fold_cur hnodup]

/-- A sample ends its domain's loss where no channel but the one it feeds is lost (R251). -/
theorem routerTakes_lost {k : Nat} (hk : k ∈ p.aud.chans.keys) (hfed : sourceDom (p.chan k).cur.source = some (d, channel))
    (h : ∀ j ∈ chansOf p d, j ≠ k → (p.chan j).cur.lost = false) : ((routerTakes d channel x p).dom d).lost = false := by
  refine domainBack_lost fun j hj => ?_
  rw [mem_chansOf] at hj
  simp only [chanTakes_fold_cur hnodup] at hj ⊢
  have hsource : j ∈ chansOf p d := by
    rw [mem_chansOf, ← hj]
    split
    · rw [routed_source]
    · rfl
  by_cases hjk : j = k
  · rw [hjk, if_pos hk, routed_of_fed hfed]; rfl
  · split
    · exact routed_lost (h j hsource hjk)
    · exact h j hsource hjk

end Fed

/-! ### A sample's arrival -/

/-- The part once a valid SDI sample has been seen and counted, and before the router takes it. -/
def arrived (n c : Nat) (p : Part) : Part := perfSignal 7 0x11 0 1 (sampleSeen (.sdi n) c p)

theorem sampleIn_sdi {x : AudSample} (hvalid : x.valid = true) (n c : Nat) (p : Part) :
    sampleIn (.sdi n) c x p = routerTakes n c x (arrived n c p) := by
  simp [sampleIn, arrived, hvalid]

@[simp] theorem arrived_offRouter (n c : Nat) (p : Part) : (arrived n c p).offRouter = p.offRouter :=
  perfSignal_offRouter ..
@[simp] theorem arrived_chans (n c : Nat) (p : Part) : (arrived n c p).aud.chans = p.aud.chans :=
  (congrArg Audio.chans (perfSignal_aud 7 0x11 0 1 (sampleSeen (.sdi n) c p))).trans rfl
@[simp] theorem arrived_chan (n c k : Nat) (p : Part) : (arrived n c p).chan k = p.chan k :=
  congrArg (fun chans : Tab Chan => chans.getD k {}) (arrived_chans ..)
@[simp] theorem arrived_last (n c : Nat) (p : Part) : ((arrived n c p).dom n).last = p.sys.now := by
  rw [arrived, Part.dom_of_aud (perfSignal_aud ..), sampleSeen]
  simp [domKey]
@[simp] theorem arrived_ingestSwapping (n c d : Nat) (p : Part) : ingestSwapping (arrived n c p) d = ingestSwapping p d := by
  rw [ingestSwapping, Part.hrt_of_offRouter (arrived_offRouter ..), ingestSwapping]

section ValidSdi

variable {n c k : Nat} {x : AudSample} {p : Part} (hvalid : x.valid = true)
include hvalid

theorem sampleIn_sdi_offRouter : (sampleIn (.sdi n) c x p).offRouter = p.offRouter := by
  simp [sampleIn_sdi hvalid]

theorem sampleIn_sdi_last : ((sampleIn (.sdi n) c x p).dom n).last = p.sys.now := by
  rw [sampleIn_sdi hvalid, routerTakes_last, arrived_last]

variable (hnodup : p.aud.chans.keys.Nodup) (hk : k ∈ p.aud.chans.keys) (hsource : (p.chan k).cur.source = .sdi n c)
include hnodup hk hsource

/-- Where no swap of its ingest unit runs, the sample is written to the content in play as it came (R239). -/
theorem sampleIn_sdi_cur (hswap : ingestSwapping p n = false) : ∃ own status,
    ((sampleIn (.sdi n) c x p).chan k).cur = writeSample own false status (p.chan k).pos (p.chan k).delay x (p.chan k).cur := by
  have hfed : sourceDom ((arrived n c p).chan k).cur.source = some (n, c) := by simp [hsource, sourceDom]
  refine ⟨keepsBits (arrived n c p).cfg k, ((arrived n c p).cfg.chan k).status, ?_⟩
  rw [sampleIn_sdi hvalid, routerTakes_cur (by simpa using hnodup), if_pos (by simpa using hk), routed_of_fed hfed,
    arrived_chan, arrived_ingestSwapping, hswap]

theorem sampleIn_sdi_dom_lost (hothers : ∀ j ∈ chansOf p n, j ≠ k → (p.chan j).cur.lost = false) :
    ((sampleIn (.sdi n) c x p).dom n).lost = false := by
  have hfed : sourceDom ((arrived n c p).chan k).cur.source = some (n, c) := by simp [hsource, sourceDom]
  rw [sampleIn_sdi hvalid]
  exact routerTakes_lost (by simpa using hnodup) n c x (by simpa using hk) hfed (by simpa [mem_chansOf] using hothers)

end ValidSdi

theorem exec_audSampleIn {t : Nat} {src : AudDomain} {s : State} (halive : s.m.alive = true)
    (hon : sourceOn (advance t s.m) src = true) (c : Nat) (x : AudSample) :
    exec (.audSampleIn t src c x) s = .next { s with m := sampleIn src c x (advance t s.m) } :=
  onPart_timed_guarded halive hon

end Sys2Proof.Machine
end

section
/-! The output side (R240, R243 to R247): what a push, a pop and an xrun do to an I²S port, and what they leave. -/

namespace Sys2Proof.Machine

open Sys2Proof

/-! ### Samples that wait -/

@[simp] theorem flushEarly_offRouter (d : Nat) (p : Part) : (flushEarly d p).offRouter = p.offRouter := by
  rw [flushEarly, foldl_keeps Part.offRouter (fun _ _ => routerTakes_offRouter ..), updDom_offRouter]

@[simp] theorem flushAll_offRouter (p : Part) : (flushAll p).offRouter = p.offRouter :=
  foldl_keeps Part.offRouter (by simp) ..

theorem flushAll_idle {p : Part} (h : ∀ e ∈ p.aud.doms, e.2.early = []) : flushAll p = p := by
  have hnone : (p.aud.doms.filter fun e => !e.2.early.isEmpty) = [] := List.filter_eq_nil_iff.mpr (by simpa using h)
  rw [flushAll, hnone]
  rfl

/-! ### Stopping -/

theorem portStops_of_stays {n : Nat} {p : Part} (h : (p.audPort n).stopping = false) : portStops n p = p := by
  simp [portStops, h]

@[simp] theorem portStops_offPorts (n : Nat) (p : Part) : (portStops n p).offPorts = p.offPorts := by
  unfold portStops; dsimp only; split <;> simp

/-! ### Pushing -/

@[simp] theorem fillTracked_offRouter (k : Nat) (p : Part) : (fillTracked k p).offRouter = p.offRouter := by
  unfold fillTracked; dsimp only; split
  · rfl
  · simp [apply_ite Part.offRouter]

@[simp] theorem advanceChan_offRouter (k : Nat) (p : Part) : (advanceChan k p).offRouter = p.offRouter := by
  simp [advanceChan, apply_ite Part.offRouter]

/-- A left push while the FIFO has room: the channels that the slot leads go on, and the slot's word enters (R240, R243). -/
theorem pushSlot_left {n : Nat} {p : Part} (hroom : (p.audPort n).out.length < 32) :
    ∃ x slot q, q.offRouter = p.offRouter ∧ pushSlot n false false p =
      updAudPort n (fun a => { a with out := a.out ++ [x] })
        (perfSignal 7 0x10 0 1 (updAudPort n (fun a => { a.setSlot false slot with needLeft := false }) q)) := by
  have hadvance (ks : List Nat) : (ks.foldl (fun q k => advanceChan k q) p).offRouter = p.offRouter :=
    foldl_keeps Part.offRouter (by simp) ..
  exact ⟨_, _, _, hadvance _, if_pos (by simp [hroom])⟩

theorem pushSlot_left_offAudio {n : Nat} {p : Part} (hroom : (p.audPort n).out.length < 32) :
    (pushSlot n false false p).offAudio = p.offAudio := by
  obtain ⟨x, slot, q, hq, hpush⟩ := pushSlot_left hroom
  rw [hpush, updAudPort_offAudio, perfSignal_offAudio, updAudPort_offAudio, Part.offAudio_of_offRouter hq]

/-- What stands in the FIFO waits before the word pushed (R243). -/
theorem pushSlot_left_audPort {n : Nat} {p : Part} (hroom : (p.audPort n).out.length < 32) :
    ∃ x, ((pushSlot n false false p).audPort n).out = (p.audPort n).out ++ [x] ∧
      ((pushSlot n false false p).audPort n).needLeft = false ∧
      ((pushSlot n false false p).audPort n).stopping = (p.audPort n).stopping := by
  obtain ⟨x, slot, q, hq, hpush⟩ := pushSlot_left hroom
  exact ⟨x, by simp [hpush, Part.audPort_of_offRouter hq]⟩

/-! ### Popping -/

theorem popSlot_cons {n : Nat} {p : Part} (hrefill : (p.audPort n).refill = false) (right : Bool) (x : Int × Nat)
    (rest : List (Int × Nat)) : popSlot n right (x :: rest) p =
      emit (.i2s n right (portWord (p.cfg.port n) x.1) (if (p.cfg.port n).sideBits then x.2 % 16 else 0))
        (updAudPort n (fun a => { a with out := a.out.drop 1, refill := false }) p) := by
  simp [popSlot, hrefill]

theorem popSlot_nil {n : Nat} {p : Part} (hrefill : (p.audPort n).refill = false) (right : Bool) :
    popSlot n right [] p = xrun n (emit (.i2s n right 0 0) p) := by
  simp [popSlot, hrefill]

/-! ### An xrun -/

/-- The first half of an xrun: it is counted, and the port marked with SWAP_RISK, raised once (R244). -/
def swapMarked (n : Nat) (p : Part) : Part :=
  if (p.audPort n).swap then count blkAudio n 0 p
  else raise evAudXrun n 0 (updAudPort n (fun a => { a with swap := true }) (count blkAudio n 0 p))

theorem xrun_eq (n : Nat) (p : Part) : xrun n p =
    if (p.cfg.port n).autoRestart then
      raise evAudRestart n 0 (feedsAgain n (updAudPort n (refilled p.sys.now) (swapMarked n p)))
    else swapMarked n p := rfl

@[simp] theorem swapMarked_offPorts (n : Nat) (p : Part) : (swapMarked n p).offPorts = p.offPorts := by
  unfold swapMarked; split <;> simp

theorem swapMarked_swap (n : Nat) (p : Part) : ((swapMarked n p).audPort n).swap = true := by
  unfold swapMarked; split
  · assumption
  · simp

theorem swapMarked_stopping (n : Nat) (p : Part) : ((swapMarked n p).audPort n).stopping = (p.audPort n).stopping := by
  unfold swapMarked; split <;> simp

theorem swapMarked_keeps_out {o : Out} {p : Part} (h : o ∈ p.out) (n : Nat) : o ∈ (swapMarked n p).out := by
  unfold swapMarked; split
  · exact h
  · refine raise_keeps_out ?_ ..
    exact h

/-- The counters of a port's xruns are no refusal's. -/
theorem counterApart_xrun {n : Nat} (hn : n < 16) : counterApart blkAudio (cntKey blkAudio n 0) := by
  unfold counterApart cntKey blkAudio blkEvent blkLog
  omega

theorem swapMarked_counter {n : Nat} (hn : n < 16) (p : Part) :
    counter blkAudio n 0 (swapMarked n p) = satAdd32 (counter blkAudio n 0 p) 1 := by
  have hcount (q : Part) : counter blkAudio n 0 (count blkAudio n 0 q) = satAdd32 (counter blkAudio n 0 q) 1 :=
    (countBy_cnt ..).trans (if_pos rfl)
  unfold swapMarked; split
  · exact hcount p
  · exact (raise_cnt (n := evAudXrun) (counterApart_xrun hn) ..).trans (hcount p)

@[simp] theorem feedsAgain_offRouter (n : Nat) (p : Part) : (feedsAgain n p).offRouter = p.offRouter :=
  foldl_keeps Part.offRouter (by simp) ..
@[simp] theorem feedsAgain_cnt (n : Nat) (p : Part) : (feedsAgain n p).cnt = p.cnt := foldl_keeps Part.cnt (by simp) ..
@[simp] theorem feedsAgain_out (n : Nat) (p : Part) : (feedsAgain n p).out = p.out := foldl_keeps Part.out (by simp) ..

theorem xrun_stays {n : Nat} {p : Part} (h : (p.cfg.port n).autoRestart = false) : xrun n p = swapMarked n p := by
  rw [xrun_eq, h]
  rfl

theorem xrun_restarts {n : Nat} {p : Part} (h : (p.cfg.port n).autoRestart = true) : xrun n p =
    raise evAudRestart n 0 (feedsAgain n (updAudPort n (refilled p.sys.now) (swapMarked n p))) :=
  if_pos h

theorem xrun_offAudio (n : Nat) (p : Part) : (xrun n p).offAudio = p.offAudio := by
  have hmarked := Part.offAudio_of_offPorts (swapMarked_offPorts n p)
  rw [xrun_eq]; split
  · rw [raise_offAudio, Part.offAudio_of_offRouter (feedsAgain_offRouter ..), updAudPort_offAudio, hmarked]
  · exact hmarked

theorem xrun_stopping (n : Nat) (p : Part) : ((xrun n p).audPort n).stopping = (p.audPort n).stopping := by
  refine Eq.trans ?_ (swapMarked_stopping n p)
  rw [xrun_eq]; split
  · rw [raise_audPort, Part.audPort_of_offRouter (feedsAgain_offRouter ..), updAudPort_audPort, if_pos rfl]; rfl
  · rfl

theorem xrun_keeps_out {o : Out} {p : Part} (h : o ∈ p.out) (n : Nat) : o ∈ (xrun n p).out := by
  have hmarked := swapMarked_keeps_out h n
  rw [xrun_eq]; split
  · refine raise_keeps_out ?_ ..
    rw [feedsAgain_out]
    exact hmarked
  · exact hmarked

theorem xrun_counter {n : Nat} (hn : n < 16) (p : Part) :
    counter blkAudio n 0 (xrun n p) = satAdd32 (counter blkAudio n 0 p) 1 := by
  refine Eq.trans ?_ (swapMarked_counter hn p)
  rw [xrun_eq]; split
  · refine (raise_cnt (n := evAudRestart) (counterApart_xrun hn) ..).trans ?_
    rw [feedsAgain_cnt]
    rfl
  · rfl

/-! ### Commands -/

theorem exec_audSampleOut {t n : Nat} {s : State} (halive : s.m.alive = true) (hrun : (s.m.audPort n).running = true)
    (hdir : (s.m.cfg.port n).direction = 2) (right push pop : Bool) :
    exec (.audSampleOut t n right push pop) s = .next { s with m := sampleOut n right push pop (advance t s.m) } :=
  onPart_timed_guarded halive (by simp [hrun, hdir])

/-- A pop alone, while no flow's sample waits. -/
theorem sampleOut_pop {p : Part} (hearly : ∀ e ∈ p.aud.doms, e.2.early = []) (n : Nat) (right : Bool) :
    sampleOut n right false true p = portStops n (popSlot n right (p.audPort n).out p) := by
  rw [sampleOut, flushAll_idle hearly]
  rfl

theorem sampleOut_push (n : Nat) (p : Part) : sampleOut n false true false p = portStops n (pushSlot n false false (flushAll p)) :=
  rfl

end Sys2Proof.Machine
end

section
/-! Slips, zero-crossing timeouts and lost sources (R245, R247, R251). -/

namespace Sys2Proof.Machine

open Sys2Proof

/-- A command that comes at its instant whatever the state, while the part lives. -/
theorem onPart_timed {t : Nat} {f : Part → Part} {s : State} (halive : s.m.alive = true) :
    onPart (timed t f) s = .next { s with m := f (advance t s.m) } := by
  rw [onPart, timed_alive halive]

/-! ### Slips -/

theorem slip_offRouter (d : Nat) (p : Part) : (slip d p).offRouter = p.offRouter := by
  rw [slip, updDom_offRouter, countCarriers_offRouter]
  exact foldl_keeps Part.offRouter (by simp) ..

theorem slip_taken (d : Nat) (p : Part) : ((slip d p).dom d).slipFrom = none := by
  simp [slip]

theorem slip_errRun {d k : Nat} {p : Part} (hk : k ∈ chansOf p d) : ((slip d p).chan k).errRun = 0 := by
  rw [slip, updDom_chan, countCarriers_chan]
  exact foldl_chan (P := fun c => c.errRun = 0) (fun _ _ => by simp) (fun _ _ _ h => by simp [h]) _ _ (.inl hk)

theorem exec_audSlip {t : Nat} {src : AudDomain} {s : State} (halive : s.m.alive = true)
    (hdue : slipNow (advance t s.m) (domKey src) = true) :
    exec (.audSlip t src) s = .next { s with m := slip (domKey src) (advance t s.m) } :=
  onPart_timed_guarded halive hdue

/-! ### Zero-crossing timeouts -/

@[simp] theorem zcSlot_offPorts (k n : Nat) (right : Bool) (p : Part) : (zcSlot k n right p).offPorts = p.offPorts := by
  unfold zcSlot; dsimp only; split
  · rfl
  · split <;> simp [apply_ite Part.offPorts]

/-- After the channel itself, a timeout changes slots of the ports only. -/
theorem zcTimeout_offPorts (k : Nat) (p : Part) : (zcTimeout k p).offPorts = (zcChan k p).offPorts :=
  foldl_keeps Part.offPorts (by simp) ..

theorem zcChan_stepOne {k : Nat} {p : Part} {x : Silent} (hsilent : (p.chan k).silent = some x) (hmid : x.mid = none)
    (hdue : x.start + zcUnits p ≤ p.sys.now) : zcChan k p =
      countCarriers [k] 3 (updChan k (fun c => { c with silent := some { x with mid := some p.sys.now } }) p) := by
  simp [zcChan, hsilent, hmid, hdue]

theorem exec_zcTimeout {t : Nat} {s : State} (halive : s.m.alive = true) (k : Nat) :
    exec (.zcTimeout t k) s = .next { s with m := zcTimeout k (advance t s.m) } :=
  onPart_timed halive

/-! ### Lost sources -/

theorem endChan_lost (p : Part) (k : Nat) : ((endChan p k).chan k).cur.lost = true := by
  unfold endChan; dsimp only; split <;> simp

theorem endChan_chan_of_ne {k j : Nat} (h : j ≠ k) (p : Part) : (endChan p k).chan j = p.chan j := by
  unfold endChan; dsimp only; split <;> simp [h]

@[simp] theorem endChan_offRouter (p : Part) (k : Nat) : (endChan p k).offRouter = p.offRouter := by
  unfold endChan; dsimp only; split <;> simp

/-- The first channels of a whole domain that are lost raise AUD_SOURCE_LOST (R251). -/
theorem chansLost_first {d : Nat} {ks : List Nat} {p : Part} (hsome : ks ≠ []) (hwhole : (p.dom d).lost = false) :
    chansLost d ks p = raise evAudSourceLost d 0 (updDom d (fun m => { m with lost := true }) (ks.foldl endChan p)) := by
  simp [chansLost, hsome, hwhole]

theorem exec_audSourceLost {t : Nat} {s : State} (halive : s.m.alive = true) (src : AudDomain) :
    exec (.audSourceLost t src) s =
      .next { s with m := chansLost (domKey src) (goneChans (advance t s.m) src) (advance t s.m) } :=
  onPart_timed halive

end Sys2Proof.Machine

open Sys2Proof Sys2Proof.Machine

/-- Settles O51: each form is its command's own rule on the channels of the router, the FIFO of the port and the clock domain. -/
theorem audioSamples : Obligations.AudioSamples := by
  unfold Obligations.AudioSamples
  intro t s hlives
  obtain ⟨halive, -⟩ := id hlives
  have hnow := advance_now_of_livesAt hlives
  refine ⟨?sampleIn, ?popped, ?empty, ?pushed, ?slips, ?timeout, ?lost⟩
  case sampleIn =>
    intro n c k x hreceives hbound hlost hswap hvalid hnodup hk hsource hsilent hend
    obtain ⟨own, status, hcur⟩ := sampleIn_sdi_cur (p := advance t s.m) hvalid hnodup hk hsource hswap
    have hframe := sampleIn_sdi_offRouter (n := n) (c := c) (p := advance t s.m) hvalid
    refine ⟨_, exec_audSampleIn halive (by simp [sourceOn, hreceives, hbound, hlost]) c x, ?_, ?_, ?_,
      sampleIn_sdi_dom_lost (p := advance t s.m) hvalid hnodup hk hsource, (sampleIn_sdi_last hvalid).trans hnow,
      Part.ports_of_offRouter hframe, beyondAudio_of_offRouter hframe⟩
    · rw [hcur]; exact writeSample_wr hend ..
    · rw [hcur]; exact writeSample_lost ..
    · rw [hcur]; exact writeSample_stores hend ..
  case popped =>
    intro n right x rest hrun hdir hstays hrefill hearly hout
    have hpop : sampleOut n right false true (advance t s.m) =
        emit (.i2s n right (portWord (s.m.cfg.port n) x.1) (if (s.m.cfg.port n).sideBits then x.2 % 16 else 0))
          (updAudPort n (fun a => { a with out := a.out.drop 1, refill := false }) (advance t s.m)) := by
      rw [sampleOut_pop (p := advance t s.m) hearly, advance_audPort, hout, popSlot_cons (p := advance t s.m) hrefill,
        portStops_of_stays (by simp [hstays])]
      rfl
    have hframe : (sampleOut n right false true (advance t s.m)).offPorts = s.m.offPorts := by simp [hpop]
    refine ⟨_, exec_audSampleOut halive hrun hdir .., ?_, by rw [hpop]; rfl, Part.chans_of_offPorts hframe,
      beyondAudio_of_offAudio (Part.offAudio_of_offPorts hframe)⟩
    simp [hpop, hout]
  case empty =>
    intro n right hn hrun hdir hstays hrefill hearly hout
    have hpop : sampleOut n right false true (advance t s.m) = xrun n (emit (.i2s n right 0 0) (advance t s.m)) := by
      rw [sampleOut_pop (p := advance t s.m) hearly, advance_audPort, hout, popSlot_nil (p := advance t s.m) hrefill,
        portStops_of_stays (by simp [xrun_stopping, hstays])]
    rw [exec_audSampleOut halive hrun hdir, hpop]
    refine ⟨_, rfl, xrun_keeps_out (List.mem_append_right _ List.mem_cons_self) n, xrun_counter hn _, fun hoff => ?_,
      fun hauto => ?_, beyondAudio_of_offAudio (xrun_offAudio ..)⟩
    · rw [xrun_stays (p := emit (.i2s n right 0 0) (advance t s.m)) hoff]
      exact ⟨swapMarked_swap .., Part.chans_of_offPorts (swapMarked_offPorts ..)⟩
    · rw [xrun_restarts (p := emit (.i2s n right 0 0) (advance t s.m)) hauto]
      exact raise_sets_pend (by decide)
  case pushed =>
    intro n hrun hdir hstays hroom
    have hport : (flushAll (advance t s.m)).audPort n = s.m.audPort n :=
      Part.audPort_of_offRouter (flushAll_offRouter (advance t s.m)) n
    have hpushed : ((flushAll (advance t s.m)).audPort n).out.length < 32 := hport ▸ hroom
    obtain ⟨x, hout, hleft, hstopping⟩ := pushSlot_left_audPort hpushed
    rw [hport] at hout hstopping
    have hframe := (pushSlot_left_offAudio hpushed).trans (Part.offAudio_of_offRouter (flushAll_offRouter (advance t s.m)))
    rw [exec_audSampleOut halive hrun hdir, sampleOut_push, portStops_of_stays (hstopping.trans hstays)]
    exact ⟨_, rfl, by simp [hout], hleft, by simp [hout], beyondAudio_of_offAudio hframe⟩
  case slips =>
    intro src hdue
    have hframe : (slip (domKey src) (advance t s.m)).offRouter = s.m.offRouter := slip_offRouter ..
    exact ⟨_, exec_audSlip halive hdue, slip_taken .., fun k hk => slip_errRun (by simpa using hk),
      Part.ports_of_offRouter hframe, beyondAudio_of_offRouter hframe⟩
  case timeout =>
    intro k x hsilent hmid hdue
    have hstep := zcChan_stepOne (p := advance t s.m) hsilent hmid (by rw [hnow]; exact hdue)
    rw [hnow] at hstep
    have hchan := Part.chan_of_offPorts (zcTimeout_offPorts k (advance t s.m))
    have hframe := Part.offAudio_of_offPorts (zcTimeout_offPorts k (advance t s.m))
    refine ⟨_, exec_zcTimeout halive k, ?_, fun j hj => ?_, beyondAudio_of_offAudio ?_⟩
    · simp [hchan, hstep]
    · simp [hchan, hstep, hj]
    · rw [hframe, hstep]
      exact Part.offAudio_of_offRouter (by simp)
  case lost =>
    intro src hwhole hgone
    have hends := foldl_keeps Part.offRouter endChan_offRouter (goneChans (advance t s.m) src) (advance t s.m)
    have hfirst := chansLost_first (p := advance t s.m) hgone hwhole
    have hframe := (congrArg Part.offRouter hfirst).trans (by simpa using hends)
    refine ⟨_, exec_audSourceLost halive src, by simp [hfirst], fun k hk => ?_, ?_, Part.ports_of_offRouter hframe,
      beyondAudio_of_offRouter hframe⟩
    · rw [hfirst, raise_chan, updDom_chan]
      exact foldl_chan (P := fun c => c.cur.lost = true) endChan_lost (fun q i j h => endChan_chan_of_ne h q) _ _ (.inl hk)
    · rw [hfirst]
      exact raise_sets_pend (by decide)

end

section
/-! What the timebase's operations leave, and what they make of the slots, the control word and the state (R257 to R269). -/

namespace Sys2Proof.Machine

open Sys2Proof

/-! ### Beside the timebase -/

/-- What the timebase's own operations leave: the configuration, the open transactions and maintenance mode. -/
def Part.besideTb (p : Part) : Cfg × Tab Txn × Maint := (p.cfg, p.txn.open_, p.maint)

theorem tbFrame_of_besideTb {s : State} {q : Part} (h : q.besideTb = s.m.besideTb) : tbFrame s { s with m := q } := by
  obtain ⟨hcfg, hrest⟩ := Prod.mk.inj h
  obtain ⟨hopen, hmaint⟩ := Prod.mk.inj hrest
  exact ⟨hcfg, hopen, hmaint, rfl, rfl, rfl⟩

theorem Part.besideTb_of_rest {p q : Part} (h : p.rest = q.rest) : p.besideTb = q.besideTb :=
  (congrArg Part.besideTb h : p.rest.besideTb = q.rest.besideTb)

@[simp] theorem advance_besideTb (t : Nat) (p : Part) : (advance t p).besideTb = p.besideTb := rfl
@[simp] theorem updTb_besideTb (g : Tb → Tb) (p : Part) : (p.updTb g).besideTb = p.besideTb := rfl
@[simp] theorem updSlotRt_besideTb (k : Nat) (f : SlotRt → SlotRt) (p : Part) : (updSlotRt k f p).besideTb = p.besideTb := rfl
@[simp] theorem count_besideTb (b i x : Nat) (p : Part) : (count b i x p).besideTb = p.besideTb := rfl
@[simp] theorem faultOn_besideTb (p : Part) : (faultOn p).besideTb = p.besideTb := rfl
@[simp] theorem faultOff_besideTb (p : Part) : (faultOff p).besideTb = p.besideTb := rfl
@[simp] theorem enterTb_besideTb (st : TbState) (p : Part) : (enterTb st p).besideTb = p.besideTb := rfl
@[simp] theorem setW_besideTb (v : Int) (p : Part) : (setW v p).besideTb = p.besideTb := rfl
@[simp] theorem steerInForce_besideTb (p : Part) : (steerInForce p).besideTb = p.besideTb := rfl
@[simp] theorem raise_besideTb (n i a : Nat) (p : Part) : (raise n i a p).besideTb = p.besideTb := Part.besideTb_of_rest (raise_rest ..)
@[simp] theorem report_besideTb (b i c v k a : Nat) (p : Part) : (report b i c v k a p).besideTb = p.besideTb :=
  Part.besideTb_of_rest (report_rest ..)
@[simp] theorem setLevel_besideTb (n i : Nat) (on : Bool) (p : Part) : (setLevel n i on p).besideTb = p.besideTb :=
  Part.besideTb_of_rest (setLevel_rest ..)

theorem updTxn_besideTb {g : TxnSt → TxnSt} (h : ∀ x, (g x).open_ = x.open_) (p : Part) : (p.updTxn g).besideTb = p.besideTb := by
  rw [Part.besideTb, Part.updTxn_txn, h]; rfl

@[simp] theorem sendAcked_besideTb (k n : Nat) (x : PairBody) (p : Part) : (sendAcked k n x p).besideTb = p.besideTb := by
  unfold sendAcked; exact foldl_keeps Part.besideTb (by intros; rfl) ..

@[simp] theorem sendAcked_sys (k n : Nat) (x : PairBody) (p : Part) : (sendAcked k n x p).sys = p.sys := by
  unfold sendAcked; exact foldl_keeps Part.sys (by intros; rfl) ..

@[simp] theorem writeJournal_besideTb (n : Nat) (txn : Half) (tag : Word) (b : JournalBody) (p : Part) :
    (writeJournal n txn tag b p).besideTb = p.besideTb := by
  unfold writeJournal; split
  · rw [sendAcked_besideTb, updTxn_besideTb]; intro x; rfl
  · rfl

@[simp] theorem writeJournal_sys (n : Nat) (txn : Half) (tag : Word) (b : JournalBody) (p : Part) :
    (writeJournal n txn tag b p).sys = p.sys := by
  unfold writeJournal; split
  · rw [sendAcked_sys, Part.updTxn_sys]
  · rfl

@[simp] theorem yieldHead_besideTb (p : Part) : (yieldHead p).besideTb = p.besideTb := by
  unfold yieldHead; split
  · rfl
  · split
    · exact setLevel_besideTb ..
    · split
      · rfl
      · exact raise_besideTb ..

/-! ### The timebase and the configuration -/

/-- The timebase with the configuration it follows. -/
def Part.loop (p : Part) : Tb × Cfg := (p.tb, p.cfg)

theorem Part.tb_of_loop {p q : Part} (h : p.loop = q.loop) : p.tb = q.tb := congrArg Prod.fst h
theorem Part.cfg_of_loop {p q : Part} (h : p.loop = q.loop) : p.cfg = q.cfg := congrArg Prod.snd h

theorem Part.loop_of_offPair {p q : Part} (h : p.offPair = q.offPair) : p.loop = q.loop :=
  (congrArg Part.loop h : p.offPair.loop = q.offPair.loop)
theorem Part.loop_of_offStep {p q : Part} (h : p.offStep = q.offStep) : p.loop = q.loop :=
  (congrArg Part.loop h : p.offStep.loop = q.offStep.loop)
theorem Part.loop_of_offKlink {p q : Part} (h : p.offKlink = q.offKlink) : p.loop = q.loop :=
  (congrArg Part.loop h : p.offKlink.loop = q.offKlink.loop)

@[simp] theorem updFrc_loop (g : Tab FrcRt → Tab FrcRt) (p : Part) : (p.updFrc g).loop = p.loop := rfl
@[simp] theorem perfSync_loop (p : Part) : (perfSync p).loop = p.loop := Part.loop_of_offPair (perfSync_offPair ..)
@[simp] theorem perfSync_tb (p : Part) : (perfSync p).tb = p.tb := Part.tb_of_loop (perfSync_loop p)
@[simp] theorem perfSync_cfg (p : Part) : (perfSync p).cfg = p.cfg := Part.cfg_of_loop (perfSync_loop p)
@[simp] theorem perfSync_sys (p : Part) : (perfSync p).sys = p.sys :=
  (congrArg Part.sys (perfSync_quiet p) : (perfSync p).quiet.sys = p.quiet.sys)
@[simp] theorem yieldHead_tb (p : Part) : (yieldHead p).tb = p.tb := Part.tb_of_loop (Part.loop_of_offPair (yieldHead_offPair p))
@[simp] theorem writeJournal_loop (n : Nat) (txn : Half) (tag : Word) (b : JournalBody) (p : Part) :
    (writeJournal n txn tag b p).loop = p.loop := Part.loop_of_offPair (writeJournal_offPair ..)
@[simp] theorem reportStep_loop (e : Int) (p : Part) : (reportStep e p).loop = p.loop := Part.loop_of_offStep (reportStep_offStep ..)

@[simp] theorem ungate_loop (p : Part) : (ungate p).loop = p.loop := by
  unfold ungate; split
  · rfl
  · exact reportStep_loop ..

@[simp] theorem setMarks_loop (ok : Nat → Nat → TileEntry → Bool) (p : Part) : (setMarks ok p).loop = p.loop := by
  unfold setMarks; exact foldl_keeps Part.loop (by intros; rfl) ..

/-- A lane that is held OFF, or leaves OFF, changes only what the links of its furrow change. -/
@[simp] theorem laneFollows_loop (f : Nat) (p : Part) : (laneFollows f p).loop = p.loop := by
  have hoff {q : Part} (h : q.besideLane f = p.besideLane f) : q.loop = p.loop := Part.loop_of_offKlink (congrArg Prod.fst h)
  unfold laneFollows; dsimp only; split
  · exact hoff (toState_besideLane ..)
  · split
    · split
      · exact hoff (laneLeaves_besideLane ..)
      · exact hoff (toState_besideLane ..)
    · rfl

theorem lanesFollow_loop (fs : List Nat) (p : Part) : (fs.foldl (fun q f => laneFollows f q) p).loop = p.loop :=
  foldl_keeps Part.loop (fun q f => laneFollows_loop f q) fs p

/-- Starting and stopping the clock output units changes those units only (R270, R271). -/
theorem couFollows_eq (p : Part) : ∃ c, couFollows p = p.updTb fun t => { t with cou := c } :=
  List.foldlRecOn (motive := fun q => ∃ c, q = p.updTb fun t => { t with cou := c }) _ _ ⟨p.tb.cou, rfl⟩ fun q hq k _ => by
    obtain ⟨c, rfl⟩ := hq
    dsimp only; split
    · exact ⟨c, rfl⟩
    · exact ⟨_, rfl⟩

/-! ### Slots -/

theorem Part.slotRt_of_slots {p q : Part} (h : p.tb.slots = q.tb.slots) (k : Nat) : p.slotRt k = q.slotRt k := by
  unfold Part.slotRt; rw [h]

@[simp] theorem advance_slotRt (t k : Nat) (p : Part) : (advance t p).slotRt k = p.slotRt k := rfl
@[simp] theorem count_slotRt (b i x k : Nat) (p : Part) : (count b i x p).slotRt k = p.slotRt k := rfl
@[simp] theorem setW_slotRt (v : Int) (k : Nat) (p : Part) : (setW v p).slotRt k = p.slotRt k := rfl
@[simp] theorem raise_slotRt (n i a k : Nat) (p : Part) : (raise n i a p).slotRt k = p.slotRt k :=
  Part.slotRt_of_slots (by rw [raise_tb]) k

@[simp] theorem updSlotRt_slotRt (k j : Nat) (f : SlotRt → SlotRt) (p : Part) :
    (updSlotRt k f p).slotRt j = if j = k then f (p.slotRt k) else p.slotRt j := Tab.getD_upd ..

/-! ### Leaving a slot -/

/-- Banking touches the recorded seconds, the banked value and its weakness, and the tracking time (R267). -/
theorem bankValue_tb (p : Part) : ∃ b v, (bankValue p).tb = { p.tb with secs := [], trackSince := none, banked := b, weak := v } := by
  unfold bankValue; dsimp only; split
  · exact ⟨_, _, rfl⟩
  · split
    · exact ⟨_, _, raise_tb ..⟩
    · exact ⟨_, _, rfl⟩

@[simp] theorem bankValue_besideTb (p : Part) : (bankValue p).besideTb = p.besideTb := by
  unfold bankValue; dsimp only; split
  · rfl
  · split
    · exact raise_besideTb ..
    · rfl

@[simp] theorem bankValue_sys (p : Part) : (bankValue p).sys = p.sys := by
  unfold bankValue; dsimp only; split
  · rfl
  · split
    · exact raise_sys ..
    · rfl

/-- The slot in use left: the resting state, w at once (Table 10.7, R253). -/
theorem leaveSlot_rests (s : State) (p : Part) : rests { s with m := leaveSlot p } := by
  obtain ⟨b, v, hbank⟩ := bankValue_tb (p.updTb fun t => { t with slot := none, align := none })
  simp [rests, leaveSlot, setW, enterTb, restingState, restingW, steerInForce, clampW, hbank]

@[simp] theorem leaveSlot_slotRt (k : Nat) (p : Part) : (leaveSlot p).slotRt k = p.slotRt k := by
  obtain ⟨b, v, hbank⟩ := bankValue_tb (p.updTb fun t => { t with slot := none, align := none })
  exact Part.slotRt_of_slots (by simp [leaveSlot, setW, enterTb, steerInForce, hbank]) k

@[simp] theorem leaveSlot_besideTb (p : Part) : (leaveSlot p).besideTb = p.besideTb := by simp [leaveSlot]

/-- The counters of a slot are none of those of refusals. -/
theorem counterApart_timebase {k : Nat} (hk : k < 8) (i source : Nat) (hi : i < 256) : counterApart source (cntKey blkTimebase k i) := by
  constructor <;> (simp only [cntKey, blkTimebase, blkEvent, blkLog]; omega)

theorem updTb_counter (b k i : Nat) (g : Tb → Tb) (p : Part) : counter b k i (p.updTb g) = counter b k i p := rfl

section Counters

variable {k i : Nat} (hk : k < 8) (hi : i < 256)
include hk hi

theorem raise_slotCounter (n j a : Nat) (p : Part) : counter blkTimebase k i (raise n j a p) = counter blkTimebase k i p :=
  raise_cnt (counterApart_timebase hk i _ hi) ..

theorem bankValue_slotCounter (p : Part) : counter blkTimebase k i (bankValue p) = counter blkTimebase k i p := by
  unfold bankValue; dsimp only; split
  · rfl
  · split
    · exact raise_slotCounter hk hi ..
    · rfl

theorem leaveSlot_slotCounter (p : Part) : counter blkTimebase k i (leaveSlot p) = counter blkTimebase k i p := by
  simp only [leaveSlot, setW, enterTb, steerInForce, raise_slotCounter hk hi, updTb_counter, bankValue_slotCounter hk hi]

end Counters

/-! ### A slot fails -/

/-- The slot FAILED and its failure raised; the timebase still where it was (Table 10.4). -/
def slotFails (k cause : Nat) (p : Part) : Part :=
  let was := (p.slotRt k).state
  let p1 := updSlotRt k (fun r => { r with state := 3, since := p.sys.now, cause := cause }) p
  let p2 := if was = 2 ∧ cause ≠ 5 then raise evTbRefLost k cause p1 else p1
  if was = 2 ∧ namedSlot p = some (some k) then raise evPairRefMismatch k 0 p2 else p2

theorem failSlot_used {k : Nat} {p : Part} (hslot : p.tb.slot = some k) (hstate : p.tb.state = .acquire ∨ p.tb.state = .locked)
    (cause : Nat) : failSlot k cause p = leaveSlot (slotFails k cause p) := if_pos ⟨hslot, hstate⟩

theorem failSlot_spared {k : Nat} {p : Part} (hslot : p.tb.slot ≠ some k) (cause : Nat) : failSlot k cause p = slotFails k cause p :=
  if_neg fun h => hslot h.1

theorem slotFails_rest (k cause : Nat) (p : Part) :
    (slotFails k cause p).rest = (updSlotRt k (fun r => { r with state := 3, since := p.sys.now, cause := cause }) p).rest := by
  unfold slotFails; dsimp only
  split <;> split <;> simp only [raise_rest]

theorem slotFails_tb (k cause : Nat) (p : Part) :
    (slotFails k cause p).tb = (updSlotRt k (fun r => { r with state := 3, since := p.sys.now, cause := cause }) p).tb :=
  Part.tb_of_rest (slotFails_rest ..)

theorem slotFails_slotCounter {k j i : Nat} (hj : j < 8) (hi : i < 256) (cause : Nat) (p : Part) :
    counter blkTimebase j i (slotFails k cause p) = counter blkTimebase j i p := by
  unfold slotFails; dsimp only
  split <;> split <;> simp only [raise_slotCounter hj hi, updSlotRt, updTb_counter]

theorem failSlot_slotRt (k cause j : Nat) (p : Part) : (failSlot k cause p).slotRt j =
    if j = k then { p.slotRt k with state := 3, since := p.sys.now, cause := cause } else p.slotRt j := by
  have hfails : (slotFails k cause p).slotRt j = _ :=
    (Part.slotRt_of_slots (congrArg Tb.slots (slotFails_tb k cause p)) j).trans (updSlotRt_slotRt ..)
  rw [← hfails]
  change Part.slotRt (if _ then leaveSlot (slotFails k cause p) else slotFails k cause p) j = _
  split
  · exact leaveSlot_slotRt ..
  · rfl

@[simp] theorem failSlot_besideTb (k cause : Nat) (p : Part) : (failSlot k cause p).besideTb = p.besideTb := by
  have hfails : (slotFails k cause p).besideTb = p.besideTb :=
    (Part.besideTb_of_rest (slotFails_rest k cause p)).trans (updSlotRt_besideTb ..)
  change Part.besideTb (if _ then leaveSlot (slotFails k cause p) else slotFails k cause p) = _
  split
  · rw [leaveSlot_besideTb, hfails]
  · exact hfails

/-! ### Taking a slot -/

theorem checkClamp_tb (k : Nat) (p : Part) : ∃ raised, (checkClamp k p).tb = { p.tb with clampRaised := raised } := by
  unfold checkClamp; split
  · exact ⟨true, raise_tb ..⟩
  · exact ⟨p.tb.clampRaised, rfl⟩

@[simp] theorem checkClamp_besideTb (k : Nat) (p : Part) : (checkClamp k p).besideTb = p.besideTb := by
  unfold checkClamp; split
  · exact raise_besideTb ..
  · rfl

/-- ACQUIRE on slot `k` (R265, R266); whether the bandwidth's clamp has been raised is left open. -/
theorem takeSlot_tb (k : Nat) (p : Part) : ∃ raised, (takeSlot k p).tb =
    { (updSlotRt k (fun r => { r with samples := [] }) p).tb with
      state := .acquire, since := p.sys.now, slot := some k, lastSlot := some k, bw := capBandwidth p k, dwellFrom := p.sys.now
      trackSince := none, align := if followsTimebase p then p.tb.align else none
      w := wNow p, wTarget := wNow p, wAt := p.sys.now, clampRaised := raised } := by
  unfold takeSlot; extract_lets p1 p2 p3
  obtain ⟨raised, hclamp⟩ := checkClamp_tb k p2
  refine ⟨raised, Eq.trans ?_ hclamp⟩
  split
  · exact raise_tb ..
  · rfl

@[simp] theorem takeSlot_besideTb (k : Nat) (p : Part) : (takeSlot k p).besideTb = p.besideTb := by
  unfold takeSlot; extract_lets p1 p2 p3
  have hclamp : p3.besideTb = p.besideTb := checkClamp_besideTb k p2
  split
  · rw [raise_besideTb, hclamp]
  · exact hclamp

theorem takeSlot_slotState (k j : Nat) (p : Part) : ((takeSlot k p).slotRt j).state = (p.slotRt j).state := by
  obtain ⟨raised, htb⟩ := takeSlot_tb k p
  rw [Part.slotRt_of_slots (q := updSlotRt k (fun r => { r with samples := [] }) p) (by rw [htb]), updSlotRt_slotRt]
  split
  · subst_vars; rfl
  · rfl

/-- The timebase stays where it is, or takes the slot that ranks first (Table 10.7). -/
theorem reselect_cases (p : Part) : reselect p = p ∨ ∃ k, reselect p = takeSlot k p := by
  unfold reselect; split
  · exact .inl rfl
  next k _ =>
    split
    · exact .inr ⟨k, rfl⟩
    · split
      · exact .inr ⟨k, rfl⟩
      · exact .inl rfl
    · split
      · exact .inr ⟨k, rfl⟩
      · exact .inl rfl
    · split
      · exact .inr ⟨k, rfl⟩
      · exact .inl rfl
    · exact .inl rfl

theorem reselect_slotState (j : Nat) (p : Part) : ((reselect p).slotRt j).state = (p.slotRt j).state := by
  obtain h | ⟨k, h⟩ := reselect_cases p
  · rw [h]
  · rw [h, takeSlot_slotState]

@[simp] theorem reselect_besideTb (p : Part) : (reselect p).besideTb = p.besideTb := by
  obtain h | ⟨k, h⟩ := reselect_cases p <;> simp [h]

/-- From HOLDOVER the slot that ranks first is taken once the hold-off has run (R266). -/
theorem reselect_holdover {k : Nat} {p : Part} (hstate : p.tb.state = .holdover) (hbest : bestSlot p = some k)
    (hdue : p.tb.since + p.cfg.tb.holdoffMs * msec ≤ p.sys.now) : reselect p = takeSlot k p := by
  simp [reselect, hbest, hstate, hdue]

/-! ### Commands that a row's condition shuts out -/

/-- Where the condition of its row does not hold, a command on the part only brings its instant (log entry 26). -/
theorem onPart_timed_shut {t : Nat} {c : Part → Bool} {f : Part → Part} {s : State} (halive : s.m.alive = true)
    (hc : c (advance t s.m) = false) : onPart (timed t (guarded c f)) s = .next { s with m := advance t s.m } := by
  rw [onPart, timed_alive halive, guarded_off hc]

end Sys2Proof.Machine
end

section
/-! Reference slots: what a gate, an accept time and a timer do to a slot (R261 to R263, Table 10.4). -/

namespace Sys2Proof.Machine

open Sys2Proof

/-! ### Frequency gates -/

/-- The part with a slot's gate noted. -/
def gateNoted (k : Nat) (offset : Int) (p : Part) : Part := updSlotRt k (fun r => { r with lastGate := offset }) p

/-- A gate beyond the reject limit fails a slot that is CHECKING or QUALIFIED (R261). -/
theorem freqGate_rejects {k : Nat} {p : Part} {offset : Int} (hfree : p.tb.slot ≠ some k)
    (hstate : (p.slotRt k).state = 1 ∨ (p.slotRt k).state = 2)
    (hout : (p.cfg.slot k).reject * 10000 + limitSlack p < (offset * 1000).natAbs) :
    freqGate k offset p = failSlot k 2 (gateNoted k offset p) := by
  obtain h | h := hstate <;> simp [freqGate, gateNoted, hfree, h, hout]

/-- A gate within both limits leaves a QUALIFIED slot as it is. -/
theorem freqGate_accepts {k : Nat} {p : Part} {offset : Int} (hfree : p.tb.slot ≠ some k) (hstate : (p.slotRt k).state = 2)
    (haccept : (offset * 1000).natAbs ≤ (p.cfg.slot k).accept * 10000 + limitSlack p)
    (hreject : (offset * 1000).natAbs ≤ (p.cfg.slot k).reject * 10000 + limitSlack p) :
    freqGate k offset p = gateNoted k offset p := by
  simp [freqGate, gateNoted, hfree, hstate, Nat.not_lt.mpr haccept, Nat.not_lt.mpr hreject]

/-! ### Qualifying -/

/-- The part with slot `k` QUALIFIED and the event raised; the timebase has not yet taken up what that offers. -/
def slotQualifies (k : Nat) (p : Part) : Part :=
  raise evTbRefQualified k 0 (updSlotRt k (fun r => { r with state := 2, since := p.sys.now }) p)

theorem slotQualifies_slotState (k : Nat) (p : Part) : ((slotQualifies k p).slotRt k).state = 2 := by simp [slotQualifies]

@[simp] theorem slotQualifies_besideTb (k : Nat) (p : Part) : (slotQualifies k p).besideTb = p.besideTb := by simp [slotQualifies]

/-! ### Commands -/

section Commands

variable {t k : Nat} {s : State} (halive : s.m.alive = true)
include halive

theorem exec_refActivityLoss (hstate : (s.m.slotRt k).state = 1 ∨ (s.m.slotRt k).state = 2) :
    exec (.refActivityLoss t k) s = .next { s with m := failSlot k 1 (advance t s.m) } :=
  onPart_timed_guarded halive (by simpa using hstate)

theorem exec_freqGate (hsource : (s.m.cfg.slot k).source ≠ 0) (offset : Int) :
    exec (.freqGate t k offset) s = .next { s with m := freqGate k offset (advance t s.m) } :=
  onPart_timed_guarded halive (by simpa using hsource)

end Commands

theorem exec_refQualified {t k : Nat} {s : State} (hlives : livesAt t s) (hstate : (s.m.slotRt k).state = 1)
    (hdue : (s.m.slotRt k).accept + (s.m.cfg.slot k).acceptTime * sec ≤ t) :
    exec (.refQualified t k) s = .next { s with m := reselect (slotQualifies k (advance t s.m)) } :=
  onPart_timed_guarded hlives.1 (by simp [hstate, hdue, hlives.2])

theorem exec_acquisitionTimeout {t k : Nat} {s : State} (hlives : livesAt t s) (hslot : s.m.tb.slot = some k)
    (hstate : s.m.tb.state = .acquire) (hdue : s.m.tb.since + acquireTime s.m k ≤ t) :
    exec (.acquisitionTimeout t) s = .next { s with m := failSlot k 5 (count blkTimebase k 1 (advance t s.m)) } := by
  have htime : acquireTime (advance t s.m) k = acquireTime s.m k := rfl
  rw [exec, execAcquisitionTimeout, onPart_timed_guarded hlives.1]
  · rw [advance_tb, hslot]
  · simp [hslot, hstate, htime, hdue, hlives.2]

end Sys2Proof.Machine

open Sys2Proof Sys2Proof.Machine

/-- Settles O14: a slot that fails leaves every other slot, and the timebase rests where the slot was in use; a gate and an accept
time go by the same rules. -/
theorem referenceSlots : Obligations.ReferenceSlots := by
  unfold Obligations.ReferenceSlots
  refine ⟨fun t k s hlives => ⟨?activity, ?timeout⟩, fun t k s hlives hsource => ⟨?qualified, ?rejected, ?accepted⟩⟩
  case activity =>
    intro hstate
    refine ⟨_, exec_refActivityLoss hlives.1 hstate, by simp [failSlot_slotRt], fun hslot hused => ?_, fun hslot => ?_,
      fun j hj => by simp [failSlot_slotRt, hj], tbFrame_of_besideTb (by simp)⟩
    · rw [failSlot_used (p := advance t s.m) hslot hused]
      exact leaveSlot_rests ..
    · rw [failSlot_spared (p := advance t s.m) hslot, slotFails_tb]
      exact ⟨rfl, rfl, rfl⟩
  case timeout =>
    intro hk hslot hstate hdue
    refine ⟨_, exec_acquisitionTimeout hlives hslot hstate hdue, by simp [failSlot_slotRt], ?_, ?_, tbFrame_of_besideTb (by simp)⟩
    · rw [failSlot_used (p := count blkTimebase k 1 (advance t s.m)) hslot (.inl hstate)]
      exact leaveSlot_rests ..
    · rw [failSlot_used (p := count blkTimebase k 1 (advance t s.m)) hslot (.inl hstate), leaveSlot_slotCounter hk (by decide),
        slotFails_slotCounter hk (by decide)]
      exact (countBy_cnt ..).trans (if_pos rfl)
  case qualified =>
    intro hstate hdue
    exact ⟨_, exec_refQualified hlives hstate hdue, (reselect_slotState ..).trans (slotQualifies_slotState ..),
      tbFrame_of_besideTb (by simp)⟩
  case rejected =>
    intro offset hstate hfree hout
    refine ⟨_, exec_freqGate hlives.1 hsource offset, ?_⟩
    rw [freqGate_rejects (p := advance t s.m) hfree hstate hout]
    exact ⟨by simp [failSlot_slotRt], by simp [failSlot_slotRt, gateNoted], tbFrame_of_besideTb (by simp [gateNoted])⟩
  case accepted =>
    intro offset hstate hfree haccept hreject
    refine ⟨_, exec_freqGate hlives.1 hsource offset, ?_⟩
    rw [freqGate_accepts (p := advance t s.m) hfree hstate haccept hreject]
    exact ⟨by simpa [gateNoted] using hstate, by simp [gateNoted], fun j hj => by simp [gateNoted, hj],
      tbFrame_of_besideTb (by simp [gateNoted])⟩

end

section
/-! The loop: dwells, the switch hold-off, seconds of LOCKED, phase errors and alignment points (R253, R260, R266, R267). -/

namespace Sys2Proof.Machine

open Sys2Proof

/-! ### Dwells -/

/-- A first dwell that completes: B narrows, and ACQUIRE ends in LOCKED (R266). -/
theorem dwellDone_first {k : Nat} {p : Part} (hslot : p.tb.slot = some k) (hstate : p.tb.state = .acquire) :
    ∃ track, dwellDone true p = raise evTbLocked k 0 (p.updTb fun t => { t with
      bw := max (t.bw / 4) (trackBandwidth p k), dwellFrom := p.sys.now, trackSince := track
      state := .locked, since := p.sys.now, everLocked := true }) := by
  rw [dwellDone, hslot]
  exact ⟨_, (if_neg (by decide)).trans (if_pos hstate)⟩

theorem dwellDone_restarts {k : Nat} {p : Part} (hslot : p.tb.slot = some k) :
    dwellDone false p = p.updTb fun t => { t with dwellFrom := p.sys.now } := by
  simp [dwellDone, hslot]

@[simp] theorem dwellDone_besideTb (within : Bool) (p : Part) : (dwellDone within p).besideTb = p.besideTb := by
  unfold dwellDone; split
  · rfl
  · split
    · rfl
    · dsimp only; split
      · rw [raise_besideTb]; rfl
      · rfl

/-! ### Alignment points -/

/-- The choice of an alignment point changes the timebase by that choice alone (R260). -/
theorem chooseAlign_keeps (x : Nat) (p : Part) : ∃ a, (chooseAlign x p).loop = (p.updTb fun t => { t with align := a }).loop ∧
    (chooseAlign x p).sys = p.sys ∧ (chooseAlign x p).besideTb = p.besideTb := by
  unfold chooseAlign; split
  · exact ⟨p.tb.align, rfl, rfl, rfl⟩
  · exact ⟨some x, by rw [writeJournal_loop], by rw [writeJournal_sys]; rfl, by rw [writeJournal_besideTb]; rfl⟩

/-- The first reference frame start since ACQUIRE is the slot's alignment point (R260). -/
theorem chooseAlign_first {x : Nat} {p : Part} (hsince : p.tb.since ≤ x) (hnone : p.tb.align = none)
    (hfollows : followsTimebase p = false) : (chooseAlign x p).tb.align = some x := by
  rw [chooseAlign, if_neg (by simp [hsince, hnone, hfollows]), Part.tb_of_loop (writeJournal_loop ..), Part.updTb_tb]

/-- The part once the reference frame start that a sample shows has been taken up. -/
def alignTaken (k : Nat) (start : Option Nat) (p : Part) : Part :=
  if (p.cfg.slot k).frequency then p else start.elim p fun x => chooseAlign x p

theorem alignTaken_keeps (k : Nat) (start : Option Nat) (p : Part) : ∃ a,
    (alignTaken k start p).loop = (p.updTb fun t => { t with align := a }).loop ∧ (alignTaken k start p).sys = p.sys ∧
      (alignTaken k start p).besideTb = p.besideTb := by
  unfold alignTaken; split
  · exact ⟨p.tb.align, rfl, rfl, rfl⟩
  · cases start with
    | none => exact ⟨p.tb.align, rfl, rfl, rfl⟩
    | some x => exact chooseAlign_keeps x p

theorem wNow_congr {p q : Part} (hloop : p.loop = q.loop) (hsys : p.sys = q.sys) : wNow p = wNow q := by
  rw [wNow, wNow, Part.tb_of_loop hloop, Part.cfg_of_loop hloop, hsys]

/-! ### Phase errors -/

/-- A phase error of the closed loop steers w by the loop filter (R253, R266; log entry 24). -/
def phaseSteers (k : Nat) (err : Int) (p : Part) : Part :=
  setW (Config.loopFilter (wNow p) err (p.tb.bw / 1000))
    (updSlotRt k (fun r => { r with lastErr := err, samples := if r.samples.length < 4 then r.samples ++ [err] else r.samples }) p)

theorem phaseSample_locked {k : Nat} {p : Part} (hstate : p.tb.state = .locked) (hfirst : (p.slotRt k).samples = [])
    (err : Int) (start : Option Nat) : phaseSample k err start p = phaseSteers k err (alignTaken k start p) := by
  obtain ⟨a, hloop, -, -⟩ := alignTaken_keeps k start p
  have hkept : (alignTaken k start p).tb.state = .locked := (congrArg Tb.state (Part.tb_of_loop hloop)).trans hstate
  unfold phaseSample; dsimp only
  rw [← alignTaken, hkept, hfirst, if_neg (by simp), if_neg (by simp)]
  rfl

/-! ### Commands -/

section Commands

variable {t : Nat} {s : State} (hlives : livesAt t s)
include hlives

theorem exec_dwellComplete (hstate : s.m.tb.state = .acquire ∨ s.m.tb.state = .locked)
    (hdue : s.m.tb.dwellFrom + dwellTime s.m.tb.bw ≤ t) (within : Bool) :
    exec (.dwellComplete t within) s = .next { s with m := dwellDone within (advance t s.m) } :=
  onPart_timed_guarded hlives.1 (by simpa [hdue, hlives.2] using hstate)

theorem exec_switchHoldoffExpiry (hstate : s.m.tb.state = .holdover) :
    exec (.switchHoldoffExpiry t) s = .next { s with m := reselect (advance t s.m) } :=
  onPart_timed_guarded hlives.1 (by simp [hstate])

theorem exec_holdoverSecond {x : Nat} (hstate : s.m.tb.state = .locked) (htrack : s.m.tb.trackSince = some x) (hdue : x + sec ≤ t)
    (hsecs : s.m.tb.secs = []) (mean : Int) :
    exec (.holdoverSecond t mean) s = .next { s with m := holdoverSecond mean (advance t s.m) } :=
  onPart_timed_guarded hlives.1 (by simp [hstate, htrack, hdue, hsecs, hlives.2])

theorem exec_phaseDetectorSample {k : Nat} (hstate : s.m.tb.state = .locked) (hslot : s.m.tb.slot = some k) (err : Int)
    (start : Option Nat) :
    exec (.phaseDetectorSample t k ⟨err, start⟩) s = .next { s with m := phaseSample k err start (advance t s.m) } :=
  onPart_timed_guarded hlives.1 (by simp [hstate, hslot])

end Commands

end Sys2Proof.Machine

open Sys2Proof Sys2Proof.Machine

/-- Settles O15: each timer of the loop by its rule on the timebase, and a phase error by the rule of the closed loop, which an
alignment point chosen before it does not touch. -/
theorem loopTracks : Obligations.LoopTracks := by
  unfold Obligations.LoopTracks
  refine ⟨fun t k s hlives => ⟨?first, ?restarts, ?holdoff⟩, fun t k s hlives => ⟨?second, ?sample⟩⟩
  all_goals have hnow := advance_now_of_livesAt hlives
  case first =>
    intro hslot hstate hdue
    obtain ⟨track, hdone⟩ := dwellDone_first (p := advance t s.m) hslot hstate
    rw [exec_dwellComplete hlives (.inl hstate) hdue true, hdone]
    refine ⟨_, rfl, ?_⟩
    dsimp only
    rw [raise_tb]
    exact ⟨rfl, hslot, hnow, rfl, rfl, tbFrame_of_besideTb (by simp)⟩
  case restarts =>
    intro hslot hstate hdue
    refine ⟨_, exec_dwellComplete hlives hstate hdue false, ?_, tbFrame_of_besideTb (by simp)⟩
    rw [dwellDone_restarts (p := advance t s.m) hslot, hnow]
    rfl
  case holdoff =>
    intro hstate hbest hdue
    refine ⟨_, exec_switchHoldoffExpiry hlives hstate, ?_⟩
    rw [reselect_holdover (p := advance t s.m) hstate hbest (by rw [hnow]; exact hdue)]
    obtain ⟨raised, htb⟩ := takeSlot_tb k (advance t s.m)
    dsimp only
    rw [htb]
    exact ⟨rfl, rfl, rfl, hnow, tbFrame_of_besideTb (by simp)⟩
  case second =>
    rintro mean hstate ⟨x, htrack, hdue⟩ hsecs
    refine ⟨_, exec_holdoverSecond hlives hstate htrack hdue hsecs mean, ?_, tbFrame_of_besideTb rfl⟩
    simp [holdoverSecond, hsecs, hlives.2]
  case sample =>
    intro err start hstate hslot hfirst
    refine ⟨_, exec_phaseDetectorSample hlives hstate hslot err start, ?_⟩
    rw [phaseSample_locked (p := advance t s.m) hstate hfirst]
    obtain ⟨a, hloop, hsys, hbeside⟩ := alignTaken_keeps k start (advance t s.m)
    have htb := Part.tb_of_loop hloop
    refine ⟨by simp [phaseSteers], ?_, ?_, ?_, tbFrame_of_besideTb (by simpa [phaseSteers] using hbeside)⟩
    · rintro x rfl hsince hnone hfreq hfollows
      have htaken : alignTaken k (some x) (advance t s.m) = chooseAlign x (advance t s.m) := if_neg (by simp [hfreq])
      dsimp only
      rw [htaken]
      exact chooseAlign_first (p := advance t s.m) hsince hnone hfollows
    · have hw : wNow (alignTaken k start (advance t s.m)) = wNow (advance t s.m) := (wNow_congr hloop hsys).trans rfl
      have hbw : (alignTaken k start (advance t s.m)).tb.bw = s.m.tb.bw := (congrArg Tb.bw htb).trans rfl
      rw [phaseSteers, hw, hbw]
      rfl
    · exact (congrArg Tb.state htb).trans hstate

end

section
/-! Root lock: the search and its end, the loss of root lock and of XO_IN, and what a gated root shuts out (R254, R256, R269). -/

namespace Sys2Proof.Machine

open Sys2Proof

/-! ### After the search -/

/-- What a search settles: root lock, band and fine setting, the failures before it, the margin raised, and the dither register. -/
def Tb.lock (t : Tb) : Bool × Nat × Int × Nat × Bool × Word := (t.rootLock, t.band, t.fine, t.fails, t.marginRaised, t.dither)

/-- w at rest, with the stored steering offset in force (R268). -/
def atRest (p : Part) : Part := setW (restingW (steerInForce p)) (steerInForce p)

/-- After the search the timebase takes a slot, is STEERED, or rests (Table 10.7). -/
theorem afterSearch_cases (p : Part) : (∃ k, afterSearch p = takeSlot k (atRest p)) ∨
    afterSearch p = entersSteered (restingW (steerInForce p)) (atRest p) ∨
    afterSearch p = enterTb (restingState (atRest p)) (atRest p) := by
  unfold afterSearch; dsimp only; split
  next k _ => exact .inl ⟨k, rfl⟩
  · split
    · exact .inr (.inl rfl)
    · exact .inr (.inr rfl)

theorem takeSlot_lock (k : Nat) (p : Part) : (takeSlot k p).tb.lock = p.tb.lock := by
  obtain ⟨raised, htb⟩ := takeSlot_tb k p
  rw [htb]; rfl

@[simp] theorem setW_lock (v : Int) (p : Part) : (setW v p).tb.lock = p.tb.lock := rfl
@[simp] theorem enterTb_lock (st : TbState) (p : Part) : (enterTb st p).tb.lock = p.tb.lock := rfl
@[simp] theorem steerInForce_lock (p : Part) : (steerInForce p).tb.lock = p.tb.lock := rfl

theorem updTb_lock {g : Tb → Tb} (h : ∀ t, (g t).lock = t.lock) (p : Part) : (p.updTb g).tb.lock = p.tb.lock := h p.tb

@[simp] theorem atRest_lock (p : Part) : (atRest p).tb.lock = p.tb.lock := by rw [atRest, setW_lock, steerInForce_lock]
@[simp] theorem atRest_besideTb (p : Part) : (atRest p).besideTb = p.besideTb := by rw [atRest, setW_besideTb, steerInForce_besideTb]

@[simp] theorem entersSteered_lock (w : Int) (p : Part) : (entersSteered w p).tb.lock = p.tb.lock := by
  rw [entersSteered, setW_lock, updTb_lock (fun _ => by rfl), enterTb_lock]

@[simp] theorem entersSteered_besideTb (w : Int) (p : Part) : (entersSteered w p).besideTb = p.besideTb := by
  rw [entersSteered, setW_besideTb, updTb_besideTb, enterTb_besideTb]

theorem afterSearch_lock (p : Part) : (afterSearch p).tb.lock = p.tb.lock := by
  obtain ⟨k, h⟩ | h | h := afterSearch_cases p
  · rw [h, takeSlot_lock, atRest_lock]
  · rw [h, entersSteered_lock, atRest_lock]
  · rw [h, enterTb_lock, atRest_lock]

@[simp] theorem afterSearch_besideTb (p : Part) : (afterSearch p).besideTb = p.besideTb := by
  obtain ⟨k, h⟩ | h | h := afterSearch_cases p <;> simp [h]

theorem afterSearch_cfg (p : Part) : (afterSearch p).cfg = p.cfg := congrArg Prod.fst (afterSearch_besideTb p)

theorem afterSearch_runs (p : Part) : (afterSearch p).tb.state ≠ .bypass ∧ (afterSearch p).tb.state ≠ .search := by
  obtain ⟨k, h⟩ | h | h := afterSearch_cases p
  · obtain ⟨raised, htb⟩ := takeSlot_tb k (atRest p)
    rw [h, htb]; exact ⟨nofun, nofun⟩
  · rw [h]; exact ⟨nofun, nofun⟩
  · have hstate : (afterSearch p).tb.state = restingState (atRest p) := congrArg (fun q : Part => q.tb.state) h
    rw [hstate, restingState]; split <;> exact ⟨nofun, nofun⟩

/-! ### A band is found -/

/-- Root lock on a band, and the event raised; the timebase is still in SEARCH. -/
def bandLocked (band : Nat) (fine : Int) (p : Part) : Part :=
  raise evRootLockGained 0 0 (p.updTb fun t => { t with
    band := band, fine := fine, fineTj := p.sys.tj, bandNew := true, marginRaised := false, rootLock := true, fails := 0
    dither := p.cfg.tb.seed })

theorem bandLocked_lock (band : Nat) (fine : Int) (p : Part) :
    (bandLocked band fine p).tb.lock = (true, band, fine, 0, false, p.cfg.tb.seed) := by
  rw [bandLocked, raise_tb]; rfl

theorem bandLocked_cfg (band : Nat) (fine : Int) (p : Part) : (bandLocked band fine p).cfg = p.cfg := raise_cfg ..

/-- What follows on root lock changes the clock output units and the reference of the fine setting only, beside the tiles' marks,
the lanes, the converters and the raster. -/
theorem bandFound_loop (band : Nat) (fine : Int) (p : Part) : ∃ q w c, q.cfg = p.cfg ∧ (bandFound band fine p).loop =
    ((afterSearch (bandLocked band fine q)).updTb fun t => { t with fineW := w, cou := c }).loop := by
  unfold bandFound; extract_lets q p1 p2 p3 p4 p5
  have hcfg : q.cfg = p.cfg := by
    unfold q; rw [perfSync_cfg]; split <;> rfl
  obtain ⟨c, hcou⟩ := couFollows_eq p3
  refine ⟨q, wNow p2, c, hcfg, ?_⟩
  calc (p5.cfg.furrows.keys.foldl (fun q f => laneFollows f q) p5).loop
    _ = p5.loop := lanesFollow_loop ..
    _ = p4.loop := updFrc_loop ..
    _ = (setMarks (fun _ _ _ => true) (couFollows p3)).loop := ungate_loop ..
    _ = (couFollows p3).loop := setMarks_loop ..
    _ = _ := by rw [hcou]; rfl

section

variable (band : Nat) (fine : Int) (p : Part)

theorem bandFound_lock : (bandFound band fine p).tb.lock = (true, band, fine, 0, false, p.cfg.tb.seed) := by
  obtain ⟨q, w, c, hcfg, hloop⟩ := bandFound_loop band fine p
  rw [Part.tb_of_loop hloop, updTb_lock (fun _ => by rfl), afterSearch_lock, bandLocked_lock, hcfg]

theorem bandFound_runs : (bandFound band fine p).tb.state ≠ .bypass ∧ (bandFound band fine p).tb.state ≠ .search := by
  obtain ⟨q, w, c, -, hloop⟩ := bandFound_loop band fine p
  rw [Part.tb_of_loop hloop, Part.updTb_tb]
  exact afterSearch_runs _

theorem bandFound_cfg : (bandFound band fine p).cfg = p.cfg := by
  obtain ⟨q, w, c, hcfg, hloop⟩ := bandFound_loop band fine p
  rw [Part.cfg_of_loop hloop, Part.updTb_cfg, afterSearch_cfg, bandLocked_cfg, hcfg]

end

/-! ### No band is found -/

/-- The part in BYPASS for 10 ms after a search that failed, the event raised (Table 10.7). -/
def searchFailed (p : Part) : Part :=
  raise evTbBandFail 0 0 ((enterTb .bypass p).updTb fun t => { t with fails := t.fails + 1, wait := 10 * msec })

theorem searchFailed_tb (p : Part) : (searchFailed p).tb =
    { p.tb with state := .bypass, since := p.sys.now, fails := p.tb.fails + 1, wait := 10 * msec } := raise_tb ..

@[simp] theorem searchFailed_besideTb (p : Part) : (searchFailed p).besideTb = p.besideTb := raise_besideTb ..

@[simp] theorem kindlingStops_tb (cause : Nat) (p : Part) : (kindlingStops cause p).tb = p.tb := report_tb ..
@[simp] theorem kindlingStops_besideTb (cause : Nat) (p : Part) : (kindlingStops cause p).besideTb = p.besideTb := report_besideTb ..

theorem kindlingStops_stopped (cause : Nat) (p : Part) : (kindlingStops cause p).sys.stopped = true := by
  rw [kindlingStops, report_sys]; rfl

/-- A search that failed ends there, stops kindling, or yields the head. -/
theorem bandFails_cases (p : Part) : bandFails p = searchFailed p ∨ bandFails p = kindlingStops 0 (searchFailed p) ∨
    bandFails p = yieldHead (report blkTimebase 0 evTbBandFail 2 7 0 (faultOn (searchFailed p))) := by
  unfold bandFails; dsimp only; split
  · split
    · exact .inr (.inl rfl)
    · exact .inl rfl
  · split
    · exact .inr (.inr rfl)
    · exact .inl rfl

theorem bandFails_tb (p : Part) : (bandFails p).tb =
    { p.tb with state := .bypass, since := p.sys.now, fails := p.tb.fails + 1, wait := 10 * msec } := by
  rw [← searchFailed_tb]
  obtain h | h | h := bandFails_cases p
  · rw [h]
  · rw [h, kindlingStops_tb]
  · rw [h, yieldHead_tb, report_tb]; rfl

@[simp] theorem bandFails_besideTb (p : Part) : (bandFails p).besideTb = p.besideTb := by
  obtain h | h | h := bandFails_cases p <;> simp [h]

/-- The third failure in a row stops kindling (Table 17.4). -/
theorem bandFails_third {p : Part} (hfails : p.tb.fails = 2) (hstep : p.sys.step = 7) (hready : p.sys.ready = false) :
    (bandFails p).sys.stopped = true := by
  have hkindles : inKindling (searchFailed p) = true := by simp [inKindling, searchFailed, enterTb, hstep, hready]
  have hthird : (searchFailed p).tb.fails = 3 := by rw [searchFailed_tb, hfails]
  have hstops : bandFails p = kindlingStops 0 (searchFailed p) := (if_pos hkindles).trans (if_pos hthird)
  rw [hstops, kindlingStops_stopped]

/-! ### Root lock lost -/

/-- Whether or not a value is banked when root lock goes (R267), XO_IN's loss and the time stand. -/
theorem bankValue_ite_keeps {c : Prop} [Decidable c] (p : Part) :
    (if c then bankValue p else p).tb.xoFail = p.tb.xoFail ∧ (if c then bankValue p else p).sys = p.sys := by
  split
  · obtain ⟨b, v, hbank⟩ := bankValue_tb p
    exact ⟨by rw [hbank], bankValue_sys p⟩
  · exact ⟨rfl, rfl⟩

/-- Loss of root lock leaves the slot and waits 20 µs in BYPASS (R269, Table 10.7). -/
theorem rootLockLost_tb (p : Part) : ∃ t : Tb, t.xoFail = p.tb.xoFail ∧ (rootLockLost p).tb =
    { t with state := .bypass, since := p.sys.now, rootLock := false, slot := none, wait := 20 * usec } := by
  unfold rootLockLost; extract_lets q q0 q1 q2 q3 q4
  obtain ⟨hxo, hsys⟩ : q0.tb.xoFail = q.tb.xoFail ∧ q0.sys = q.sys := bankValue_ite_keeps q
  have hnow : q0.sys.now = p.sys.now := by rw [hsys]; exact congrArg Sys.now (perfSync_sys p)
  obtain ⟨c, hcou⟩ := couFollows_eq q2
  have htb : q3.tb = { q1.tb with cou := c } := calc
    q3.tb = (couFollows q2).tb := Part.tb_of_loop (lanesFollow_loop ..)
    _ = { q2.tb with cou := c } := by rw [hcou, Part.updTb_tb]
    _ = { q1.tb with cou := c } := by rw [show q2.tb = q1.tb from raise_tb ..]
  refine ⟨{ q0.tb with align := none, w := wNow q, wTarget := wNow q, wAt := q.sys.now, cou := c }, ?_, ?_⟩
  · exact hxo.trans (congrArg Tb.xoFail (perfSync_tb p))
  · rw [← hnow]; exact htb

theorem xoFails_gates (p : Part) : (xoFails p).tb.xoFail = true ∧ (xoFails p).tb.state = .bypass := by
  unfold xoFails; extract_lets p1
  have hxo : p1.tb.xoFail = true := by
    change (setLevel evXoFail 0 true _).tb.xoFail = true
    rw [setLevel_tb]; rfl
  rw [yieldHead_tb]
  split
  · obtain ⟨b, hfail, htb⟩ := rootLockLost_tb p1
    rw [htb]; exact ⟨hfail.trans hxo, rfl⟩
  · exact ⟨hxo, rfl⟩

/-- XO_IN is back: BYPASS for 20 µs (R269). -/
def xoReturns (p : Part) : Part :=
  (enterTb .bypass (faultOff (setLevel evXoFail 0 false p))).updTb fun b => { b with xoFail := false, wait := 20 * usec }

theorem xoReturns_tb (p : Part) : (xoReturns p).tb =
    { p.tb with state := .bypass, since := p.sys.now, xoFail := false, wait := 20 * usec } := rfl

@[simp] theorem xoReturns_besideTb (p : Part) : (xoReturns p).besideTb = p.besideTb := by simp [xoReturns]

/-! ### Commands -/

section Commands

variable {t : Nat} {s : State} (hlives : livesAt t s)
include hlives

theorem exec_bypassWaitExpiry (hstate : s.m.tb.state = .bypass) (hstep : 7 ≤ s.m.sys.step) (hxo : s.m.tb.xoFail = false)
    (hdue : s.m.tb.since + s.m.tb.wait ≤ t) :
    exec (.bypassWaitExpiry t) s = .next { s with m := enterTb .search (advance t s.m) } :=
  onPart_timed_guarded hlives.1 (by simp [hstate, hxo, hdue, hlives.2, advance_sys, hstep])

theorem exec_bandSearchDone (hstate : s.m.tb.state = .search) (band : Nat) (fine : Int) :
    exec (.bandSearchDone t band fine) s = .next { s with m := bandFound band fine (advance t s.m) } :=
  onPart_timed_guarded hlives.1 (by simp [hstate])

theorem exec_bandSearchFail (hstate : s.m.tb.state = .search) (hdue : s.m.tb.since + 1500 * usec ≤ t) :
    exec (.bandSearchFail t) s = .next { s with m := bandFails (advance t s.m) } :=
  onPart_timed_guarded hlives.1 (by simp [hstate, hdue, hlives.2])

theorem exec_rootLockLost (hlock : s.m.tb.rootLock = true) :
    exec (.rootLockLost t) s = .next { s with m := rootLockLost (advance t s.m) } :=
  onPart_timed_guarded hlives.1 hlock

theorem exec_xoFail (hxo : s.m.tb.xoFail = false) : exec (.xoFail t) s = .next { s with m := xoFails (advance t s.m) } :=
  onPart_timed_guarded hlives.1 (by simp [hxo])

theorem exec_xoRestored (hxo : s.m.tb.xoFail = true) : exec (.xoRestored t) s = .next { s with m := xoReturns (advance t s.m) } :=
  onPart_timed_guarded hlives.1 hxo

end Commands

/-- Data that comes on SDI or Ethernet while root lock is lost is discarded: each row's condition needs the pixel domain (R269). -/
theorem exec_of_dataAt {t : Nat} {c : Instr} {s : State} (halive : s.m.alive = true) (hlost : s.m.tb.rootLock = false)
    (hdata : dataAt c = some t) : exec c s = .next { s with m := advance t s.m } := by
  have hgated : receives (advance t s.m) = false := hlost
  unfold dataAt at hdata
  split at hdata
  case h_12 => contradiction
  all_goals
    obtain rfl := Option.some.inj hdata
    exact onPart_timed_shut halive (by simp [sourceOn, hgated])

end Sys2Proof.Machine

open Sys2Proof Sys2Proof.Machine

/-- Settles O13: the search ends in one of three states that all keep what it settled, its failure and each loss of the root go to
BYPASS, and a gated root shuts out every row of received data. -/
theorem rootLock : Obligations.RootLock := by
  unfold Obligations.RootLock
  refine ⟨fun t s hlives => ⟨?searches, ?found, ?fails⟩, fun t s hlives => ⟨?lost, ?stops, ?returns⟩,
    fun t c s halive hlost hdata => exec_of_dataAt halive hlost hdata⟩
  all_goals have hnow := advance_now_of_livesAt hlives
  case searches =>
    intro hstate hstep hxo hdue
    refine ⟨_, exec_bypassWaitExpiry hlives hstate hstep hxo hdue, ?_, tbFrame_of_besideTb (by simp)⟩
    rw [enterTb, hnow]
    rfl
  case found =>
    intro band fine hstate
    obtain ⟨hbypass, hsearch⟩ := bandFound_runs band fine (advance t s.m)
    have hlock := bandFound_lock band fine (advance t s.m)
    simp only [Tb.lock, Prod.mk.injEq] at hlock
    obtain ⟨hroot, hband, hfine, hfails, hmargin, hdither⟩ := hlock
    refine ⟨_, exec_bandSearchDone hlives hstate band fine, ?_⟩
    dsimp only
    exact ⟨hroot, hband, hfine, hfails, hmargin, hdither, hbypass, hsearch, bandFound_cfg .., rfl, rfl⟩
  case fails =>
    intro hstate hdue
    refine ⟨_, exec_bandSearchFail hlives hstate hdue, ?_⟩
    dsimp only
    rw [bandFails_tb]
    exact ⟨rfl, rfl, hnow, rfl, fun hthird hstep hready => bandFails_third (p := advance t s.m) hthird hstep hready,
      tbFrame_of_besideTb (by simp)⟩
  case lost =>
    intro hlock
    obtain ⟨b, -, htb⟩ := rootLockLost_tb (advance t s.m)
    refine ⟨_, exec_rootLockLost hlives hlock, ?_⟩
    dsimp only
    rw [htb]
    exact ⟨rfl, rfl, rfl, rfl, hnow, rfl, rfl⟩
  case stops =>
    intro hxo
    obtain ⟨hfail, hstate⟩ := xoFails_gates (advance t s.m)
    exact ⟨_, exec_xoFail hlives hxo, hfail, hstate, rfl, rfl⟩
  case returns =>
    intro hxo
    refine ⟨_, exec_xoRestored hlives hxo, ?_⟩
    dsimp only
    rw [xoReturns_tb]
    exact ⟨rfl, rfl, rfl, hnow, tbFrame_of_besideTb (by simp)⟩

end

section
/-! The release of RESET_N and the test access port (R407, R442, R445). -/

namespace Sys2Proof.Machine

open Sys2Proof

theorem exec_resetNRelease {s : State} (hlow : s.m.sys.resetN = false) (t : Nat) (endB host : Bool) (boot : BitVec 2) :
    exec (.resetNRelease t endB host boot) s = .next { s with m := resetRises endB host boot (advance t s.m) } := by
  have hguard : (!(advance t s.m).sys.resetN) = true := by simp [advance_sys, hlow]
  rw [exec, execResetNRelease, onPart, guarded_on hguard]

theorem exec_jtagTapOperation (t : Nat) (op : TapOp) (s : State) :
    exec (.jtagTapOperation t op) s = .next { s with m := tapOperation op (advance t s.m) } := rfl

/-- What is shifted out changes the ports and nothing else. -/
@[simp] theorem tapOut_sys (op : TapOp) (p : Part) : (tapOut op p).sys = p.sys := by cases op <;> rfl
@[simp] theorem tapOut_rest (op : TapOp) (p : Part) : (tapOut op p).rest = p.rest := by cases op <;> rfl

/-- While RESET_N is high every instruction but IDCODE and SAMPLE acts as BYPASS (R445). -/
theorem tapActs_bypass {op : TapOp} (hid : op ≠ .idcode) (hreset : op ≠ .testLogicReset) (hsample : op ≠ .sample) :
    tapActs true op = .bypass := by
  cases op with
  | idcode => exact absurd rfl hid
  | testLogicReset => exact absurd rfl hreset
  | sample => exact absurd rfl hsample
  | _ => rfl

/-- The register that follows an instruction, or Test-Logic-Reset, and whether a test instruction acts. -/
theorem tapOperation_sys (op : TapOp) (p : Part) : (tapOperation op p).sys =
    { p.sys with jtag := if op = .testLogicReset then .idcode else op, jtagTest := tapTests op && !p.sys.resetN } := tapOut_sys ..

theorem tapOperation_out (op : TapOp) (p : Part) : (tapOperation op p).out = (tapOut (tapActs p.sys.resetN op) p).out := by
  unfold tapOperation
  cases tapActs p.sys.resetN op <;> rfl

end Sys2Proof.Machine

open Sys2Proof Sys2Proof.Machine

/-- Settles O12: the release acts on the straps, the xSPI port and the time of the performance counters alone; the TAP changes its own
registers and shifts out what its acting instruction selects. -/
theorem strapsAndTap : Obligations.StrapsAndTap := by
  unfold Obligations.StrapsAndTap
  refine ⟨fun t endB host boot s hlow => ?release, fun t op s => ?tap⟩
  case release =>
    exact ⟨_, exec_resetNRelease hlow t endB host boot, rfl, rfl, rfl, rfl, rfl, rfl, rfl, rfl, rfl, rfl, rfl, rfl, rfl⟩
  case tap =>
    refine ⟨_, exec_jtagTapOperation t op s, ?acting, ?idcode, ?bypass, ?testing, ?reset, ?kept, rfl, rfl⟩
    all_goals dsimp only
    case acting =>
      rw [tapOperation_sys]
      intro htest
      simpa [advance_sys] using (Bool.and_eq_true_iff.mp htest).2
    case idcode =>
      intro hop
      rw [tapOperation_out]
      rcases hop with rfl | rfl <;> rfl
    case bypass =>
      intro hid hreset hsample hhigh
      have hacts : tapActs (advance t s.m).sys.resetN op = .bypass := by
        rw [advance_sys, hhigh, tapActs_bypass hid hreset hsample]
      rw [tapOperation_out, hacts]
      rfl
    case testing =>
      intro hop hlow
      rw [tapOperation_sys, advance_sys, hlow]
      rcases hop with rfl | rfl | rfl | rfl | rfl <;> rfl
    case reset =>
      rintro rfl
      rw [tapOperation_sys]
      exact ⟨rfl, rfl⟩
    case kept =>
      rw [tapOperation_sys]
      exact tapOut_rest ..

end

section
/-! The pair's links: what their operations leave, what a link reads after them, and what a heartbeat does before its meaning for
the role (R280 to R284, R289, R292). -/

namespace Sys2Proof.Machine

open Sys2Proof

/-! ### Observers -/

/-- The part without its time, its reports, its performance counters, the host's side and the pair. -/
def Part.offLinks (p : Part) : Part := { p.quiet with sys := {}, host := {}, pair := {} }

theorem Part.offLinks_of_quiet {p q : Part} (h : p.quiet = q.quiet) : p.offLinks = q.offLinks :=
  congrArg (fun r : Part => { r with sys := {}, host := {}, pair := {} }) h

theorem Part.offLinks_of_rest {p q : Part} (h : p.rest = q.rest) : p.offLinks = q.offLinks := Part.offLinks_of_quiet (Part.quiet_of_rest h)

/-- What stands off the links stands beyond the pair. -/
theorem beyondPair_of_offLinks {s : State} {q : Part} (h : q.offLinks = s.m.offLinks) : beyondPair s { s with m := q } := by
  simp only [Part.offLinks, Part.quiet, Part.rest, Part.mk.injEq] at h
  unfold beyondPair
  tauto

@[simp] theorem advance_offLinks (t : Nat) (p : Part) : (advance t p).offLinks = p.offLinks := rfl
@[simp] theorem updPair_offLinks (p : Part) (g : Pair → Pair) : (p.updPair g).offLinks = p.offLinks := rfl
@[simp] theorem updHost_offLinks (p : Part) (g : HostIf → HostIf) : (p.updHost g).offLinks = p.offLinks := rfl
@[simp] theorem updPairLink_offLinks (b : Bool) (f : PairLink → PairLink) (p : Part) : (updPairLink b f p).offLinks = p.offLinks := rfl
@[simp] theorem raise_offLinks (n i a : Nat) (p : Part) : (raise n i a p).offLinks = p.offLinks := Part.offLinks_of_rest (raise_rest ..)
@[simp] theorem setLevel_offLinks (n i : Nat) (on : Bool) (p : Part) : (setLevel n i on p).offLinks = p.offLinks :=
  Part.offLinks_of_rest (setLevel_rest ..)

@[simp] theorem mirrorStale_offLinks (p : Part) : (mirrorStale p).offLinks = p.offLinks := by
  unfold mirrorStale; split
  · rfl
  · exact raise_offLinks ..

/-! ### Links -/

theorem b2n_inj {a b : Bool} : b2n a = b2n b ↔ a = b := by cases a <;> cases b <;> decide

theorem Part.pairLink_of_pair {p q : Part} (h : p.pair = q.pair) (b : Bool) : p.pairLink b = q.pairLink b := by
  unfold Part.pairLink; rw [h]

theorem anyLinkUp_of_pair {p q : Part} (h : p.pair = q.pair) : anyLinkUp p = anyLinkUp q := by
  unfold anyLinkUp; rw [Part.pairLink_of_pair h, Part.pairLink_of_pair h]

theorem anyLinkUp_of_up {b : Bool} {p : Part} (h : (p.pairLink b).up = true) : anyLinkUp p = true := by
  cases b <;> simp [anyLinkUp, h]

theorem anyLinkUp_eq_false {p : Part} : anyLinkUp p = false ↔ ∀ b, (p.pairLink b).up = false := by simp [anyLinkUp]

@[simp] theorem advance_pairLink (t : Nat) (b : Bool) (p : Part) : (advance t p).pairLink b = p.pairLink b := rfl
@[simp] theorem raise_pairLink (n i a : Nat) (b : Bool) (p : Part) : (raise n i a p).pairLink b = p.pairLink b :=
  Part.pairLink_of_pair (raise_pair ..) b
@[simp] theorem setLevel_pairLink (n i : Nat) (on b : Bool) (p : Part) : (setLevel n i on p).pairLink b = p.pairLink b :=
  Part.pairLink_of_pair (setLevel_pair ..) b

@[simp] theorem updPairLink_pairLink (b c : Bool) (f : PairLink → PairLink) (p : Part) :
    (updPairLink b f p).pairLink c = if c = b then f (p.pairLink b) else p.pairLink c := by
  simp [updPairLink, Part.pairLink, b2n_inj]

theorem updPairLink_pair (b : Bool) (f : PairLink → PairLink) (p : Part) :
    (updPairLink b f p).pair = { p.pair with links := p.pair.links.upd (b2n b) {} f } := rfl

@[simp] theorem sendPair_pairLink (b c : Bool) (n : Nat) (x : PairBody) (p : Part) :
    (sendPair b n x p).pairLink c = if c = b then { p.pairLink b with fseq := (p.pairLink b).fseq + 1 } else p.pairLink c :=
  updPairLink_pairLink b c _ p

/-- A frame goes out under its link's next FSEQ (R281). -/
theorem sendPair_out (b : Bool) (n : Nat) (x : PairBody) (p : Part) :
    (sendPair b n x p).out = p.out ++ [.pairFrame b ((p.pairLink b).fseq + 1) n x] := rfl

theorem count_counter (b i x : Nat) (p : Part) : counter b i x (count b i x p) = satAdd32 (counter b i x p) 1 :=
  (countBy_cnt ..).trans (if_pos rfl)

/-! ### Replies held for the partner -/

/-- A reply that asks to be sent and comes over BAR0 is queued (R331, R333). -/
theorem sendReply_queued {r : Reply} (hasks : r.flags.getLsbD 0 = true) (hbar : r.uart = false) (p : Part) :
    sendReply r p = p.updHost fun h => { h with replyQueue := h.replyQueue ++ [r] } := by
  simp [sendReply, hasks, hbar]

theorem joinEnding_of_unsent {p : Part} (h : p.pair.joinSent = false) : joinEnding p = false := by simp [joinEnding, h]

/-- With no join data sent a configuration reply goes out at once (R287). -/
theorem configReply_queued {r : Reply} {p : Part} (hjoin : p.pair.joinSent = false) (hasks : r.flags.getLsbD 0 = true)
    (hbar : r.uart = false) : configReply r p = p.updHost fun h => { h with replyQueue := h.replyQueue ++ [r] } := by
  rw [configReply, joinEnding_of_unsent hjoin, sendReply_queued hasks hbar]
  rfl

/-- The partner is out of date (R284). -/
theorem mirrorStale_pair (p : Part) : ∃ raised, (mirrorStale p).pair = { p.pair with staleRaised := raised, synced := false } := by
  unfold mirrorStale; split
  · exact ⟨p.pair.staleRaised, rfl⟩
  · exact ⟨true, raise_pair ..⟩

@[simp] theorem mirrorStale_host (p : Part) : (mirrorStale p).host = p.host := by
  unfold mirrorStale; split
  · rfl
  · exact raise_host ..

/-! ### Heartbeats out -/

/-- A heartbeat leaves under its link's next FSEQ (R281, R282). -/
theorem heartbeatOut_out (p : Part) (b : Bool) : (heartbeatOut p b).out =
    p.out ++ [.pairFrame b ((p.pairLink b).fseq + 1) p.fr.cfn (.heartbeat (heartbeatNow b p))] := by
  rw [heartbeatOut, sendPair_out, updPairLink_pairLink, if_pos rfl]
  rfl

@[simp] theorem heartbeatOut_pairLink (p : Part) (b c : Bool) : (heartbeatOut p b).pairLink c =
    if c = b then { p.pairLink b with lastTx := p.sys.now, fseq := (p.pairLink b).fseq + 1 } else p.pairLink c := by
  rw [heartbeatOut, sendPair_pairLink]
  split <;> simp [*]

@[simp] theorem heartbeatOut_offLinks (p : Part) (b : Bool) : (heartbeatOut p b).offLinks = p.offLinks := rfl

/-! ### A link that is heard -/

/-- Heartbeats in a row once one more has come (R280). -/
def heardRun (b : Bool) (p : Part) : Nat :=
  if (p.pairLink b).hbRun = 0 ∨ (p.pairLink b).arrived + 52 * usec < p.sys.now then 1 else (p.pairLink b).hbRun + 1

/-- A link that has counted one more heartbeat. -/
def heardOn (b : Bool) (hb : Heartbeat) (p : Part) : Part :=
  updPairLink b (fun l => { l with hbRun := heardRun b p, lastHb := hb.txTime, arrived := p.sys.now }) p

/-- A link that comes UP, as far as it concerns no journal (R280). -/
def linkRises (b : Bool) (p : Part) : Part :=
  setLevel evPairIsolated 0 false (raise evPairLinkUp (b2n b) 0 (updPairLink b (fun l => { l with up := true }) p))

theorem linkHeard_eq (b : Bool) (hb : Heartbeat) (p : Part) : linkHeard b hb p =
    if !(p.pairLink b).up && (laneWorks p (144 + 2 * b2n b) && laneWorks p (145 + 2 * b2n b)) && decide (8 ≤ heardRun b p)
    then linkUp b hb (heardOn b hb p) else heardOn b hb p := rfl

theorem heardRun_next {b : Bool} {p : Part} (hrun : (p.pairLink b).hbRun ≠ 0) (hsoon : p.sys.now ≤ (p.pairLink b).arrived + 52 * usec) :
    heardRun b p = (p.pairLink b).hbRun + 1 := if_neg (by omega)

/-- Fewer than eight in a row bring no link UP (R280). -/
theorem linkHeard_early {b : Bool} {p : Part} (hrun : (p.pairLink b).hbRun < 7) (hb : Heartbeat) :
    linkHeard b hb p = heardOn b hb p := by
  have hfew : ¬ 8 ≤ heardRun b p := by unfold heardRun; split <;> omega
  simp [linkHeard_eq, hfew]

/-- A link that is UP only counts on. -/
theorem linkHeard_up {b : Bool} {p : Part} (hup : (p.pairLink b).up = true) (hb : Heartbeat) : linkHeard b hb p = heardOn b hb p := by
  simp [linkHeard_eq, hup]

/-- The eighth in a row brings the link UP where its lanes work (R280). -/
theorem linkHeard_eighth {b : Bool} {p : Part} (hdown : (p.pairLink b).up = false) (hrun : (p.pairLink b).hbRun = 7)
    (hsoon : p.sys.now ≤ (p.pairLink b).arrived + 52 * usec) (htx : laneWorks p (144 + 2 * b2n b) = true)
    (hrx : laneWorks p (145 + 2 * b2n b) = true) (hb : Heartbeat) : linkHeard b hb p = linkUp b hb (heardOn b hb p) := by
  have hnext : heardRun b p = 8 := by rw [heardRun_next (by omega) hsoon, hrun]
  simp [linkHeard_eq, hdown, htx, hrx, hnext]

theorem linkRises_pair (b : Bool) (p : Part) :
    (linkRises b p).pair = { p.pair with links := p.pair.links.upd (b2n b) {} fun l => { l with up := true } } := by
  rw [linkRises, setLevel_pair, raise_pair, updPairLink_pair]

@[simp] theorem linkRises_role (b : Bool) (p : Part) : (linkRises b p).pair.role = p.pair.role := by rw [linkRises_pair]
@[simp] theorem linkRises_txn (b : Bool) (p : Part) : (linkRises b p).txn = p.txn := by
  rw [linkRises, setLevel_txn, raise_txn, updPairLink, Part.updPair_txn]

/-- What comes with a link that rises: the journal and packages for the standby of a primary, entries missed for a standby (R280,
R295). -/
theorem linkUp_eq (b : Bool) (hb : Heartbeat) (p : Part) : linkUp b hb p =
    if !anyLinkUp p && (linkRises b p).pair.role == .primary && hb.role == 2
    then replayJournal hb.jseq (resendStale (linkRises b p))
    else if (linkRises b p).pair.role = .standby ∧ hb.role = 1 then
      if (linkRises b p).txn.jseq + 4096 < hb.jseq then losesStep (linkRises b p)
      else if !anyLinkUp p then (linkRises b p).updPair fun x => { x with replayTo := hb.jseq }
      else linkRises b p
    else linkRises b p := rfl

/-- A yielding head has no journal to bring in step. -/
theorem linkUp_yielding {p : Part} (hrole : p.pair.role = .yielding) (b : Bool) (hb : Heartbeat) : linkUp b hb p = linkRises b p := by
  simp [linkUp_eq, hrole]

/-- A second link changes nothing for a standby in step with its primary. -/
theorem linkUp_second {p : Part} {hb : Heartbeat} (hother : anyLinkUp p = true) (hstep : hb.jseq ≤ p.txn.jseq) (b : Bool) :
    linkUp b hb p = linkRises b p := by
  have hnear : ¬ p.txn.jseq + 4096 < hb.jseq := by omega
  simp [linkUp_eq, hother, hnear]

@[simp] theorem heardOn_pairLink (b c : Bool) (hb : Heartbeat) (p : Part) : (heardOn b hb p).pairLink c =
    if c = b then { p.pairLink b with hbRun := heardRun b p, lastHb := hb.txTime, arrived := p.sys.now } else p.pairLink c :=
  updPairLink_pairLink ..

@[simp] theorem heardOn_offLinks (b : Bool) (hb : Heartbeat) (p : Part) : (heardOn b hb p).offLinks = p.offLinks := rfl

@[simp] theorem linkRises_offLinks (b : Bool) (p : Part) : (linkRises b p).offLinks = p.offLinks := by simp [linkRises]

@[simp] theorem linkRises_pairLink (b c : Bool) (p : Part) :
    (linkRises b p).pairLink c = if c = b then { p.pairLink b with up := true } else p.pairLink c := by simp [linkRises]

theorem setLevel_off_pend (n i : Nat) (p : Part) : (setLevel n i false p).ev.pend = p.ev.pend := rfl

theorem linkRises_sets_pend (b : Bool) (p : Part) : (linkRises b p).ev.pend.getLsbD evPairLinkUp = true := by
  rw [linkRises, setLevel_off_pend]
  exact raise_sets_pend (by decide)

/-! ### A heartbeat in -/

/-- What a heartbeat changes before its meaning for the role: the link, the partner's state and reading, the offset (R280, R289,
R292). -/
def beatNoted (b : Bool) (cfn : Nat) (hb : Heartbeat) (p : Part) : Part :=
  offsetMeasured b hb (pinsFollow ((linkHeard b hb p).updPair fun x => { x with
    partner := some hb, partnerCfn := cfn
    pinsOkSince := if !x.wireFault || !pinsAgree (linkHeard b hb p) hb then none
      else some (x.pinsOkSince.getD (linkHeard b hb p).sys.now) }))

theorem heartbeatReceived_eq (hbm : Memory) (b : Bool) (cfn : Nat) (hb : Heartbeat) (p : Part) :
    heartbeatReceived hbm b cfn hb p =
      if anyLinkUp (beatNoted b cfn hb p) then roleHeard hbm p.pair.partner cfn hb (beatNoted b cfn hb p)
      else beatNoted b cfn hb p := rfl

theorem offsetMeasured_eq (b : Bool) (hb : Heartbeat) (p : Part) : ∃ theta sum n,
    offsetMeasured b hb p = p.updPair fun x => { x with theta := theta, dfeSum := sum, dfeCount := n } := by
  unfold offsetMeasured; extract_lets lowest; split
  · exact ⟨p.pair.theta, p.pair.dfeSum, p.pair.dfeCount, rfl⟩
  · exact ⟨_, _, _, rfl⟩

theorem beatNoted_eq (b : Bool) (cfn : Nat) (hb : Heartbeat) (p : Part) : ∃ since tenure yields theta sum n,
    beatNoted b cfn hb p = (linkHeard b hb p).updPair fun x => { x with
      partner := some hb, partnerCfn := cfn, pinsOkSince := since, readTenureLow := tenure, readYieldLow := yields
      theta := theta, dfeSum := sum, dfeCount := n } := by
  obtain ⟨theta, sum, n, hoffset⟩ := offsetMeasured_eq b hb (pinsFollow ((linkHeard b hb p).updPair fun x => { x with
    partner := some hb, partnerCfn := cfn
    pinsOkSince := if !x.wireFault || !pinsAgree (linkHeard b hb p) hb then none
      else some (x.pinsOkSince.getD (linkHeard b hb p).sys.now) }))
  exact ⟨_, _, _, theta, sum, n, hoffset⟩

/-- What a heartbeat notes of its sender, and what stands of the head and its links until its meaning for the role. -/
theorem beatNoted_keeps (b : Bool) (cfn : Nat) (hb : Heartbeat) (p : Part) :
    (beatNoted b cfn hb p).pair.partner = some hb ∧ (beatNoted b cfn hb p).pair.partnerCfn = cfn ∧
      (beatNoted b cfn hb p).pair.role = (linkHeard b hb p).pair.role ∧
      (beatNoted b cfn hb p).pair.epoch = (linkHeard b hb p).pair.epoch ∧
      (beatNoted b cfn hb p).pair.tenureWait = (linkHeard b hb p).pair.tenureWait := by
  obtain ⟨_, _, _, _, _, _, hnoted⟩ := beatNoted_eq b cfn hb p
  rw [hnoted]
  exact ⟨rfl, rfl, rfl, rfl, rfl⟩

@[simp] theorem beatNoted_pairLink (b c : Bool) (cfn : Nat) (hb : Heartbeat) (p : Part) :
    (beatNoted b cfn hb p).pairLink c = (linkHeard b hb p).pairLink c := by
  obtain ⟨_, _, _, _, _, _, hnoted⟩ := beatNoted_eq b cfn hb p
  rw [hnoted]; rfl

theorem beatNoted_ev (b : Bool) (cfn : Nat) (hb : Heartbeat) (p : Part) : (beatNoted b cfn hb p).ev = (linkHeard b hb p).ev := by
  obtain ⟨_, _, _, _, _, _, hnoted⟩ := beatNoted_eq b cfn hb p
  rw [hnoted]; rfl

@[simp] theorem beatNoted_offLinks (b : Bool) (cfn : Nat) (hb : Heartbeat) (p : Part) :
    (beatNoted b cfn hb p).offLinks = (linkHeard b hb p).offLinks := by
  obtain ⟨_, _, _, _, _, _, hnoted⟩ := beatNoted_eq b cfn hb p
  rw [hnoted]; rfl

/-- With both links down a heartbeat has no meaning for the role (R280). -/
theorem heartbeatReceived_alone {b : Bool} {cfn : Nat} {hb : Heartbeat} {p : Part}
    (h : anyLinkUp (beatNoted b cfn hb p) = false) (hbm : Memory) : heartbeatReceived hbm b cfn hb p = beatNoted b cfn hb p := by
  rw [heartbeatReceived_eq, h]; rfl

theorem heartbeatReceived_linked {b : Bool} {cfn : Nat} {hb : Heartbeat} {p : Part}
    (h : anyLinkUp (beatNoted b cfn hb p) = true) (hbm : Memory) :
    heartbeatReceived hbm b cfn hb p = roleHeard hbm p.pair.partner cfn hb (beatNoted b cfn hb p) := by
  rw [heartbeatReceived_eq, if_pos h]

theorem roleHeard_yielding {p : Part} (hrole : p.pair.role = .yielding) (hbm : Memory) (before : Option Heartbeat) (cfn : Nat)
    (hb : Heartbeat) : roleHeard hbm before cfn hb p = p := by
  unfold roleHeard; rw [hrole]

/-- A standby whose primary goes on as before takes over its epoch and nothing else (R278, R290). -/
theorem roleHeard_standby {p : Part} {h0 hb : Heartbeat} (hrole : p.pair.role = .standby) (hwait : p.pair.tenureWait = none)
    (hwas : h0.role = 1) (his : hb.role = 1) (hslot : h0.tb = hb.tb) (hbm : Memory) (cfn : Nat) :
    roleHeard hbm (some h0) cfn hb p = p.updPair fun x => { x with epoch := hb.epoch } := by
  have hsame : hbSlot h0 = hbSlot hb := by unfold hbSlot; rw [hslot]
  simp [roleHeard, hrole, his, tenureHeard, hwait, followSlot, hwas, hsame]

/-! ### Commands -/

section Commands

variable {t : Nat} {s : State}

theorem exec_heartbeatReceived (halive : s.m.alive = true) (hlock : s.m.tb.rootLock = true) (b : Bool) (cfn : Nat) (hb : Heartbeat) :
    exec (.heartbeatReceived t b cfn hb) s = .next { s with m := heartbeatReceived s.hbm b cfn hb (advance t s.m) } := by
  rw [exec, execHeartbeatReceived, onPartMem, timed_alive halive, guarded_on hlock]

theorem exec_heartbeatSend (halive : s.m.alive = true) (hlock : s.m.tb.rootLock = true) (hstep : 7 ≤ s.m.sys.step)
    (hruns : s.m.sys.stopped = false) :
    exec (.heartbeatSend t) s = .next { s with m := heartbeatOut (heartbeatOut (advance t s.m) false) true } :=
  onPart_timed_guarded halive (by simp [advance_sys, hlock, hstep, hruns])

theorem exec_pairAckReceived (halive : s.m.alive = true) {b : Bool} (hup : (s.m.pairLink b).up = true) (kind seq : Nat) :
    exec (.pairAckReceived t b kind seq) s = .next { s with m := ackReceived b kind seq (advance t s.m) } :=
  onPart_timed_guarded halive hup

end Commands

/-! ### Links lost, frames sent again, waits that end -/

/-- A link that leaves UP: it counts afresh and forgets what waits for an acknowledgement (R280). -/
def wentDown (l : PairLink) : PairLink := { l with up := false, hbRun := 0, unacked := [] }

/-- A link is lost while the other is UP. -/
theorem linkLost_other {b : Bool} {p : Part} (hup : (p.pairLink b).up = true) (hother : (p.pairLink (!b)).up = true) :
    linkLost b p = raise evPairLinkLost (b2n b) 0 (updPairLink b wentDown p) := by
  have hleft : anyLinkUp (raise evPairLinkLost (b2n b) 0 (updPairLink b wentDown p)) = true :=
    anyLinkUp_of_up (b := !b) (by simp [hother])
  change ite _ _ (ite (anyLinkUp (raise evPairLinkLost (b2n b) 0 (updPairLink b wentDown p)) = true) _ _) = _
  rw [hleft, hup]
  rfl

/-- A link whose frames of a kind and number go out again at an instant, where they are due (R283). -/
def resentOn (kind seq now : Nat) (l : PairLink) : PairLink := { l with
  unacked := l.unacked.map fun f =>
    if f.kind == kind && f.seq == seq && decide (f.sentAt + 20 * usec ≤ now) then { f with sentAt := now } else f }

theorem resentOn_unacked {f : PairFrame} {l : PairLink} {now : Nat} (honly : l.unacked = [f]) (hdue : f.sentAt + 20 * usec ≤ now) :
    (resentOn f.kind f.seq now l).unacked = [{ f with sentAt := now }] := by
  simp [resentOn, honly, hdue]

/-- The one frame that waits for an acknowledgement goes out again once it is due (R283). -/
theorem pairResend_one {b : Bool} {f : PairFrame} {p : Part} (hup : (p.pairLink b).up = true) (honly : (p.pairLink b).unacked = [f])
    (hdue : f.sentAt + 20 * usec ≤ p.sys.now) :
    pairResend b f.kind f.seq p = sendPair b p.fr.cfn f.what (updPairLink b (resentOn f.kind f.seq p.sys.now) p) := by
  have hframes : ((p.pairLink b).unacked.filter fun x =>
      x.kind == f.kind && x.seq == f.seq && decide (x.sentAt + 20 * usec ≤ p.sys.now)) = [f] := by simp [honly, hdue]
  unfold pairResend; dsimp only
  rw [if_pos hup, hframes]
  rfl

/-- A link on which a frame has been acknowledged. -/
def ackedOn (kind seq : Nat) (l : PairLink) : PairLink := { l with unacked := l.unacked.filter fun f => !(f.kind == kind && f.seq == seq) }

/-- The acknowledgement of a journal entry ends its resends and nothing else (R283). -/
theorem ackReceived_journal (b : Bool) (seq : Nat) (p : Part) : ackReceived b 3 seq p = updPairLink b (ackedOn 3 seq) p := rfl

/-- The part with no mirrored command that waits for the partner. -/
def nothingWaits (p : Part) : Part := p.updPair fun x => { x with waits := [] }

/-- The acknowledgement of the one mirrored command that waits lets its reply go (R284). -/
theorem ackReceived_mirror {b : Bool} {w : MirrorWait} {p : Part} (honly : p.pair.waits = [w]) :
    ackReceived b 2 w.mseq p = configReply w.reply (nothingWaits (updPairLink b (ackedOn 2 w.mseq) p)) := by
  have hdue : ((updPairLink b (ackedOn 2 w.mseq) p).pair.waits.filter fun v => v.mseq == w.mseq) = [w] := by
    simp [updPairLink_pair, honly]
  have hnone : ((updPairLink b (ackedOn 2 w.mseq) p).updPair fun x => { x with waits := x.waits.filter fun v => v.mseq != w.mseq }) =
      nothingWaits (updPairLink b (ackedOn 2 w.mseq) p) := by
    simp [nothingWaits, Part.updPair, updPairLink, honly]
  change List.foldl _ ((updPairLink b (ackedOn 2 w.mseq) p).updPair fun x => { x with
    waits := x.waits.filter fun v => v.mseq != w.mseq }) ((updPairLink b (ackedOn 2 w.mseq) p).pair.waits.filter fun v => v.mseq == w.mseq) = _
  rw [hdue, hnone]
  rfl

/-- The mirror timeout of the one mirrored command that waits lets its reply go and finds the partner out of date (R284). -/
theorem mirrorTimesOut_one {w : MirrorWait} {p : Part} (honly : p.pair.waits = [w]) (hdue : w.deadline ≤ p.sys.now) :
    mirrorTimesOut w.mseq p = configReply w.reply (mirrorStale (nothingWaits p)) := by
  simp [mirrorTimesOut, nothingWaits, Part.updPair, honly, hdue]

end Sys2Proof.Machine

open Sys2Proof Sys2Proof.Machine

/-- Settles O53: each command changes its own link or the wait it ends, what it sends goes out under the link's next FSEQ, and only a
heartbeat on an UP link has a meaning for the role. -/
theorem pairLinks : Obligations.PairLinks := by
  unfold Obligations.PairLinks
  intro t b s hlives
  have hnow := advance_now_of_livesAt hlives
  have halive := hlives.1
  refine ⟨?sends, ?counts, ?yielding, ?second, ?lost, ?discarded, ?acked, ?resent, ?mirrored, ?timeout⟩
  case sends =>
    intro hlock hstep hruns
    refine ⟨_, heartbeatNow false (advance t s.m), heartbeatNow true (heartbeatOut (advance t s.m) false),
      exec_heartbeatSend halive hlock hstep hruns, ?_, rfl, rfl, rfl, rfl, rfl, rfl, rfl, rfl, ?_, rfl, beyondPair_of_offLinks (by simp)⟩
    · simp only [heartbeatOut_out, heartbeatOut_pairLink, List.append_assoc]
      rfl
    · cases b <;> simp
  case counts =>
    intro cfn hb hlock hlinks hrun
    have hheard : linkHeard b hb (advance t s.m) = heardOn b hb (advance t s.m) :=
      linkHeard_early (p := advance t s.m) hrun hb
    have hdown := anyLinkUp_eq_false.mp hlinks
    have halone : anyLinkUp (beatNoted b cfn hb (advance t s.m)) = false := by
      refine anyLinkUp_eq_false.mpr fun c => ?_
      rw [beatNoted_pairLink, hheard, heardOn_pairLink]
      split <;> simp [hdown]
    obtain ⟨hpartner, hcfn, hrole, -⟩ := beatNoted_keeps b cfn hb (advance t s.m)
    refine ⟨_, exec_heartbeatReceived halive hlock b cfn hb, ?_⟩
    rw [heartbeatReceived_alone halone]
    refine ⟨hpartner, hcfn, ?_, ?_, fun hmore hsoon => ?_, ?_, beyondPair_of_offLinks (by simp [hheard])⟩
    · simp [hheard, hdown]
    · simp [hheard, hlives.2]
    · have hnext : heardRun b (advance t s.m) = (s.m.pairLink b).hbRun + 1 := heardRun_next hmore (by simpa [hlives.2] using hsoon)
      simp [hheard, hnext]
    · rw [hrole, hheard]; rfl
  case yielding =>
    intro cfn hb hlock hdown hrun hsoon htx hrx hyield
    have hheard : linkHeard b hb (advance t s.m) = linkRises b (heardOn b hb (advance t s.m)) := by
      rw [linkHeard_eighth (p := advance t s.m) hdown hrun (by rw [hnow]; exact hsoon) htx hrx,
        linkUp_yielding (p := heardOn b hb (advance t s.m)) hyield]
    obtain ⟨hpartner, -, hrole, -⟩ := beatNoted_keeps b cfn hb (advance t s.m)
    rw [hheard, linkRises_pair] at hrole
    have hyields := hrole.trans hyield
    have hlinked : anyLinkUp (beatNoted b cfn hb (advance t s.m)) = true := anyLinkUp_of_up (b := b) (by simp [hheard])
    refine ⟨_, exec_heartbeatReceived halive hlock b cfn hb, ?_⟩
    rw [heartbeatReceived_linked hlinked, roleHeard_yielding hyields]
    refine ⟨by simp [hheard], hpartner, ?_, hyields, beyondPair_of_offLinks (by simp [hheard])⟩
    rw [beatNoted_ev, hheard]
    exact linkRises_sets_pend ..
  case second =>
    intro cfn hb h0 hlock hdown hrun hsoon htx hrx hother hstandby hbefore hwas hslot hwait his hjseq
    have hothers : anyLinkUp (heardOn b hb (advance t s.m)) = true := anyLinkUp_of_up (b := !b) (by simp [hother])
    have hheard : linkHeard b hb (advance t s.m) = linkRises b (heardOn b hb (advance t s.m)) := by
      rw [linkHeard_eighth (p := advance t s.m) hdown hrun (by rw [hnow]; exact hsoon) htx hrx, linkUp_second hothers hjseq]
    obtain ⟨hpartner, -, hrole, -, hwaits⟩ := beatNoted_keeps b cfn hb (advance t s.m)
    rw [hheard, linkRises_pair] at hrole hwaits
    have hlinked : anyLinkUp (beatNoted b cfn hb (advance t s.m)) = true := anyLinkUp_of_up (b := b) (by simp [hheard])
    refine ⟨_, exec_heartbeatReceived halive hlock b cfn hb, ?_⟩
    rw [heartbeatReceived_linked hlinked, advance_pair, hbefore,
      roleHeard_standby (hrole.trans hstandby) (hwaits.trans hwait) hwas his hslot]
    refine ⟨?_, hpartner, ?_, hrole.trans hstandby, rfl, beyondPair_of_offLinks (by simp [hheard])⟩
    · change ((beatNoted b cfn hb (advance t s.m)).pairLink b).up = true
      simp [hheard]
    · rw [Part.updPair_ev, beatNoted_ev, hheard]
      exact linkRises_sets_pend ..
  case lost =>
    intro hup hother
    refine ⟨_, onPart_timed halive, ?_⟩
    rw [linkLost_other (p := advance t s.m) hup hother]
    exact ⟨by simp [wentDown], by simp [wentDown], by simp, raise_sets_pend (by decide), by simp [updPairLink], by simp [updPairLink],
      beyondPair_of_offLinks (by simp)⟩
  case discarded =>
    exact ⟨_, onPart_timed halive, count_counter .., rfl, rfl, beyondPair_of_offLinks rfl⟩
  case acked =>
    intro seq hup
    refine ⟨_, exec_pairAckReceived halive hup 3 seq, ?_⟩
    rw [ackReceived_journal]
    exact ⟨by simp [ackedOn], by simp, rfl, rfl, beyondPair_of_offLinks rfl⟩
  case resent =>
    intro f hup honly hdue
    refine ⟨_, onPart_timed halive, ?_⟩
    rw [pairResend_one (p := advance t s.m) hup honly (by rw [hnow]; exact hdue)]
    rw [hnow]
    have hagain : (resentOn f.kind f.seq t (s.m.pairLink b)).unacked = _ := resentOn_unacked honly hdue
    refine ⟨?_, by simp [hagain], rfl, rfl, beyondPair_of_offLinks rfl⟩
    rw [sendPair_out, updPairLink_pairLink, if_pos rfl]
    rfl
  case mirrored =>
    intro w hup honly hjoin hasks hbar
    refine ⟨_, exec_pairAckReceived halive hup 2 w.mseq, ?_⟩
    rw [ackReceived_mirror (p := advance t s.m) honly, configReply_queued ?_ hasks hbar]
    · exact ⟨rfl, rfl, rfl, beyondPair_of_offLinks rfl⟩
    · exact hjoin
  case timeout =>
    intro w honly hdue hjoin hasks hbar
    obtain ⟨raised, hstale⟩ := mirrorStale_pair (nothingWaits (advance t s.m))
    refine ⟨_, onPart_timed halive, ?_⟩
    rw [mirrorTimesOut_one (p := advance t s.m) honly (by rw [hnow]; exact hdue),
      configReply_queued (by rw [hstale]; exact hjoin) hasks hbar]
    dsimp only
    rw [Part.updHost_pair, hstale, Part.updHost_host, mirrorStale_host]
    exact ⟨rfl, rfl, rfl, rfl, beyondPair_of_offLinks (by rw [updHost_offLinks, mirrorStale_offLinks]; rfl)⟩

end

section
/-! The shadow check: checksums and verdicts that wait, and mismatches that are settled (R291, Table 11.8). -/

namespace Sys2Proof.Machine

open Sys2Proof

/-- Without its own checksum a head compares nothing. -/
theorem compareBand_unsummed {cfn band : Nat} {p : Part} (h : ownSum p cfn band = none) : compareBand cfn band p = p := by
  unfold compareBand; rw [h]

/-- The partner's checksum of a band waits for this head's own. -/
theorem bandsumReceived_waits {cfn band : Nat} {p : Part} (h : ownSum p cfn band = none) (sum : Option DWord) :
    bandsumReceived cfn band [sum] p = p.updPair fun x => { x with
      peerSums := (x.peerSums.filter fun y => !(y.1 == cfn && y.2.1 == band)) ++ [(cfn, band, sum)] } :=
  compareBand_unsummed h

/-- A verdict without a mismatch here waits for this head's own. -/
theorem verdictReceived_waits {cfn band : Nat} {p : Part} (h : (p.pair.shadows.any fun x => x.cfn == cfn && x.band == band) = false)
    (result : Nat) : verdictReceived cfn band result p = p.updPair fun x => { x with
      verdicts := (x.verdicts.filter fun v => decide (p.fr.cfn ≤ v.1 + 2) && !(v.1 == cfn && v.2.1 == band)) ++
        [(cfn, band, result)] } := by
  rw [verdictReceived, h]; rfl

/-- The part once the mismatch of a band is no longer open. -/
def mismatchClosed (cfn band : Nat) (p : Part) : Part := p.updPair fun y => { y with
  shadows := y.shadows.filter fun z => !(z.cfn == cfn && z.band == band)
  verdicts := y.verdicts.filter fun z => !(z.1 == cfn && z.2.1 == band) }

theorem shadowEnds_one {x : Shadow} {p : Part} (honly : p.pair.shadows = [x]) (theirs : Nat) :
    shadowEnds x.cfn x.band theirs p = shadowOutcome x.band x.own theirs (mismatchClosed x.cfn x.band p) := by
  simp [shadowEnds, honly, mismatchClosed]

theorem verdictReceived_one {x : Shadow} {p : Part} (honly : p.pair.shadows = [x]) (result : Nat) :
    verdictReceived x.cfn x.band result p = shadowOutcome x.band x.own result (mismatchClosed x.cfn x.band p) := by
  rw [← shadowEnds_one honly]
  simp [verdictReceived, honly]

theorem mismatchClosed_shadows {x : Shadow} {p : Part} (honly : p.pair.shadows = [x]) :
    (mismatchClosed x.cfn x.band p).pair.shadows = [] := by simp [mismatchClosed, honly]

/-- No verdict of the partner, and none of its own that blames this head: unresolved (Table 11.8). -/
theorem shadowOutcome_unjudged {own : Nat} (h : own ≠ 1) (band : Nat) (p : Part) :
    shadowOutcome band own 2 p = count blkPair 2 3 p := by
  simp [shadowOutcome, h]

end Sys2Proof.Machine

open Sys2Proof Sys2Proof.Machine

/-- Settles O55: what comes before this head's own result is kept for it, and what settles a mismatch closes it and counts. -/
theorem shadowCheck : Obligations.ShadowCheck := by
  unfold Obligations.ShadowCheck
  intro t cfn band s hlives
  have halive := hlives.1
  refine ⟨?sum, ?waits, ?agrees, ?unjudged⟩
  case sum =>
    intro sum hlinks hnear hown
    refine ⟨_, onPart_timed_guarded halive (Bool.and_eq_true_iff.mpr ⟨hlinks, decide_eq_true hnear⟩), ?_⟩
    rw [bandsumReceived_waits (p := advance t s.m) hown]
    exact ⟨by simp, rfl, rfl, beyondPair_of_offLinks rfl⟩
  case waits =>
    intro result hlinks hnone
    refine ⟨_, onPart_timed_guarded halive hlinks, ?_⟩
    rw [verdictReceived_waits (p := advance t s.m) hnone]
    exact ⟨by simp, rfl, rfl, beyondPair_of_offLinks rfl⟩
  case agrees =>
    rintro x hlinks honly rfl rfl hown
    refine ⟨_, onPart_timed_guarded halive hlinks, ?_⟩
    rw [verdictReceived_one (p := advance t s.m) honly, hown]
    exact ⟨mismatchClosed_shadows (p := advance t s.m) honly, count_counter .., rfl, beyondPair_of_offLinks rfl⟩
  case unjudged =>
    rintro x honly rfl rfl hown hdue
    refine ⟨_, onPart_timed_guarded halive (by simp [honly, hdue, hlives.2]), ?_⟩
    rw [shadowEnds_one (p := advance t s.m) honly, shadowOutcome_unjudged hown]
    exact ⟨mismatchClosed_shadows (p := advance t s.m) honly, count_counter .., rfl, beyondPair_of_offLinks rfl⟩

end

section
/-! The primary role taken: what taking it makes of the pair, and what it leaves (R277, R278, R292, R294, Table 11.9). -/

namespace Sys2Proof.Machine

open Sys2Proof

/-! ### What the parts of a change of role leave -/

/-- The part without its reports, the host's side, the raster, the Kralys link and the timebase. -/
def Part.offRole (p : Part) : Part := { p.rest with host := {}, fr := {}, kl := {}, tb := {} }

theorem Part.offRole_of_rest {p q : Part} (h : p.rest = q.rest) : p.offRole = q.offRole :=
  congrArg (fun r : Part => { r with host := {}, fr := {}, kl := {}, tb := {} }) h

/-- What a change of role leaves, and what it makes of time and the pair, group by group. -/
theorem Part.groups_of_offRole {p q : Part} (h : p.offRole = q.offRole) :
    p.sys = q.sys ∧ p.txn = q.txn ∧ p.cfg = q.cfg ∧ p.inp = q.inp ∧ p.pair = q.pair ∧ p.hrt = q.hrt ∧ p.fab = q.fab := by
  simp only [Part.offRole, Part.rest, Part.mk.injEq] at h
  tauto

@[simp] theorem raise_offRole (n i a : Nat) (p : Part) : (raise n i a p).offRole = p.offRole := Part.offRole_of_rest (raise_rest ..)

@[simp] theorem setMarks_offRole (ok : Nat → Nat → TileEntry → Bool) (p : Part) : (setMarks ok p).offRole = p.offRole := by
  unfold setMarks; exact foldl_keeps Part.offRole (by intros; rfl) ..

@[simp] theorem setMarks_ev (ok : Nat → Nat → TileEntry → Bool) (p : Part) : (setMarks ok p).ev = p.ev := by
  unfold setMarks; exact foldl_keeps Part.ev (by intros; rfl) ..

@[simp] theorem sendReply_offRole (r : Reply) (p : Part) : (sendReply r p).offRole = p.offRole := by
  unfold sendReply; dsimp only; split
  · rfl
  · split <;> rfl

@[simp] theorem sendReply_ev (r : Reply) (p : Part) : (sendReply r p).ev = p.ev := by
  unfold sendReply; dsimp only; split
  · rfl
  · split <;> rfl

@[simp] theorem sendHeld_offRole (p : Part) : (sendHeld p).offRole = p.offRole := by
  unfold sendHeld; exact foldl_keeps Part.offRole (by simp) ..

@[simp] theorem sendHeld_ev (p : Part) : (sendHeld p).ev = p.ev := by
  unfold sendHeld; exact foldl_keeps Part.ev (by simp) ..

@[simp] theorem startRaster_offRole (n : Nat) (p : Part) : (startRaster n p).offRole = p.offRole := rfl
@[simp] theorem startRaster_ev (n : Nat) (p : Part) : (startRaster n p).ev = p.ev := rfl

@[simp] theorem checkClamp_offRole (k : Nat) (p : Part) : (checkClamp k p).offRole = p.offRole := by
  unfold checkClamp; split
  · exact raise_offRole ..
  · rfl

@[simp] theorem takeSlot_offRole (k : Nat) (p : Part) : (takeSlot k p).offRole = p.offRole := by
  unfold takeSlot; extract_lets p1 p2 p3
  have hclamp : p3.offRole = p.offRole := checkClamp_offRole k p2
  split
  · rw [raise_offRole, hclamp]
  · exact hclamp

@[simp] theorem reselect_offRole (p : Part) : (reselect p).offRole = p.offRole := by
  obtain h | ⟨k, h⟩ := reselect_cases p <;> simp [h]

theorem checkClamp_keeps_pend {n : Nat} (hn : n < 384) (k : Nat) {p : Part} (h : p.ev.pend.getLsbD n = true) :
    (checkClamp k p).ev.pend.getLsbD n = true := by
  unfold checkClamp; split
  · exact raise_keeps_pend hn h
  · exact h

theorem takeSlot_keeps_pend {n : Nat} (hn : n < 384) (k : Nat) {p : Part} (h : p.ev.pend.getLsbD n = true) :
    (takeSlot k p).ev.pend.getLsbD n = true := by
  unfold takeSlot; extract_lets p1 p2 p3
  have hclamp : p3.ev.pend.getLsbD n = true := checkClamp_keeps_pend hn k h
  split
  · exact raise_keeps_pend hn hclamp
  · exact hclamp

theorem reselect_keeps_pend {n : Nat} (hn : n < 384) {p : Part} (h : p.ev.pend.getLsbD n = true) :
    (reselect p).ev.pend.getLsbD n = true := by
  obtain heq | ⟨k, heq⟩ := reselect_cases p
  · rwa [heq]
  · rw [heq]; exact takeSlot_keeps_pend hn k h

/-! ### The primary role -/

/-- The pair of a head that has taken the primary role with the last epoch known plus 1 (R278, R292). -/
def takenOver (split : Bool) (x : Pair) : Pair := { x with
  role := .primary, epoch := x.epoch + 1, driveTenure := true, readTenureLow := true, split := split
  tenureWait := none, joining := false, joinCfg := false, joinGot := [], joinSent := false
  synced := false, switchAt := none, undo := none }

theorem becomePrimary_eq (split : Bool) (p : Part) : becomePrimary split p = reselect (sendHeld (setMarks (fun _ _ _ => true)
    (if p.fr.started then raise evPairSwitchover 0 0 (p.updPair (takenOver split))
      else startRaster 0 (raise evPairSwitchover 0 0 (p.updPair (takenOver split)))))) := rfl

/-- The role is taken in the pair; besides it only reports, replies, the raster, marks and the timebase move. -/
theorem becomePrimary_offRole (split : Bool) (p : Part) :
    (becomePrimary split p).offRole = (p.updPair (takenOver split)).offRole := by
  rw [becomePrimary_eq, reselect_offRole, sendHeld_offRole, setMarks_offRole]
  split
  · rw [raise_offRole]
  · rw [startRaster_offRole, raise_offRole]

theorem becomePrimary_pair (split : Bool) (p : Part) : (becomePrimary split p).pair = takenOver split p.pair := by
  obtain ⟨-, -, -, -, hpair, -⟩ := Part.groups_of_offRole (becomePrimary_offRole split p)
  rw [hpair, Part.updPair_pair]

theorem becomePrimary_sys (split : Bool) (p : Part) : (becomePrimary split p).sys = p.sys := by
  obtain ⟨hsys, -⟩ := Part.groups_of_offRole (becomePrimary_offRole split p)
  rw [hsys, Part.updPair_sys]

theorem becomePrimary_sets_pend (split : Bool) (p : Part) : (becomePrimary split p).ev.pend.getLsbD evPairSwitchover = true := by
  rw [becomePrimary_eq]
  apply reselect_keeps_pend (by decide)
  rw [sendHeld_ev, setMarks_ev]
  split
  · exact raise_sets_pend (by decide)
  · rw [startRaster_ev]; exact raise_sets_pend (by decide)

/-- A head that is ready only changes its role (R292). -/
theorem takesRole_ready {p : Part} (h : p.sys.ready = true) (split : Bool) : takesRole split p = becomePrimary split p := by
  rw [takesRole, becomeReady, becomePrimary_sys, if_pos h]

/-- The role taken on a part that differs from the state's only in its time, its reports, the host's side and the pair. -/
theorem tookRole_becomePrimary {s : State} {p : Part} (hoff : p.offLinks = s.m.offLinks) (hepoch : p.pair.epoch = s.m.pair.epoch)
    (split : Bool) : tookRole s { s with m := becomePrimary split p } := by
  obtain ⟨hcfg, hinp, -, -, -, -, -, -, -, htxn, hhrt, hfab, -⟩ := beyondPair_of_offLinks hoff
  obtain ⟨-, htxn', hcfg', hinp', hpair, hhrt', hfab'⟩ := Part.groups_of_offRole (becomePrimary_offRole split p)
  exact ⟨by rw [hpair]; rfl, by rw [hpair]; rfl, by rw [hpair, ← hepoch]; rfl, becomePrimary_sets_pend .., hcfg'.trans hcfg,
    htxn'.trans htxn, hhrt'.trans hhrt, hfab'.trans hfab, hinp'.trans hinp, rfl, rfl, rfl⟩

theorem tookRole_takesRole {s : State} {p : Part} (hready : p.sys.ready = true) (hoff : p.offLinks = s.m.offLinks)
    (hepoch : p.pair.epoch = s.m.pair.epoch) (split : Bool) : tookRole s { s with m := takesRole split p } := by
  rw [takesRole_ready hready]
  exact tookRole_becomePrimary hoff hepoch split

/-- A role taken stands through a report. -/
theorem tookRole_raise {s : State} {q : Part} (h : tookRole s { s with m := q }) (n i a : Nat) :
    tookRole s { s with m := raise n i a q } := by
  obtain ⟨hrole, htenure, hepoch, hpend, hcfg, htxn, hhrt, hfab, hinp, -⟩ := h
  refine ⟨?_, ?_, ?_, raise_keeps_pend (by decide) hpend, ?_, ?_, ?_, ?_, ?_, rfl, rfl, rfl⟩ <;> simpa

theorem roleHeard_yields {p : Part} {hb : Heartbeat} (hrole : p.pair.role = .standby) (hyields : hb.role = 4) (hbm : Memory)
    (before : Option Heartbeat) (cfn : Nat) : roleHeard hbm before cfn hb p = becomePrimary false p := by
  simp [roleHeard, hrole, hyields]

theorem mayTake_standby {p : Part} (h : p.pair.role = .standby) : mayTake p = true := by simp [mayTake, h]

/-! ### The pair's pins -/

theorem yieldLow_standby {p : Part} (hrole : p.pair.role = .standby) (hyield : p.pair.driveYield = false) :
    yieldLow p = takesRole false (p.updPair fun x => { x with readYieldLow := true }) := by
  simp [yieldLow, mayTake, hrole, hyield]

theorem yieldLow_primary {p : Part} (hrole : p.pair.role = .primary) :
    yieldLow p = p.updPair fun x => { x with readYieldLow := true } := by
  simp [yieldLow, mayTake, hrole]

theorem tenureHigh_alone {p : Part} (hrole : p.pair.role = .standby) (htenure : p.pair.driveTenure = false)
    (halone : anyLinkUp p = false) (hwire : p.pair.wireFault = false) :
    tenureHigh p = takesRole false (p.updPair fun x => { x with readTenureLow := false }) := by
  simp [tenureHigh, mayTake, hrole, htenure, halone, hwire]

/-- With a link UP the head waits 12 µs for a heartbeat first (Table 11.9). -/
theorem tenureHigh_linked {p : Part} (hrole : p.pair.role = .standby) (htenure : p.pair.driveTenure = false)
    (hlinked : anyLinkUp p = true) (hwait : p.pair.tenureWait = none) : tenureHigh p = p.updPair fun x => { x with
      readTenureLow := false, tenureWait := some (p.sys.now + 12 * usec) } := by
  simp [tenureHigh, mayTake, hrole, htenure, hlinked, Part.updPair, hwait]

end Sys2Proof.Machine

open Sys2Proof Sys2Proof.Machine

/-- Settles O56: each way to the role comes down to the same taking of it, on a part whose pair has noted what happened. -/
theorem switchover : Obligations.Switchover := by
  unfold Obligations.Switchover
  intro t s hlives hready
  have hnow := advance_now_of_livesAt hlives
  have halive := hlives.1
  refine ⟨?yieldLow, ?ownPins, ?tenureHigh, ?linked, ?waited, ?yields, ?claims, ?wire⟩
  case yieldLow =>
    intro hrole hyield
    refine ⟨_, onPart_timed halive, ?_⟩
    rw [yieldLow_standby (p := advance t s.m) hrole hyield]
    exact tookRole_takesRole (by exact hready) (by simp) (by simp) _
  case ownPins =>
    intro hrole
    refine ⟨_, onPart_timed halive, ?_⟩
    rw [yieldLow_primary (p := advance t s.m) hrole]
    exact ⟨rfl, rfl, beyondPair_of_offLinks rfl⟩
  case tenureHigh =>
    intro hrole htenure halone hwire
    refine ⟨_, onPart_timed halive, ?_⟩
    rw [tenureHigh_alone (p := advance t s.m) hrole htenure halone hwire]
    exact tookRole_takesRole (by exact hready) (by simp) (by simp) _
  case linked =>
    intro hrole htenure hlinked hwait
    refine ⟨_, onPart_timed halive, ?_⟩
    rw [tenureHigh_linked (p := advance t s.m) hrole htenure hlinked hwait, hnow]
    exact ⟨rfl, rfl, beyondPair_of_offLinks rfl⟩
  case waited =>
    intro d hrole hwait hdue
    refine ⟨_, onPart_timed_guarded halive ?_, tookRole_takesRole (by exact hready) (by simp) (by simp) _, ?_⟩
    · simp [mayTake_standby (p := advance t s.m) hrole, hwait, hdue, hlives.2]
    · rw [takesRole_ready (p := advance t s.m) hready, becomePrimary_pair]
      rfl
  case yields =>
    intro b cfn hb hlock hrole hup hyields
    have hheard : linkHeard b hb (advance t s.m) = heardOn b hb (advance t s.m) :=
      linkHeard_up (p := advance t s.m) hup hb
    obtain ⟨hpartner, -, hroleNoted, hepoch, -⟩ := beatNoted_keeps b cfn hb (advance t s.m)
    rw [hheard] at hroleNoted hepoch
    have hlinked : anyLinkUp (beatNoted b cfn hb (advance t s.m)) = true := anyLinkUp_of_up (b := b) (by simp [hheard, hup])
    refine ⟨_, exec_heartbeatReceived halive hlock b cfn hb, ?_⟩
    rw [heartbeatReceived_linked hlinked, roleHeard_yields (hroleNoted.trans hrole) hyields]
    refine ⟨tookRole_becomePrimary (by simp [hheard]) hepoch _, ?_⟩
    dsimp only
    rw [becomePrimary_pair]
    exact hpartner
  case claims =>
    intro hclaim
    have htook : tookRole s { s with m := becomePrimary true (advance t s.m) } := tookRole_becomePrimary (by simp) (by simp) _
    refine ⟨_, onPart_timed_guarded halive hclaim, tookRole_raise htook _ _ _, ?_, raise_sets_pend (by decide)⟩
    dsimp only
    rw [raise_pair, becomePrimary_pair]
    rfl
  case wire =>
    intro x hfault hok hdue
    exact ⟨_, onPart_timed_guarded halive (by simp [hfault, hok, hdue, hlives.2]), rfl, rfl, beyondPair_of_offLinks rfl⟩

end

section
/-! Step 8 of kindling: the head waits for a heartbeat, or becomes PRIMARY with its boot configuration sealed (R264, R277, R406,
R412). -/

namespace Sys2Proof.Machine

open Sys2Proof

/-! ### The office of a head -/

/-- What the role makes of the pair: role, epoch, and the drive of PAIR_TENURE. -/
def Part.office (p : Part) : Role × Half × Bool := (p.pair.role, p.pair.epoch, p.pair.driveTenure)

theorem Part.office_of_pair {p q : Part} (h : p.pair = q.pair) : p.office = q.office := by unfold Part.office; rw [h]

@[simp] theorem updSys_office (p : Part) (g : Sys → Sys) : (p.updSys g).office = p.office := rfl
@[simp] theorem raise_office (n i a : Nat) (p : Part) : (raise n i a p).office = p.office := Part.office_of_pair (raise_pair ..)
@[simp] theorem report_office (b i c v k a : Nat) (p : Part) : (report b i c v k a p).office = p.office :=
  Part.office_of_pair (report_pair ..)

@[simp] theorem sendAcked_office (k n : Nat) (x : PairBody) (p : Part) : (sendAcked k n x p).office = p.office := by
  unfold sendAcked; exact foldl_keeps Part.office (by intros; rfl) ..

@[simp] theorem writeJournal_office (n : Nat) (txn : Half) (tag : Word) (b : JournalBody) (p : Part) :
    (writeJournal n txn tag b p).office = p.office := by
  unfold writeJournal; split
  · rw [sendAcked_office, Part.office, Part.updTxn_pair, Part.office]
  · rfl

@[simp] theorem finalReply_office (tag : Word) (st : Nat) (params : List Byte) (p : Part) :
    (finalReply tag st params p).office = p.office := Part.office_of_pair (finalReply_keeps ..).2

@[simp] theorem withdrawCommit_office (f : Nat) (p : Part) (x : Commit) : (withdrawCommit f p x).office = p.office := by
  unfold withdrawCommit; dsimp only; split
  · exact writeJournal_office ..
  · split
    · exact (finalReply_office ..).trans (writeJournal_office ..)
    · exact writeJournal_office ..

theorem queueCtrl_pair (f : Nat) (c : Ctrl) (p : Part) : (queueCtrl f c p).pair = p.pair := by
  unfold queueCtrl updLane; split
  · exact raise_pair ..
  · rfl

theorem sendPowerSteps_pair (apply f : Nat) (old new : Tab TileEntry) (p : Part) :
    (sendPowerSteps apply f old new p).pair = p.pair := by
  unfold sendPowerSteps; split
  · rfl
  · refine foldl_keeps Part.pair (fun q e => ?_) ..
    split
    · split
      · exact queueCtrl_pair ..
      · rfl
    · rfl

@[simp] theorem addCommit_office (x : Commit) (p : Part) : (addCommit x p).office = p.office :=
  Part.office_of_pair (foldl_keeps Part.pair (fun _ _ => sendPowerSteps_pair ..) ..)

@[simp] theorem sealCommit_office (z : Sealing) (p : Part) : (sealCommit z p).office = p.office := by
  unfold sealCommit
  simp only [addCommit_office, writeJournal_office]
  exact foldl_keeps Part.office (withdrawCommit_office _) ..

/-! ### The boot configuration sealed -/

/-- The waiting commands of the boot configuration are sealed, or refused as one, or there are none (R412). -/
theorem sealBoot_cases (p : Part) : ∃ q, q = p.updSys (fun y => { y with bootCmds := [] }) ∧
    (sealBoot p = q ∨ sealBoot p = report blkKiln 0 0x8000 1 0 0 q ∨ ∃ z, sealBoot p = sealCommit z q) := by
  refine ⟨_, rfl, ?_⟩
  unfold sealBoot
  dsimp only
  split
  · exact .inl rfl
  · split
    · exact .inr (.inl rfl)
    · exact .inr (.inr ⟨_, rfl⟩)

@[simp] theorem sealBoot_office (p : Part) : (sealBoot p).office = p.office := by
  obtain ⟨q, rfl, h | h | ⟨z, h⟩⟩ := sealBoot_cases p
  · rw [h, updSys_office]
  · rw [h, report_office, updSys_office]
  · rw [h, sealCommit_office, updSys_office]

@[simp] theorem sealBoot_fr (p : Part) : (sealBoot p).fr = p.fr := by
  obtain ⟨q, rfl, h | h | ⟨z, h⟩⟩ := sealBoot_cases p
  · rw [h, Part.updSys_fr]
  · rw [h, report_fr, Part.updSys_fr]
  · obtain ⟨-, -, -, -, hfr, -⟩ := Part.groups_of_offAnswer (sealCommit_offAnswer z (p.updSys fun y => { y with bootCmds := [] }))
    rw [h, hfr, Part.updSys_fr]

/-! ### The role at READY -/

theorem becomeReady_ready (p : Part) : (becomeReady p).sys.ready = true := by
  unfold becomeReady; split
  · assumption
  · simp only [raise_sys, Part.updSys_sys]

theorem becomeReady_office (p : Part) : (becomeReady p).office = p.office := by
  unfold becomeReady; split
  · rfl
  · rw [raise_office, updSys_office]

@[simp] theorem setMarks_office (ok : Nat → Nat → TileEntry → Bool) (p : Part) : (setMarks ok p).office = p.office := by
  unfold setMarks; exact foldl_keeps Part.office (by intros; rfl) ..

/-- PRIMARY at READY with the newest epoch that a tile shows plus 1 (R277). -/
theorem primaryAtReady_office (p : Part) : (primaryAtReady p).office = (.primary, firstEpoch p, true) := by
  unfold primaryAtReady
  dsimp only
  rw [becomeReady_office, setMarks_office, sealBoot_office]
  rfl

/-- Its raster starts at CFN 0 (R19, R277). -/
theorem primaryAtReady_raster (p : Part) : (primaryAtReady p).fr.started = true ∧ (primaryAtReady p).fr.cfn = 0 ∧
    (primaryAtReady p).fr.first = true := by
  unfold primaryAtReady
  simp [startRaster]

/-- With no partner heard and PAIR_TENURE high the head becomes PRIMARY once the join wait has ended (Table 11.3). -/
theorem joinDecide_primary {p : Part} (hopen : roleOpen p = true) (halone : anyLinkUp p = false)
    (htenure : p.pair.readTenureLow = false) : joinDecide true p = primaryAtReady p := by
  simp [joinDecide, hopen, halone, htenure]

/-- With both links down the head waits for the join wait to end. -/
theorem joinDecide_waits {p : Part} (halone : anyLinkUp p = false) : joinDecide false p = p := by
  simp [joinDecide, halone]

/-- The Kiln's look at the band table changes nothing else of the part (R254). -/
theorem bandsFollow_eq (p : Part) : ∃ new plan table, bandsFollow p = p.updTb fun t => { t with
    bandNew := new, planW := plan, bandTable := table } := by
  unfold bandsFollow
  dsimp only
  split
  · exact ⟨p.tb.bandNew, p.tb.planW, p.tb.bandTable, rfl⟩
  · split
    · exact ⟨_, _, _, rfl⟩
    · split
      · exact ⟨_, _, _, rfl⟩
      · exact ⟨_, p.tb.planW, p.tb.bandTable, rfl⟩

theorem exec_referenceWaitExpiry {t : Nat} {s : State} (hkin : kindles 7 s) (hdue : s.m.sys.stepAt + s.m.cfg.tb.refWait * sec ≤ t) :
    exec (.referenceWaitExpiry t) s = .next { s with m := roleStep (advance t s.m) } := by
  obtain ⟨halive, hruns, hready, hstep⟩ := hkin
  exact onPart_timed_guarded halive (by simp [waitEnds, advance_sys, hruns, hready, hstep, hdue])

theorem exec_joinWaitExpiry {t : Nat} {s : State} (hkin : kindles 8 s) (hrole : s.m.pair.role = .kindling)
    (hdue : s.m.sys.stepAt + s.m.pair.cfg.joinWaitMs * msec ≤ t) :
    roleOpen (advance t s.m) = true ∧ exec (.joinWaitExpiry t) s = .next { s with m := joinDecide true (advance t s.m) } := by
  obtain ⟨halive, hruns, hready, hstep⟩ := hkin
  have hopen : roleOpen (advance t s.m) = true := by simp [roleOpen, advance_sys, hruns, hready, hstep, hrole]
  exact ⟨hopen, onPart_timed_guarded halive (by simp [hopen, advance_sys, hdue])⟩

end Sys2Proof.Machine

open Sys2Proof Sys2Proof.Machine

/-- Settles O11: step 8 starts with the role still open, and the end of the join wait gives a head alone the primary role, which
the seal of its boot configuration leaves to it. -/
theorem roleAtReady : Obligations.RoleAtReady := by
  unfold Obligations.RoleAtReady
  refine ⟨fun t s hkin halone hdue => ?waits, fun t s hkin hrole halone htenure hdue => ?primary⟩
  case waits =>
    have ⟨_, _, hready, _⟩ := hkin
    obtain ⟨new, plan, table, hbands⟩ := bandsFollow_eq (advance t s.m)
    have hstays : roleStep (advance t s.m) = enterStep 8 (bandsFollow (advance t s.m)) :=
      joinDecide_waits ((anyLinkUp_of_pair (by rw [hbands]; rfl)).trans halone)
    refine ⟨_, exec_referenceWaitExpiry hkin hdue, ?_⟩
    rw [hstays, hbands]
    exact ⟨rfl, rfl, hready, rfl, rfl, rfl, rfl, rfl, rfl, rfl⟩
  case primary =>
    obtain ⟨hopen, hexec⟩ := exec_joinWaitExpiry hkin hrole hdue
    have hoffice := primaryAtReady_office (advance t s.m)
    simp only [Part.office, Prod.mk.injEq] at hoffice
    obtain ⟨hprimary, hepoch, hdrives⟩ := hoffice
    obtain ⟨hstarted, hcfn, hfirst⟩ := primaryAtReady_raster (advance t s.m)
    refine ⟨_, hexec, ?_⟩
    rw [joinDecide_primary hopen halone htenure]
    exact ⟨hprimary, hdrives, hepoch, becomeReady_ready _, hstarted, hcfn, hfirst, rfl, rfl⟩

end

section
/-! Refused commands: how far each comes in the order of Table 13.2, and that its reply is all it leaves (R285, R332, R341, R344). -/

namespace Sys2Proof.Machine

open Sys2Proof

/-- A host command that arrives whole over BAR0 with a valid header on a ready head whose Kiln runs, with nothing waiting for a reply
to leave. -/
abbrev arrivesWhole (t : Nat) (k : CmdPkt) (s : State) : Prop :=
  livesAt t s ∧ s.m.sys.ready = true ∧ s.m.sys.step = 8 ∧ s.m.sys.stopped = false ∧ s.m.hrt.kilnReset = false ∧
  s.m.sys.strapHost = true ∧ k.uart = false ∧ lengthOk k = true ∧ headerOk k = true ∧ s.m.hrt.pendingTrial = none ∧
  s.m.host.newBaud = none

/-! ### What a reply leaves -/

/-- The part without its time, its reports, its performance counters and the host's side. -/
def Part.offHost (p : Part) : Part := { p.quiet with sys := {}, maint := {}, host := {} }

theorem datapathKept_of_offHost {s : State} {q : Part} (h : q.offHost = s.m.offHost) : datapathKept s { s with m := q } := by
  simp only [Part.offHost, Part.quiet, Part.rest, Part.mk.injEq] at h
  unfold datapathKept
  tauto

/-- No reply has gone out yet, and nothing but the host's side has moved. -/
abbrev unreplied (s : State) (p : Part) : Prop :=
  p.host.replyQueue = s.m.host.replyQueue ∧ p.host.newBaud = s.m.host.newBaud ∧ p.offHost = s.m.offHost

theorem commandAt_unreplied (op t : Nat) (k : CmdPkt) (s : State) : unreplied s (commandAt op t k s) := by
  have htaken := commandAt_taken op t k s
  exact ⟨(congrArg (fun p : Part => p.host.replyQueue) htaken :), (congrArg (fun p : Part => p.host.newBaud) htaken :),
    (congrArg (fun p : Part => { p with sys := {}, maint := {}, host := {} }) htaken :)⟩

theorem recordTag_unreplied {s : State} {p : Part} (h : unreplied s p) (e : TagEntry) : unreplied s (recordTag e p) := by
  unfold recordTag; split <;> exact h

/-- The part with one more reply queued. -/
def replied (r : Reply) (p : Part) : Part := p.updHost fun h => { h with replyQueue := h.replyQueue ++ [r] }

/-- A reply in the queue is all that a refused command leaves. -/
theorem replied_kept {s : State} {p : Part} (h : unreplied s p) (hbaud : s.m.host.newBaud = none)
    (htrial : s.m.hrt.pendingTrial = none) (r : Reply) : repliesGone (replied r p) = replied r p ∧
      (replied r p).host.replyQueue = s.m.host.replyQueue ++ [r] ∧ datapathKept s { s with m := replied r p } := by
  obtain ⟨hqueue, hbaud', hoff⟩ := h
  have hhrt : p.hrt = s.m.hrt := (congrArg Part.hrt hoff :)
  refine ⟨repliesGone_idle (hbaud'.trans hbaud) ((congrArg Hearth.pendingTrial hhrt).trans htrial), ?_, datapathKept_of_offHost hoff⟩
  rw [replied, Part.updHost_host, hqueue]

/-- A status that R333 does not suppress. -/
abbrev neverSuppressed (st : Nat) : Prop :=
  ((BitVec.ofNat 16 st).toNat == stOk || (BitVec.ofNat 16 st).toNat == stPending || (BitVec.ofNat 16 st).toNat == stDegradedOk) = false

theorem sendReply_refusal {op st : Nat} {k : CmdPkt} (hbar : k.uart = false) (hst : neverSuppressed st) (params : List Byte) (p : Part) :
    sendReply (replyOf op k st params) p = replied (replyOf op k st params) p := by
  simp only [sendReply, replyOf, hst, hbar, Bool.and_false, Bool.false_and, Bool.false_eq_true, if_false]
  rfl

theorem bareReply_refusal {op st : Nat} {k : CmdPkt} (hbar : k.uart = false) (hst : neverSuppressed st) (params : List Byte) (p : Part) :
    bareReply op k st params p = replied (replyOf op k st params) p := sendReply_refusal hbar hst params p

theorem bareReply_asked {op : Nat} {k : CmdPkt} (hbar : k.uart = false) (hasks : k.flags.getLsbD 0 = true) (st : Nat)
    (params : List Byte) (p : Part) : bareReply op k st params p = replied (replyOf op k st params) p :=
  sendReply_queued hasks hbar p

/-! ### How far a command comes -/

section Arrives

variable {op t : Nat} {k : CmdPkt} {s : State} (h : arrivesWhole t k s)
include h

theorem commandAt_lastPacket : (perfSignal 8 0x11 0 1 (popped k.uart (cmdBytes op k) (advance t s.m))).updHost (fun x => { x with
      lastPacket := (perfSignal 8 0x11 0 1 (popped k.uart (cmdBytes op k) (advance t s.m))).sys.now }) = commandAt op t k s := by
  have hsys : (perfSignal 8 0x11 0 1 (popped k.uart (cmdBytes op k) (advance t s.m))).sys = (advance t s.m).sys := commandAt_sys op t k s
  rw [hsys, advance_now_of_livesAt h.1, commandAt]

/-- The first check passes and nothing waits: the second check follows (Table 13.2). -/
theorem execHost_arrives (r : OpRule) (hd : Handler) : execHost r op hd t k s = .next { s with
    m := repliesGone (checked (some r) op hd k (perfSignal 8 0x11 0 1 (popped k.uart (cmdBytes op k) (advance t s.m)))) } := by
  obtain ⟨⟨halive, -⟩, -, hstep, -, hkiln, hhost, -, hlen, -⟩ := h
  have hpops : popsCommands k.uart (advance t s.m) = true := by
    simp [popsCommands, served, Part.bar0, advance_sys, hstep, hkiln, halive, hhost]
  rw [execHost, onPart, timed_alive halive, hostCommand, hpops, hlen]
  rfl

/-- A yielding head answers every whole command FAULTED (R285). -/
theorem execHost_yielding (hcrc : crcOk op k = true) (hrole : s.m.pair.role = .yielding) (r : OpRule) (hd : Handler) :
    execHost r op hd t k s = .next { s with
      m := repliesGone (bareReply op k stFaulted (errorBlock noOffset 0) (commandAt op t k s)) } := by
  have hpair : (commandAt op t k s).pair.role = .yielding := by rw [commandAt_pair, hrole]
  have ⟨_, _, _, _, _, _, _, _, hhead, _⟩ := h
  rw [execHost_arrives h, checked]
  dsimp only
  rw [commandAt_lastPacket h, hcrc, hhead, if_pos hpair]
  rfl

/-- On any other head it comes to the tag memory. -/
theorem execHost_judged (hcrc : crcOk op k = true) (hrole : s.m.pair.role ≠ .yielding) (r : OpRule) (hd : Handler) :
    execHost r op hd t k s = .next { s with m := repliesGone (judged (some r) op hd k (commandAt op t k s)) } := by
  have hlast := commandAt_lastPacket (op := op) h
  have hpair : (perfSignal 8 0x11 0 1 (popped k.uart (cmdBytes op k) (advance t s.m))).pair = s.m.pair := commandAt_pair op t k s
  have hsys : (perfSignal 8 0x11 0 1 (popped k.uart (cmdBytes op k) (advance t s.m))).sys = (advance t s.m).sys := commandAt_sys op t k s
  rw [execHost_arrives h]
  obtain ⟨-, -, -, hruns, -, -, -, -, hhead, -⟩ := h
  rw [checked_passes hcrc hhead (by rw [hpair]; exact hrole) (by rw [hsys]; exact hruns), hlast]

end Arrives

/-- A known tag is answered from tag memory (Table 13.6). -/
theorem judged_known {op : Nat} {k : CmdPkt} {e : TagEntry} {p : Part} (htag : tagOf p k.tag = some e) (r : Option OpRule)
    (hd : Handler) : judged r op hd k p = repeated op k e p := by
  simp [judged, htag]

/-- A command that only a primary takes is refused by a standby (R285). -/
theorem judged_standby {op : Nat} {k : CmdPkt} {p : Part} (htag : tagOf p k.tag = none) (hready : p.sys.ready = true)
    (hrole : p.pair.role = .standby) (honly : onlyPrimary op = true) (r : OpRule) (hd : Handler) :
    judged (some r) op hd k p = answerWith r op k (refusal stNotPrimary noOffset) p := by
  simp [judged, htag, hready, hrole, honly]

/-- A † command is refused while maintenance mode is locked (R14, Table 13.2). -/
theorem handle_locked {k : CmdPkt} {p : Part} (hclass : classOk ruleDagger k = true) (hlock : p.maint.unlocked = false) (hd : Handler) :
    handle ruleDagger hd k p = (refusal stLocked noOffset, p) := by
  rw [handle, hclass]
  simp [hlock, ruleDagger]

theorem repeated_conflict {op : Nat} {k : CmdPkt} {e : TagEntry} (hother : e.opcode ≠ op ∨ e.crc ≠ k.crc) (p : Part) :
    repeated op k e p = bareReply op k stConflict (errorBlock noOffset 0) p := if_pos hother

section Same

variable {op : Nat} {k : CmdPkt} {e : TagEntry} {p : Part} (hop : e.opcode = op) (hcrc : e.crc = k.crc)
include hop hcrc

/-- The same packet again gets its stored reply again (R341). -/
theorem repeated_stored {st : Half} {b : List Byte} (hreply : e.reply = some (st, b)) (hwaits : p.pair.waits = [])
    (hheld : p.pair.joinHeld = []) : repeated op k e p = bareReply op k st.toNat b p := by
  simp [repeated, hop, hcrc, hreply, hwaits, hheld]

/-- While its reply is not computed, or waits for the partner, it is a DUPLICATE (R341). -/
theorem repeated_duplicate (hwaits : e.reply = none ∨ (p.pair.waits.any fun w => w.reply.tag == k.tag) = true) :
    repeated op k e p = bareReply op k stDuplicate [] p := by
  have hsame : ¬ (e.opcode ≠ op ∨ e.crc ≠ k.crc) := by simp [hop, hcrc]
  rw [repeated, if_neg hsame]
  dsimp only
  split
  next st b hreply =>
    rw [hreply] at hwaits
    have hwaiting := hwaits.resolve_left (by simp)
    simp [hwaiting]
  next => rfl

end Same

/-- A refusal is recorded under its tag and sent, neither mirrored nor held, by a head that ends no join (R284, R287). -/
theorem answerWith_refusal {op st : Nat} {k : CmdPkt} {r : OpRule} {p : Part} (hbar : k.uart = false) (hst : neverSuppressed st)
    (hsettled : st ≠ stOk) (hrefused : accepted st = false) (hends : r.cls = .config → p.pair.role ≠ .primary) :
    ∃ e, answerWith r op k (refusal st noOffset) p = replied (replyOf op k st (errorBlock noOffset 0)) (recordTag e p) := by
  have hsettle : settle p st = st := if_neg hsettled
  refine ⟨recordOf op k st (refusal st noOffset), ?_⟩
  have hsend (q : Part) := sendReply_refusal (op := op) hbar hst (errorBlock noOffset 0) q
  have hrole (e : TagEntry) : (recordTag e p).pair = p.pair := by unfold recordTag; split <;> rfl
  rw [answerWith]
  simp only [refusal, hsettle, hrefused, Bool.and_false, Bool.false_and, Bool.false_eq_true, if_false]
  split
  · have hjoin (e : TagEntry) : joinEnding (recordTag e p) = false := by
      simp [joinEnding, hrole, hends ‹_›]
    rw [configReply, hjoin]
    exact hsend _
  · exact hsend _

end Sys2Proof.Machine

open Sys2Proof Sys2Proof.Machine

/-- Settles O60: each command goes as far as its refusal in the order of Table 13.2, and its reply is queued on a part that only took
the packet. -/
theorem commandsRefused : Obligations.CommandsRefused := by
  unfold Obligations.CommandsRefused
  intro t k s hlives hready hstep hruns hkiln hhost hbar hlen hhead htrial hbaud _
  have h : arrivesWhole t k s := ⟨hlives, hready, hstep, hruns, hkiln, hhost, hbar, hlen, hhead, htrial, hbaud⟩
  have htagAt (op : Nat) : tagOf (commandAt op t k s) k.tag = tagOf s.m k.tag := by rw [tagOf, commandAt_tags, tagOf]
  have hkept (op : Nat) := replied_kept (commandAt_unreplied op t k s) hbaud htrial
  have hkeptRecord (op : Nat) (e : TagEntry) := replied_kept (recordTag_unreplied (commandAt_unreplied op t k s) e) hbaud htrial
  refine ⟨?yielding, ?conflict, ?stored, ?duplicate, ?standby, ?locked⟩
  case yielding =>
    intro hcrc hrole
    obtain ⟨hidle, hqueue, hpath⟩ := hkept 0x0501 (replyOf 0x0501 k stFaulted (errorBlock noOffset 0))
    refine ⟨_, execHost_yielding h hcrc hrole _ _, ?_⟩
    rw [bareReply_refusal hbar (by decide), hidle]
    exact ⟨hqueue, hpath⟩
  case conflict =>
    intro e hcrc hrole htag hother
    obtain ⟨hidle, hqueue, hpath⟩ := hkept 0x0501 (replyOf 0x0501 k stConflict (errorBlock noOffset 0))
    refine ⟨_, execHost_judged h hcrc (by simp [hrole]) _ _, ?_⟩
    rw [judged_known ((htagAt _).trans htag), repeated_conflict hother, bareReply_refusal hbar (by decide), hidle]
    exact ⟨hqueue, hpath⟩
  case stored =>
    intro e st b hcrc hrole htag hop hsame hreply hwaits hheld hasks
    obtain ⟨hidle, hqueue, hpath⟩ := hkept 0x0501 (replyOf 0x0501 k st.toNat b)
    refine ⟨_, execHost_judged h hcrc (by simp [hrole]) _ _, ?_⟩
    rw [judged_known ((htagAt _).trans htag),
      repeated_stored hop hsame hreply (by rw [commandAt_pair, hwaits]) (by rw [commandAt_pair, hheld]),
      bareReply_asked hbar hasks, hidle]
    exact ⟨hqueue, commandAt_tags .., hpath⟩
  case duplicate =>
    intro e hcrc hrole htag hop hsame hwaits
    obtain ⟨hidle, hqueue, hpath⟩ := hkept 0x0501 (replyOf 0x0501 k stDuplicate [])
    refine ⟨_, execHost_judged h hcrc (by simp [hrole]) _ _, ?_⟩
    rw [judged_known ((htagAt _).trans htag), repeated_duplicate hop hsame (by rw [commandAt_pair]; exact hwaits),
      bareReply_refusal hbar (by decide), hidle]
    exact ⟨hqueue, commandAt_tags .., hpath⟩
  case standby =>
    intro hcrc hrole htag
    obtain ⟨e, hanswer⟩ := answerWith_refusal (op := 0x0501) (st := stNotPrimary) (r := ruleConfig) (p := commandAt 0x0501 t k s) hbar
      (by decide) (by decide) (by decide) (by simp [hrole])
    obtain ⟨hidle, hqueue, hpath⟩ := hkeptRecord 0x0501 e (replyOf 0x0501 k stNotPrimary (errorBlock noOffset 0))
    refine ⟨_, execHost_judged h hcrc (by simp [hrole]) _ _, ?_⟩
    rw [judged_standby ((htagAt _).trans htag) (by rw [commandAt_sys]; exact hready) (by rw [commandAt_pair, hrole]) (by decide),
      hanswer, hidle]
    exact ⟨hqueue, hpath⟩
  case locked =>
    intro hcrc hrole htag hlock hclass
    obtain ⟨e, hanswer⟩ := answerWith_refusal (op := 0x0B0A) (st := stLocked) (r := ruleDagger) (p := commandAt 0x0B0A t k s) hbar
      (by decide) (by decide) (by decide) (by simp [ruleDagger])
    obtain ⟨hidle, hqueue, hpath⟩ := hkeptRecord 0x0B0A e (replyOf 0x0B0A k stLocked (errorBlock noOffset 0))
    refine ⟨_, execHost_judged h hcrc (by simp [hrole]) _ _, ?_⟩
    rw [judged_passes ((htagAt _).trans htag) (by rw [commandAt_sys]; exact hready) (by simp [onlyPrimary]),
      handle_locked hclass (by rw [commandAt_maint, hlock])]
    dsimp only
    rw [hanswer, hidle]
    exact ⟨hqueue, hpath⟩

end

section
/-! What recovery needs of the shared operations: FAULT_N, the byte memories of a head whose part alone changes, and what of the log
a report leaves (R299, R321). -/

namespace Sys2Proof.Machine

open Sys2Proof

/-- A head whose part changes and keeps its configuration keeps its stores. -/
theorem storesKept_of_cfg {s : State} {q : Part} (h : q.cfg = s.m.cfg) : storesKept s { s with m := q } := ⟨h, rfl, rfl, rfl⟩

/-- While a fault is unrecovered FAULT_N is low (R299). -/
theorem faultLow_of_faultOn {p q : Part} (h : q.sys = (faultOn p).sys) : faultLow q = true := by
  simp [faultLow, h, faultOn]

@[simp] theorem finalReply_cfg (tag : Word) (st : Nat) (params : List Byte) (p : Part) : (finalReply tag st params p).cfg = p.cfg :=
  (finalReply_groups ..).2.2.2

@[simp] theorem finalReply_hrt (tag : Word) (st : Nat) (params : List Byte) (p : Part) : (finalReply tag st params p).hrt = p.hrt := by
  obtain ⟨-, -, -, -, -, -, -, hhrt, -⟩ := Part.groups_of_offAnswer (finalReply_offAnswer tag st params p)
  exact hhrt

@[simp] theorem updUnit_cfg (k : UnitKind) (n : Nat) (f : Unit → Unit) (p : Part) : (updUnit k n f p).cfg = p.cfg := rfl

/-! ### What a report leaves of the log -/

/-- The log without its window cache, its intake queue and what it notes of refused reports. -/
def Log.stored (l : Log) : Log := { l with
  windows := [], rewrites := [], intake := [], lostCount := 0, lostTime := 0, lostCfn := 0, lostLast := 0, lostBlocks := [] }

theorem Log.fields_of_stored {l k : Log} (h : l.stored = k.stored) :
    l.bankA = k.bankA ∧ l.bankB = k.bankB ∧ l.failA = k.failA ∧ l.failB = k.failB ∧ l.spares = k.spares ∧ l.emberOn = k.emberOn ∧
      l.ember = k.ember ∧ l.copying = k.copying := by
  simp only [Log.stored, Log.mk.injEq] at h
  tauto

@[simp] theorem pushIntake_stored (x : LogEntry) (p : Part) : (pushIntake x p).log.stored = p.log.stored := by
  unfold pushIntake; split
  · rfl
  · rw [raiseEvent_log]; rfl

@[simp] theorem closeWindow_stored (w : LogWindow) (p : Part) : (closeWindow w p).log.stored = p.log.stored := rfl

@[simp] theorem report_stored (s i c v k a : Nat) (p : Part) : (report s i c v k a p).log.stored = p.log.stored := by
  unfold report
  extract_lets same p1 p2 p3
  have h1 : p1.log.stored = p.log.stored := by unfold p1; split <;> simp
  have h2 : p2.log.stored = p1.log.stored := by
    unfold p2; split
    · split <;> simp
    · rfl
  split
  · rfl
  · exact (pushIntake_stored ..).trans (h2.trans h1)

@[simp] theorem raise_stored (n i a : Nat) (p : Part) : (raise n i a p).log.stored = p.log.stored := by
  unfold raise raiseAs; dsimp only; rw [report_stored]; split <;> simp

@[simp] theorem setLevel_stored (n i : Nat) (on : Bool) (p : Part) : (setLevel n i on p).log.stored = p.log.stored := by
  unfold setLevel; dsimp only; split
  · split
    · rfl
    · exact raise_stored ..
  · rfl

end Sys2Proof.Machine
end

section
/-! Swaps of units: what a fault, a planned swap and the end of a swap do to the headland (R297, R299, R304, R306, R308). -/

namespace Sys2Proof.Machine

open Sys2Proof

/-! ### Starting a swap -/

/-- What a swap costs while it runs lies in the inputs and the converters (Table 12.2). -/
theorem swapCost_keeps (x : Swap) (p : Part) :
    (swapCost x p).sys = p.sys ∧ (swapCost x p).cfg = p.cfg ∧ (swapCost x p).pair = p.pair ∧ (swapCost x p).hrt = p.hrt := by
  have habort (n : Nat) : (abortFrame n p).sys = p.sys ∧ (abortFrame n p).cfg = p.cfg ∧ (abortFrame n p).pair = p.pair ∧
      (abortFrame n p).hrt = p.hrt := by
    unfold abortFrame; split <;> exact ⟨rfl, rfl, rfl, rfl⟩
  unfold swapCost; split
  · exact ⟨rfl, rfl, rfl, rfl⟩
  · split
    · exact habort _
    · exact ⟨rfl, rfl, rfl, rfl⟩
    · exact ⟨rfl, rfl, rfl, rfl⟩

/-- With no swap running the swap starts at once, and the rest of the headland stands. -/
theorem startSwap_starts {p : Part} (hidle : p.hrt.running = none) (x : Swap) :
    (startSwap x p).sys = p.sys ∧ (startSwap x p).cfg = p.cfg ∧ (startSwap x p).pair = p.pair ∧
      (startSwap x p).hrt = { p.hrt with running := some x } := by
  rw [startSwap, if_neg (by simp [hidle])]
  exact swapCost_keeps x (p.updHrt fun h => { h with running := some x })

/-- The spare a swap takes depends on the units and the open swaps alone. -/
theorem spareFor_congr {p q : Part} (hunits : q.hrt.units = p.hrt.units) (hrunning : q.hrt.running = p.hrt.running)
    (hqueue : q.hrt.queue = p.hrt.queue) (k : UnitKind) : spareFor q k = spareFor p k := by
  unfold spareFor swapsOpen; rw [hunits, hrunning, hqueue]

/-- A first fault of a unit with a fallow unit of its kind free starts its swap (R306). -/
theorem unitFault_swaps {k : UnitKind} {logical phys spare : Nat} {p : Part} (hphys : physOf p k logical = some phys)
    (hidle : p.hrt.running = none) (hqueue : p.hrt.queue = []) (hwhole : p.hrt.split = false) (hserved : p.hrt.degradedUnits = [])
    (hspare : spareFor p k = some spare) (single : Bool) :
    unitFault k logical single p =
      startSwap { kind := k, logical := logical, spare := spare, single := single, wear := false, tag := none }
        (raise evUnitFault logical phys (faultOn p)) := by
  have hfree : spareFor (raise evUnitFault logical phys (faultOn p)) k = some spare := by
    rw [spareFor_congr (p := p) (by simp) (by simp) (by simp), hspare]
  simp [unitFault, hphys, swapsOpen, hidle, hqueue, hwhole, hserved, hfree]

/-- What that fault leaves the head with: FAULT_N low and the swap running (R299, R306). -/
theorem unitFault_leaves {t logical phys spare : Nat} {k : UnitKind} {s : State} (hphys : physOf s.m k logical = some phys)
    (hidle : s.m.hrt.running = none) (hqueue : s.m.hrt.queue = []) (hwhole : s.m.hrt.split = false)
    (hserved : s.m.hrt.degradedUnits = []) (hspare : spareFor s.m k = some spare) (single : Bool) {u : State}
    (hu : u = { s with m := unitFault k logical single (advance t s.m) }) :
    faultLow u.m = true ∧
      u.m.hrt.running = some { kind := k, logical := logical, spare := spare, single := single, wear := false, tag := none } ∧
      u.m.hrt.units = s.m.hrt.units ∧ u.m.pair = s.m.pair ∧ storesKept s u := by
  subst hu
  rw [unitFault_swaps (p := advance t s.m) hphys hidle hqueue hwhole hserved hspare]
  obtain ⟨hsys, hcfg, hpair, hhrt⟩ := startSwap_starts (p := raise evUnitFault logical phys (faultOn (advance t s.m)))
    (by simpa using hidle) { kind := k, logical := logical, spare := spare, single := single, wear := false, tag := none }
  refine ⟨faultLow_of_faultOn (hsys.trans (raise_sys ..)), ?_, ?_, hpair.trans (by simp), storesKept_of_cfg (hcfg.trans (by simp))⟩
  · rw [hhrt]
  · rw [hhrt]; simp

/-! ### The end of a swap -/

/-- What an update of the unit at one place makes of each unit. -/
def unitAt (k : UnitKind) (n : Nat) (f : Unit → Unit) (v : Unit) : Unit := if v.kind == k && v.phys == n then f v else v

theorem updUnit_hrt (k : UnitKind) (n : Nat) (f : Unit → Unit) (p : Part) :
    (updUnit k n f p).hrt = { p.hrt with units := p.hrt.units.map (unitAt k n f) } := rfl

theorem unitAt_here {k : UnitKind} {n : Nat} {v : Unit} (hkind : v.kind = k) (hphys : v.phys = n) (f : Unit → Unit) :
    unitAt k n f v = f v := by
  simp [unitAt, hkind, hphys]

theorem unitAt_elsewhere {k : UnitKind} {n : Nat} {v : Unit} (h : v.kind ≠ k ∨ v.phys ≠ n) (f : Unit → Unit) :
    unitAt k n f v = v := by
  rw [unitAt, if_neg]; simpa [imp_iff_not_or] using h

/-- A unit after a swap from the unit `old`: the old unit is retired, and the spare serves (R304, R306). -/
def swappedUnit (x : Swap) (old : Nat) (v : Unit) : Unit :=
  unitAt x.kind x.spare (fun w => { w with state := .service x.logical })
    (unitAt x.kind old (fun w => { w with state := .retired, single := x.single && !x.wear, passes := 0 }) v)

section SwappedUnit

variable {x : Swap} {old : Nat} {v : Unit}

theorem swappedUnit_old (hkind : v.kind = x.kind) (hphys : v.phys = old) (hne : old ≠ x.spare) :
    swappedUnit x old v = { v with state := .retired, single := x.single && !x.wear, passes := 0 } := by
  rw [swappedUnit, unitAt_here hkind hphys, unitAt_elsewhere (.inr (by simpa [hphys] using hne))]

theorem swappedUnit_spare (hkind : v.kind = x.kind) (hphys : v.phys = x.spare) (hne : old ≠ x.spare) :
    swappedUnit x old v = { v with state := .service x.logical } := by
  rw [swappedUnit, unitAt_elsewhere (n := old) (v := v) (.inr (by simpa [hphys] using hne.symm)), unitAt_here hkind hphys]

theorem swappedUnit_other (h : v.kind ≠ x.kind ∨ (v.phys ≠ old ∧ v.phys ≠ x.spare)) : swappedUnit x old v = v := by
  rw [swappedUnit, unitAt_elsewhere (h.imp_right And.left), unitAt_elsewhere (h.imp_right And.right)]

/-- A swap moves no unit. -/
theorem swappedUnit_place (x : Swap) (old : Nat) (v : Unit) :
    (swappedUnit x old v).kind = v.kind ∧ (swappedUnit x old v).phys = v.phys := by
  unfold swappedUnit unitAt
  split_ifs <;> exact ⟨rfl, rfl⟩

end SwappedUnit

/-- A swap that completes with none queued: its units change over, and it is counted (R304, R306). -/
theorem swapDone_completes {x : Swap} {old : Nat} {p : Part} (hrun : p.hrt.running = some x) (hqueue : p.hrt.queue = [])
    (hphys : physOf p x.kind x.logical = some old) :
    (swapDone p).cfg = p.cfg ∧ (swapDone p).hrt =
      { p.hrt with running := none, swaps := p.hrt.swaps + 1, units := p.hrt.units.map (swappedUnit x old) } := by
  have hnext {q : Part} (h : q.hrt.queue = []) : nextSwap q = q := by rw [nextSwap, h, nextOf]
  have hunits : swappedUnit x old = unitAt x.kind x.spare (fun w => { w with state := .service x.logical }) ∘
      unitAt x.kind old (fun w => { w with state := .retired, single := x.single && !x.wear, passes := 0 }) := rfl
  simp only [swapDone, hrun, hphys, Option.getD_some]
  rw [hnext, hunits, ← List.map_map]
  all_goals split <;> split <;> simp [updUnit_hrt, hqueue]

/-! ### Planned swaps -/

/-- The one swap planned starts with the spare free for it (R308). -/
theorem plannedSwap_starts {x : Swap} {spare : Nat} {p : Part} (hplan : p.hrt.planned = [x])
    (hspare : spareFor p x.kind = some spare) :
    plannedSwap x.kind x.logical p = startSwap { x with spare := spare } (p.updHrt fun h => { h with planned := [] }) := by
  have hfree : spareFor (p.updHrt fun h => { h with planned := [] }) x.kind = some spare :=
    (spareFor_congr rfl rfl rfl x.kind).trans hspare
  have hrest : p.hrt.planned.filter (fun y => !(y.kind == x.kind && y.logical == x.logical)) = [] := by simp [hplan]
  have hfound : p.hrt.planned.find? (fun y => y.kind == x.kind && y.logical == x.logical) = some x := by simp [hplan]
  simp only [plannedSwap, hfound]
  rw [show (p.updHrt fun h => { h with planned := h.planned.filter fun y => !(y.kind == x.kind && y.logical == x.logical) }) =
    p.updHrt fun h => { h with planned := [] } from congrArg (fun l => p.updHrt fun h => { h with planned := l }) hrest, hfree]

end Sys2Proof.Machine

open Sys2Proof Sys2Proof.Machine

/-- Settles O16: a first fault starts its swap, by the watchdog too, and a swap that ends changes two units of its kind alone. -/
theorem unitFaultSwaps : Obligations.UnitFaultSwaps := by
  unfold Obligations.UnitFaultSwaps
  refine ⟨?fault, ?done⟩
  case fault =>
    intro t logical phys spare k s halive hphys hidle hqueue hwhole hserved hspare
    refine ⟨fun single => ⟨_, onPart_timed halive, ?_⟩, ⟨_, onPart_timed halive, ?_⟩⟩
    · exact unitFault_leaves hphys hidle hqueue hwhole hserved hspare single rfl
    · exact unitFault_leaves hphys hidle hqueue hwhole hserved hspare false rfl
  case done =>
    intro t old x s halive hrun hqueue hphys hne
    obtain ⟨hcfg, hhrt⟩ := swapDone_completes (p := advance t s.m) hrun hqueue hphys
    refine ⟨_, onPart_timed_guarded halive (by simp [hrun]), ?_⟩
    dsimp only
    rw [hhrt]
    have hmem {v : Machine.Unit} (hv : v ∈ s.m.hrt.units.map (swappedUnit x old)) : ∃ w ∈ s.m.hrt.units, v = swappedUnit x old w ∧
        v.kind = w.kind ∧ v.phys = w.phys := by
      obtain ⟨w, hw, rfl⟩ := List.mem_map.mp hv
      exact ⟨w, hw, rfl, swappedUnit_place x old w⟩
    refine ⟨rfl, rfl, fun v hv hkind hspare => ?_, fun v hv hkind hold => ?_, fun v hv hother => ?_, storesKept_of_cfg hcfg⟩
    all_goals obtain ⟨w, hw, rfl, hk, hp⟩ := hmem hv
    · rw [swappedUnit_spare (hk ▸ hkind) (hp ▸ hspare) hne]
    · rw [swappedUnit_old (hk ▸ hkind) (hp ▸ hold) hne]
    · rw [swappedUnit_other (by rwa [hk, hp] at hother)]; exact hw
end

section
/-! Furrow faults and self-tests of fallow units (R300, R303, R308). -/

namespace Sys2Proof.Machine

open Sys2Proof

/-! ### A furrow that fails -/

/-- What a fault of its furrow leaves on a lane (R300). -/
def Lane.outage (l : Lane) : Bool × List ScanItem := (l.faulted, l.scan)

theorem toState_outage (f st : Nat) (p : Part) : ((toState f st p).lane f).outage = (p.lane f).outage := by
  simp [Lane.outage]

theorem queueCtrl_outage (f : Nat) (c : Ctrl) (p : Part) : ((queueCtrl f c p).lane f).outage = (p.lane f).outage := by
  unfold queueCtrl; split <;> simp [Lane.outage, refill, ctrlqFull]

theorem setMarks_lane (ok : Nat → Nat → TileEntry → Bool) (f : Nat) (p : Part) : (setMarks ok p).lane f = p.lane f := by
  unfold setMarks; exact foldl_keeps (fun q : Part => q.lane f) (by intros; rfl) ..

theorem setUncertain_outage (f : Nat) (p : Part) : ((setUncertain f p).lane f).outage = (p.lane f).outage := by
  unfold setUncertain; dsimp only; split
  · rfl
  · split
    · rw [queueQuery, queueCtrl_outage, setMarks_lane]; simp [Lane.outage]
    · rw [setMarks_lane]; simp [Lane.outage]

theorem laneLeaves_outage (f st : Nat) (p : Part) : ((laneLeaves f st p).lane f).outage = (p.lane f).outage := by
  have hdown : ((laneDownRaised f st p).lane f).outage = (p.lane f).outage := by simp [laneDownRaised, Lane.outage]
  unfold laneLeaves; dsimp only; split
  · exact (setUncertain_outage ..).trans hdown
  · exact hdown

theorem laneFollows_outage (f : Nat) (p : Part) : ((laneFollows f p).lane f).outage = (p.lane f).outage := by
  unfold laneFollows; dsimp only; split
  · exact toState_outage ..
  · split
    · split
      · exact laneLeaves_outage ..
      · exact toState_outage ..
    · rfl

/-- A furrow that fails is FAULTED and sends no more lines; the configuration stands (R300). -/
theorem furrowFault_isolates (f : Nat) (serdes : Bool) (p : Part) :
    ((furrowFault f serdes p).lane f).outage = (true, []) ∧ (furrowFault f serdes p).cfg = p.cfg := by
  have hkept (c : Prop) [Decidable c] (q : Part) : (if c then q else faultOn q).lane f = q.lane f ∧
      (if c then q else faultOn q).cfg = q.cfg := by split <;> exact ⟨rfl, rfl⟩
  unfold furrowFault; dsimp only
  rw [laneFollows_outage, Part.cfg_of_loop (laneFollows_loop ..), raise_lane, raise_cfg, (hkept ..).1, (hkept ..).2]
  exact ⟨by simp [Lane.outage], rfl⟩

/-! ### Self-tests -/

/-- A unit that runs no self-test while the power manager sheds (R303, Table 17.8). -/
theorem dutyShed_eq {k : UnitKind} {n : Nat} {p : Part} (hfallow : isFallow p k n = true) (htests : p.hrt.tests = [])
    (hidle : p.hrt.running = none) : dutyShed k n p = decide (3 ≤ p.pwr.shed) := by
  simp [dutyShed, hfallow, htests, hidle]

theorem isFallow_of_find? {k : UnitKind} (hk : k ≠ .hbm) {n : Nat} {v : Unit} {p : Part}
    (hv : (p.hrt.units.find? fun u => u.kind == k && u.phys == n) = some v) (hstate : v.state = .fallow) : isFallow p k n = true := by
  rw [isFallow, if_neg hk, List.any_eq_true]
  exact ⟨v, List.mem_of_find?_eq_some hv, by simpa [hstate] using List.find?_some hv⟩

/-- With no command waiting for a self-test its end answers none. -/
theorem testDone_unasked {p : Part} (h : p.hrt.tests = []) (k : UnitKind) (n : Nat) (pass : Bool) : testDone k n pass p = p := by
  have hnone : (p.hrt.tests.filter fun x => !(x.1 == k && x.2.1 == n)) = p.hrt.tests := by rw [h]; rfl
  have hsame : (p.updHrt fun x => { x with tests := x.tests.filter fun y => !(y.1 == k && y.2.1 == n) }) = p :=
    congrArg (fun l => p.updHrt fun x => { x with tests := l }) hnone
  rw [testDone, hsame, h]; rfl

theorem spareFails_idle {p : Part} (h : p.hrt.running = none) (k : UnitKind) (n : Nat) : spareFails k n p = p := by
  rw [spareFails, h]

section SelfTest

variable {k : UnitKind} {n : Nat} {v : Unit} {p : Part} (hv : (p.hrt.units.find? fun u => u.kind == k && u.phys == n) = some v)
  (hstate : v.state = .fallow) (htests : p.hrt.tests = [])
include hv hstate htests

/-- A fallow unit that passes: its age restarts (R303). -/
theorem selfTest_passes : selfTest k n true p = updUnit k n (fun u => { u with testedAt := p.sys.now }) p := by
  simp only [selfTest, hv, hstate, if_true]
  rw [testDone_unasked (by simpa [updUnit_hrt] using htests)]

/-- A fallow unit that fails is retired, and the headland shrinks (R303). -/
theorem selfTest_fails (hidle : p.hrt.running = none) :
    selfTest k n false p = raise evHeadlandShrink n 0 (updUnit k n (fun u => { u with state := .retired }) p) := by
  simp only [selfTest, hv, hstate, Bool.false_eq_true, if_false]
  rw [spareFails_idle (by simpa [updUnit_hrt] using hidle), testDone_unasked (by simpa [updUnit_hrt] using htests)]

end SelfTest

theorem exec_selfTestDuty {t n : Nat} {k : UnitKind} {s : State} (halive : s.m.alive = true) (hk : k ≠ .hbm)
    (hduty : dutyShed k n (advance t s.m) = false) (pass : Bool) :
    exec (.selfTestDuty t k n pass) s = .next { s with m := selfTest k n pass (advance t s.m) } := by
  rw [exec, execSelfTestDuty, onPart_timed_guarded halive (by simp [hduty]), if_neg hk]

end Sys2Proof.Machine

open Sys2Proof Sys2Proof.Machine

/-- Settles O17: the one swap planned starts; a lane that follows its furrow's fault keeps what the fault set; and a self-test
changes the one unit it is of. -/
theorem plannedSwapsAndTests : Obligations.PlannedSwapsAndTests := by
  unfold Obligations.PlannedSwapsAndTests
  refine ⟨fun t s halive => ⟨?planned, ?furrow⟩, fun t n k v s hlives hk htests hidle hv hstate => ?tests⟩
  case planned =>
    intro x spare hplan hidle hspare
    obtain ⟨-, hcfg, -, hhrt⟩ := startSwap_starts (p := (advance t s.m).updHrt fun h => { h with planned := [] }) hidle
      { x with spare := spare }
    refine ⟨_, onPart_timed halive, ?_⟩
    dsimp only
    rw [plannedSwap_starts (p := advance t s.m) hplan hspare, hhrt]
    exact ⟨rfl, rfl, storesKept_of_cfg hcfg⟩
  case furrow =>
    intro f serdes hf hwhole
    obtain ⟨houtage, hcfg⟩ := furrowFault_isolates f serdes (advance t s.m)
    obtain ⟨hfaulted, hscan⟩ := Prod.mk.inj houtage
    exact ⟨_, onPart_timed_guarded halive (by simp [hf, hwhole]), hfaulted, hscan, storesKept_of_cfg hcfg⟩
  case tests =>
    obtain ⟨halive, -⟩ := id hlives
    have hshed : dutyShed k n (advance t s.m) = decide (3 ≤ s.m.pwr.shed) :=
      dutyShed_eq (isFallow_of_find? (p := advance t s.m) hk hv hstate) htests hidle
    refine ⟨fun h pass => ?_, fun h => ⟨_, exec_selfTestDuty halive hk (by simpa [hshed] using h) true, ?_⟩,
      fun h => ⟨_, exec_selfTestDuty halive hk (by simpa [hshed] using h) false, ?_⟩⟩
    · exact onPart_timed_shut halive (by simp [hshed, h])
    · rw [selfTest_passes (p := advance t s.m) hv hstate htests, advance_now_of_livesAt hlives]
      exact ⟨rfl, storesKept_of_cfg rfl⟩
    · rw [selfTest_fails (p := advance t s.m) hv hstate htests hidle]
      exact ⟨by rw [raise_hrt]; rfl, storesKept_of_cfg (by simp)⟩
end

section
/-! The Kiln's failure and its return, and the copies of the Hearth (R312, R313, R315, Table 12.8). -/

namespace Sys2Proof.Machine

open Sys2Proof

/-! ### The Kiln fails -/

/-- What the reset of the Kiln leaves: the commits, the role, the timebase, the frames and the configuration (R315). -/
def Part.atWork (p : Part) : List Commit × Role × Tb × Frames × Cfg := (p.txn.commits, p.pair.role, p.tb, p.fr, p.cfg)

@[simp] theorem raise_atWork (n i a : Nat) (p : Part) : (raise n i a p).atWork = p.atWork := by simp [Part.atWork]
@[simp] theorem faultOn_atWork (p : Part) : (faultOn p).atWork = p.atWork := rfl
@[simp] theorem updHrt_atWork (g : Hearth → Hearth) (p : Part) : (p.updHrt g).atWork = p.atWork := rfl
@[simp] theorem updSys_atWork (g : Sys → Sys) (p : Part) : (p.updSys g).atWork = p.atWork := rfl

theorem finalReply_atWork (tag : Word) (st : Nat) (params : List Byte) (p : Part) : (finalReply tag st params p).atWork = p.atWork := by
  obtain ⟨htxn, hpair⟩ := finalReply_keeps tag st params p
  obtain ⟨-, hcfg, -, -, -, hfr, -, -, -, htb, -⟩ := Part.groups_of_offPair (finalReply_offPair tag st params p)
  simp only [Part.atWork, htxn, hpair, hcfg, hfr, htb]

/-- The Kiln in reset: since when, and with which transactions open. -/
def Part.kilnState (p : Part) : Bool × Nat × Tab Txn := (p.hrt.kilnReset, p.hrt.kilnResetAt, p.txn.open_)

theorem finalReply_kilnState (tag : Word) (st : Nat) (params : List Byte) (p : Part) :
    (finalReply tag st params p).kilnState = p.kilnState := by
  simp only [Part.kilnState, finalReply_hrt, (finalReply_keeps tag st params p).1]

/-- The Kiln stops: in reset from now on, with no transaction open, and nothing of the datapath changed (R116, R313, R315). -/
theorem kilnStops_resets (p : Part) : (kilnStops p).kilnState = (true, p.sys.now, []) ∧ (kilnStops p).atWork = p.atWork :=
  ⟨foldl_keeps Part.kilnState (fun q (l : Load) => finalReply_kilnState l.tag stTimeout _ q) _ _,
    foldl_keeps Part.atWork (fun q (l : Load) => finalReply_atWork l.tag stTimeout _ q) _ _⟩

/-- The cores change and the trial ends; the Kiln's state, FAULT_N and the datapath are not of them. -/
def Part.offCores (p : Part) : (Bool × Nat × Tab Txn) × Nat × (List Commit × Role × Tb × Frames × Cfg) :=
  (p.kilnState, p.sys.faults, p.atWork)

@[simp] theorem raise_offCores (n i a : Nat) (p : Part) : (raise n i a p).offCores = p.offCores := by
  simp [Part.offCores, Part.kilnState]

theorem replaceCore_offCores (c : Nat) (p : Part) : (replaceCore c p).offCores = p.offCores := by
  unfold replaceCore; split
  · rw [raise_offCores]; rfl
  · exact raise_offCores ..

theorem coresTested_offCores (failing : Option Nat) (lockstep : Bool) (p : Part) :
    (coresTested failing lockstep p).offCores = p.offCores := by
  unfold coresTested; split
  · split
    · exact replaceCore_offCores ..
    · rfl
  · dsimp only; split
    · rfl
    · split
      · rw [replaceCore_offCores]; rfl
      · rfl

/-- A Kiln failure: in reset, one fault more, every open transaction gone, and the datapath goes on (R313, R315). -/
theorem kilnFails_offCores (failing : Option Nat) (lockstep : Bool) (p : Part) :
    (kilnFails failing lockstep p).offCores = ((true, p.sys.now, []), (kilnStops p).sys.faults + 1, p.atWork) := by
  obtain ⟨hstate, hwork⟩ := kilnStops_resets p
  have hfault : (raise evKilnReset 0 0 (faultOn (kilnStops p))).offCores =
      ((true, p.sys.now, []), (kilnStops p).sys.faults + 1, p.atWork) := by
    rw [raise_offCores, ← hstate, ← hwork]; rfl
  unfold kilnFails; dsimp only
  rw [coresTested_offCores]
  generalize raise evKilnReset 0 0 (faultOn (kilnStops p)) = q at hfault ⊢
  split
  · exact hfault
  · exact hfault

/-! ### The Kiln takes commands again -/

@[simp] theorem sendHeld_groups (p : Part) : (sendHeld p).hrt = p.hrt ∧ (sendHeld p).cfg = p.cfg := by
  obtain ⟨-, -, hcfg, -, -, hhrt, -⟩ := Part.groups_of_offRole (sendHeld_offRole p)
  exact ⟨hhrt, hcfg⟩

/-- Enumeration changes neither the Hearth nor the configuration. -/
theorem enumAgain_groups (f : Nat) (p : Part) : ((enumAgain f p).hrt, (enumAgain f p).cfg) = (p.hrt, p.cfg) := by
  have hkept : KeptOnLink f fun q => (q.hrt, q.cfg) = (p.hrt, p.cfg) :=
    keptOnLink_of_eq (fun _ _ _ => rfl) (fun _ _ _ _ => rfl) (fun _ _ => rfl) (fun _ _ => rfl) (fun _ => rfl) (by simp)
  exact hkept.enumAgain rfl

/-- The Kiln runs again: out of reset, no switch of images waiting, and the configuration as it was (Table 12.8). -/
theorem kilnRestored_runs (flash : Memory) (p : Part) : (kilnRestored flash p).hrt.kilnReset = false ∧
    (kilnRestored flash p).hrt.switchTo = none ∧ (kilnRestored flash p).cfg = p.cfg := by
  have hagain (l : List Nat) (q : Part) :
      (fun r : Part => (r.hrt, r.cfg)) (l.foldl (fun q f => if (q.lane f).state = 7 then enumAgain f q else q) q) = (q.hrt, q.cfg) :=
    foldl_keeps (fun r : Part => (r.hrt, r.cfg)) (fun r f => by split; exacts [enumAgain_groups .., rfl]) l q
  unfold kilnRestored
  extract_lets p0 q p1 p2
  have hback : p1.hrt.kilnReset = false ∧ p1.hrt.switchTo = none ∧ p1.cfg = p.cfg := by
    unfold p1; split
    next => simp [runImage, p0]
    next hnone =>
      split
      · simpa [runImage, q, p0] using hnone
      · exact ⟨rfl, hnone, rfl⟩
  obtain ⟨hhrt, hcfg⟩ := Prod.mk.inj (hagain p2.cfg.furrows.keys p2)
  have hsent : p2.hrt = p1.hrt ∧ p2.cfg = p1.cfg := by simp [p2]
  rw [hhrt, hcfg, hsent.1, hsent.2]
  exact hback

/-! ### The Hearth's copies -/

@[simp] theorem yieldHead_sys (p : Part) : (yieldHead p).sys = p.sys := by
  unfold yieldHead; split
  · rfl
  · split
    · exact setLevel_sys ..
    · split
      · rfl
      · exact raise_sys ..

@[simp] theorem yieldHead_split (p : Part) : (yieldHead p).hrt.split = p.hrt.split := by
  unfold yieldHead; split
  · rfl
  · split
    · rw [setLevel_hrt]; rfl
    · split
      · rfl
      · rw [raise_hrt]; rfl

/-- The counter of the Hearth's reloads. -/
theorem counterApart_reloads : counterApart blkHearth (cntKey blkHearth 0 0) := by unfold counterApart; decide

/-- A copy that is outvoted for the first time is reloaded and counted (R312). -/
theorem copyDisagrees_reloads {p : Part} (hcopies : p.hrt.copies = 3) (hfirst : p.hrt.reloads = []) (copy : Nat) :
    copyDisagrees copy true p = report blkHearth copy codeCopyReload 2 6 0 (count blkHearth 0 0
      (p.updHrt fun h => { h with reloads := [(copy, p.sys.now)], copies := 3 })) := by
  simp [copyDisagrees, hcopies, hfirst, Part.updHrt]

theorem hearthSplit_keeps (p : Part) : (hearthSplit p).cfg = p.cfg ∧ (hearthSplit p).sys = (faultOn p).sys ∧
    (hearthSplit p).hrt.split = true := by
  unfold hearthSplit
  refine ⟨?_, ?_, ?_⟩
  · exact (congrArg Prod.fst (yieldHead_besideTb _)).trans (raise_cfg ..)
  · rw [yieldHead_sys, raise_sys]; rfl
  · rw [yieldHead_split, raise_hrt]; rfl

end Sys2Proof.Machine

open Sys2Proof Sys2Proof.Machine

/-- Settles O18: both commands come down to the one failure, whose parts leave the datapath; the return ends the reset. -/
theorem kilnFails : Obligations.KilnFails := by
  unfold Obligations.KilnFails
  refine ⟨?fails, ?restored⟩
  case fails =>
    intro t failing s c hlives hruns hc
    obtain ⟨lockstep, hexec⟩ : ∃ lockstep, exec c s = .next { s with m := Machine.kilnFails failing lockstep (advance t s.m) } := by
      obtain rfl | rfl := hc
      · exact ⟨true, onPart_timed_guarded hlives.1 hruns⟩
      · exact ⟨false, onPart_timed_guarded hlives.1 hruns⟩
    have hcores := kilnFails_offCores failing lockstep (advance t s.m)
    simp only [Part.offCores, Part.kilnState, Part.atWork, Prod.mk.injEq, advance_now_of_livesAt hlives] at hcores
    obtain ⟨⟨hreset, hsince, hopen⟩, hfaults, hcommits, hrole, htb, hfr, hcfg⟩ := hcores
    exact ⟨_, hexec, hreset, hsince, by simp [faultLow, hfaults], hopen, hcommits, hrole, htb, hfr, storesKept_of_cfg hcfg⟩
  case restored =>
    intro t s halive hreset
    obtain ⟨hruns, hswitch, hcfg⟩ := kilnRestored_runs s.flash (advance t s.m)
    have hexec : exec (.kilnRestored t) s = .next { s with m := Machine.kilnRestored s.flash (advance t s.m) } := by
      rw [exec, execKilnRestored, onPartMem, timed_alive halive, guarded_on (by simpa using hreset)]
    exact ⟨_, hexec, hruns, hswitch, storesKept_of_cfg hcfg⟩

/-- Settles O19: an outvoted copy is counted by the report's own rule on counters; a split Hearth yields, which leaves its fault. -/
theorem hearthCopies : Obligations.HearthCopies := by
  unfold Obligations.HearthCopies
  rintro t copy s ⟨halive, -⟩ hcopy hwhole
  have hexec (majority : Bool) : exec (.hearthCopyDisagree t copy majority) s =
      .next { s with m := copyDisagrees copy majority (advance t s.m) } := onPart_timed_guarded halive (by simp [hcopy, hwhole])
  refine ⟨fun hcopies hfirst => ⟨_, hexec true, ?_⟩, ⟨_, hexec false, ?_⟩⟩
  · rw [copyDisagrees_reloads (p := advance t s.m) hcopies hfirst]
    refine ⟨by simpa using hwhole, by simp, ?_, storesKept_of_cfg (by simp)⟩
    exact (report_cnt counterApart_reloads ..).trans (count_counter ..)
  · obtain ⟨hcfg, hsys, hsplit⟩ := hearthSplit_keeps (advance t s.m)
    exact ⟨hsplit, faultLow_of_faultOn hsys, storesKept_of_cfg hcfg⟩
end

section
/-! The boot selection and the flash: little-endian fields read back, bytes of a memory read back, and what is stored
at the end of a trial and of a flash write (R327, R328, R409). -/

namespace Sys2Proof

/-- A field of `k` bytes reads back what was coded, modulo its width (R5). -/
theorem leAt_le (k n : Nat) (xs ys : List Byte) : leAt (xs ++ le k n ++ ys) xs.length k = n % 256 ^ k := by
  induction k generalizing n xs with
  | zero => simp [leAt, Nat.mod_one]
  | succ k ih =>
    have hrest := ih (n / 256) (xs ++ [BitVec.ofNat 8 n])
    have hsplit : xs ++ le (k + 1) n ++ ys = xs ++ [BitVec.ofNat 8 n] ++ le k (n / 256) ++ ys := by simp [le]
    have hfirst : byteAt (xs ++ le (k + 1) n ++ ys) xs.length = n % 256 := by simp [byteAt, le]
    rw [List.length_append, List.length_singleton] at hrest
    rw [leAt, hfirst, hsplit, hrest, pow_succ', Nat.mod_mul]

@[simp] theorem le_length (k n : Nat) : (le k n).length = k := by
  induction k generalizing n with
  | zero => rfl
  | succ k ih => rw [le, List.length_cons, ih]

namespace Memory

/-- Bytes outside a range that is cleared read as before. -/
theorem read_clearRange_other (d : Nat → Byte) {lo hi b : Nat} (hb : b < lo ∨ hi ≤ b) (m : Memory) :
    read d (clearRange m lo hi) b = read d m b := by
  induction m with
  | nil => rfl
  | cons c r ih =>
    obtain ⟨k, v⟩ := c
    by_cases hin : lo ≤ k ∧ k < hi
    · have hk : k ≠ b := by omega
      have hgone : clearRange ((k, v) :: r) lo hi = clearRange r lo hi := List.filter_cons_of_neg (by simpa using hin)
      rw [hgone, ih, read, if_neg hk]
    · have hkept : clearRange ((k, v) :: r) lo hi = (k, v) :: clearRange r lo hi :=
        List.filter_cons_of_pos (by simpa only [decide_eq_true_eq] using hin)
      rw [hkept, read, read, ih]

/-- Bytes that were written read back. -/
theorem readBytes_writeBytes {d : Nat → Byte} (l : List Byte) {m : Memory} (a : Nat) (h : wf d m = true) :
    readBytes d (writeBytes d m a l) a l.length = l := by
  induction l generalizing m a with
  | nil => rfl
  | cons x r ih =>
    rw [List.length_cons, readBytes, writeBytes, ih (a + 1) (write_wf a x h),
      read_writeBytes_other r (write_wf a x h) (.inl (Nat.lt_succ_self a)), read_write h, if_pos rfl]

end Memory

end Sys2Proof

namespace Sys2Proof.Machine

open Sys2Proof

/-! ### The boot record -/

/-- The boot record up to its CRC (Table 17.6). -/
def bootHead (slot gen : Nat) : List Byte := [0x43, 0x51, 0x42, 0x52, 1] ++ le 1 slot ++ [0, 0] ++ le 4 gen

theorem length_bootHead (slot gen : Nat) : (bootHead slot gen).length = 12 := by simp [bootHead]

theorem encBoot_eq (slot gen : Nat) :
    encBoot slot gen = bootHead slot gen ++ le 4 (crc32c (bootHead slot gen ++ le 4 0)).toNat := by
  have h := length_bootHead slot gen
  have hdrop : (bootHead slot gen ++ le 4 0).drop 16 = [] := List.drop_eq_nil_of_le (by simp [h])
  rw [encBoot, withCrc, ← bootHead, List.take_left' h, hdrop, List.append_nil]

theorem length_encBoot (slot gen : Nat) : (encBoot slot gen).length = 16 := by simp [encBoot_eq, length_bootHead]

/-- A boot record that stands in the flash as coded is a valid copy: its slot, and its generation in 32 bits (Table 17.6). -/
theorem bootCopy_of_encBoot {flash : Memory} {a slot gen : Nat} (hslot : slot < 2) (h : flashBytes flash a 16 = encBoot slot gen) :
    bootCopy flash a = some (slot, gen % 2 ^ 32) := by
  have hlen := length_bootHead slot gen
  have hcrc : leAt (encBoot slot gen) 12 4 = (crc32c (bootHead slot gen ++ le 4 0)).toNat := by
    have hread := leAt_le 4 (crc32c (bootHead slot gen ++ le 4 0)).toNat (bootHead slot gen) []
    have hlt : (crc32c (bootHead slot gen ++ le 4 0)).toNat < 256 ^ 4 := (crc32c (bootHead slot gen ++ le 4 0)).isLt
    rwa [hlen, List.append_nil, ← encBoot_eq, Nat.mod_eq_of_lt hlt] at hread
  have hzero : withCrc (encBoot slot gen) 12 0 = bootHead slot gen ++ le 4 0 := by
    rw [withCrc, List.drop_eq_nil_of_le (by rw [length_encBoot]), encBoot_eq, List.take_left' hlen, List.append_nil]; rfl
  have hgen : leAt (encBoot slot gen) 8 4 = gen % 2 ^ 32 := by
    rw [encBoot_eq]; exact leAt_le 4 gen ([0x43, 0x51, 0x42, 0x52, 1] ++ le 1 slot ++ [0, 0]) _
  have hbyte : byteAt (encBoot slot gen) 5 = slot := by
    have hread : byteAt (encBoot slot gen) 5 = slot % 256 := by rw [encBoot_eq]; exact BitVec.toNat_ofNat ..
    omega
  have hfixed : (encBoot slot gen).take 4 = [0x43, 0x51, 0x42, 0x52] ∧ byteAt (encBoot slot gen) 4 = 1 ∧
      leAt (encBoot slot gen) 6 2 = 0 := by
    rw [encBoot_eq]; exact ⟨rfl, rfl, rfl⟩
  obtain ⟨hmagic, hversion, hreserved⟩ := hfixed
  rw [bootCopy, h, if_pos ⟨hmagic, hversion, by rwa [hbyte], hreserved, by rw [hcrc, hzero]⟩, hbyte, hgen]

/-- The generation that a new boot record takes (R409). -/
def nextGen (flash : Memory) : Nat := ((bootRecord flash).1.map (·.2)).getD 0 + 1

/-- The flash after the boot selection was written: the sector of the other copy holds the new record alone (R409). -/
def bootWritten (slot : Nat) (flash : Memory) : Memory :=
  Memory.writeBytes Memory.flashDefault (Memory.clearRange flash (bootRecord flash).2 ((bootRecord flash).2 + 4096))
    (bootRecord flash).2 (encBoot slot (nextGen flash))

theorem writeBoot_eq (slot : Nat) (s : State) : writeBoot slot s =
    { s with
      m := emit (.flashWrite s.m.sys.xspi (bootRecord s.flash).2 (encBoot slot (nextGen s.flash))) s.m
      flash := bootWritten slot s.flash } := rfl

/-- The new record stands under its slot and generation (R328, R409). -/
theorem bootWritten_record {slot : Nat} (hslot : slot < 2) {flash : Memory} (hwf : Memory.wf Memory.flashDefault flash = true) :
    bootCopy (bootWritten slot flash) (bootRecord flash).2 = some (slot, nextGen flash % 2 ^ 32) := by
  refine bootCopy_of_encBoot hslot ?_
  have hread := Memory.readBytes_writeBytes (encBoot slot (nextGen flash)) (bootRecord flash).2
    (Memory.clearRange_wf (bootRecord flash).2 ((bootRecord flash).2 + 4096) hwf)
  rwa [length_encBoot] at hread

/-- Every byte outside that sector stands. -/
theorem bootWritten_other (slot : Nat) {flash : Memory} (hwf : Memory.wf Memory.flashDefault flash = true) {a : Nat}
    (ha : a < (bootRecord flash).2 ∨ (bootRecord flash).2 + 4096 ≤ a) :
    Memory.read Memory.flashDefault (bootWritten slot flash) a = Memory.read Memory.flashDefault flash a := by
  rw [bootWritten, Memory.read_writeBytes_other _ (Memory.clearRange_wf _ _ hwf) (by rw [length_encBoot]; omega),
    Memory.read_clearRange_other _ ha]

/-! ### Commands -/

/-- The end of a trial whose time has come: the boot selection is written, and the trial is over (R328). -/
theorem exec_fwTrialEnd {t slot due : Nat} {s : State} (halive : s.m.alive = true) (htrial : s.m.hrt.trial = some (slot, due))
    (hdue : due ≤ t) (hkiln : s.m.hrt.kilnReset = false) :
    ∃ q, q.hrt.trial = none ∧ q.cfg = s.m.cfg ∧ q.sys.bootSlot = s.m.sys.bootSlot ∧
      exec (.fwTrialEnd t) s = .next { s with m := q, flash := bootWritten slot s.flash } := by
  have hnow : trialDue (advance t s.m) = true := by simp [trialDue, htrial, hkiln, hdue]
  simp only [exec, execFwTrialEnd, halive, hnow, if_true, trialEnd, advance_hrt, htrial, writeBoot_eq]
  refine ⟨_, ?_, ?_, ?_, rfl⟩
  · rw [raise_hrt]; rfl
  · rw [raise_cfg]; rfl
  · rw [raise_sys]; rfl

/-- The end of a flash write, while the Kiln runs. -/
theorem exec_flashWriteDone {t : Nat} {s : State} (halive : s.m.alive = true) (hkiln : s.m.hrt.kilnReset = false) (tag : Word)
    (ok : Bool) (data : List Byte) :
    exec (.flashWriteDone t tag ok data) s = .next (flashDone tag ok data { s with m := advance t s.m }) := by
  simp only [exec, execFlashWriteDone, halive, advance_hrt, hkiln, if_true, Bool.false_eq_true, if_false]

section FlashDone

variable {s : State} {x : Transfer}
  (hx : (s.m.txn.transfers.find? fun y => y.tag == x.tag && (y.opcode == 0x0B01 || y.opcode == 0x0B04)) = some x)
include hx

/-- A flash write of FW_WRITE that ends well stores its bytes at its place in the slot (R327). -/
theorem flashDone_stores (hop : x.opcode = 0x0B01) (data : List Byte) : ∃ q, q.cfg = s.m.cfg ∧
    flashDone x.tag true data s =
    { s with
      m := q
      flash := Memory.writeBytes Memory.flashDefault s.flash (imageBase (byteAt x.params 0) + leAt x.params 4 4)
        (bytesAt data 0 (leAt x.params 16 4)) } := by
  simp only [flashDone, hx, hop, Bool.not_true, Bool.false_eq_true, if_false, if_true]
  refine ⟨_, ?_, rfl⟩
  exact finalReply_cfg ..

/-- A flash write that fails stores nothing (R327). -/
theorem flashDone_fails (data : List Byte) : ∃ q, q.cfg = s.m.cfg ∧ flashDone x.tag false data s = { s with m := q } := by
  simp only [flashDone, hx, Bool.not_false, if_true]
  exact ⟨finalError x.tag stTimeout (dropTransfer x.tag s.m), finalReply_cfg .., rfl⟩

end FlashDone

end Sys2Proof.Machine

open Sys2Proof Sys2Proof.Machine

/-- Settles O22: what `writeBoot` stores reads back as a valid record, and a flash write changes its own bytes alone. -/
theorem flashWritten : Obligations.FlashWritten := by
  unfold Obligations.FlashWritten
  refine ⟨?trial, ?write⟩
  case trial =>
    rintro t slot due s ⟨halive, -⟩ htrial hdue hkiln hslot hwf
    obtain ⟨q, hover, hcfg, hslotKept, hexec⟩ := exec_fwTrialEnd halive htrial hdue hkiln
    refine ⟨{ s with m := q, flash := bootWritten slot s.flash }, hexec, hover, ?record, ?other, rfl, hcfg, hslotKept⟩
    case record =>
      dsimp only
      rw [← nextGen]
      exact bootWritten_record hslot hwf
    case other =>
      dsimp only
      exact fun _ => bootWritten_other slot hwf
  case write =>
    intro t x data s halive hkiln hop hx hwf a n
    have hfound : ((advance t s.m).txn.transfers.find? fun y => y.tag == x.tag && (y.opcode == 0x0B01 || y.opcode == 0x0B04)) =
      some x := hx
    have hexec (ok : Bool) := exec_flashWriteDone (t := t) halive hkiln x.tag ok data
    refine ⟨⟨_, hexec true, ?_⟩, ⟨_, hexec false, ?_⟩⟩
    · obtain ⟨q, hcfg, hdone⟩ := flashDone_stores (s := { s with m := advance t s.m }) hfound hop data
      rw [hdone]
      exact ⟨rfl, fun b hb => Memory.read_writeBytes_other _ hwf hb, rfl, hcfg⟩
    · obtain ⟨q, hcfg, hdone⟩ := flashDone_fails (s := { s with m := advance t s.m }) hfound data
      rw [hdone]
      exact ⟨rfl, rfl, hcfg⟩
end

section
/-! The log's writer and its banks (R320 to R325). -/

namespace Sys2Proof.Machine

open Sys2Proof

theorem logRoom_of_freeSlot {p : Part} {k : Nat} (hgood : p.log.failA = false) (hfree : freeSlot 4096 p.log.bankA = some k) :
    logRoom p = true := by
  simp [logRoom, goodBank, hgood, hfree]

/-! ### Writing -/

/-- An entry as it stands in both banks: under the next LSEQ (R320). -/
def bothBanks (e : LogEntry) (l : Log) : LogEntry := { e with lseq := l.nextSeq, toA := true, toB := true }

/-- With both banks in service an entry goes to both at the index that is free (R320). -/
theorem bankWrite_both {p : Part} {k : Nat} (hember : p.log.emberOn = false) (hA : p.log.failA = false) (hB : p.log.failB = false)
    (hfree : freeSlot 4096 p.log.bankA = some k) (e : LogEntry) : bankWrite e p = p.updLog fun l => { l with
      nextSeq := l.nextSeq + 1, bankA := l.bankA.set k (bothBanks e p.log), bankB := l.bankB.set k (bothBanks e p.log) } := by
  simp [bankWrite, goodBank, hember, hA, hB, hfree, Part.updLog, bothBanks]

/-- Wherever there is room for it, an entry takes one LSEQ, and the rest of the part stands (R320, R324, R325). -/
theorem bankWrite_takes {p : Part} (hroom : logRoom p = true) (e : LogEntry) :
    (bankWrite e p).log.nextSeq = p.log.nextSeq + 1 ∧ (bankWrite e p).rest = p.rest := by
  unfold bankWrite; split
  · unfold emberWrite; dsimp only; split <;> exact ⟨rfl, rfl⟩
  next hember =>
    obtain ⟨k, hk⟩ : ∃ k, freeSlot 4096 (goodBank p) = some k := Option.isSome_iff_exists.mp (by simpa [logRoom, hember] using hroom)
    rw [hk]; exact ⟨rfl, rfl⟩

/-- A turn of the writer with no rewrite due and no reports refused: the oldest entry of the intake queue is written (R321). -/
theorem logTurn_writes {p : Part} {e : LogEntry} {rest : List LogEntry} (hrewrites : p.log.rewrites = [])
    (hintake : p.log.intake = e :: rest) (hfull : p.log.full = false) (hroom : logRoom p = true) :
    logTurn p = bankWrite e (p.updLog fun l => { l with intake := rest }) := by
  have hroom' : logRoom (p.updLog fun l => { l with intake := rest }) = true := hroom
  simp [logTurn, hrewrites, hintake, hfull, hroom']

/-- The LOST entry is written, and the log takes reports again (R322). -/
theorem writeLost_takes {p : Part} (hroom : logRoom p = true) :
    (writeLost p).log.lostCount = 0 ∧ (writeLost p).log.full = false ∧ (writeLost p).log.nextSeq = p.log.nextSeq + 1 ∧
      (writeLost p).rest = p.rest := by
  unfold writeLost
  simp only [setLevel_rest, Part.updLog_rest]
  exact ⟨rfl, rfl, bankWrite_takes hroom _⟩

/-! ### Windows -/

/-- The one window in the cache that has stood for 1 ms is due (R321). -/
theorem windowDue_only {w : LogWindow} {p : Part} (honly : p.log.windows = [w]) (hdue : w.opened + msec ≤ p.sys.now) :
    windowDue w.source w.inst w.code p = some w := by
  simp [windowDue, honly, hdue]

theorem exec_logWindowClose {t : Nat} {w : LogWindow} {s : State} (halive : s.m.alive = true) (honly : s.m.log.windows = [w])
    (hdue : w.opened + msec ≤ t) :
    exec (.logWindowClose t w.source w.inst w.code) s = .next { s with m := closeWindow w (advance t s.m) } := by
  rw [exec, execLogWindowClose, onPart_timed halive, windowDue_only (p := advance t s.m) honly (le_max_of_le_right hdue)]

/-- The only window that leaves the cache leaves it empty; its entry is due for a rewrite where it stands for several reports. -/
theorem closeWindow_only {w : LogWindow} {p : Part} (honly : p.log.windows = [w]) : (closeWindow w p).log.windows = [] ∧
    (closeWindow w p).log.rewrites = p.log.rewrites ++ if w.count > 1 then [w] else [] := by
  refine ⟨by simp [closeWindow, honly], ?_⟩
  simp only [closeWindow, Part.updLog_log]
  split <;> simp

/-! ### Banks -/

/-- The log with bank A or bank B failed. -/
def bankLost (b : Bool) (l : Log) : Log := if b then { l with failB := true } else { l with failA := true }

theorem bankFails_eq (b : Bool) (p : Part) : bankFails b p =
    if (bankLost b p.log).failA && (bankLost b p.log).failB then
      raiseEvent evLogBankFail 0 (b2n b) (emberTakes (faultOn (p.updLog (bankLost b))))
    else if 0 < (raise evLogBankFail 0 (b2n b) (faultOn (p.updLog (bankLost b)))).log.spares then
      (raise evLogBankFail 0 (b2n b) (faultOn (p.updLog (bankLost b)))).updLog fun l => { l with
        spares := l.spares - 1, copying := some b }
    else faultOff (raise evLogBankFail 0 (b2n b) (faultOn (p.updLog (bankLost b)))) := rfl

/-- The first bank to fail is replaced by a spare, which is filled from the survivor (R324). -/
theorem bankFails_first {p : Part} (hA : p.log.failA = false) (hB : p.log.failB = false) (hspare : 0 < p.log.spares) (b : Bool) :
    (bankFails b p).sys = (faultOn p).sys ∧ (bankFails b p).cfg = p.cfg ∧
      (bankFails b p).log.copying = some b ∧ (bankFails b p).log.spares = p.log.spares - 1 ∧
      (bankFails b p).log.emberOn = p.log.emberOn ∧ (bankFails b p).log.bankA = p.log.bankA ∧
      (bankFails b p).log.bankB = p.log.bankB := by
  have hstored : (raise evLogBankFail 0 (b2n b) (faultOn (p.updLog (bankLost b)))).log.stored = (bankLost b p.log).stored :=
    raise_stored ..
  obtain ⟨hbankA, hbankB, -, -, hspares, hember, -, -⟩ := Log.fields_of_stored hstored
  have hone : ((bankLost b p.log).failA && (bankLost b p.log).failB) = false := by cases b <;> simp [bankLost, hA, hB]
  have hlost : (bankLost b p.log).spares = p.log.spares ∧ (bankLost b p.log).emberOn = p.log.emberOn ∧
      (bankLost b p.log).bankA = p.log.bankA ∧ (bankLost b p.log).bankB = p.log.bankB := by cases b <;> exact ⟨rfl, rfl, rfl, rfl⟩
  obtain ⟨hspares', hember', hbankA', hbankB'⟩ := hlost
  have hleft : 0 < (raise evLogBankFail 0 (b2n b) (faultOn (p.updLog (bankLost b)))).log.spares := by rwa [hspares, hspares']
  rw [bankFails_eq, hone, if_neg (by decide), if_pos hleft]
  refine ⟨raise_sys .., raise_cfg .., rfl, ?_, hember.trans hember', hbankA.trans hbankA', hbankB.trans hbankB'⟩
  exact congrArg (· - 1) (hspares.trans hspares')

/-- The ember log as it takes over: empty but for its first entry (R325). -/
theorem emberTakes_stored (p : Part) : (emberTakes p).log.emberOn = true ∧ (emberTakes p).log.ember.length = 1 ∧
    (emberTakes p).log.failA = true ∧ (emberTakes p).log.failB = true ∧ (emberTakes p).log.copying = none := by
  unfold emberTakes; extract_lets e
  obtain ⟨-, -, hA, hB, -, hon, hember, hcopying⟩ := Log.fields_of_stored (setLevel_stored evEmberActive 0 true (emberWrite e
    (p.updLog fun l => { l with emberOn := true, ember := [], emberNext := 0, failA := true, failB := true, copying := none })))
  rw [hA, hB, hon, hember, hcopying]
  exact ⟨rfl, rfl, rfl, rfl, rfl⟩

theorem emberTakes_rest (p : Part) : (emberTakes p).rest = p.rest := by
  unfold emberTakes; dsimp only; rw [setLevel_rest]; rfl

/-- The second bank to fail leaves the log to the ember log, empty but for its first entry (R325). -/
theorem bankFails_second {p : Part} (b : Bool) (hother : (if b then p.log.failA else p.log.failB) = true) :
    (bankFails b p).sys = (faultOn p).sys ∧ (bankFails b p).cfg = p.cfg ∧
      (bankFails b p).log.emberOn = true ∧ (bankFails b p).log.ember.length = 1 ∧ (bankFails b p).log.failA = true ∧
      (bankFails b p).log.failB = true ∧ (bankFails b p).log.copying = none := by
  have hboth : ((bankLost b p.log).failA && (bankLost b p.log).failB) = true := by cases b <;> simpa [bankLost] using hother
  have hrest := emberTakes_rest (faultOn (p.updLog (bankLost b)))
  rw [bankFails_eq, if_pos hboth, raiseEvent_sys, raiseEvent_cfg, raiseEvent_log]
  exact ⟨Part.sys_of_rest hrest, (Part.cfg_of_rest hrest).trans rfl, emberTakes_stored _⟩

/-- The spare holds what the survivor holds (R324). -/
theorem bankCopied_eq {p : Part} {b : Bool} (h : p.log.copying = some b) : bankCopied p = faultOff (p.updLog fun l =>
    if b then { l with bankB := l.bankA, failB := false, copying := none }
    else { l with bankA := l.bankB, failA := false, copying := none }) := by
  cases b <;> simp [bankCopied, h]

end Sys2Proof.Machine

open Sys2Proof Sys2Proof.Machine

/-- Settles O23: the turn of the writer comes down to one write, at the slot free in bank A. -/
theorem logWritesBoth : Obligations.LogWritesBoth := by
  unfold Obligations.LogWritesBoth
  intro t k e rest s halive hrewrites hintake hfull hember hA hB hfree
  refine ⟨_, onPart_timed halive, ?_⟩
  dsimp only
  rw [logTurn_writes (p := advance t s.m) hrewrites hintake hfull (logRoom_of_freeSlot hA hfree),
    bankWrite_both (p := (advance t s.m).updLog fun l => { l with intake := rest }) hember hA hB hfree]
  refine ⟨rfl, rfl, ?_, ?_, fun j hj => ⟨?_, ?_⟩, rfl, rfl, rfl, rfl⟩
  · exact (Tab.get?_set ..).trans (if_pos rfl)
  · exact (Tab.get?_set ..).trans (if_pos rfl)
  · exact (Tab.get?_set ..).trans (if_neg hj)
  · exact (Tab.get?_set ..).trans (if_neg hj)

/-- Settles O24: each command is its own rule on the log; a report leaves what the banks and the ember log hold. -/
theorem logUpkeep : Obligations.LogUpkeep := by
  unfold Obligations.LogUpkeep
  refine ⟨fun t s hlives => ⟨?window, ?lost⟩, fun t b s halive hbanks => ⟨?first, ?second, ?copied⟩⟩
  case window =>
    intro w honly hdue
    obtain ⟨hwindows, hrewrites⟩ := closeWindow_only (p := advance t s.m) honly
    exact ⟨_, exec_logWindowClose hlives.1 honly hdue, hwindows, hrewrites, rfl, rfl, rfl⟩
  case lost =>
    intro hlost hdrained hroom
    have hroom' : logRoom (advance t s.m) = true := hroom
    obtain ⟨hnone, hfull, hseq, hrest⟩ := writeLost_takes hroom'
    exact ⟨_, onPart_timed_guarded hlives.1 (by simp [hlost, hdrained, hroom']), hnone, hfull, hseq, hrest, rfl, rfl⟩
  case first =>
    intro hA hB hcopying hspare
    obtain ⟨hsys, hcfg, hcopy, hspares, hember, hbankA, hbankB⟩ := bankFails_first (p := advance t s.m) hA hB hspare b
    exact ⟨_, onPart_timed_guarded halive (by simp [hbanks, hA, hB]), hcopy, hspares, hember.trans hbanks, hbankA, hbankB,
      faultLow_of_faultOn hsys, storesKept_of_cfg hcfg⟩
  case second =>
    intro hother hserves
    have hguard : (!(advance t s.m).log.emberOn && !(if b then (advance t s.m).log.failB && (advance t s.m).log.copying.isNone
        else (advance t s.m).log.failA && (advance t s.m).log.copying.isNone)) = true := by
      cases b with
      | false => simp [hbanks, show s.m.log.failA = false from hserves]
      | true => simp [hbanks, show s.m.log.failB = false from hserves]
    obtain ⟨hsys, hcfg, hon, hlength, hfailA, hfailB, hcopying⟩ := bankFails_second (p := advance t s.m) b hother
    exact ⟨_, onPart_timed_guarded halive hguard, hon, hlength, hfailA, hfailB, hcopying, faultLow_of_faultOn hsys,
      storesKept_of_cfg hcfg⟩
  case copied =>
    intro hcopying
    refine ⟨_, onPart_timed halive, ?_⟩
    rw [bankCopied_eq (p := advance t s.m) hcopying]
    cases b <;> exact ⟨rfl, rfl, rfl, rfl, storesKept_of_cfg rfl⟩

end

section
/-! What reset leaves (R402, R403). -/

open Sys2Proof Sys2Proof.Machine

/-- Settles O6: each field as the reset state lists it; in reset a pin is an input or in high-impedance (R403). -/
theorem resetLeaves : Obligations.ResetLeaves := by
  unfold Obligations.ResetLeaves
  have hpins (pin : Pin) : pinState State.reset.m pin = if pin.inputOnly then .input else .highZ := by
    have hdamped : State.reset.m.sys.damped = false := rfl
    have halive : State.reset.m.alive = false := rfl
    simp [pinState, hdamped, halive]
  exact ⟨rfl, rfl, rfl, rfl, rfl, rfl, rfl, rfl, rfl, rfl, rfl, fun _ => rfl, rfl, hpins⟩
end

section
/-! The host's registers and ports: what a write of the HOST block leaves off the host's side, and what it makes of the rings (R334
to R338, R373). -/

namespace Sys2Proof.Machine

open Sys2Proof

/-! ### Off the host -/

theorem Part.offHost_of_quiet {p q : Part} (h : p.quiet = q.quiet) : p.offHost = q.offHost :=
  congrArg (fun r : Part => { r with sys := {}, maint := {}, host := {} }) h

theorem Part.offHost_of_rest {p q : Part} (h : p.rest = q.rest) : p.offHost = q.offHost :=
  Part.offHost_of_quiet (Part.quiet_of_rest h)

@[simp] theorem advance_offHost (t : Nat) (p : Part) : (advance t p).offHost = p.offHost := rfl
@[simp] theorem updHost_offHost (g : HostIf → HostIf) (p : Part) : (p.updHost g).offHost = p.offHost := rfl
@[simp] theorem updEv_offHost (g : Ev → Ev) (p : Part) : (p.updEv g).offHost = p.offHost := rfl
@[simp] theorem emit_offHost (o : Out) (p : Part) : (emit o p).offHost = p.offHost := rfl
@[simp] theorem count_offHost (b i x : Nat) (p : Part) : (count b i x p).offHost = p.offHost := rfl
@[simp] theorem raise_offHost (n i a : Nat) (p : Part) : (raise n i a p).offHost = p.offHost := Part.offHost_of_rest (raise_rest ..)
@[simp] theorem setLevel_offHost (n i : Nat) (on : Bool) (p : Part) : (setLevel n i on p).offHost = p.offHost :=
  Part.offHost_of_rest (setLevel_rest ..)
@[simp] theorem signalVector_offHost (v : Nat) (p : Part) : (signalVector v p).offHost = p.offHost :=
  Part.offHost_of_rest (signalVector_rest ..)
@[simp] theorem perfSignal_offHost (g code inst n : Nat) (p : Part) : (perfSignal g code inst n p).offHost = p.offHost :=
  Part.offHost_of_quiet (perfSignal_quiet ..)

@[simp] theorem perfSignal_host (g code inst n : Nat) (p : Part) : (perfSignal g code inst n p).host = p.host :=
  (congrArg Part.host (perfSignal_quiet g code inst n p) :)

@[simp] theorem evrLevel_host (p : Part) : (evrLevel p).host = p.host := setLevel_host ..
@[simp] theorem evrLevel_offHost (p : Part) : (evrLevel p).offHost = p.offHost := setLevel_offHost ..

/-! ### Indices -/

theorem ringHeld_eq (producer consumer : Word) :
    ringHeld producer consumer = (producer.toNat + 2 ^ 32 - consumer.toNat) % 2 ^ 32 := by
  have hlt := consumer.isLt
  rw [ringHeld, BitVec.toNat_sub]
  congr 1
  omega

/-- The slot of an index lies within the ring, `entry` bytes for each entry before it (R335). -/
theorem ringSlot_offset (base : DWord) (i : Word) {size entry : Nat} (hsize : 0 < size) (hring : size * entry ≤ 2 ^ 64) :
    (ringSlot base i size entry - base).toNat = entry * (i.toNat % size) := by
  have hslot : i.toNat % size < size := Nat.mod_lt _ hsize
  have hlt : entry * (i.toNat % size) < 2 ^ 64 := by
    obtain rfl | hentry := Nat.eq_zero_or_pos entry
    · simp
    · calc entry * (i.toNat % size) < entry * size := Nat.mul_lt_mul_of_pos_left hslot hentry
        _ ≤ 2 ^ 64 := by rwa [Nat.mul_comm]
  have hoffset : ringSlot base i size entry - base = BitVec.ofNat 64 (entry * (i.toNat % size)) := by
    rw [ringSlot, BitVec.add_comm, BitVec.add_sub_cancel]
  rw [hoffset, BitVec.toNat_ofNat, Nat.mod_eq_of_lt hlt]

@[simp] theorem ringFault_host (p : Part) : (ringFault p).host = { p.host with ringErr := true } := raise_host ..
@[simp] theorem ringFault_offHost (p : Part) : (ringFault p).offHost = p.offHost := raise_offHost ..

/-- An index write is taken where the ring then holds no more than its size; else it sets RING_ERR and is raised (R335). -/
theorem indexWritten {s : State} (t : Nat) {held size : Nat} {q : Part} {h : HostIf} (hhost : q.host = h)
    (hoff : q.offHost = s.m.offHost) :
    datapathKept s { s with m := if held ≤ size then q else ringFault (advance t s.m) } ∧
      (held ≤ size → (if held ≤ size then q else ringFault (advance t s.m)).host = h) ∧
      (size < held → (if held ≤ size then q else ringFault (advance t s.m)).host = { s.m.host with ringErr := true } ∧
        (if held ≤ size then q else ringFault (advance t s.m)).ev.pend.getLsbD evHostRingFault = true) := by
  refine ⟨datapathKept_of_offHost ?_, fun hfits => ?_, fun hover => ?_⟩
  · split
    · exact hoff
    · simp
  · rw [if_pos hfits, hhost]
  · rw [if_neg (Nat.not_le.mpr hover)]
    exact ⟨by simp, raise_sets_pend (by decide)⟩

end Sys2Proof.Machine

open Sys2Proof Sys2Proof.Machine

/-- Settles O26: counters and slots by their arithmetic; each index write by the one rule of the three. -/
theorem ringIndices : Obligations.RingIndices := by
  unfold Obligations.RingIndices
  refine ⟨ringHeld_eq, fun base i size entry => ringSlot_offset base i, fun t v s h => ⟨?tail, ?replies, ?events⟩⟩
  case tail => exact ⟨_, regWrite_of_reached h t _, indexWritten t rfl rfl⟩
  case replies => exact ⟨_, regWrite_of_reached h t _, indexWritten t rfl rfl⟩
  case events => exact ⟨_, regWrite_of_reached h t _, indexWritten t (evrLevel_host _) (evrLevel_offHost _)⟩

end

section
/-! The registers of the rings: enables, bases and sizes, and what a Kiln reset leaves of them (R336, R338, Tables 13.3, 13.4). -/

namespace Sys2Proof.Machine

open Sys2Proof

/-! ### Enables -/

/-- Enabling a disabled ring: with a setup that R334 allows both indices are zeroed, else RING_ERR is set (R336). -/
theorem enableRing_on_host (ok : Bool) (set : Bool → Bool → HostIf → HostIf) (p : Part) :
    (enableRing true false ok set p).host = if ok then set true true p.host else { p.host with ringErr := true } := by
  cases ok <;> rfl

@[simp] theorem enableRing_offHost (on was ok : Bool) (set : Bool → Bool → HostIf → HostIf) (p : Part) :
    (enableRing on was ok set p).offHost = p.offHost := by
  unfold enableRing; split
  · rfl
  · split
    · rfl
    · split <;> rfl

theorem cmdEnable_on {p : Part} (hoff : p.host.cmdEn = false) :
    (cmdEnable true p).host = if ringOk p.host.cmdBase p.host.cmdSize then { p.host with cmdEn := true, cmdHead := 0, cmdTail := 0 }
      else { p.host with ringErr := true } := by
  rw [cmdEnable, hoff, enableRing_on_host]; rfl

theorem rplEnable_on {p : Part} (hoff : p.host.rplEn = false) :
    (rplEnable true p).host = if ringOk p.host.rplBase p.host.rplSize then { p.host with rplEn := true, rplHead := 0, rplTail := 0 }
      else { p.host with ringErr := true } := by
  rw [rplEnable, hoff, enableRing_on_host]; rfl

theorem evrEnable_on {p : Part} (hoff : p.host.evrEn = false) :
    (evrEnable true p).host = if ringOk p.host.evrBase p.host.evrSize then { p.host with evrEn := true, evrHead := 0, evrTail := 0 }
      else { p.host with ringErr := true } := by
  rw [evrEnable, evrLevel_host, hoff, enableRing_on_host]; rfl

@[simp] theorem cmdEnable_offHost (on : Bool) (p : Part) : (cmdEnable on p).offHost = p.offHost := enableRing_offHost ..
@[simp] theorem rplEnable_offHost (on : Bool) (p : Part) : (rplEnable on p).offHost = p.offHost := enableRing_offHost ..
@[simp] theorem evrEnable_offHost (on : Bool) (p : Part) : (evrEnable on p).offHost = p.offHost :=
  (evrLevel_offHost _).trans (enableRing_offHost ..)

/-- A failed access disables its ring, within HOST (R338). -/
theorem dmaFails_offHost (ring : HostRing) (p : Part) : (dmaFails ring p).offHost = p.offHost :=
  (raise_offHost ..).trans (evrLevel_offHost _)

/-! ### Bases and sizes -/

/-- An offset of the HOST block (Table 18.1). -/
theorem writeReg_host {off : Nat} (hoff : off < 0x10000) (v : Word) (p : Part) : writeReg (0x1B0000 + off) v p = writeHost off v p := by
  rw [writeReg, if_neg (by omega), if_neg (by omega), if_neg (by omega), if_neg (by omega), if_pos (by omega), Nat.add_sub_cancel_left]

/-- A whole write to the HOST block. -/
theorem exec_registerWrite_host {s : State} (h : reached s) (t : Nat) {off : Nat} (hoff : off < 0x10000) (ha : off % 4 = 0) (v : Word) :
    exec (.registerWrite t (0x1B0000 + off) v 0xF) s = .next { s with m := writeHost off v (advance t s.m) } := by
  rw [exec_registerWrite_whole h t v (by omega), writeReg_host hoff]

/-- A write to the HOST block that changes HOST alone. -/
theorem exec_registerWrite_upd {s : State} (h : reached s) (t : Nat) {off : Nat} (hoff : off < 0x10000) (ha : off % 4 = 0) {v : Word}
    {g : HostIf → HostIf} (hwrite : writeHost off v (advance t s.m) = (advance t s.m).updHost g) :
    ∃ u, exec (.registerWrite t (0x1B0000 + off) v 0xF) s = .next u ∧ datapathKept s u ∧ u.m.host = g s.m.host :=
  ⟨_, exec_registerWrite_host h t hoff ha v, by rw [hwrite]; exact datapathKept_updHost .., by rw [hwrite]; rfl⟩

/-- The base and size of an enabled ring stand (R336). -/
theorem writeHost_enabled {p : Part} {off : Nat} (hring : (off ∈ [0x000, 0x004, 0x008] ∧ p.host.cmdEn = true) ∨
    (off ∈ [0x020, 0x024, 0x028] ∧ p.host.rplEn = true) ∨ (off ∈ [0x040, 0x044, 0x048] ∧ p.host.evrEn = true)) (v : Word) :
    writeHost off v p = p := by
  simp only [List.mem_cons, List.not_mem_nil, or_false] at hring
  obtain ⟨rfl | rfl | rfl, hon⟩ | ⟨rfl | rfl | rfl, hon⟩ | ⟨rfl | rfl | rfl, hon⟩ := hring <;> simp [writeHost, hon]

theorem exec_registerWrite_enabled {s : State} (h : reached s) (t : Nat) {off : Nat} (hring :
    (off ∈ [0x000, 0x004, 0x008] ∧ s.m.host.cmdEn = true) ∨ (off ∈ [0x020, 0x024, 0x028] ∧ s.m.host.rplEn = true) ∨
      (off ∈ [0x040, 0x044, 0x048] ∧ s.m.host.evrEn = true)) (v : Word) :
    ∃ u, exec (.registerWrite t (0x1B0000 + off) v 0xF) s = .next u ∧ u = { s with m := advance t s.m } := by
  have hplace : off < 0x10000 ∧ off % 4 = 0 := by
    simp only [List.mem_cons, List.not_mem_nil, or_false] at hring
    omega
  exact ⟨_, exec_registerWrite_host h t hplace.1 hplace.2 v, by rw [writeHost_enabled (p := advance t s.m) hring]⟩

/-- The size field of a ring: 13 bits. -/
theorem ringSizeBits (v : Word) : bits v.toNat 12 0 = v.toNat % 8192 := rfl

section Disabled

variable {p : Part} (v : Word)

theorem writeHost_cmd (hoff : p.host.cmdEn = false) :
    writeHost 0x000 v p = p.updHost (fun h => { h with cmdBase := setLo v h.cmdBase }) ∧
    writeHost 0x004 v p = p.updHost (fun h => { h with cmdBase := setHi v h.cmdBase }) ∧
    writeHost 0x008 v p = p.updHost (fun h => { h with cmdSize := bits v.toNat 12 0 }) := by
  simp [writeHost, hoff]

theorem writeHost_rpl (hoff : p.host.rplEn = false) :
    writeHost 0x020 v p = p.updHost (fun h => { h with rplBase := setLo v h.rplBase }) ∧
    writeHost 0x024 v p = p.updHost (fun h => { h with rplBase := setHi v h.rplBase }) ∧
    writeHost 0x028 v p = p.updHost (fun h => { h with rplSize := bits v.toNat 12 0 }) := by
  simp [writeHost, hoff]

theorem writeHost_evr (hoff : p.host.evrEn = false) :
    writeHost 0x040 v p = p.updHost (fun h => { h with evrBase := setLo v h.evrBase }) ∧
    writeHost 0x044 v p = p.updHost (fun h => { h with evrBase := setHi v h.evrBase }) ∧
    writeHost 0x048 v p = p.updHost (fun h => { h with evrSize := bits v.toNat 12 0 }) := by
  simp [writeHost, hoff]

end Disabled

/-! ### The Kiln's reset -/

/-- The host's side without tag memory and the replies that wait: the rings among it. -/
def Part.rings (p : Part) : HostIf := { p.host with tags := [], replyQueue := [] }

@[simp] theorem sendReply_rings (r : Reply) (p : Part) : (sendReply r p).rings = p.rings := by
  unfold sendReply; dsimp only; split
  · rfl
  · split <;> rfl

@[simp] theorem raise_rings (n i a : Nat) (p : Part) : (raise n i a p).rings = p.rings := by simp [Part.rings]

@[simp] theorem finalReply_rings (tag : Word) (st : Nat) (params : List Byte) (p : Part) :
    (finalReply tag st params p).rings = p.rings := by
  unfold finalReply; split
  · split
    · dsimp only; split
      · exact sendReply_rings ..
      · rfl
    · rfl
  · rfl

theorem kilnStops_rings (p : Part) : (kilnStops p).rings = p.rings :=
  foldl_keeps Part.rings (fun q (l : Load) => finalReply_rings l.tag stTimeout _ q) _ _

theorem replaceCore_rings (c : Nat) (p : Part) : (replaceCore c p).rings = p.rings := by
  unfold replaceCore; split <;> exact raise_rings ..

theorem coresTested_rings (failing : Option Nat) (lockstep : Bool) (p : Part) : (coresTested failing lockstep p).rings = p.rings := by
  unfold coresTested; split
  · split
    · exact replaceCore_rings ..
    · rfl
  · dsimp only; split
    · rfl
    · split
      · rw [replaceCore_rings]; rfl
      · rfl

/-- A Kiln failure leaves the ring registers (R315, R336). -/
theorem kilnFails_rings (failing : Option Nat) (lockstep : Bool) (p : Part) : (kilnFails failing lockstep p).rings = p.rings := by
  have hraised : (raise evKilnReset 0 0 (faultOn (kilnStops p))).rings = p.rings := (raise_rings ..).trans (kilnStops_rings p)
  unfold kilnFails; dsimp only
  rw [coresTested_rings]
  split <;> exact hraised

end Sys2Proof.Machine

open Sys2Proof Sys2Proof.Machine

/-- Settles O27: each bit of HOST_RING_CTRL and each register by its own rule of HOST; a Kiln failure by what it leaves of the rings. -/
theorem ringEnables : Obligations.RingEnables := by
  unfold Obligations.RingEnables
  intro t s h
  have hkept {q : Part} (hoff : q.offHost = s.m.offHost) : datapathKept s { s with m := q } := datapathKept_of_offHost hoff
  refine ⟨?cmdOn, ?rplOn, ?evrOn, ?cmdOff, ?rplOff, ?evrOff, ?writeBacks, ?ringErr, ?dmaErr, ?cmdFails, ?rplFails, ?evrFails,
    fun off v hoff hon => exec_registerWrite_enabled h t (.inl ⟨hoff, hon⟩) v,
    fun off v hoff hon => exec_registerWrite_enabled h t (.inr (.inl ⟨hoff, hon⟩)) v,
    fun off v hoff hon => exec_registerWrite_enabled h t (.inr (.inr ⟨hoff, hon⟩)) v, ?cmdSetup, ?rplSetup, ?evrSetup, ?kiln⟩
  case cmdOn =>
    intro hoff
    exact ⟨_, regWrite_of_reached h t _, hkept (cmdEnable_offHost ..), cmdEnable_on (p := advance t s.m) hoff⟩
  case rplOn =>
    intro hoff
    exact ⟨_, regWrite_of_reached h t _, hkept (rplEnable_offHost ..), rplEnable_on (p := advance t s.m) hoff⟩
  case evrOn =>
    intro hoff
    exact ⟨_, regWrite_of_reached h t _, hkept (evrEnable_offHost ..), evrEnable_on (p := advance t s.m) hoff⟩
  case cmdOff => exact ⟨_, regWrite_of_reached h t _, rfl, hkept (cmdEnable_offHost ..)⟩
  case rplOff => exact ⟨_, regWrite_of_reached h t _, rfl, hkept (rplEnable_offHost ..)⟩
  case evrOff => exact ⟨_, regWrite_of_reached h t _, evrLevel_host .., hkept (evrEnable_offHost ..)⟩
  case writeBacks => exact fun on => ⟨_, regWrite_of_reached h t _, rfl, hkept rfl⟩
  case ringErr => exact ⟨_, regWrite_of_reached h t _, rfl, hkept rfl⟩
  case dmaErr => exact ⟨_, regWrite_of_reached h t _, rfl, hkept rfl⟩
  case cmdFails => exact ⟨_, regWrite_of_reached h t _, (raise_host ..).trans (evrLevel_host _), hkept (dmaFails_offHost ..)⟩
  case rplFails => exact ⟨_, regWrite_of_reached h t _, (raise_host ..).trans (evrLevel_host _), hkept (dmaFails_offHost ..)⟩
  case evrFails => exact ⟨_, regWrite_of_reached h t _, (raise_host ..).trans (evrLevel_host _), hkept (dmaFails_offHost ..)⟩
  case cmdSetup =>
    intro v hoff
    obtain ⟨hlo, hhi, hsize⟩ := writeHost_cmd (p := advance t s.m) v hoff
    exact ⟨exec_registerWrite_upd h t (off := 0x000) (by decide) rfl hlo, exec_registerWrite_upd h t (off := 0x004) (by decide) rfl hhi,
      exec_registerWrite_upd h t (off := 0x008) (by decide) rfl hsize⟩
  case rplSetup =>
    intro v hoff
    obtain ⟨hlo, hhi, hsize⟩ := writeHost_rpl (p := advance t s.m) v hoff
    exact ⟨exec_registerWrite_upd h t (off := 0x020) (by decide) rfl hlo, exec_registerWrite_upd h t (off := 0x024) (by decide) rfl hhi,
      exec_registerWrite_upd h t (off := 0x028) (by decide) rfl hsize⟩
  case evrSetup =>
    intro v hoff
    obtain ⟨hlo, hhi, hsize⟩ := writeHost_evr (p := advance t s.m) v hoff
    exact ⟨exec_registerWrite_upd h t (off := 0x040) (by decide) rfl hlo, exec_registerWrite_upd h t (off := 0x044) (by decide) rfl hhi,
      exec_registerWrite_upd h t (off := 0x048) (by decide) rfl hsize⟩
  case kiln =>
    intro failing c hruns hc
    obtain ⟨lockstep, hexec⟩ : ∃ lockstep, exec c s = .next { s with m := Machine.kilnFails failing lockstep (advance t s.m) } := by
      obtain rfl | rfl := hc
      · exact ⟨true, onPart_timed_guarded h.1 hruns⟩
      · exact ⟨false, onPart_timed_guarded h.1 hruns⟩
    have hcores := kilnFails_offCores failing lockstep (advance t s.m)
    simp only [Part.offCores, Part.kilnState, Prod.mk.injEq] at hcores
    obtain ⟨⟨hreset, -⟩, -⟩ := hcores
    have hrings := kilnFails_rings failing lockstep (advance t s.m)
    simp only [Part.rings, HostIf.mk.injEq, advance_host] at hrings
    refine ⟨_, hexec, hreset, ?_⟩
    tauto

end

section
/-! Traffic of the rings: commands fetched, replies and events written, and the delay of the reply interrupt (R337, R373, R374, Table
13.5). -/

namespace Sys2Proof.Machine

open Sys2Proof

/-! ### The command ring -/

theorem cmdFetch_host (slot : List Byte) (p : Part) : (cmdFetch slot p).host =
    { p.host with cmdQueue := p.host.cmdQueue ++ [(false, slot.take 4096)], cmdHead := p.host.cmdHead + 1 } := by
  unfold cmdFetch; dsimp only; split <;> simp

theorem cmdFetch_offHost (slot : List Byte) (p : Part) : (cmdFetch slot p).offHost = p.offHost := by
  unfold cmdFetch; dsimp only; split <;> simp

/-! ### Replies -/

/-- The part with the first reply taken off its queue. -/
def replyTaken (rest : List Reply) (p : Part) : Part := p.updHost fun h => { h with replyQueue := rest }

/-- The first reply is the one written where its transport has room (R340). -/
theorem replyWrite_first {p : Part} {r : Reply} {rest : List Reply} (hkiln : p.hrt.kilnReset = false)
    (hqueue : p.host.replyQueue = r :: rest) (hroom : (r.uart || rplRoom p) = true) :
    replyWrite p = writeReply r (replyTaken rest p) := by
  simp only [replyTaken, replyWrite, hkiln, hqueue, takeReply, hroom, Bool.false_eq_true, if_false, if_true]

theorem writeBack_host (p : Part) : (writeBack p).host = p.host := by
  unfold writeBack; split <;> rfl

theorem writeBack_offHost (p : Part) : (writeBack p).offHost = p.offHost := by
  unfold writeBack; split <;> rfl

theorem writeBack_keeps_out {o : Out} {p : Part} (h : o ∈ p.out) : o ∈ (writeBack p).out := by
  unfold writeBack; split
  · exact List.mem_append_left _ h
  · exact h

/-- The reply interrupt, or its delay, changes nothing else of HOST. -/
theorem rplInterrupt_host (p : Part) : ∃ due, (rplInterrupt p).host = { p.host with rplModDue := due } := by
  unfold rplInterrupt; split
  · exact ⟨p.host.rplModDue, signalVector_host ..⟩
  · split
    · exact ⟨p.host.rplModDue, rfl⟩
    · exact ⟨_, rfl⟩

theorem rplInterrupt_offHost (p : Part) : (rplInterrupt p).offHost = p.offHost := by
  unfold rplInterrupt; split
  · exact signalVector_offHost ..
  · split <;> rfl

theorem rplInterrupt_keeps_out {o : Out} {p : Part} (h : o ∈ p.out) : o ∈ (rplInterrupt p).out := by
  unfold rplInterrupt; split
  · exact signalVector_keeps_out h 12
  · split <;> exact h

/-- Where a reply goes in the reply ring (R335). -/
def replySlot (p : Part) : DWord := ringSlot p.host.rplBase p.host.rplTail p.host.rplSize 4096

section Written

variable {p : Part} {r : Reply} (hbaud : p.host.newBaud = none) (htrial : p.hrt.pendingTrial = none)
include hbaud htrial

/-- A reply over the UART leaves as one stuffed frame (R343). -/
theorem writeReply_uart (huart : r.uart = true) : writeReply r p = emit (.uartTx (uartStuff (replyPacket r))) p := by
  have hidle : repliesGone (emit (.uartTx (uartStuff (replyPacket r))) p) = emit (.uartTx (uartStuff (replyPacket r))) p :=
    repliesGone_idle hbaud htrial
  rw [writeReply, if_pos huart, hidle]

/-- A reply over the ring takes the slot at its tail, which moves on (R337). -/
theorem writeReply_ring (hring : r.uart = false) :
    (∃ due, (writeReply r p).host = { p.host with rplTail := p.host.rplTail + 1, rplModDue := due }) ∧
      (writeReply r p).offHost = p.offHost ∧ .hostWrite (replySlot p) (replyPacket r) ∈ (writeReply r p).out := by
  let q := (emit (.hostWrite (replySlot p) (replyPacket r)) p).updHost fun h => { h with rplTail := h.rplTail + 1 }
  have hwrites : writeReply r p = repliesGone (rplInterrupt (writeBack q)) := by rw [writeReply, hring]; rfl
  obtain ⟨due, hhost⟩ := rplInterrupt_host (writeBack q)
  rw [writeBack_host] at hhost
  have hoff : (rplInterrupt (writeBack q)).offHost = p.offHost := (rplInterrupt_offHost _).trans (writeBack_offHost q)
  have hhrt : (rplInterrupt (writeBack q)).hrt = p.hrt := (congrArg Part.hrt hoff :)
  rw [hwrites, repliesGone_idle (by rw [hhost]; exact hbaud) (by rw [hhrt]; exact htrial)]
  exact ⟨⟨due, hhost⟩, hoff, rplInterrupt_keeps_out (writeBack_keeps_out (List.mem_append_right _ List.mem_cons_self))⟩

end Written

/-! ### Events -/

theorem evrLevel_keeps_out {o : Out} {p : Part} (h : o ∈ p.out) : o ∈ (evrLevel p).out := by
  unfold evrLevel setLevel; dsimp only; split
  · split
    · exact h
    · refine raise_keeps_out ?_ ..
      exact h
  · exact h

/-- The ring writer takes the first event to the slot at the tail, which moves on (R373). -/
theorem ringWriter_writes {p : Part} {x : EvEntry} {rest : List EvEntry} (hqueue : p.ev.queue = x :: rest) (hbar : p.bar0 = true)
    (hon : p.host.evrEn = true) (hroom : evrFull p = false) :
    (ringWriter p).host = { p.host with evrTail := p.host.evrTail + 1 } ∧ (ringWriter p).offHost = p.offHost ∧
      .hostWrite (ringSlot p.host.evrBase p.host.evrTail p.host.evrSize 32) (encEvent p.ev.eseq x) ∈ (ringWriter p).out := by
  have hwrites : ringWriter p = evrLevel (signalVector 13 (((emit (.hostWrite (ringSlot p.host.evrBase p.host.evrTail p.host.evrSize 32)
      (encEvent p.ev.eseq x)) p).updEv fun e => { e with queue := rest, eseq := (e.eseq + 1) % 2 ^ 32 }).updHost
        fun h => { h with evrTail := h.evrTail + 1 })) := by
    simp [ringWriter, hqueue, hbar, hon, hroom]
  rw [hwrites]
  exact ⟨by simp, by simp, evrLevel_keeps_out (signalVector_keeps_out (List.mem_append_right _ List.mem_cons_self) 13)⟩

/-- The LOST entry joins an event queue that has drained, and the count of lost events starts again (R374). -/
theorem evqLost_pushes {p : Part} (hdrained : p.ev.queue.length < 128) : evqLost p = p.updEv fun e => { e with
    lostCount := 0
    queue := e.queue ++ [⟨evEvqOverflow, true, e.lostTime, e.lostCfn, 0, 0, e.lostCount⟩] } := by
  have hroom : p.ev.queue.length < 256 := by omega
  exact if_pos hroom

/-- The delay of the reply interrupt has ended: vector 12 (Table 13.5). -/
theorem exec_replyModExpiry {t d : Nat} {s : State} (halive : s.m.alive = true) (hdue : s.m.host.rplModDue = some d) (hend : d ≤ t) :
    exec (.replyModExpiry t) s =
      .next { s with m := signalVector 12 ((advance t s.m).updHost fun h => { h with rplModDue := none }) } := by
  have hdue' : (advance t s.m).host.rplModDue = some d := hdue
  have hend' : d ≤ (advance t s.m).sys.now := hend.trans (le_max_right ..)
  rw [exec, execReplyModExpiry, onPart, timed_alive halive]
  simp only [hdue', if_pos hend']

end Sys2Proof.Machine

open Sys2Proof Sys2Proof.Machine

/-- Settles O28: each form is its own rule on HOST and the event queue; the rest of what it does stands off the host. -/
theorem ringTraffic : Obligations.RingTraffic := by
  unfold Obligations.RingTraffic
  intro t s h
  obtain ⟨halive, hhost⟩ := h
  have hkept {q : Part} (hoff : q.offHost = s.m.offHost) : datapathKept s { s with m := q } := datapathKept_of_offHost hoff
  refine ⟨?fetch, ?uart, ?ring, ?event, ?lost, ?moderated⟩
  case fetch =>
    intro slot hmay
    refine ⟨_, onPart_timed_guarded halive hmay, ?_⟩
    dsimp only
    rw [cmdFetch_host]
    exact ⟨rfl, rfl, rfl, hkept (cmdFetch_offHost ..)⟩
  case uart =>
    intro r rest hkiln htrial hbaud hqueue huart
    refine ⟨_, onPart_timed halive, ?_⟩
    rw [replyWrite_first (p := advance t s.m) hkiln hqueue (by simp [huart]),
      writeReply_uart (p := replyTaken rest (advance t s.m)) hbaud htrial huart]
    exact ⟨rfl, rfl, hkept rfl⟩
  case ring =>
    intro r rest hkiln htrial hbaud hqueue hring hroom
    refine ⟨_, onPart_timed halive, ?_⟩
    have hroom' : rplRoom (advance t s.m) = true := hroom
    obtain ⟨⟨due, hwritten⟩, hoff, hout⟩ := writeReply_ring (p := replyTaken rest (advance t s.m)) hbaud htrial hring
    rw [replyWrite_first (p := advance t s.m) hkiln hqueue (by simp [hroom']), hwritten]
    exact ⟨rfl, rfl, hout, hkept hoff⟩
  case event =>
    intro x rest hqueue hon hroom
    have hbar : (advance t s.m).bar0 = true := by simp [Part.bar0, advance_sys, halive, hhost]
    obtain ⟨hwritten, hoff, hout⟩ := ringWriter_writes (p := advance t s.m) hqueue hbar hon hroom
    exact ⟨_, onPart_timed halive, by rw [hwritten]; rfl, hout, hkept hoff⟩
  case lost =>
    intro hlost hdrained
    refine ⟨_, onPart_timed_guarded halive (by simp [hlost, hdrained]), ?_⟩
    rw [evqLost_pushes (p := advance t s.m) hdrained]
    exact ⟨rfl, rfl, rfl, hkept rfl⟩
  case moderated =>
    intro d hdue hend
    exact ⟨_, exec_replyModExpiry halive hdue hend, signalVector_host .., hkept (signalVector_offHost ..)⟩

end

section
/-! The maintenance UART: stuffing and its inverse, and what a frame, a timeout and a break do (R342, R343). -/

namespace Sys2Proof.Machine

open Sys2Proof

/-! ### Stuffing -/

/-- A byte as it goes over the UART (R343). -/
def stuffedByte (x : Byte) : List Byte := if x = 0x7E then [0x7D, 0x5E] else if x = 0x7D then [0x7D, 0x5D] else [x]

/-- What stands between the two 0x7E of a frame. -/
theorem uartStuff_between (b : List Byte) : (uartStuff b).tail.dropLast = b.flatMap stuffedByte :=
  List.dropLast_concat

theorem uartUnstuff_stuffedByte (x : Byte) (rest : List Byte) :
    uartUnstuff (stuffedByte x ++ rest) = (uartUnstuff rest).map (x :: ·) := by
  unfold stuffedByte
  split
  next h => simp [uartUnstuff, h]
  next =>
    split
    next h => simp [uartUnstuff, h]
    next h => exact (uartUnstuff.eq_def (x :: rest)).trans (if_neg h)

/-- Stuffing loses nothing (R343). -/
theorem uartUnstuff_uartStuff (b : List Byte) : uartUnstuff (uartStuff b).tail.dropLast = some b := by
  rw [uartStuff_between]
  induction b with
  | nil => rfl
  | cons x rest ih => rw [List.flatMap_cons, uartUnstuff_stuffedByte, ih, Option.map_some]

/-! ### Frames -/

section Frame

variable {p : Part} {b raw : List Byte} (hraw : uartUnstuff raw = some b) (hsome : b ≠ []) (hlen : b.length ≤ 4096)
  (hserved : served p = true)
include hraw hsome hlen hserved

/-- A frame of a whole packet is pushed while the command queue has room (R343). -/
theorem uartFrame_pushed (hroom : p.host.cmdQueue.length < 64) :
    uartFrame raw p = p.updHost fun h => { h with cmdQueue := h.cmdQueue ++ [(true, b)], uartRx := [] } := by
  have hframe : raw ≠ [] := fun hnil => hsome (Option.some.inj (hraw.symm.trans (by rw [hnil]; rfl)))
  simp [uartFrame, hframe, hserved, hraw, Nat.not_lt.mpr hlen, Nat.not_le.mpr hroom]

/-- At 64 entries it is refused, and counted (R340). -/
theorem uartFrame_refused (hfull : 64 ≤ p.host.cmdQueue.length) :
    uartFrame raw p = raise evCmdqOverflow 0 0 (count blkHost 0 1 p) := by
  have hframe : raw ≠ [] := fun hnil => hsome (Option.some.inj (hraw.symm.trans (by rw [hnil]; rfl)))
  simp [uartFrame, hframe, hserved, hraw, Nat.not_lt.mpr hlen, hfull]

end Frame

/-- A refused UART frame moves its own counter alone of those of HOST. -/
theorem counterApart_refusedFrame : counterApart (evSource evCmdqOverflow) (cntKey blkHost 0 1) := by
  unfold counterApart; decide

theorem refusedFrame_counter (p : Part) :
    counter blkHost 0 1 (raise evCmdqOverflow 0 0 (count blkHost 0 1 p)) = satAdd32 (counter blkHost 0 1 p) 1 :=
  (raise_cnt counterApart_refusedFrame ..).trans (count_counter ..)

end Sys2Proof.Machine

open Sys2Proof Sys2Proof.Machine

/-- Settles O29: what was stuffed is unstuffed again, so a frame sent carries its packet; the rest is each command's own rule. -/
theorem uartFrames : Obligations.UartFrames := by
  unfold Obligations.UartFrames
  refine ⟨uartUnstuff_uartStuff, fun t s halive => ?_⟩
  have hkept {q : Part} (hoff : q.offHost = s.m.offHost) : datapathKept s { s with m := q } := datapathKept_of_offHost hoff
  refine ⟨?pushed, ?refused, ?timeout, ?broken⟩
  case pushed =>
    intro b hserved hsome hlen hroom
    refine ⟨_, onPart_timed halive, ?_⟩
    rw [uartFrame_pushed (p := advance t s.m) (uartUnstuff_uartStuff b) hsome hlen hserved hroom]
    exact ⟨rfl, hkept rfl⟩
  case refused =>
    intro b hserved hsome hlen hfull
    refine ⟨_, onPart_timed halive, ?_⟩
    rw [uartFrame_refused (p := advance t s.m) (uartUnstuff_uartStuff b) hsome hlen hserved hfull]
    exact ⟨by simp [count, countBy], refusedFrame_counter _, hkept (raise_offHost ..)⟩
  case timeout =>
    intro hserved
    exact ⟨_, onPart_timed_guarded halive hserved, rfl, count_counter .., hkept rfl⟩
  case broken => exact ⟨_, onPart_timed halive, rfl, hkept rfl⟩

end

section
/-! Packets that fail a check before their command is judged, and queries (R330 to R332, R341, Table 13.2): the reply that each leaves. -/

namespace Sys2Proof.Machine

open Sys2Proof

/-! ### Packets refused -/

@[simp] theorem popped_perf (uart : Bool) (b : List Byte) (p : Part) : (popped uart b p).perf = p.perf := by
  unfold popped; split
  · split <;> rfl
  · rfl

@[simp] theorem popped_cnt (uart : Bool) (b : List Byte) (p : Part) : (popped uart b p).cnt = p.cnt := by
  unfold popped; split
  · split <;> rfl
  · rfl

/-- A packet that is popped leaves replies, tag memory and everything off the host. -/
theorem popped_unreplied (t : Nat) (uart : Bool) (b : List Byte) (s : State) : unreplied s (popped uart b (advance t s.m)) ∧
    (popped uart b (advance t s.m)).host.tags = s.m.host.tags ∧ (popped uart b (advance t s.m)).sys = (advance t s.m).sys := by
  have htaken := popped_taken uart b (advance t s.m)
  exact ⟨⟨(congrArg (fun p : Part => p.host.replyQueue) htaken :), (congrArg (fun p : Part => p.host.newBaud) htaken :),
    (congrArg (fun p : Part => { p with sys := {}, maint := {}, host := {} }) htaken :)⟩,
    (congrArg (fun p : Part => p.host.tags) htaken :), (congrArg Part.sys htaken :)⟩

/-- What the handler of an undefined opcode would answer; it is never asked. -/
def noHandler : Handler := fun _ p => (refusal stBadOpcode noOffset, p)

section Refused

variable {t : Nat} {uart : Bool} {b : List Byte} {s : State} (halive : s.m.alive = true) (hpops : popsCommands uart s.m = true)
  (hfrozen : s.m.perf.freeze = true)
include halive hpops hfrozen

/-- A packet that fails its length check is popped and counted (R332). -/
theorem exec_packetRefused_short (hfits : lengthFits uart b = false) : exec (.commandPacketRefused t uart b) s =
    .next { s with m := count blkHost 0 0 (popped uart b (advance t s.m)) } := by
  have hpops' : popsCommands uart (advance t s.m) = true := hpops
  have hstill : perfSignal 8 0x11 0 1 (popped uart b (advance t s.m)) = popped uart b (advance t s.m) := if_pos (by simp [hfrozen])
  rw [exec, execCommandPacketRefused, onPart, timed_alive halive]
  simp [packetRefused, hpops', packetFails, hfits, hstill]

/-- One of the right length that fails a later check of this row goes on to its second check (Table 13.2). -/
theorem exec_packetRefused_whole (hfits : lengthFits uart b = true) (hfails : packetFails uart b = true) :
    exec (.commandPacketRefused t uart b) s = .next { s with
      m := repliesGone (checked none (packetAt uart b).1 noHandler (packetAt uart b).2.1 (popped uart b (advance t s.m))) } := by
  have hpops' : popsCommands uart (advance t s.m) = true := hpops
  have hstill : perfSignal 8 0x11 0 1 (popped uart b (advance t s.m)) = popped uart b (advance t s.m) := if_pos (by simp [hfrozen])
  rw [exec, execCommandPacketRefused, onPart, timed_alive halive]
  simp [packetRefused, hpops', hfails, hfits, hstill]
  rfl

end Refused

theorem checked_badCrc {op : Nat} {k : CmdPkt} (hcrc : crcOk op k = false) (rule : Option OpRule) (h : Handler) (p : Part) :
    checked rule op h k p = bareReply op k stCrcFail [] p := by
  simp [checked, hcrc]

/-- The part with the time of a packet noted whose CRC is good. -/
def packetNoted (p : Part) : Part := p.updHost fun x => { x with lastPacket := p.sys.now }

theorem checked_badHeader {op : Nat} {k : CmdPkt} (hcrc : crcOk op k = true) (hhead : headerOk k = false) (rule : Option OpRule)
    (h : Handler) (p : Part) : checked rule op h k p = bareReply op k stBadParam (errorBlock noOffset 0) (packetNoted p) := by
  simp [checked, hcrc, hhead, packetNoted]

/-- An opcode that is not defined is answered BAD_OPCODE under an unknown tag on a ready head (Table 13.2). -/
theorem checked_undefined {op : Nat} {k : CmdPkt} {p : Part} (hcrc : crcOk op k = true) (hhead : headerOk k = true)
    (hrole : p.pair.role ≠ .yielding) (hruns : p.sys.stopped = false) (htag : tagOf p k.tag = none) (hready : p.sys.ready = true)
    (h : Handler) : checked none op h k p =
      answerWith { cls := .query } op k (refusal stBadOpcode noOffset) (packetNoted p) := by
  have htag' : tagOf (packetNoted p) k.tag = none := htag
  have hready' : (packetNoted p).sys.ready = true := hready
  rw [checked_passes hcrc hhead hrole hruns, ← packetNoted, judged, htag']
  simp [hready']

/-! ### Queries -/

/-- Every query is carried out by its layout under a rule that neither mirrors, nor is locked, nor asks for room. -/
theorem exec_of_queryRow {c : Instr} {q : QueryRow} (h : queryRow c = some q) :
    (∀ s, exec c s = execHost q.rule q.op (query q.answer) q.t q.k s) ∧ q.rule.mirrored = false ∧ q.rule.pends = false ∧
      q.rule.cls ≠ .config ∧ q.rule.cls ≠ .maint true := by
  unfold queryRow at h
  split at h <;> cases h <;> exact ⟨fun _ => rfl, rfl, rfl, nofun, nofun⟩

/-- A reply that asks to be sent is queued, over the UART where fewer than 128 wait (R333, R340). -/
theorem sendReply_asked {r : Reply} {p : Part} (hasks : r.flags.getLsbD 0 = true)
    (hroom : r.uart = true → p.host.replyQueue.length < 128) : sendReply r p = replied r p := by
  have hfull : (r.uart && decide (128 ≤ p.host.replyQueue.length)) = false := by
    cases huart : r.uart
    · rfl
    · simpa using hroom huart
  simp [sendReply, hasks, hfull, replied]

/-- An answer that is neither mirrored nor a configuration reply is recorded and sent (R331, R341). -/
theorem answerWith_sent {r : OpRule} (hown : r.mirrored = false) (hcls : r.cls ≠ .config) (op : Nat) (k : CmdPkt) (a : Answer) (p : Part) :
    answerWith r op k a p =
      sendReply (replyOf op k (settle p a.status) a.params) (recordTag (recordOf op k (settle p a.status) a) p) := by
  simp only [answerWith, hown, hcls, Bool.false_and, Bool.false_eq_true, if_false]
  rfl

end Sys2Proof.Machine

open Sys2Proof Sys2Proof.Machine

/-- Settles O59: the packet goes as far as the check it fails in the order of Table 13.2, and its reply is queued on a part that only
took the packet. -/
theorem packetsRefused : Obligations.PacketsRefused := by
  unfold Obligations.PacketsRefused
  intro t uart b s hlives hpops _ htrial hbaud hfrozen
  obtain ⟨hunreplied, htags, hsys⟩ := popped_unreplied t uart b s
  have ⟨hreplies, _, hoff⟩ := hunreplied
  refine ⟨?short, ?badCrc, ?badHeader, ?undefined⟩
  case short =>
    intro hfits
    refine ⟨_, exec_packetRefused_short hlives.1 hpops hfrozen hfits, ?_, hreplies, htags, datapathKept_of_offHost hoff⟩
    rw [count_counter, counter, popped_cnt]
    rfl
  case badCrc =>
    intro hfits hcrc hbar
    refine ⟨_, exec_packetRefused_whole hlives.1 hpops hfrozen hfits (by simp [packetFails, hcrc]), ?_⟩
    obtain ⟨hidle, hqueue, hpath⟩ := replied_kept hunreplied hbaud htrial (replyOf (packetAt uart b).1 (packetAt uart b).2.1 stCrcFail [])
    rw [checked_badCrc hcrc, bareReply_refusal hbar (by decide), hidle]
    exact ⟨hqueue, htags, hpath⟩
  case badHeader =>
    intro hfits hcrc hhead hbar
    refine ⟨_, exec_packetRefused_whole hlives.1 hpops hfrozen hfits (by simp [packetFails, hhead]), ?_⟩
    obtain ⟨hidle, hqueue, hpath⟩ := replied_kept (p := packetNoted (popped uart b (advance t s.m))) hunreplied hbaud htrial
      (replyOf (packetAt uart b).1 (packetAt uart b).2.1 stBadParam (errorBlock noOffset 0))
    rw [checked_badHeader hcrc hhead, bareReply_refusal hbar (by decide), hidle]
    exact ⟨hqueue, htags, hpath⟩
  case undefined =>
    intro hfits hcrc hhead hundefined hrole hready hbar htag hstep hruns
    refine ⟨_, exec_packetRefused_whole hlives.1 hpops hfrozen hfits (by simp [packetFails, hundefined]), ?_⟩
    have hpair : (popped uart b (advance t s.m)).pair = s.m.pair := (congrArg Part.pair hoff :)
    have hkept : tagsKept (packetNoted (popped uart b (advance t s.m))) = true := by
      simp [packetNoted, tagsKept, hsys, advance_sys, hstep, hruns]
    have hrecorded := answerWith_recorded hkept { cls := .query } (packetAt uart b).1 (packetAt uart b).2.1 (refusal stBadOpcode noOffset)
    obtain ⟨e, hanswer⟩ := answerWith_refusal (op := (packetAt uart b).1) (k := (packetAt uart b).2.1) (st := stBadOpcode)
      (r := { cls := .query }) (p := packetNoted (popped uart b (advance t s.m))) hbar (by decide) (by decide) (by decide) nofun
    obtain ⟨hidle, hqueue, hpath⟩ := replied_kept (recordTag_unreplied (p := packetNoted (popped uart b (advance t s.m))) hunreplied e)
      hbaud htrial (replyOf (packetAt uart b).1 (packetAt uart b).2.1 stBadOpcode (errorBlock noOffset 0))
    rw [checked_undefined hcrc hhead (by rw [hpair, hrole]; decide) (by rw [hsys]; exact hruns) (by rw [tagOf, htags]; exact htag)
      (by rw [hsys]; exact hready), hanswer, hidle]
    rw [hanswer] at hrecorded
    exact ⟨hqueue, ⟨_, hrecorded, rfl, rfl⟩, hpath⟩

/-- Settles O34: the query's own layout answers on the part that only took its packet; the answer is recorded and queued. -/
theorem queriesAnswer : Obligations.QueriesAnswer := by
  unfold Obligations.QueriesAnswer
  intro c q b s hrow htakes hclass hasks hroom hanswer
  obtain ⟨hexec, hown, hpends, hcls, hopen⟩ := exec_of_queryRow hrow
  have hact : query q.answer q.k (commandAt q.op q.t q.k s) = (okAnswer b, commandAt q.op q.t q.k s) := by
    rw [query, hanswer]
  have hstatus : settle (commandAt q.op q.t q.k s) (okAnswer b).status = okStatus s.m := (if_pos rfl).trans (commandAt_okStatus ..)
  have hrecorded := answerWith_recorded (tagsKept_of_takes htakes rfl) q.rule q.op q.k (okAnswer b)
  obtain ⟨hmaint, -⟩ := answered_groups (op := q.op) (t := q.t) (k := q.k) (s := s) rfl q.rule (okAnswer b)
  refine ⟨_, (hexec s).trans (execHost_answers htakes hclass (absurd · hopen) (by simp [hpends]) hact rfl), ?_⟩
  have hunreplied := recordTag_unreplied (commandAt_unreplied q.op q.t q.k s) (recordOf q.op q.k (okStatus s.m) (okAnswer b))
  obtain ⟨-, -, -, -, -, -, -, -, -, -, -, -, htrial, hbaud, -⟩ := htakes
  obtain ⟨-, hqueue, hpath⟩ := replied_kept hunreplied hbaud htrial (replyOf q.op q.k (okStatus s.m) b)
  have hsent : answerWith q.rule q.op q.k (okAnswer b) (commandAt q.op q.t q.k s) = replied (replyOf q.op q.k (okStatus s.m) b)
      (recordTag (recordOf q.op q.k (okStatus s.m) (okAnswer b)) (commandAt q.op q.t q.k s)) := by
    rw [answerWith_sent hown hcls, hstatus]
    exact sendReply_asked hasks (by rw [hunreplied.1]; exact hroom)
  rw [hstatus] at hrecorded
  rw [hsent] at hrecorded hmaint ⊢
  exact ⟨hqueue, ⟨_, hrecorded, rfl, rfl, rfl, rfl, rfl⟩, hmaint, hpath⟩

end

section
/-! Tests on the values of a table stand where an entry changes as the test does not see. -/

namespace Sys2Proof.Tab

section Any

variable {α : Type} {f : α → Bool} {m : Tab α} {n : Nat}

theorem any_of_get? {x : α} (h : m.get? n = some x) (hx : f x = true) : m.any (fun e => f e.2) = true := by
  induction m with
  | nil => cases h
  | cons e r ih =>
    rw [get?] at h
    split at h
    · cases h; simp [hx]
    · simp [ih h]

/-- A test passes in a table with an entry written as before, where it fails for the value of no entry. -/
theorem any_set {v : α} (hv : f v = (m.get? n).any f) : (m.set n v).any (fun e => f e.2) = m.any fun e => f e.2 := by
  induction m with
  | nil => simpa [set, get?] using hv
  | cons e r ih =>
    obtain ⟨j, w⟩ := e
    rw [set]
    split
    next hlt =>
      cases hf : f v with
      | false => simp [hf]
      | true =>
        obtain ⟨x, hx, hfx⟩ := (Option.any_eq_true _ _).mp (hv.symm.trans hf)
        rw [any_of_get? hx hfx]
        simp [hf]
    next =>
      split
      next heq =>
        have hsame : f v = f w := by simpa [get?, heq] using hv
        simp [hsame]
      next hne =>
        rw [get?, if_neg (Ne.symm hne)] at hv
        simp [ih hv]

/-- A test on the values of a table stands where an entry changes as the test does not see. -/
theorem any_upd {d : α} {g : α → α} (hg : ∀ x, f (g x) = f x) (hd : f d = false) :
    (m.upd n d g).any (fun e => f e.2) = m.any fun e => f e.2 := by
  refine any_set ?_
  rw [hg, getD]
  cases m.get? n with
  | none => exact hd
  | some x => rfl

end Any

end Sys2Proof.Tab
end

section
/-! Commands that start or do a task: what each handler makes of the part its command meets, and that the answer leaves it so (R331,
R341, R352, Tables 14.5 to 14.16). -/

namespace Sys2Proof.Machine

open Sys2Proof

/-! ### What stands -/

/-- What stands through the handler of every task: time and pins, maintenance, the configuration, the inputs, the frames, the fabric,
the pending commits, and a rate change that waits. -/
def Part.backdrop (p : Part) : Sys × Maint × Cfg × Inputs × Frames × Fabric × List Commit × Option (Word × Nat) :=
  (p.sys, p.maint, p.cfg, p.inp, p.fr, p.fab, p.txn.commits, p.host.newBaud)

theorem Part.backdrop_of_offAnswer {p q : Part} (h : p.offAnswer = q.offAnswer) (hcommits : p.txn.commits = q.txn.commits) :
    p.backdrop = q.backdrop := by
  obtain ⟨hmaint, hcfg, hinp, -, hfr, -, -, -, hfab⟩ := Part.groups_of_offAnswer h
  have hbaud : p.host.newBaud = q.host.newBaud := (congrArg (fun r : Part => r.host.newBaud) h :)
  simp only [Part.backdrop, Part.sys_of_offAnswer h, hmaint, hcfg, hinp, hfr, hfab, hcommits, hbaud]

section Fields

variable (op t : Nat) (k : CmdPkt) (s : State)

theorem commandAt_backdrop : (commandAt op t k s).backdrop = (advance t s.m).backdrop :=
  (congrArg Part.backdrop (commandAt_taken op t k s) :)

@[simp] theorem commandAt_cfg : (commandAt op t k s).cfg = s.m.cfg := (congrArg Part.cfg (commandAt_taken op t k s) :)
@[simp] theorem commandAt_comp : (commandAt op t k s).comp = s.m.comp := (congrArg Part.comp (commandAt_taken op t k s) :)
@[simp] theorem commandAt_tb : (commandAt op t k s).tb = s.m.tb := (congrArg Part.tb (commandAt_taken op t k s) :)
@[simp] theorem commandAt_free : (commandAt op t k s).free = s.m.free := (congrArg Part.free (commandAt_taken op t k s) :)

@[simp] theorem commandAt_lane (f : Nat) : (commandAt op t k s).lane f = s.m.lane f := Part.lane_of_kl (commandAt_kl ..) f
@[simp] theorem commandAt_tile (f pos : Nat) : (commandAt op t k s).tile f pos = s.m.tile f pos := Part.tile_of_kl (commandAt_kl ..) f pos

end Fields

section Answered

variable (r : OpRule) (op : Nat) (k : CmdPkt) (a : Answer) (p : Part)

@[simp] theorem answerWith_backdrop : (answerWith r op k a p).backdrop = p.backdrop :=
  Part.backdrop_of_offAnswer (answerWith_offAnswer r op k a p) (by rw [answerWith_txn])

@[simp] theorem answerWith_comp : (answerWith r op k a p).comp = p.comp := (congrArg Part.comp (answerWith_offAnswer r op k a p) :)
@[simp] theorem answerWith_tb : (answerWith r op k a p).tb = p.tb := (congrArg Part.tb (answerWith_offAnswer r op k a p) :)
@[simp] theorem answerWith_hrt : (answerWith r op k a p).hrt = p.hrt := (congrArg Part.hrt (answerWith_offAnswer r op k a p) :)
@[simp] theorem answerWith_free : (answerWith r op k a p).free = p.free := (congrArg Part.free (answerWith_offAnswer r op k a p) :)

end Answered

/-- An answer that is neither mirrored nor held leaves the link, the log and the pair. -/
theorem answerWith_own {r : OpRule} (hown : r.mirrored = false) (hcls : r.cls ≠ .config) (op : Nat) (k : CmdPkt) (a : Answer) (p : Part) :
    (answerWith r op k a p).kl = p.kl ∧ (answerWith r op k a p).log = p.log ∧ (answerWith r op k a p).pair = p.pair := by
  have hrecord (e : TagEntry) : (recordTag e p).kl = p.kl ∧ (recordTag e p).log = p.log ∧ (recordTag e p).pair = p.pair := by
    unfold recordTag; split <;> exact ⟨rfl, rfl, rfl⟩
  have hsend (x : Reply) (q : Part) : (sendReply x q).kl = q.kl ∧ (sendReply x q).log = q.log ∧ (sendReply x q).pair = q.pair := by
    unfold sendReply; dsimp only; split
    · exact ⟨rfl, rfl, rfl⟩
    · split <;> exact ⟨rfl, rfl, rfl⟩
  rw [answerWith_sent hown hcls]
  obtain ⟨hkl, hlog, hpair⟩ := hsend (replyOf op k (settle p a.status) a.params) (recordTag (recordOf op k (settle p a.status) a) p)
  obtain ⟨hkl', hlog', hpair'⟩ := hrecord (recordOf op k (settle p a.status) a)
  exact ⟨hkl.trans hkl', hlog.trans hlog', hpair.trans hpair'⟩

section Own

variable {r : OpRule} (hown : r.mirrored = false) (hcls : r.cls ≠ .config) {op : Nat} {k : CmdPkt} {a : Answer} {p : Part}
include hown hcls

theorem answerWith_own_lane (f : Nat) : (answerWith r op k a p).lane f = p.lane f := Part.lane_of_kl (answerWith_own hown hcls ..).1 f

theorem answerWith_own_tile (f pos : Nat) : (answerWith r op k a p).tile f pos = p.tile f pos :=
  Part.tile_of_kl (answerWith_own hown hcls ..).1 f pos

theorem answerWith_own_log : (answerWith r op k a p).log = p.log := (answerWith_own hown hcls ..).2.1

theorem answerWith_own_pair : (answerWith r op k a p).pair = p.pair := (answerWith_own hown hcls ..).2.2

end Own

/-! ### A task answered -/

/-- The command of a row arrives as its rule and the row ask (Table 13.2). -/
def TaskRow.asked (r : TaskRow) (s : State) : Prop :=
  takesCommand r.op r.t r.k s ∧ classOk r.rule r.k = true ∧ (r.rule.cls = .maint true → s.m.maint.unlocked = true) ∧
    (r.rule.pends = true → othersOwed s.m < 32) ∧ r.fits s

/-- The command of a row is taken: the part holds its task, the answer stands under its tag, and the rest stands. -/
def TaskRow.taken (c : Instr) (r : TaskRow) (s : State) : Prop :=
  ∃ u, exec c s = .next u ∧ r.holds s u.m ∧
    (∃ e ∈ u.m.host.tags, e.tag = r.k.tag ∧ e.opcode = r.op ∧ e.crc = r.k.crc ∧ e.owes = r.owes ∧
      e.reply = some (BitVec.ofNat 16 (r.status s), r.params s)) ∧
    u.m.cfg = s.m.cfg ∧ u.m.fr = s.m.fr ∧ u.m.inp = s.m.inp ∧ u.m.txn.commits = s.m.txn.commits ∧ u.m.fab = s.m.fab ∧
    u.m.maint = s.m.maint ∧ u.hbm = s.hbm ∧ u.flash = s.flash ∧ u.pending = s.pending

/-- The answer of a row, with this status before it settles. -/
def TaskRow.answer (r : TaskRow) (s : State) (st : Nat) : Answer := { status := st, params := r.params s, owes := r.owes }

/-- The part once a row's command was answered. -/
def TaskRow.answered (r : TaskRow) (s : State) (st : Nat) (q : Part) : Part := answerWith r.rule r.op r.k (r.answer s st) q

section Taken

variable {c : Instr} {r : TaskRow} {s : State} (h : r.asked s) {hd : Handler} {st : Nat} {q : Part}
  (hexec : exec c s = execHost r.rule r.op hd r.t r.k s)
  (hact : hd r.k (commandAt r.op r.t r.k s) = (r.answer s st, q)) (hback : q.backdrop = (commandAt r.op r.t r.k s).backdrop)
include h hexec hact hback

/-- A handler that gives the row's answer and leaves what stands takes its command, where nothing waits for the reply to leave. -/
theorem taken_of_act (hgone : repliesGone (r.answered s st q) = r.answered s st q) (hstatus : settle q st = r.status s)
    (hholds : r.holds s (r.answered s st q)) : r.taken c s := by
  obtain ⟨htakes, hclass, hopen, hroom, -⟩ := h
  have hnext : exec c s = .next { s with m := r.answered s st q } := by
    rw [hexec, execHost_takes htakes hclass hopen hroom, hact]
    exact congrArg (fun p : Part => Host.Outcome.next { s with m := p }) hgone
  have hstands : (r.answered s st q).backdrop = (advance r.t s.m).backdrop :=
    (answerWith_backdrop ..).trans (hback.trans (commandAt_backdrop ..))
  obtain ⟨-, -, hstep, hruns, -⟩ := htakes
  have hsys : q.sys = (advance r.t s.m).sys := congrArg Prod.fst (hback.trans (commandAt_backdrop ..))
  have hrecorded := answerWith_recorded (p := q) (by simp [tagsKept, hsys, advance_sys, hstep, hruns]) r.rule r.op r.k (r.answer s st)
  rw [show settle q (r.answer s st).status = r.status s from hstatus] at hrecorded
  simp only [Part.backdrop, Prod.mk.injEq] at hstands
  obtain ⟨-, hmaint, hcfg, hinp, hfr, hfab, hcommits, -⟩ := hstands
  exact ⟨_, hnext, hholds, ⟨_, hrecorded, rfl, rfl, rfl, rfl, rfl⟩, hcfg, hfr, hinp, hcommits, hfab, hmaint, rfl, rfl, rfl⟩

/-- Where the handler sets no firmware switch waiting, nothing waits. -/
theorem taken_of_idle (htrial : q.hrt.pendingTrial = (commandAt r.op r.t r.k s).hrt.pendingTrial) (hstatus : settle q st = r.status s)
    (hholds : r.holds s (r.answered s st q)) : r.taken c s := by
  have hstands : (r.answered s st q).backdrop = (advance r.t s.m).backdrop :=
    (answerWith_backdrop ..).trans (hback.trans (commandAt_backdrop ..))
  simp only [Part.backdrop, Prod.mk.injEq] at hstands
  obtain ⟨-, -, -, -, -, -, -, hbaud⟩ := hstands
  have ⟨htakes, _⟩ := h
  obtain ⟨-, -, -, -, -, -, -, -, -, -, -, -, hnone, hrate, -⟩ := htakes
  refine taken_of_act h hexec hact hback (repliesGone_idle (hbaud.trans hrate) ?_) hstatus hholds
  rw [TaskRow.answered, answerWith_hrt, htrial, commandAt_hrt, hnone]

end Taken

/-- A task answered OK, or DEGRADED_OK, on a part whose degraded state stands (R301). -/
theorem taken_of_ok {c : Instr} {r : TaskRow} {s : State} (h : r.asked s) (hrow : r.status = okRow) {hd : Handler} {q : Part}
    (hexec : exec c s = execHost r.rule r.op hd r.t r.k s) (hact : hd r.k (commandAt r.op r.t r.k s) = (r.answer s stOk, q))
    (hback : q.backdrop = (commandAt r.op r.t r.k s).backdrop)
    (htrial : q.hrt.pendingTrial = (commandAt r.op r.t r.k s).hrt.pendingTrial)
    (hok : okStatus q = okStatus (commandAt r.op r.t r.k s)) (hholds : r.holds s (r.answered s stOk q)) : r.taken c s := by
  refine taken_of_idle h hexec hact hback htrial ?_ hholds
  rw [hrow]
  exact (if_pos rfl).trans (hok.trans (commandAt_okStatus ..))

/-- A task answered PENDING. -/
theorem taken_of_pending {c : Instr} {r : TaskRow} {s : State} (h : r.asked s) (hrow : r.status = pendingRow) {hd : Handler} {q : Part}
    (hexec : exec c s = execHost r.rule r.op hd r.t r.k s) (hact : hd r.k (commandAt r.op r.t r.k s) = (r.answer s stPending, q))
    (hback : q.backdrop = (commandAt r.op r.t r.k s).backdrop)
    (htrial : q.hrt.pendingTrial = (commandAt r.op r.t r.k s).hrt.pendingTrial)
    (hholds : r.holds s (r.answered s stPending q)) : r.taken c s := by
  refine taken_of_idle h hexec hact hback htrial ?_ hholds
  rw [hrow]
  exact if_neg (by decide)

/-! ### Layouts -/

/-- A layout that passes gives whatever it was asked for. -/
theorem layout_of_passes {α β : Type} {b : List Byte} {len : Nat} {checks : List (Bool × Nat)} {w : β}
    (h : (layout b len checks w).toBool = true) (v : α) : layout b len checks v = .ok v := by
  unfold layout at h ⊢
  split at h
  · exact absurd h (by simp [badParam, Except.toBool])
  · rename_i hlen
    rw [if_neg hlen]
    split at h
    · exact absurd h (by simp [badParam, Except.toBool])
    · rfl

theorem parsed_ok {α : Type} {f : List Byte → Parse α} {act : α → Part → Answer × Part} {k : CmdPkt} {v : α} (h : f k.params = .ok v)
    (p : Part) : parsed f act k p = act v p := by
  rw [parsed, h]

theorem query_ok {f : List Byte → Part → Parse (List Byte)} {k : CmdPkt} {p : Part} {b : List Byte} (h : f k.params p = .ok b) :
    query f k p = (okAnswer b, p) := by
  rw [query, h]

/-- A command of class L whose prefix and length fit gives its own layout (R352). -/
theorem loadParams_ok {p q : Part} (hfr : p.fr = q.fr) {k : CmdPkt} (hprefix : prefixBad q k = none) {f : List Byte → Parse (List Byte)}
    (hown : f (ownParams k) = .ok (ownParams k)) : loadParams p k f = .ok (ownParams k) := by
  rw [loadParams, prefixBad_congr hfr, hprefix, hown]; rfl

/-! ### Logs, free values and firmware -/

variable {t : Nat} {k : CmdPkt} {s : State} {r : TaskRow}

theorem gleanAct_eq (b : List Byte) (p : Part) : gleanAct b p =
    (okAnswer (le 4 (nextLseq (leAt b 0 4) (gleaned p b)) ++ le 2 (if bit (byteAt b 6) 1 then 32 else (gleaned p b).length) ++ [0, 0] ++
      padTo (32 * if bit (byteAt b 6) 1 then 32 else (gleaned p b).length) ((gleaned p b).flatMap encEntry)),
     if bit (byteAt b 6) 0 then gleanThem ((gleaned p b).map (·.lseq)) p else p) := rfl

theorem glean_taken (hrow : taskRow (.glean t k) = some r) (h : r.asked s) : r.taken (.glean t k) s := by
  obtain rfl := Option.some.inj hrow
  have ⟨_, _, _, _, hfits⟩ := h
  have hact := (parsed_ok (act := gleanAct) (f := fun b => layout b 8 [within b 4 2 1 127, below b 6 4, zeros b 7 1] b) (k := k)
    (layout_of_passes hfits k.params) (commandAt 0x0003 t k s)).trans (gleanAct_eq ..)
  refine taken_of_ok h rfl rfl hact ?_ ?_ ?_ ?_
  · split <;> rfl
  · split <;> rfl
  · split <;> rfl
  · exact answerWith_own_log rfl (by nofun)

theorem flowStatus_taken (hrow : taskRow (.flowStatus t k) = some r) (h : r.asked s) : r.taken (.flowStatus t k) s := by
  obtain rfl := Option.some.inj hrow
  have ⟨_, _, _, _, hfits⟩ := h
  have hact := parsed_ok (act := flowStatus) (k := k) (f := fun b =>
      layout b 4 [within b 0 1 1 2, below b 1 (if byteAt b 0 = 1 then 64 else 48), zeros b 2 2] (byteAt b 0, byteAt b 1))
    (layout_of_passes hfits _) (commandAt 0x020C t k s)
  simp only [flowStatus, freshFree, Part.updFree_free, commandAt_cfg, commandAt_free] at hact
  exact taken_of_ok h rfl rfl hact rfl rfl rfl (by simp [TaskRow.answered])

theorem headlandStatus_taken (hrow : taskRow (.headlandStatus t k) = some r) (h : r.asked s) : r.taken (.headlandStatus t k) s := by
  obtain rfl := Option.some.inj hrow
  have ⟨_, _, _, _, hnone⟩ := h
  have hact := parsed_ok (act := headlandStatus) (k := k) (f := fun b => layout b 0 [] ())
    (layout_ok (by rw [show k.params = [] from hnone]; rfl) (by simp) _) (commandAt 0x0B0B t k s)
  simp only [headlandStatus, freshFree, commandAt_free] at hact
  exact taken_of_ok h rfl rfl hact rfl rfl rfl (by simp [TaskRow.answered])

theorem fwVerify_taken (hrow : taskRow (.fwVerify t k) = some r) (h : r.asked s) : r.taken (.fwVerify t k) s := by
  obtain rfl := Option.some.inj hrow
  have ⟨_, _, _, _, hfits⟩ := h
  have hact : fwVerify s.flash k (commandAt 0x0B02 t k s) = _ := query_ok (layout_of_passes hfits _)
  exact taken_of_ok h rfl rfl hact rfl rfl rfl (by simp [TaskRow.answered])

/-- With its image sound and nothing against it, a firmware switch waits for its reply (R327). -/
theorem fwSwitch_waits {flash : Memory} {p : Part}
    (hlayout : (layout k.params 4 [below k.params 0 2, zeros k.params 1 1, within k.params 2 2 10 3600] ()).toBool = true)
    (himage : imageFault flash (byteAt k.params 0) = false) (hclear : switchConflict flash (byteAt k.params 0) p = false) :
    fwSwitch flash k p = (okAnswer [], p.updHrt fun h => { h with pendingTrial := some (byteAt k.params 0, leAt k.params 2 2) }) := by
  simp only [fwSwitch, layout_of_passes hlayout (), himage, hclear, Bool.false_eq_true, if_false]

theorem switchConflict_commandAt (flash : Memory) (slot op : Nat) :
    switchConflict flash slot (commandAt op t k s) = switchConflict flash slot s.m := by
  simp [switchConflict, recovering, anyLinkUp, Part.pairLink, commandAt_sys, advance_sys]

/-- The switch waits while the reply of its command does (R327). -/
theorem repliesGone_waits {p : Part} {x : Reply} (hbaud : p.host.newBaud = none) (hx : x ∈ p.host.replyQueue)
    (hop : x.opcode = 0x0B03) : repliesGone p = p := by
  have hsettled : uartSettles p = p := by rw [uartSettles, hbaud]
  have hany : (p.host.replyQueue.any fun y => y.opcode == 0x0B03) = true := List.any_eq_true.mpr ⟨x, hx, by simp [hop]⟩
  rw [repliesGone, hsettled, switchStarts]
  split
  · exact if_pos hany
  · rfl

theorem recordTag_newBaud (e : TagEntry) (p : Part) : (recordTag e p).host.newBaud = p.host.newBaud := by
  unfold recordTag; split <;> rfl

theorem fwSwitch_taken (hrow : taskRow (.fwSwitch t k) = some r) (h : r.asked s) : r.taken (.fwSwitch t k) s := by
  obtain rfl := Option.some.inj hrow
  have ⟨htakes, _, _, _, hfits, himage, hclear, hasks, hbar⟩ := h
  have hclear' : switchConflict s.flash (byteAt k.params 0) (commandAt 0x0B03 t k s) = false :=
    (switchConflict_commandAt ..).trans hclear
  have hact := fwSwitch_waits hfits himage hclear'
  refine taken_of_act h rfl hact rfl ?_ ((if_pos rfl).trans (commandAt_okStatus 0x0B03 t k s)) (by simp [TaskRow.answered])
  generalize hq : (commandAt 0x0B03 t k s).updHrt (fun h => { h with pendingTrial := some (byteAt k.params 0, leAt k.params 2 2) }) = q
  have hbaud : q.host.newBaud = none := by
    obtain ⟨-, -, -, -, -, -, -, -, -, -, -, -, -, hrate, -⟩ := htakes
    rw [← hq]
    exact (commandAt_unreplied 0x0B03 t k s).2.1.trans hrate
  have hsent : answerWith ruleDagger 0x0B03 k (okAnswer []) q = replied (replyOf 0x0B03 k (settle q stOk) [])
      (recordTag (recordOf 0x0B03 k (settle q stOk) (okAnswer [])) q) := by
    rw [answerWith_sent rfl (by nofun)]
    exact sendReply_queued hasks hbar _
  show repliesGone (answerWith ruleDagger 0x0B03 k (okAnswer []) q) = answerWith ruleDagger 0x0B03 k (okAnswer []) q
  rw [hsent]
  exact repliesGone_waits ((recordTag_newBaud ..).trans hbaud) (List.mem_append_right _ (List.mem_singleton_self _)) rfl

/-! ### Objects and transfers -/

theorem objAlloc_takes {b : List Byte} {p : Part} (hnew : p.comp.objs.has (leAt b 0 2) = false)
    (hroom : storeHeld p + objBytes (objAt b) ≤ storeBytes) (hwhole : storeBroken p = false) :
    objAlloc b p = (okAnswer [], p.updComp fun c => { c with objs := c.objs.set (leAt b 0 2) (objAt b) }) := by
  simp [objAlloc, hnew, hwhole, Nat.not_lt.mpr hroom]

theorem objAlloc_taken (hrow : taskRow (.objAlloc t k) = some r) (h : r.asked s) : r.taken (.objAlloc t k) s := by
  obtain rfl := Option.some.inj hrow
  have ⟨_, _, _, _, hfits, hnew, hroom, hwhole⟩ := h
  have hact := (parsed_ok (act := objAlloc) (layout_of_passes hfits k.params) (commandAt 0x0407 t k s)).trans
    (objAlloc_takes (by simpa using hnew) (by simpa [storeHeld] using hroom) (by simpa [storeBroken] using hwhole))
  exact taken_of_ok h rfl rfl hact rfl rfl rfl (by simp [TaskRow.answered])

theorem objRelease_takes {n : Nat} {p : Part} (hthere : p.comp.objs.has n = true) (hidle : objInUse p n = false) :
    objRelease n p = (okAnswer [], p.updComp fun c => { c with objs := c.objs.erase n }) := by
  simp [objRelease, hthere, hidle]

theorem objRelease_taken (hrow : taskRow (.objRelease t k) = some r) (h : r.asked s) : r.taken (.objRelease t k) s := by
  obtain rfl := Option.some.inj hrow
  have ⟨_, _, _, _, hfits, hthere, hidle⟩ := h
  have hact := (parsed_ok (act := objRelease) (k := k) (f := fun b => layout b 4 [within b 0 2 0 4095, zeros b 2 2] (leAt b 0 2))
    (layout_of_passes hfits _) (commandAt 0x0409 t k s)).trans
    (objRelease_takes (by simpa using hthere) (by simpa [objInUse] using hidle))
  exact taken_of_ok h rfl rfl hact rfl rfl rfl (by simp [TaskRow.answered])

/-- The primary's OBJ_LOAD starts its transfer (R359). -/
theorem objLoad_starts {p : Part} (hlayout : (loadLayout k.params).toBool = true) (hsound : objLoadFault k.params p = none)
    (hrole : p.pair.role = .primary) :
    objLoad k p = ({ status := stPending, params := [], owes := some .other }, addTransfer k.tag 0x0408 k.params p) := by
  have hgives : loadLayout k.params = .ok k.params := layout_of_passes hlayout _
  simp only [objLoad, hgives, hsound, if_pos hrole, addTransfer]

theorem objInUse_commandAt (op n : Nat) : objInUse (commandAt op t k s) n = objInUse s.m n := by
  simp only [objInUse, commandAt_cfg, commandAt_txn]

theorem objLoadFault_commandAt (op : Nat) (b : List Byte) : objLoadFault b (commandAt op t k s) = objLoadFault b s.m := by
  simp only [objLoadFault, objInUse_commandAt, commandAt_comp]

theorem objLoad_taken (hrow : taskRow (.objLoad t k) = some r) (h : r.asked s) : r.taken (.objLoad t k) s := by
  obtain rfl := Option.some.inj hrow
  have ⟨htakes, _, _, _, hfits, hsound⟩ := h
  have hact := objLoad_starts hfits ((objLoadFault_commandAt 0x0408 k.params).trans hsound) (commandAt_primary htakes rfl)
  exact taken_of_pending h rfl rfl hact rfl rfl (by simp [TaskRow.answered, addTransfer, starts])

theorem calRead_taken (hrow : taskRow (.calRead t k) = some r) (h : r.asked s) : r.taken (.calRead t k) s := by
  obtain rfl := Option.some.inj hrow
  have ⟨_, _, _, _, hfits⟩ := h
  have hgives : calReadLayout (commandAt 0x0608 t k s) k.params = .ok k.params := by
    have hcfg : calReadLayout (commandAt 0x0608 t k s) k.params = calReadLayout s.m k.params := by simp [calReadLayout]
    exact hcfg.trans (layout_of_passes hfits _)
  have hact : calRead k (commandAt 0x0608 t k s) =
      ({ status := stPending, params := [], owes := some .other }, addTransfer k.tag 0x0608 k.params (commandAt 0x0608 t k s)) := by
    rw [calRead, hgives]; rfl
  exact taken_of_pending h rfl rfl hact rfl rfl (by simp [TaskRow.answered, addTransfer, starts])

theorem fwWrite_taken (hrow : taskRow (.fwWrite t k) = some r) (h : r.asked s) : r.taken (.fwWrite t k) s := by
  obtain rfl := Option.some.inj hrow
  have ⟨_, _, _, _, hfits, hslot⟩ := h
  have hother : ¬ byteAt k.params 0 = (commandAt 0x0B01 t k s).sys.bootSlot := by rw [commandAt_sys]; exact hslot
  have hact : fwWrite k (commandAt 0x0B01 t k s) =
      ({ status := stPending, params := [], owes := some .other }, addTransfer k.tag 0x0B01 k.params (commandAt 0x0B01 t k s)) := by
    simp only [fwWrite, layout_of_passes hfits (), if_neg hother]
  exact taken_of_pending h rfl rfl hact rfl rfl (by simp [TaskRow.answered, addTransfer, starts])

theorem bootSelect_taken (hrow : taskRow (.bootSelect t k) = some r) (h : r.asked s) : r.taken (.bootSelect t k) s := by
  obtain rfl := Option.some.inj hrow
  have ⟨_, _, _, _, hfits, himage⟩ := h
  have hact : bootSelect s.flash k (commandAt 0x0B04 t k s) =
      (okAnswer [], addTransfer k.tag 0x0B04 k.params (commandAt 0x0B04 t k s)) := by
    simp only [bootSelect, layout_of_passes hfits (), himage, Bool.false_eq_true, if_false]
  exact taken_of_ok h rfl rfl hact rfl rfl rfl (by simp [TaskRow.answered, addTransfer, starts])

/-! ### Loads and exports -/

@[simp] theorem finalReply_backdrop (tag : Word) (st : Nat) (params : List Byte) (p : Part) :
    (finalReply tag st params p).backdrop = p.backdrop :=
  Part.backdrop_of_offAnswer (finalReply_offAnswer tag st params p) (by rw [(finalReply_keeps ..).1])

@[simp] theorem sendAcked_backdrop (kind n : Nat) (x : PairBody) (p : Part) : (sendAcked kind n x p).backdrop = p.backdrop := by
  unfold sendAcked; exact foldl_keeps Part.backdrop (by intros; rfl) ..

@[simp] theorem sendAcked_hrt (kind n : Nat) (x : PairBody) (p : Part) : (sendAcked kind n x p).hrt = p.hrt := by
  unfold sendAcked; exact foldl_keeps Part.hrt (by intros; rfl) ..

theorem loadFinal_backdrop (l : Load) (st n : Nat) (p : Part) : (loadFinal l st n p).backdrop = p.backdrop := finalReply_backdrop ..

theorem loadFinal_hrt (l : Load) (st n : Nat) (p : Part) : (loadFinal l st n p).hrt = p.hrt := finalReply_hrt ..

/-- A load that joins the queue and may start at once, beside those it supersedes, leaves what stands and the units. -/
theorem queueLoad_stands (l : Load) (p : Part) : (queueLoad l p).backdrop = p.backdrop ∧ (queueLoad l p).hrt = p.hrt := by
  have hmet (ls : List Load) (p : Part) : (ls.foldl (fun q y => loadFinal y stSuperseded 0 (dropLoad y q)) p).backdrop = p.backdrop ∧
      (ls.foldl (fun q y => loadFinal y stSuperseded 0 (dropLoad y q)) p).hrt = p.hrt :=
    ⟨foldl_keeps Part.backdrop (fun q y => loadFinal_backdrop y stSuperseded 0 (dropLoad y q)) .., 
      foldl_keeps Part.hrt (fun q y => loadFinal_hrt y stSuperseded 0 (dropLoad y q)) ..⟩
  unfold queueLoad; dsimp only; split
  · exact hmet ..
  · simp only [startLoad, sendPackage, sendAcked_backdrop, sendAcked_hrt]
    exact hmet ..

/-- It stands among the loads, waiting or started (Table 6.7). -/
theorem queueLoad_joins {l : Load} (hwaits : l.state = 0) (p : Part) :
    ∃ y ∈ (queueLoad l p).txn.loads, y.tag = l.tag ∧ y.bytes = l.bytes ∧ y.state ≤ 1 := by
  unfold queueLoad; dsimp only; split
  · exact ⟨l, by simp, rfl, rfl, by omega⟩
  · refine ⟨{ l with state := 1 }, ?_, rfl, rfl, le_refl 1⟩
    rw [startLoad_txn]
    exact List.mem_map.mpr ⟨l, by simp, if_pos (beq_self_eq_true _)⟩

/-- A package with a footprint is queued by a primary with room for it (R158). -/
theorem pkgLoad_queues {p : Part} {memory : List Byte} {l : Load}
    (hparams : loadParams p k (fun b => layout b 16 [] b) = .ok (ownParams k)) (hroom : p.txn.loads.length < 8)
    (hrole : p.pair.role = .primary) (hl : newLoad p k (memory.take (leAt (ownParams k) 8 8)) = l) (hfoot : l.footprint ≠ []) :
    pkgLoad memory k p =
      (⟨stPending, commitBlock (applyCfn p (prefixCfn k)) ++ le 4 l.package.toNat, some .load⟩, queueLoad l p) := by
  subst hl
  simp only [pkgLoad, hparams, Nat.not_le.mpr hroom, List.isEmpty_eq_false_iff.mpr hfoot, hrole, Bool.false_and, Bool.false_eq_true,
    if_false, if_true]
  rfl

theorem newLoad_bytes (p : Part) (k : CmdPkt) (bytes : List Byte) : (newLoad p k bytes).bytes = bytes := rfl

theorem newLoad_commandAt (op : Nat) (bytes : List Byte) : newLoad (commandAt op t k s) k bytes = newLoad s.m k bytes := by
  simp only [newLoad, commandAt_cfg]

theorem pkgLoad_taken {memory : List Byte} (hrow : taskRow (.pkgLoad t k memory) = some r) (h : r.asked s) :
    r.taken (.pkgLoad t k memory) s := by
  obtain rfl := Option.some.inj hrow
  have ⟨htakes, _, _, _, hprefix, hlen, hroom, hfoot⟩ := h
  have hparams := loadParams_ok (commandAt_fr 0x0603 t k s) hprefix (f := fun b => layout b 16 [] b) (layout_ok hlen (by simp) _)
  have hact := pkgLoad_queues (memory := memory) hparams (by simpa using hroom) (commandAt_primary htakes rfl)
    (newLoad_commandAt ..) hfoot
  obtain ⟨hback, hhrt⟩ := queueLoad_stands (newLoad s.m k (memory.take (leAt (ownParams k) 8 8))) (commandAt 0x0603 t k s)
  refine taken_of_pending h rfl rfl hact hback (congrArg Hearth.pendingTrial hhrt) ?_
  obtain ⟨l, hl, htag, hbytes, hstate⟩ :=
    queueLoad_joins (l := newLoad s.m k (memory.take (leAt (ownParams k) 8 8))) rfl (commandAt 0x0603 t k s)
  exact ⟨l, by rw [TaskRow.answered, answerWith_txn]; exact hl, htag, hbytes.trans (newLoad_bytes ..), hstate⟩

theorem wearExport_starts {p : Part}
    (hparams : loadParams p k (fun b => layout b 16 [(decide (exportLength p.cfg ≤ leAt b 8 8), 8)] b) = .ok (ownParams k)) :
    wearExport k p = ({ status := stPending, params := commitBlock (applyCfn p (prefixCfn k)) ++ le 8 0, owes := some .other },
      p.updTxn fun x => { x with exports := x.exports ++ [{
        tag := k.tag, kind := 2, bytes := [], apply := applyCfn p (prefixCfn k),
        hostAddr := BitVec.ofNat 64 (leAt (ownParams k) 0 8) }] }) := by
  rw [wearExport, hparams]

theorem wearExport_taken (hrow : taskRow (.wearExport t k) = some r) (h : r.asked s) : r.taken (.wearExport t k) s := by
  obtain rfl := Option.some.inj hrow
  have ⟨_, _, _, _, hprefix, hlen, hfits⟩ := h
  have hparams := loadParams_ok (commandAt_fr 0x0604 t k s) hprefix
    (f := fun b => layout b 16 [(decide (exportLength (commandAt 0x0604 t k s).cfg ≤ leAt b 8 8), 8)] b)
    (layout_ok hlen (by simpa using hfits) _)
  have hact := wearExport_starts hparams
  exact taken_of_pending h rfl rfl hact rfl rfl (by simp [TaskRow.answered])

/-! ### Units -/

theorem tbSteer_taken (hrow : taskRow (.tbSteer t k) = some r) (h : r.asked s) : r.taken (.tbSteer t k) s := by
  obtain rfl := Option.some.inj hrow
  have ⟨_, _, _, _, hfits, hlocked⟩ := h
  have hstored (v : Int) : tbSteer v (commandAt 0x0903 t k s) =
      (okAnswer [1, 0, 0, 0], (commandAt 0x0903 t k s).updTb fun x => { x with steerNew := some v }) := by
    have hlocked' : (commandAt 0x0903 t k s).tb.state = .locked := by rw [commandAt_tb]; exact hlocked
    simp only [tbSteer, steerSet, hlocked']
    rfl
  have hact := (parsed_ok (act := tbSteer) (k := k)
    (f := fun b => layout b 4 [withinInt b 0 4 (-200000000) 200000000] (leIntAt b 0 4)) (layout_of_passes hfits _)
    (commandAt 0x0903 t k s)).trans (hstored _)
  exact taken_of_ok h rfl rfl hact rfl rfl rfl (by simp [TaskRow.answered])

/-- A unit in service with a fallow one of its kind is planned to be swapped, where nothing recovers and its swap does not wait (R308). -/
theorem spareSwap_plans {p : Part} {l : Nat} (hlayout : (layout k.params 4 [below k.params 0 5, zeros k.params 1 1] ()).toBool = true)
    (hkind : kindOf (byteAt k.params 0) ≠ .hbm) (hrests : recovering p = false) (hspare : fallowCount p (kindOf (byteAt k.params 0)) ≠ 0)
    (hserves : servedBy p (kindOf (byteAt k.params 0)) (leAt k.params 2 2) = some l)
    (hnew : swapWaits p (kindOf (byteAt k.params 0)) l = false) :
    spareSwap k p = ({ status := stPending, params := [], owes := some .other }, p.updHrt fun h => { h with planned := h.planned ++
      [{ kind := kindOf (byteAt k.params 0), logical := l, spare := 0, single := false, wear := true, tag := some k.tag }] }) := by
  have hplan : planSwap (kindOf (byteAt k.params 0)) l (some k.tag) p = p.updHrt fun h => { h with planned := h.planned ++
      [{ kind := kindOf (byteAt k.params 0), logical := l, spare := 0, single := false, wear := true, tag := some k.tag }] } := by
    rw [swapWaits, if_neg hkind] at hnew
    rw [planSwap, hnew]; rfl
  simp only [spareSwap, layout_of_passes hlayout (kindOf (byteAt k.params 0)), hserves, hrests, hnew, hspare, hkind, hplan, Bool.or_self,
    Bool.false_eq_true, if_false]

theorem spareSwap_taken (hrow : taskRow (.spareSwap t k) = some r) (h : r.asked s) : r.taken (.spareSwap t k) s := by
  obtain rfl := Option.some.inj hrow
  have ⟨_, _, _, _, hfits, hkind, hrests, hspare, l, hserves, hnew⟩ := h
  have hact := spareSwap_plans (p := commandAt 0x0B05 t k s) hfits hkind (by simpa [recovering] using hrests)
    (by simpa [fallowCount, unitsOf, hkind] using hspare) (l := l) (by simpa [servedBy, logicalOf, hkind] using hserves)
    (by simpa [swapWaits, hkind] using hnew)
  exact taken_of_pending h rfl rfl hact rfl rfl ⟨l, hserves, by simp [TaskRow.answered]⟩

theorem selfTest_taken (hrow : taskRow (.selfTest t k) = some r) (h : r.asked s) : r.taken (.selfTest t k) s := by
  obtain rfl := Option.some.inj hrow
  have ⟨_, _, _, _, hfits, hfallow⟩ := h
  have hfallow' : isFallow (commandAt 0x0B06 t k s) (kindOf (byteAt k.params 0)) (leAt k.params 2 2) = true := by
    simpa [isFallow, pcState, Part.pc] using hfallow
  have hact : selfTestCmd k (commandAt 0x0B06 t k s) = ({ status := stPending, params := [], owes := some .other },
      (commandAt 0x0B06 t k s).updHrt fun h => { h with tests := h.tests ++ [(kindOf (byteAt k.params 0), leAt k.params 2 2, k.tag)] }) := by
    simp only [selfTestCmd, layout_of_passes hfits (kindOf (byteAt k.params 0)), hfallow', if_true]
  exact taken_of_pending h rfl rfl hact rfl rfl (by simp [TaskRow.answered])

/-! ### The pair -/

theorem writeJournal_backdrop (n : Nat) (txn : Half) (tag : Word) (b : JournalBody) (p : Part) :
    (writeJournal n txn tag b p).backdrop = p.backdrop :=
  Part.backdrop_of_offAnswer (writeJournal_offAnswer n txn tag b p) (writeJournal_keeps n txn tag b p).1

/-- A journal entry leaves the switch of roles that waits, and the units. -/
theorem writeJournal_switch (n : Nat) (txn : Half) (tag : Word) (b : JournalBody) (p : Part) :
    (writeJournal n txn tag b p).pair.switchAt = p.pair.switchAt ∧ (writeJournal n txn tag b p).pair.switchTag = p.pair.switchTag ∧
      (writeJournal n txn tag b p).hrt = p.hrt := by
  have hacked (kind m : Nat) (x : PairBody) (q : Part) : (sendAcked kind m x q).pair.switchAt = q.pair.switchAt ∧
      (sendAcked kind m x q).pair.switchTag = q.pair.switchTag := by
    unfold sendAcked
    exact ⟨foldl_keeps (fun q : Part => q.pair.switchAt) (by intros; rfl) .., foldl_keeps (fun q : Part => q.pair.switchTag) (by intros; rfl) ..⟩
  unfold writeJournal; split
  · rw [(hacked ..).1, (hacked ..).2, sendAcked_hrt, Part.updTxn_pair, Part.updTxn_hrt]
    exact ⟨rfl, rfl, rfl⟩
  · exact ⟨rfl, rfl, rfl⟩

/-- A switch of roles is noted for the first open frame (R293). -/
def switchNoted (tag : Word) (p : Part) : Part := p.updPair fun x => { x with switchAt := some (firstOpen p), switchTag := some tag }

theorem pairSwitch_journals {p : Part} (hnone : k.params = []) (hthere : standbyThere p = true) (hfirst : p.pair.switchAt = none) :
    pairSwitch k p = ({ status := stPending, params := commitBlock (firstOpen p), owes := some .other },
      writeJournal (firstOpen p) 0 k.tag .switch (switchNoted k.tag p)) := by
  simp [pairSwitch, hnone, hthere, hfirst, switchNoted]

theorem pairSwitch_taken (hrow : taskRow (.pairSwitch t k) = some r) (h : r.asked s) : r.taken (.pairSwitch t k) s := by
  obtain rfl := Option.some.inj hrow
  have ⟨htakes, _, _, _, hnone, hthere, hfirst⟩ := h
  have hact := pairSwitch_journals (p := commandAt 0x0A02 t k s) hnone
    (by simpa [standbyThere, anyLinkUp, Part.pairLink] using hthere) (by simpa using hfirst)
  obtain ⟨hat, htag, hhrt⟩ := writeJournal_switch (firstOpen (commandAt 0x0A02 t k s)) 0 k.tag .switch
    (switchNoted k.tag (commandAt 0x0A02 t k s))
  refine taken_of_pending h rfl rfl hact (writeJournal_backdrop ..) (congrArg Hearth.pendingTrial hhrt) ?_
  refine ⟨(congrArg Pair.switchAt (answerWith_own_pair rfl (by nofun))).trans hat,
    (congrArg Pair.switchTag (answerWith_own_pair rfl (by nofun))).trans htag, ?_⟩
  rw [TaskRow.answered, answerWith_txn]
  obtain ⟨hjseq, -⟩ := writeJournal_txn (p := switchNoted k.tag (commandAt 0x0A02 t k s)) (commandAt_primary htakes rfl)
    (firstOpen (commandAt 0x0A02 t k s)) 0 k.tag .switch
  exact hjseq.trans (congrArg (fun x : TxnSt => x.jseq + 1) (commandAt_txn ..))

/-! ### Furrows -/

/-- A furrow of the head is faulted: what R301 reads of the link. -/
def anyFaulted (p : Part) : Bool := p.kl.lanes.any fun e => e.2.faulted

theorem updLane_anyFaulted {g : Lane → Lane} (hg : ∀ l, (g l).faulted = l.faulted) (f : Nat) (p : Part) :
    anyFaulted (updLane f g p) = anyFaulted p := Tab.any_upd (f := Lane.faulted) hg rfl

theorem queueCtrl_anyFaulted (f : Nat) (c : Ctrl) (p : Part) : anyFaulted (queueCtrl f c p) = anyFaulted p := by
  unfold queueCtrl
  rw [updLane_anyFaulted (by intro; rfl)]
  split
  · simp [anyFaulted, ctrlqFull, laneCount]
  · rfl

theorem enumHop_anyFaulted (f hop found : Nat) (sum : Int) (p : Part) : anyFaulted (enumHop f hop found sum p) = anyFaulted p := by
  unfold enumHop hopCtrl
  rw [queueCtrl_anyFaulted]
  exact updLane_anyFaulted (g := fun l => { l with enum := some { hop := hop, found := found, asymSum := sum } }) (fun _ => rfl) f p

theorem startEnum_anyFaulted (f hop : Nat) (p : Part) : anyFaulted (startEnum f hop p) = anyFaulted p := by
  unfold startEnum; split
  · rfl
  · split
    · split
      · rfl
      · exact enumHop_anyFaulted ..
    · exact enumHop_anyFaulted ..

/-- What R301 reads beside the link, and what stands through a task. -/
def Part.besideLink (p : Part) := (p.backdrop, p.hrt, p.log.banks)

theorem besideLink_keptOnLink (f : Nat) (v) : KeptOnLink f fun q => q.besideLink = v :=
  keptOnLink_of_eq (fun _ _ _ => rfl) (fun _ _ _ _ => rfl) (fun _ _ => rfl) (fun _ _ => rfl) (fun _ => rfl)
    (by simp [Part.besideLink, Part.backdrop])

/-- The status OK or DEGRADED_OK stands where no lane is faulted or recovered, and nothing changes beside the link (R301). -/
theorem okStatus_of_besideLink {p q : Part} (hlanes : anyFaulted p = anyFaulted q) (h : p.besideLink = q.besideLink) :
    okStatus p = okStatus q := by
  obtain ⟨hback, hhrt, hbanks⟩ : _ ∧ _ ∧ _ := by simpa only [Part.besideLink, Prod.mk.injEq] using h
  have hfab : p.fab = q.fab := by
    simp only [Part.backdrop, Prod.mk.injEq] at hback
    tauto
  have hlink : okStatus { p with kl := q.kl } = okStatus p := by
    have hany : (p.kl.lanes.any fun e => e.2.faulted) = q.kl.lanes.any fun e => e.2.faulted := hlanes
    simp only [okStatus, degraded, hany]
    rfl
  exact hlink.symm.trans (okStatus_congr rfl hhrt hfab hbanks)

/-- A command to a tile in service joins its furrow's queue while it has room (R214). -/
theorem tileCtrl_queues {p : Part} (hlayout : (tileCtrlLayout k.params).toBool = true)
    (hin : (p.tile (byteAt k.params 0) (byteAt k.params 1)).inService = true) (hroom : (p.lane (byteAt k.params 0)).queue.length < 64) :
    tileCtrl k p = ({ status := stPending, params := [], owes := some .other }, updLane (byteAt k.params 0) (fun l => { l with
      queue := l.queue ++ [{ key := byteAt k.params 1, op := leAt k.params 2 2, reply := byteAt k.params 5 == 1,
                             payload := bytesAt k.params 8 (byteAt k.params 4), why := .host k.tag }] }) p) := by
  have hgives : tileCtrlLayout k.params = .ok k.params := layout_of_passes hlayout _
  simp only [tileCtrl, hgives, hin, pushCtrl, if_neg (Nat.not_le.mpr hroom), Bool.not_true, Bool.false_eq_true, if_false]

theorem tileCtrl_taken (hrow : taskRow (.tileCtrl t k) = some r) (h : r.asked s) : r.taken (.tileCtrl t k) s := by
  obtain rfl := Option.some.inj hrow
  have ⟨_, _, _, _, hfits, hin, hroom⟩ := h
  have hact := tileCtrl_queues (p := commandAt 0x0707 t k s) hfits (by simpa using hin) (by simpa using hroom)
  exact taken_of_pending h rfl rfl hact rfl rfl ((congrArg Lane.queue (answerWith_own_lane rfl (by nofun) _)).trans (by simp))

/-- On a lane that is UP and enumerates nothing, of a head that may send, enumeration starts at its hop (R216). -/
theorem startEnum_starts {f : Nat} {p : Part} (hup : (p.lane f).state = 7) (hidle : (p.lane f).enum = none)
    (hsends : p.pair.role ≠ .yielding) : ((startEnum f 0 p).lane f).enum = some { hop := 0, found := 0, asymSum := 0 } := by
  have hmay : maySend p = true := by simpa [maySend] using hsends
  have hstarts : startEnum f 0 p = enumHop f 0 0 0 p := by simp [startEnum, hup, hmay, hidle]
  rw [hstarts, enumHop, hopCtrl, queueCtrl_enum]
  simp [updLink, Part.lane, updLane]

theorem furrowRescan_taken (hrow : taskRow (.furrowRescan t k) = some r) (h : r.asked s) : r.taken (.furrowRescan t k) s := by
  obtain rfl := Option.some.inj hrow
  have ⟨htakes, _, _, _, hfits, hup, hidle⟩ := h
  have hact : parsed _ furrowRescan k (commandAt 0x0708 t k s) = (okAnswer [], startEnum (byteAt k.params 0) 0 (commandAt 0x0708 t k s)) :=
    parsed_ok (f := fun b => layout b 4 [below b 0 128, zeros b 1 3] (byteAt b 0)) (layout_of_passes hfits _) _
  have hbeside : (startEnum (byteAt k.params 0) 0 (commandAt 0x0708 t k s)).besideLink = (commandAt 0x0708 t k s).besideLink :=
    (besideLink_keptOnLink _ _).startEnum rfl 0
  obtain ⟨hback, hhrt, -⟩ : _ ∧ _ ∧ _ := by simpa only [Part.besideLink, Prod.mk.injEq] using hbeside
  refine taken_of_ok h rfl rfl hact hback (congrArg Hearth.pendingTrial hhrt)
    (okStatus_of_besideLink (startEnum_anyFaulted ..) hbeside) ?_
  obtain ⟨-, -, -, -, -, -, -, -, -, -, hyield, -⟩ := htakes
  exact (congrArg Lane.enum (answerWith_own_lane rfl (by nofun) _)).trans
    (startEnum_starts (by simpa using hup) (by simpa using hidle) (by simpa using hyield))

theorem startEnum_tile (f hop g pos : Nat) (p : Part) : (startEnum f hop p).tile g pos = p.tile g pos := by
  have hqueue (c : Ctrl) (q : Part) : (queueCtrl f c q).tile g pos = q.tile g pos := by
    unfold queueCtrl; split <;> simp [ctrlqFull]
  have hhop (found : Nat) (sum : Int) : (enumHop f hop found sum p).tile g pos = p.tile g pos := by
    unfold enumHop hopCtrl
    rw [hqueue]; rfl
  unfold startEnum; split
  · rfl
  · split
    · split
      · rfl
      · exact hhop ..
    · exact hhop ..

/-- TILE_CLEAR: the tile is out of service, and nothing beside the link changes (R218). -/
theorem clearTile_clears (f pos : Nat) (p : Part) : ((clearTile f pos p).tile f pos).inService = false ∧
    (clearTile f pos p).besideLink = p.besideLink ∧ anyFaulted (clearTile f pos p) = anyFaulted p := by
  unfold clearTile; dsimp only
  refine ⟨?_, ?_, ?_⟩
  · have hqueue (c : Ctrl) (q : Part) : (queueCtrl f c q).tile f pos = q.tile f pos := by
      unfold queueCtrl; split <;> simp [ctrlqFull]
    rw [startEnum_tile, hqueue]
    simp
  · have hkept := besideLink_keptOnLink f p.besideLink
    exact hkept.startEnum (hkept.queueCtrl (hkept.tile f pos _ rfl) _) _
  · rw [startEnum_anyFaulted, queueCtrl_anyFaulted]; rfl

theorem tileClear_taken (hrow : taskRow (.tileClear t k) = some r) (h : r.asked s) : r.taken (.tileClear t k) s := by
  obtain rfl := Option.some.inj hrow
  have ⟨_, _, _, _, hfits, hmapped⟩ := h
  have hclears : tileClear (byteAt k.params 0, byteAt k.params 1) (commandAt 0x070A t k s) =
      (okAnswer [], clearTile (byteAt k.params 0) (byteAt k.params 1) (commandAt 0x070A t k s)) := if_pos (by simpa using hmapped)
  have hact := (parsed_ok (act := tileClear) (k := k)
    (f := fun b => layout b 4 [below b 0 128, within b 1 1 1 255, zeros b 2 2] (byteAt b 0, byteAt b 1)) (layout_of_passes hfits _)
    (commandAt 0x070A t k s)).trans hclears
  obtain ⟨hout, hbeside, hlanes⟩ := clearTile_clears (byteAt k.params 0) (byteAt k.params 1) (commandAt 0x070A t k s)
  obtain ⟨hback, hhrt, -⟩ : _ ∧ _ ∧ _ := by simpa only [Part.besideLink, Prod.mk.injEq] using hbeside
  refine taken_of_ok h rfl rfl hact hback (congrArg Hearth.pendingTrial hhrt) (okStatus_of_besideLink hlanes hbeside) ?_
  exact (congrArg TileRt.inService (answerWith_own_tile rfl (by nofun) _ _)).trans hout

end Sys2Proof.Machine

open Sys2Proof Sys2Proof.Machine

/-- Settles O57: each command by what its handler does to the part it meets; the answer leaves that. -/
theorem tasksTaken : Obligations.TasksTaken := by
  unfold Obligations.TasksTaken
  intro c r s hrow htakes hclass hopen hroom hfits
  have h : r.asked s := ⟨htakes, hclass, hopen, hroom, hfits⟩
  show r.taken c s
  clear htakes hclass hopen hroom hfits
  match c, hrow with
  | .glean .., hrow => exact glean_taken hrow h
  | .flowStatus .., hrow => exact flowStatus_taken hrow h
  | .headlandStatus .., hrow => exact headlandStatus_taken hrow h
  | .fwVerify .., hrow => exact fwVerify_taken hrow h
  | .objAlloc .., hrow => exact objAlloc_taken hrow h
  | .objLoad .., hrow => exact objLoad_taken hrow h
  | .objRelease .., hrow => exact objRelease_taken hrow h
  | .pkgLoad .., hrow => exact pkgLoad_taken hrow h
  | .wearExport .., hrow => exact wearExport_taken hrow h
  | .calRead .., hrow => exact calRead_taken hrow h
  | .tileCtrl .., hrow => exact tileCtrl_taken hrow h
  | .furrowRescan .., hrow => exact furrowRescan_taken hrow h
  | .tileClear .., hrow => exact tileClear_taken hrow h
  | .tbSteer .., hrow => exact tbSteer_taken hrow h
  | .pairSwitch .., hrow => exact pairSwitch_taken hrow h
  | .fwWrite .., hrow => exact fwWrite_taken hrow h
  | .fwSwitch .., hrow => exact fwSwitch_taken hrow h
  | .bootSelect .., hrow => exact bootSelect_taken hrow h
  | .spareSwap .., hrow => exact spareSwap_taken hrow h
  | .selfTest .., hrow => exact selfTest_taken hrow h

end

section
/-! The byte memories (R387, R409): which commands write them, and that every write keeps their canonical form. -/

namespace Sys2Proof.Machine

open Sys2Proof

/-- The canonical form of the HBM. -/
abbrev hbmCanonical (m : Memory) : Prop := Memory.wf Memory.hbmDefault m = true

theorem ite_canonical {c : Prop} [Decidable c] {a b : Memory} (ha : hbmCanonical a) (hb : hbmCanonical b) :
    hbmCanonical (if c then a else b) := by split <;> assumption

theorem pair_canonical (p : Part) {m : Memory} (h : hbmCanonical m) : hbmCanonical ((p, m) : Both).2 := h

/-! ### Writes of the light stage and the ledger -/

theorem writeBand_canonical (buf b : Nat) (lines : List (List Rgba)) : ∀ (i : Nat) {m : Memory}, hbmCanonical m →
    hbmCanonical (writeBand buf b i lines m) := by
  induction lines with
  | nil => exact fun _ _ h => h
  | cons l rest ih => exact fun i _ h => ih (i + 1) (Memory.writeBytes_wf _ _ h)

theorem writeRecord_canonical {m : Memory} (h : hbmCanonical m) (bank : Bool) (x y r : Nat) : hbmCanonical (writeRecord m bank x y r) :=
  Memory.writeBytes_wf _ _ h

theorem stageCal_canonical (p : Part) (b : List Byte) (foot : List (Nat × Nat)) {m : Memory} (h : hbmCanonical m) :
    hbmCanonical (stageCal p b foot m) :=
  List.foldlRecOn _ _ h fun _ hm _ _ => List.foldlRecOn _ _ hm fun _ hm _ _ => writeRecord_canonical hm ..

theorem ledgerPixel_canonical (n per : Nat) (jobs : List WearJob) (on : Bool) (f pos : Nat) (e : TileEntry) {s : Both}
    (h : hbmCanonical s.2) (xy : Nat × Nat) : hbmCanonical (ledgerPixel n per jobs on f pos e s xy).2 := by
  have hledger (v : Nat) : hbmCanonical (writeLedger s.2 xy.1 xy.2 v) := Memory.writeBytes_wf _ _ h
  unfold ledgerPixel
  exact ite_canonical (writeRecord_canonical (ite_canonical h (hledger _)) ..) (ite_canonical h (hledger _))

theorem ledgerBand_canonical (n : Nat) {s : Both} (h : hbmCanonical s.2) (due : Nat × Nat) : hbmCanonical (ledgerBand n s due).2 :=
  List.foldlRecOn (motive := fun r : Both => hbmCanonical r.2) _ _ h fun _ hr _ _ =>
    List.foldlRecOn (motive := fun r : Both => hbmCanonical r.2) _ _ hr fun _ hr _ _ => ledgerPixel_canonical _ _ _ _ _ _ _ hr _

theorem ledgerUpdates_canonical (n : Nat) {s : Both} (h : hbmCanonical s.2) : hbmCanonical (ledgerUpdates n s).2 :=
  List.foldlRecOn (motive := fun r : Both => hbmCanonical r.2) _ _ h fun _ hr _ _ => ledgerBand_canonical n hr _

theorem lightStage_canonical {s : Both} (h : hbmCanonical s.2) : hbmCanonical (lightStage s).2 := by
  unfold lightStage
  dsimp only
  split
  · exact h
  · exact ledgerUpdates_canonical _ h

theorem scanOn_canonical {s : Both} (h : hbmCanonical s.2) : hbmCanonical (scanOn s).2 := by
  unfold scanOn
  dsimp only
  split
  · exact lightStage_canonical h
  · exact h

theorem scanOpen_canonical (short : List (Nat × Nat)) {s : Both} (h : hbmCanonical s.2) : hbmCanonical (scanOpen short s).2 := by
  unfold scanOpen
  dsimp only
  split
  · exact h
  · exact scanOn_canonical h

theorem estimatesDone_canonical {s : Both} (h : hbmCanonical s.2) : hbmCanonical (estimatesDone s).2 := by
  unfold estimatesDone
  exact pair_canonical _ (lightStage_canonical h)

theorem frameEnds_canonical {s : Both} (h : hbmCanonical s.2) : hbmCanonical (frameEnds s).2 := by
  unfold frameEnds
  dsimp only
  split
  · exact estimatesDone_canonical (s := (scanClose s.2 s.1, s.2)) h
  · exact h

/-! ### Commands that write the HBM -/

/-- From `s` to `t` the HBM may have been written, and stays canonical; the boot flash and the waiting commands stand. -/
structure WritesHbm (s t : State) : Prop where
  flash : t.flash = s.flash
  pending : t.pending = s.pending
  canonical : hbmCanonical s.hbm → hbmCanonical t.hbm

theorem WritesHbm.part (s : State) (p : Part) : WritesHbm s { s with m := p } := ⟨rfl, rfl, id⟩

theorem joinImage_canonical (cells : List (Nat × Byte)) {m : Memory} (h : hbmCanonical m) : hbmCanonical (joinImage cells m) :=
  List.foldlRecOn _ _ (Memory.filter_wfFrom _ _ _ _ h) fun _ hm _ _ => Memory.writeBytes_wf _ _ hm

theorem bulkTaken_writes (object offset : Nat) (data : BulkData) (s : State) : WritesHbm s (bulkTaken object offset data s) := by
  unfold bulkTaken
  split
  case h_5 => exact ⟨rfl, rfl, joinImage_canonical _⟩
  case h_6 => exact ⟨rfl, rfl, Memory.writeBytes_wf _ _⟩
  case h_7 =>
    unfold packageHeld
    split
    · exact .part ..
    · exact ⟨rfl, rfl, fun h => ite_canonical (stageCal_canonical _ _ _ h) h⟩
  case h_1 => split <;> exact .part ..
  all_goals exact .part ..

theorem loadDone_writes (tag : Word) (ok partner : Bool) (s : State) : WritesHbm s (loadDone tag ok partner s) := by
  unfold loadDone
  split
  · exact .part ..
  split
  · exact .part ..
  split
  · exact .part ..
  split
  · exact .part ..
  · exact ⟨rfl, rfl, fun h => ite_canonical (stageCal_canonical _ _ _ h) h⟩

theorem segmentLost_writes (seg : Nat) (s : State) : WritesHbm s (segmentLost seg s) := by
  unfold segmentLost
  dsimp only
  repeat' split
  · exact .part ..
  · exact ⟨rfl, rfl, Memory.clearRange_wf _ _⟩
  · exact ⟨rfl, rfl, Memory.clearRange_wf _ _⟩
  · exact .part ..
  · exact .part ..

theorem kindlingStep_writes (r : KindlingReport) (s : State) : WritesHbm s (kindlingStep r s) := by
  unfold kindlingStep
  split
  case h_4 =>
    unfold memoryReady
    split
    · exact .part ..
    · split
      · exact .part ..
      · exact ⟨rfl, rfl, fun _ => rfl⟩
  all_goals exact .part ..

theorem bandComposed_writes (b : Nat) (behind : Bool) (s : State) : WritesHbm s (bandComposed b behind s) :=
  ⟨rfl, rfl, writeBand_canonical _ _ _ _⟩

theorem scanWindowOpen_writes (t : Nat) (short : List (Nat × Nat)) (s : State) : WritesHbm s (scanWindowOpen t short s) := by
  unfold scanWindowOpen
  split
  · dsimp only
    split
    · exact ⟨rfl, rfl, fun h => scanOpen_canonical short h⟩
    · exact .part ..
  · exact .part ..

theorem frameEvent_canonical {s : Both} (h : hbmCanonical s.2) : hbmCanonical (frameEvent s).2 := by
  have hends := frameEnds_canonical (s := (advance (feInstant s.1 (nextCfn s.1)) s.1, s.2)) h
  unfold frameEvent
  exact pair_canonical _ hends

theorem bandStep_canonical (b : Nat) (behind : Bool) (p : Part) {m : Memory} (h : hbmCanonical m) :
    hbmCanonical (bandStep b behind p m).2 := by
  unfold bandStep scanFollows
  dsimp only
  split
  · exact scanOn_canonical (writeBand_canonical _ _ _ _ h)
  · exact writeBand_canonical _ _ _ _ h

/-- Where the part is alive the command does `f` at its instant, else nothing. -/
theorem writesHbm_ite {s : State} {t : Nat} {f : State → State} (h : ∀ r, WritesHbm r (f r)) :
    ∃ u, (if s.m.alive then Host.Outcome.next (f { s with m := advance t s.m }) else .next s : Host.Outcome State Fault Refusal) = .next u ∧
      WritesHbm s u := by
  split
  · obtain ⟨hflash, hpending, hform⟩ := h { s with m := advance t s.m }
    exact ⟨_, rfl, hflash, hpending, hform⟩
  · exact ⟨s, rfl, .part s s.m⟩

theorem exec_frameEvent_writes (gpio : BitVec 16) (s : State) : ∃ u, exec (.frameEvent gpio) s = .next u ∧ WritesHbm s u := by
  by_cases hruns : rasterRuns s.m = true
  · have hform : hbmCanonical s.hbm → _ := frameEvent_canonical (s := (s.m.updSys fun y => { y with gpioIn := gpio }, s.hbm))
    show ∃ u, execFrameEvent gpio s = .next u ∧ _
    rw [execFrameEvent, if_pos hruns]
    generalize frameEvent (s.m.updSys fun y => { y with gpioIn := gpio }, s.hbm) = r at hform ⊢
    exact ⟨_, rfl, rfl, rfl, hform⟩
  · exact ⟨s, if_neg hruns, .part s s.m⟩

theorem exec_bandComposed_writes (t b : Nat) (behind : Bool) (s : State) :
    ∃ u, exec (.bandComposed t b behind) s = .next u ∧ WritesHbm s u := by
  by_cases hopen : bandOpen b behind (advance t s.m) = true
  · exact ⟨_, exec_bandComposed_open hopen, rfl, rfl, bandStep_canonical _ _ _⟩
  · cases halive : s.m.alive
    · exact ⟨s, by simp [exec, execBandComposed, hopen, halive], .part s s.m⟩
    · exact ⟨_, exec_bandComposed_shut halive (Bool.eq_false_of_not_eq_true hopen), .part ..⟩

theorem exec_feederEstimateDone_writes (t : Nat) (s : State) : ∃ u, exec (.feederEstimateDone t) s = .next u ∧ WritesHbm s u := by
  cases halive : s.m.alive
  · exact ⟨s, by simp [exec, execFeederEstimateDone, halive], .part s s.m⟩
  cases hscanned : s.m.light.scanned
  · exact ⟨_, by simp [exec, execFeederEstimateDone, halive, hscanned], .part s (advance t s.m)⟩
  · exact ⟨_, exec_feederEstimateDone halive hscanned, rfl, rfl,
      estimatesDone_canonical (s := (scanTo s.hbm t (advance t s.m), s.hbm))⟩

theorem exec_kindlingStepDone_writes (t : Nat) (r : KindlingReport) (s : State) :
    ∃ u, exec (.kindlingStepDone t r) s = .next u ∧ WritesHbm s u := by
  show ∃ u, execKindlingStepDone t r s = .next u ∧ _
  unfold execKindlingStepDone
  split
  · obtain ⟨hflash, hpending, hform⟩ := kindlingStep_writes r { s with m := advance t s.m }
    exact ⟨_, rfl, hflash, hpending, hform⟩
  · split
    · exact ⟨_, rfl, .part ..⟩
    · exact ⟨s, rfl, .part s s.m⟩

theorem exec_memFault_writes (t l seg : Nat) (s : State) : ∃ u, exec (.memFault t l seg) s = .next u ∧ WritesHbm s u := by
  show ∃ u, execMemFault t l seg s = .next u ∧ _
  unfold execMemFault
  split
  · obtain ⟨hflash, hpending, hform⟩ := segmentLost_writes seg { s with m := urgentRemap l (raise evMemFault l seg
      (updPc (remapOf (advance t s.m) l) (fun x => { x with ue := x.ue + 1 }) (advance t s.m))) }
    exact ⟨_, rfl, hflash, hpending, hform⟩
  · exact ⟨_, rfl, .part ..⟩

theorem exec_bulkReceived_writes (t : Nat) (b : Bool) (object offset : Nat) (data : BulkData) (s : State) :
    ∃ u, exec (.bulkReceived t b object offset data) s = .next u ∧ WritesHbm s u := by
  show ∃ u, execBulkReceived t b object offset data s = .next u ∧ _
  unfold execBulkReceived
  split
  · dsimp only
    split
    · obtain ⟨hflash, hpending, hform⟩ := bulkTaken_writes object offset data { s with m := advance t s.m }
      exact ⟨_, rfl, hflash, hpending, hform⟩
    · exact ⟨_, rfl, .part ..⟩
  · exact ⟨s, rfl, .part s s.m⟩

/-- A command that may write the HBM answers a next state; it leaves the boot flash and the waiting commands, and keeps the HBM
canonical. -/
theorem exec_writesHbm {c : Instr} (h : writesHbm c = true) (s : State) : ∃ u, exec c s = .next u ∧ WritesHbm s u := by
  cases c
  case frameEvent => exact exec_frameEvent_writes ..
  case bandComposed => exact exec_bandComposed_writes ..
  case scanWindowOpen t short => exact ⟨_, rfl, scanWindowOpen_writes t short s⟩
  case feederEstimateDone => exact exec_feederEstimateDone_writes ..
  case calTransferDone t tag ok partner => exact writesHbm_ite (loadDone_writes tag ok partner)
  case kindlingStepDone => exact exec_kindlingStepDone_writes ..
  case memFault => exact exec_memFault_writes ..
  case bulkReceived => exact exec_bulkReceived_writes ..
  case resetNAssert | pwrOkLow => exact ⟨_, rfl, rfl, rfl, fun _ => rfl⟩
  all_goals nomatch h

/-! ### Commands that write the boot flash, and all the others -/

/-- From `s` to `t` the boot flash may have been written, and stays canonical; the HBM and the waiting commands stand. -/
structure WritesFlash (s t : State) : Prop where
  hbm : t.hbm = s.hbm
  pending : t.pending = s.pending
  canonical : Memory.wf Memory.flashDefault s.flash = true → Memory.wf Memory.flashDefault t.flash = true

theorem WritesFlash.part (s : State) (p : Part) : WritesFlash s { s with m := p } := ⟨rfl, rfl, id⟩

theorem bootWritten_canonical (slot : Nat) {m : Memory} (h : Memory.wf Memory.flashDefault m = true) :
    Memory.wf Memory.flashDefault (bootWritten slot m) = true :=
  Memory.writeBytes_wf _ _ (Memory.clearRange_wf _ _ h)

theorem writeBoot_writes (slot : Nat) (s : State) : WritesFlash s (writeBoot slot s) :=
  writeBoot_eq slot s ▸ ⟨rfl, rfl, bootWritten_canonical slot⟩

theorem flashDone_writes (tag : Word) (ok : Bool) (data : List Byte) (s : State) : WritesFlash s (flashDone tag ok data s) := by
  unfold flashDone
  split
  · exact .part ..
  dsimp only
  split
  · exact .part ..
  split
  · exact ⟨rfl, rfl, Memory.writeBytes_wf _ _⟩
  next x _ _ _ =>
    obtain ⟨hhbm, hpending, hform⟩ := writeBoot_writes (byteAt x.params 0) { s with m := dropTransfer tag s.m }
    exact ⟨hhbm, hpending, hform⟩

theorem trialEnd_writes (s : State) : WritesFlash s (trialEnd s) := by
  unfold trialEnd
  split
  next slot _ _ =>
    obtain ⟨hhbm, hpending, hform⟩ := writeBoot_writes slot s
    exact ⟨hhbm, hpending, hform⟩
  · exact .part ..

/-- A command that may write the boot flash answers a next state; it leaves the HBM and the waiting commands, and keeps the flash
canonical. -/
theorem exec_writesFlash {c : Instr} (h : writesFlash c = true) (s : State) : ∃ u, exec c s = .next u ∧ WritesFlash s u := by
  cases c
  case flashWriteDone t tag ok data =>
    show ∃ u, execFlashWriteDone t tag ok data s = .next u ∧ _
    unfold execFlashWriteDone
    split
    · dsimp only
      split
      · exact ⟨_, rfl, .part ..⟩
      · obtain ⟨hhbm, hpending, hform⟩ := flashDone_writes tag ok data { s with m := advance t s.m }
        exact ⟨_, rfl, hhbm, hpending, hform⟩
    · exact ⟨s, rfl, .part s s.m⟩
  case fwTrialEnd t =>
    show ∃ u, execFwTrialEnd t s = .next u ∧ _
    unfold execFwTrialEnd
    split
    · dsimp only
      split
      · obtain ⟨hhbm, hpending, hform⟩ := trialEnd_writes { s with m := advance t s.m }
        exact ⟨_, rfl, hhbm, hpending, hform⟩
      · exact ⟨_, rfl, .part ..⟩
    · exact ⟨s, rfl, .part s s.m⟩
  all_goals nomatch h

/-- Every other command acts on the part alone. -/
theorem exec_writesNeither {c : Instr} (hh : writesHbm c = false) (hf : writesFlash c = false) (s : State) :
    ∃ p, exec c s = .next { s with m := p } := by
  cases c
  case frameEvent | bandComposed | scanWindowOpen | feederEstimateDone | calTransferDone | kindlingStepDone | memFault | bulkReceived |
    resetNAssert | pwrOkLow => nomatch hh
  case flashWriteDone | fwTrialEnd => nomatch hf
  all_goals exact ⟨_, rfl⟩

/-- What a command can do to the byte memories: it writes the HBM, or the flash, or neither, and it always answers a next state. -/
theorem exec_stores (c : Instr) (s : State) : ∃ u, exec c s = .next u ∧
    ((writesHbm c = true ∧ WritesHbm s u) ∨ (writesFlash c = true ∧ WritesFlash s u) ∨ ∃ p, u = { s with m := p }) := by
  cases hh : writesHbm c
  · cases hf : writesFlash c
    · obtain ⟨p, hexec⟩ := exec_writesNeither hh hf s
      exact ⟨_, hexec, .inr (.inr ⟨p, rfl⟩)⟩
    · obtain ⟨u, hexec, hwrites⟩ := exec_writesFlash hf s
      exact ⟨u, hexec, .inr (.inl ⟨rfl, hwrites⟩)⟩
  · obtain ⟨u, hexec, hwrites⟩ := exec_writesHbm hh s
    exact ⟨u, hexec, .inl ⟨rfl, hwrites⟩⟩

theorem exec_keeps_memWf (c : Instr) {s u : State} (hexec : exec c s = .next u) (hwf : s.memWf) : u.memWf := by
  obtain ⟨hhbm, hflash⟩ := hwf
  obtain ⟨v, hv, ⟨-, h⟩ | ⟨-, h⟩ | ⟨p, rfl⟩⟩ := exec_stores c s <;> obtain rfl := Host.Outcome.next.inj (hexec.symm.trans hv)
  · exact ⟨h.canonical hhbm, h.flash ▸ hflash⟩
  · exact ⟨h.hbm ▸ hhbm, h.canonical hflash⟩
  · exact ⟨hhbm, hflash⟩

/-! ### Clocks that stand still -/

theorem onPart_timed_dead {s : State} (h : s.m.alive = false) (t : Nat) (f : Part → Part) : onPart (timed t f) s = .next s := by
  rw [onPart, timed_dead h]

/-- The commands that write a store stand still too. -/
theorem exec_dead_of_writes {c : Instr} {s : State} (h : s.m.alive = false) (hacts : actsInReset c = false)
    (hwrites : writesHbm c = true ∨ writesFlash c = true) : exec c s = .next s := by
  cases c
  case frameEvent => exact if_neg (by simp [rasterRuns, h])
  case bandComposed => simp [exec, execBandComposed, bandOpen, h]
  case scanWindowOpen => simp [exec, execScanWindowOpen, scanWindowOpen, h]
  case memFault t l seg => simp [exec, execMemFault, h, onPart_timed_dead]
  case kindlingStepDone => simp [exec, execKindlingStepDone, h]
  case feederEstimateDone | calTransferDone | bulkReceived | flashWriteDone | fwTrialEnd => exact if_neg (by simp [h])
  case resetNAssert | pwrOkLow => nomatch hacts
  all_goals simp [writesHbm, writesFlash] at hwrites

/-- Every other command acts through `timed`, which first asks whether the part is alive. -/
theorem exec_dead_of_part {c : Instr} {s : State} (h : s.m.alive = false) (hacts : actsInReset c = false) (hh : writesHbm c = false)
    (hf : writesFlash c = false) : exec c s = .next s := by
  cases c
  case resetNRelease | jtagTapOperation => nomatch hacts
  case frameEvent | bandComposed | scanWindowOpen | feederEstimateDone | calTransferDone | kindlingStepDone | memFault | bulkReceived |
    resetNAssert | pwrOkLow => nomatch hh
  case flashWriteDone | fwTrialEnd => nomatch hf
  all_goals exact onPart_timed_dead h _ _

end Sys2Proof.Machine

open Sys2Proof Sys2Proof.Machine

/-- Settles O1: a step is `exec` on the queue's rest, by the two cases of the queue. -/
theorem stepTakesFront : Obligations.StepTakesFront := by
  unfold Obligations.StepTakesFront
  exact ⟨fun _ _ _ => rfl, fun s h => by rw [step, h]⟩

/-- Settles O2: whatever store a command writes, it answers a next state and leaves the queue. -/
theorem queueKept : Obligations.QueueKept := by
  unfold Obligations.QueueKept
  intro c s
  obtain ⟨u, hexec, ⟨-, h⟩ | ⟨-, h⟩ | ⟨p, rfl⟩⟩ := exec_stores c s
  · exact ⟨u, hexec, h.pending⟩
  · exact ⟨u, hexec, h.pending⟩
  · exact ⟨_, hexec, rfl⟩

/-- Settles O5: both memories are empty at reset. -/
theorem resetMemoryCanonical : Obligations.ResetMemoryCanonical := by
  unfold Obligations.ResetMemoryCanonical
  exact ⟨rfl, rfl⟩

/-- Settles O4: a step is one command, and every command keeps the form of what it writes. -/
theorem memoryStaysCanonical : Obligations.MemoryStaysCanonical := by
  unfold Obligations.MemoryStaysCanonical
  intro s t hwf hstep
  unfold step at hstep
  split at hstep
  · exact Host.Outcome.next.inj hstep ▸ hwf
  next c rest _ => exact exec_keeps_memWf c (s := { s with pending := rest }) hstep hwf

/-- Settles O7: of the three things a command can do to the stores, only its own class writes one. -/
theorem storesWrittenBy : Obligations.StoresWrittenBy := by
  unfold Obligations.StoresWrittenBy
  intro c s u hexec
  obtain ⟨v, hv, h⟩ := exec_stores c s
  obtain rfl := Host.Outcome.next.inj (hexec.symm.trans hv)
  obtain ⟨hclass, h⟩ | ⟨hclass, h⟩ | ⟨p, rfl⟩ := h
  · exact ⟨fun hnone => by simp [hclass] at hnone, fun _ => h.flash⟩
  · exact ⟨fun _ => h.hbm, fun hnone => by simp [hclass] at hnone⟩
  · exact ⟨fun _ => rfl, fun _ => rfl⟩

/-- Settles O3: each command but the four of `actsInReset` starts with the question whether the part is alive. -/
theorem stoppedClocks : Obligations.StoppedClocks := by
  unfold Obligations.StoppedClocks
  intro c s hdead hacts
  cases hh : writesHbm c
  · cases hf : writesFlash c
    · exact exec_dead_of_part hdead hacts hh hf
    · exact exec_dead_of_writes hdead hacts (.inr hf)
  · exact exec_dead_of_writes hdead hacts (.inl hh)

end

section
/-! Reset and kindling: the state that reset leaves, the steps that pass and those that stop, and the remap table after step 5 (R387,
R402, R403, R407, Table 17.4). -/

namespace Sys2Proof.Machine

open Sys2Proof

/-! ### Pins -/

/-- In reset a pin is an input or in high-impedance (R403). -/
theorem pinState_inReset {p : Part} (halive : p.alive = false) (hdamped : p.sys.damped = false) (pin : Pin) :
    pinState p pin = if pin.inputOnly then .input else .highZ := by simp [pinState, halive, hdamped]

/-- While the part is alive its outputs follow its state. -/
theorem pinState_runs {p : Part} (halive : p.alive = true) {pin : Pin} (hout : pin.inputOnly = false) : pinState p pin = pinRuns p pin := by
  have hdamped : p.sys.damped = false := by simp only [Part.alive, Bool.and_eq_true, Bool.not_eq_true'] at halive; exact halive.2
  simp [pinState, halive, hdamped, hout]

/-! ### The end of a step -/

theorem exec_kindlingStepDone {n t : Nat} {s : State} (h : kindles n s) (r : KindlingReport) :
    exec (.kindlingStepDone t r) s = .next (kindlingStep r { s with m := advance t s.m }) := by
  obtain ⟨halive, hstopped, hready, -⟩ := h
  simp [exec, execKindlingStepDone, halive, hstopped, hready]

section Steps

variable {t : Nat} {s : State}

theorem exec_coresTested (h : kindles 2 s) (r : KindlingReport) :
    exec (.kindlingStepDone t r) s = .next { s with m := coresPassed r.cores r.octal (advance t s.m) } := by
  have hstep : (advance t s.m).sys.step = 2 := h.2.2.2
  simp only [exec_kindlingStepDone h, kindlingStep, hstep]

theorem exec_imageChosen (h : kindles 3 s) (r : KindlingReport) :
    exec (.kindlingStepDone t r) s = .next { s with m := imageRuns s.flash (advance t s.m) } := by
  have hstep : (advance t s.m).sys.step = 3 := h.2.2.2
  simp only [exec_kindlingStepDone h, kindlingStep, hstep]

theorem exec_islandsPowered (h : kindles 4 s) (r : KindlingReport) : exec (.kindlingStepDone t r) s =
    .next { s with m := if r.powerGood then enterStep 5 (advance t s.m) else kindlingStops 5 (advance t s.m) } := by
  have hstep : (advance t s.m).sys.step = 4 := h.2.2.2
  simp only [exec_kindlingStepDone h, kindlingStep, hstep]

theorem exec_memoryTrained (h : kindles 5 s) (r : KindlingReport) :
    exec (.kindlingStepDone t r) s = .next (memoryReady r.pcFailed r.unitFailed { s with m := advance t s.m }) := by
  have hstep : (advance t s.m).sys.step = 5 := h.2.2.2
  simp only [exec_kindlingStepDone h, kindlingStep, hstep]

theorem exec_lanesCalibrated (h : kindles 6 s) (r : KindlingReport) :
    exec (.kindlingStepDone t r) s = .next { s with m := lanesCalibrated r.laneFailed (advance t s.m) } := by
  have hstep : (advance t s.m).sys.step = 6 := h.2.2.2
  simp only [exec_kindlingStepDone h, kindlingStep, hstep]

end Steps

/-! ### Steps that pass -/

theorem coresPassed_passes {cores : Nat} (h : 2 ≤ cores) (octal : Bool) (p : Part) :
    (coresPassed cores octal p).sys.step = 3 ∧ (coresPassed cores octal p).sys.stopped = p.sys.stopped ∧
      (coresPassed cores octal p).hrt.coresUp.length = 2 ∧ (coresPassed cores octal p).sys.xspi = if octal then .d8 else p.sys.xspi := by
  rw [coresPassed, if_neg (by omega)]
  cases octal <;> exact ⟨rfl, rfl, rfl, rfl⟩

theorem lanesCalibrated_passes {p : Part} (hxo : p.tb.xoFail = false) :
    lanesCalibrated [] p = enterTb .search (enterStep 7 p) := if_neg (by simp [enterStep, hxo])

/-! ### Steps that stop -/

/-- The part stopped as R407 has it: FAULT_N low, READY low, the step and everything beside it as before. -/
def stoppedFrom (s u : State) : Prop :=
  u.m.sys.stopped = true ∧ pinState u.m .faultN = .low ∧ pinState u.m .ready = .low ∧ faultLow u.m = true ∧ u.m.sys.ready = false ∧
    u.m.sys.step = s.m.sys.step ∧ u.m.pair = s.m.pair ∧ u.m.tb = s.m.tb ∧ u.hbm = s.hbm ∧ u.flash = s.flash

theorem kindlingStops_stoppedFrom {n : Nat} {s : State} (h : kindles n s) (hn : 2 ≤ n) (t cause : Nat) :
    stoppedFrom s { s with m := kindlingStops cause (advance t s.m) } := by
  obtain ⟨halive, -, hready, hstep⟩ := h
  have hsys : (kindlingStops cause (advance t s.m)).sys = { (advance t s.m).sys with stopped := true, xspiDriven := false } := report_sys ..
  have hruns : (kindlingStops cause (advance t s.m)).alive = true := by rw [Part.alive, hsys]; exact halive
  have hlow : faultLow (kindlingStops cause (advance t s.m)) = true := by simp [faultLow, hsys]
  have hstill : (kindlingStops cause (advance t s.m)).sys.ready = false := by rw [hsys]; exact hready
  have hfar : ¬ (kindlingStops cause (advance t s.m)).sys.step < 2 := by rw [hsys, advance_sys]; simp only [hstep]; omega
  refine ⟨by rw [hsys], ?_, ?_, hlow, hstill, by rw [hsys]; rfl, report_pair .., report_tb .., rfl, rfl⟩
  · rw [pinState_runs hruns rfl, pinRuns, hlow]
    rfl
  · rw [pinState_runs hruns rfl, pinRuns, if_neg hfar, hstill]
    rfl

theorem imageRuns_noImage {p : Part} (h : p.sys.boot = 3) (flash : Memory) : imageRuns flash p = kindlingStops 2 p := by
  simp [imageRuns, chosenSlot, firstSlot, h]

theorem memoryReady_tooFew {failed : List Nat} (h : ((List.range 128).filter fun k => !failed.contains k).length < 120)
    (units : List (UnitKind × Nat)) (s : State) : memoryReady failed units s = { s with m := kindlingStops 3 s.m } := if_pos h

/-! ### The remap table -/

theorem getD_map_pairs {α : Type} (f : Nat → α) (d : α) {k : Nat} {l : List Nat} (h : k ∈ l) :
    Tab.getD (l.map fun n => (n, f n)) k d = f k := by
  induction l with
  | nil => nomatch h
  | cons j r ih =>
    simp only [Tab.getD, List.map_cons, Tab.get?] at ih ⊢
    by_cases hj : j = k
    · simp [hj]
    · simpa [hj] using ih (by simpa [Ne.symm hj] using h)

theorem substitutePc_passing (a : Tab Nat × List Nat) (l : Nat) : substitutePc [] a l = a := by simp [substitutePc]

/-- With every channel passing the table is the default one, and channel 15 of every port stands fallow (R387). -/
theorem trainedFabric_passing (f : Fabric) : (trainedFabric [] f).remap = [] ∧ ∀ k, k < 128 →
    ((trainedFabric [] f).pcs.getD k { state := if k % 16 = 15 then 1 else 0 }).state = if k % 16 = 15 then 1 else 0 := by
  have hfold : ∀ a : Tab Nat × List Nat, (List.range 120).foldl (substitutePc []) a = a :=
    foldl_keeps id (substitutePc_passing · ·) _
  refine ⟨by rw [trainedFabric, hfold], fun k hk => ?_⟩
  have hfallow : (k ∈ (List.range 8).map fun n => 16 * n + 15) ↔ k % 16 = 15 := by
    simp only [List.mem_map, List.mem_range]
    exact ⟨fun ⟨n, _, hn⟩ => by omega, fun h => ⟨k / 16, by omega, by omega⟩⟩
  simp only [trainedFabric, hfold, getD_map_pairs _ _ (List.mem_range.mpr hk)]
  simp [hfallow]

theorem passing_of_none (k : UnitKind) : passing [] k = k.physical := by simp [passing]

theorem memoryReady_passes (s : State) : memoryReady [] [] s =
    { s with
      m := enterStep 6 ((s.m.updFab (trainedFabric [])).updHrt fun h => { h with
        units := headlandKinds.flatMap (builtUnits s.m.sys.now []) })
      hbm := [] } := by
  have hunits : (headlandKinds.any fun k => decide (passing [] k < k.inService)) = false := by simp only [passing_of_none]; decide
  rw [memoryReady, if_neg (by simp), if_neg (by simp [hunits])]
  rfl

theorem remapOf_default {p : Part} (h : p.fab.remap = []) (l : Nat) : remapOf p l = 16 * (l % 8) + l / 8 := by
  rw [remapOf, h]; rfl

end Sys2Proof.Machine

open Sys2Proof Sys2Proof.Machine

/-- Settles O8: `partInReset` is the reset part with the ember log, and a part in reset drives no pin. -/
theorem resetKeepsEmber : Obligations.ResetKeepsEmber := by
  unfold Obligations.ResetKeepsEmber
  intro t s c hc
  obtain rfl | rfl := hc
  all_goals
    exact ⟨_, rfl, rfl, rfl, rfl, rfl, rfl, rfl, rfl, rfl, rfl, rfl, rfl, rfl, rfl, rfl, rfl, rfl, rfl, rfl, rfl, rfl, rfl, rfl, rfl,
      pinState_inReset rfl rfl, rfl, rfl, rfl⟩

/-- Settles O9: the step that ends decides which of the steps' own functions acts; each that stops does so by `kindlingStops`. -/
theorem kindlingSteps : Obligations.KindlingSteps := by
  unfold Obligations.KindlingSteps
  refine ⟨fun t r s => ⟨fun hkin hcores => ?cores, fun hkin hgood => ?power, fun hkin hlanes hxo => ?lanes⟩, fun t r s hwhy => ?stops⟩
  case cores =>
    obtain ⟨hstep, hstopped, hup, hxspi⟩ := coresPassed_passes hcores r.octal (advance t s.m)
    exact ⟨_, exec_coresTested hkin r, hstep, hstopped.trans hkin.2.1, hup, hxspi, rfl, rfl⟩
  case power =>
    refine ⟨{ s with m := enterStep 5 (advance t s.m) }, ?_, rfl, hkin.2.1, rfl, rfl⟩
    rw [exec_islandsPowered hkin, if_pos hgood]
  case lanes =>
    refine ⟨{ s with m := enterTb .search (enterStep 7 (advance t s.m)) }, ?_, rfl, rfl, hkin.2.1, rfl, rfl, rfl⟩
    rw [exec_lanesCalibrated hkin, hlanes, lanesCalibrated_passes (p := advance t s.m) hxo]
  case stops =>
    show ∃ u, exec (.kindlingStepDone t r) s = .next u ∧ stoppedFrom s u
    obtain ⟨hkin, hcores⟩ | ⟨hkin, hboot⟩ | ⟨hkin, hgood⟩ | ⟨hkin, hfew⟩ := hwhy
    · refine ⟨_, ?_, kindlingStops_stoppedFrom hkin (by decide) t 1⟩
      rw [exec_coresTested hkin, coresPassed, if_pos hcores]
    · refine ⟨_, ?_, kindlingStops_stoppedFrom hkin (by decide) t 2⟩
      rw [exec_imageChosen hkin, imageRuns_noImage (p := advance t s.m) hboot]
    · refine ⟨_, ?_, kindlingStops_stoppedFrom hkin (by decide) t 5⟩
      rw [exec_islandsPowered hkin, hgood, if_neg Bool.false_ne_true]
    · refine ⟨_, ?_, kindlingStops_stoppedFrom hkin (by decide) t 3⟩
      rw [exec_memoryTrained hkin, memoryReady_tooFew hfew]

/-- Settles O10: with nothing failed no channel is substituted, and the default table is injective below 120. -/
theorem defaultRemap : Obligations.DefaultRemap := by
  unfold Obligations.DefaultRemap
  refine ⟨fun t r s hkin hpcs hunits => ?_, fun p hremap a b ha hb heq => ?_⟩
  · obtain ⟨hremap, hstates⟩ := trainedFabric_passing s.m.fab
    have hexec := exec_memoryTrained (t := t) hkin r
    rw [hpcs, hunits, memoryReady_passes] at hexec
    refine ⟨_, hexec, rfl, fun l _ => remapOf_default hremap l, fun k hk => ?_, fun _ => rfl, rfl⟩
    exact hstates k hk
  · rw [remapOf_default hremap, remapOf_default hremap] at heq
    omega

end

section
/-! Maintenance mode (R425, R426) and PERST_N (R404, R424). -/

namespace Sys2Proof.Machine

open Sys2Proof

@[simp] theorem updMaint_offHost (g : Maint → Maint) (p : Part) : (p.updMaint g).offHost = p.offHost := rfl
@[simp] theorem updSys_offHost (g : Sys → Sys) (p : Part) : (p.updSys g).offHost = p.offHost := rfl

@[simp] theorem lockMaint_offHost (p : Part) : (lockMaint p).offHost = p.offHost := by simp [lockMaint]

theorem lockMaint_maint (p : Part) : (lockMaint p).maint = { p.maint with unlocked := false, armed := none, byGpio := false } :=
  setLevel_maint ..

@[simp] theorem unlockMaint_offHost (byGpio : Bool) (p : Part) : (unlockMaint byGpio p).offHost = p.offHost := by simp [unlockMaint]

theorem unlockMaint_maint (byGpio : Bool) (p : Part) : (unlockMaint byGpio p).maint =
    { p.maint with unlocked := true, armed := none, unlockedAt := p.sys.now, byGpio := byGpio } := setLevel_maint ..

/-! ### Keys and GPIO15 -/

theorem unlockKey_first {p : Part} (hopen : p.maint.disable = false) :
    unlockKey 0x4B31 p = p.updMaint fun m => { m with armed := some p.sys.now } := by simp [unlockKey, hopen]

theorem unlockKey_second {p : Part} {a : Nat} (hopen : p.maint.disable = false) (harmed : p.maint.armed = some a)
    (hsoon : p.sys.now ≤ a + msec) : unlockKey 0x4B32 p = unlockMaint false p := by simp [unlockKey, hopen, harmed, hsoon]

theorem unlockKey_disabled {p : Part} (hshut : p.maint.disable = true) (key : Half) : unlockKey key p = p := by
  simp [unlockKey, hshut]

theorem gpio15_unlocks {p : Part} {a : Nat} (hlow : p.sys.gpio15Low = some a) (hdue : a + 100 * msec ≤ p.sys.now)
    (hlocked : p.maint.unlocked = false) : gpio15 false p = unlockMaint true p := by simp [gpio15, hlow, hdue, hlocked]

theorem gpio15_locks (p : Part) : (gpio15 true p).maint.unlocked = false ∧ (gpio15 true p).sys.gpio15Low = none ∧
    (gpio15 true p).offHost = p.offHost := by
  unfold gpio15
  rw [if_pos rfl]
  dsimp only
  split
  · exact ⟨by rw [lockMaint_maint], congrArg Sys.gpio15Low (setLevel_sys ..), lockMaint_offHost _⟩
  · exact ⟨Bool.eq_false_of_not_eq_true ‹_›, rfl, rfl⟩

/-! ### PERST_N -/

theorem setLevel_off_ev (n i : Nat) (p : Part) : (setLevel n i false p).ev = { p.ev with level := p.ev.level.filter (· != n + 384 * i) } :=
  rfl

/-- With no event ring the ring-full condition ends, and nothing is raised. -/
theorem evrLevel_off {p : Part} (h : p.host.evrEn = false) : evrLevel p = setLevel evEvringFull 0 false p := by
  simp [evrLevel, evrFull, h]

/-- The HOST block as the reset of the endpoint leaves it: what serves the command queue, the replies and the UART stands. -/
def HostIf.endpointReset (h : HostIf) : HostIf := { ({} : HostIf) with
  cmdQueue := h.cmdQueue, replyQueue := h.replyQueue, tags := h.tags, baud := h.baud, newBaud := h.newBaud, uartRx := h.uartRx
  lastPacket := h.lastPacket, shadowKiln := h.shadowKiln }

/-- The endpoint's part of the reset: HOST registers, MSI-X table, and the level event of a ring that is gone. -/
def endpointReset (p : Part) : Part :=
  setLevel evEvringFull 0 false ((p.updHost HostIf.endpointReset).updEv fun e => { e with
    msixTable := [], msixPba := 0, msixFnMask := false })

theorem perst_eq (p : Part) : perst p =
    if p.maint.unlocked && !p.maint.byGpio then lockMaint (endpointReset p) else endpointReset p := by
  unfold perst
  dsimp only
  rw [evrLevel_off rfl]
  rfl

theorem perst_keeps (p : Part) : (perst p).host = p.host.endpointReset ∧
    (∃ level, (perst p).ev = { p.ev with msixTable := [], msixPba := 0, msixFnMask := false, level := level }) ∧
    ((perst p).maint.unlocked = true → p.maint.byGpio = true) ∧ (perst p).offHost = p.offHost := by
  rw [perst_eq]
  split
  · refine ⟨rfl, ⟨_, rfl⟩, fun hopen => ?_, lockMaint_offHost _⟩
    rw [lockMaint_maint] at hopen
    exact absurd hopen Bool.false_ne_true
  next hstays =>
    refine ⟨rfl, ⟨_, rfl⟩, fun hopen => ?_, setLevel_offHost ..⟩
    have hopen : p.maint.unlocked = true := hopen
    simpa [hopen] using hstays

end Sys2Proof.Machine

open Sys2Proof Sys2Proof.Machine

/-- Settles O30: each command as its own function of the maintenance group has it at the command's instant. -/
theorem maintenanceMode : Obligations.MaintenanceMode := by
  unfold Obligations.MaintenanceMode
  intro t s hlives
  have hnow := advance_now_of_livesAt hlives
  have halive := hlives.1
  refine ⟨fun hhost hopen => ?arms, fun a hhost hopen harmed hsoon => ?unlocks, fun key hhost hshut => ?disabled, fun hhost => ?relocks,
    fun hhost => ?disables, fun hopen hkeys hdue => ?times, fun hhost => ?locks, fun a hbare hlow hdue hlocked => ?pinLow,
    fun hbare => ?pinHigh⟩
  case arms =>
    refine ⟨_, regWrite_of_reached ⟨halive, hhost⟩ t _, ?_⟩
    rw [unlockKey_first (p := advance t s.m) hopen, hnow]
    exact ⟨rfl, datapathKept_of_offHost rfl⟩
  case unlocks =>
    have hkey := unlockKey_second (p := advance t s.m) hopen harmed (hnow.le.trans hsoon)
    refine ⟨_, regWrite_of_reached ⟨halive, hhost⟩ t _, ?_⟩
    rw [hkey, unlockMaint_maint]
    exact ⟨rfl, hnow, datapathKept_of_offHost (unlockMaint_offHost ..)⟩
  case disabled =>
    refine ⟨_, regWrite_of_reached ⟨halive, hhost⟩ t _, ?_⟩
    rw [unlockKey_disabled (p := advance t s.m) hshut]
    exact ⟨rfl, datapathKept_of_offHost rfl⟩
  case relocks =>
    exact ⟨_, regWrite_of_reached ⟨halive, hhost⟩ t _, by rw [lockMaint_maint], datapathKept_of_offHost (lockMaint_offHost _)⟩
  case disables =>
    exact ⟨_, regWrite_of_reached ⟨halive, hhost⟩ t _, rfl, datapathKept_of_offHost rfl⟩
  case times =>
    have hguard : maintDue (advance t s.m) = true := by simp [maintDue, hopen, hkeys, hdue]
    exact ⟨_, onPart_timed_guarded halive hguard, by rw [lockMaint_maint], datapathKept_of_offHost (lockMaint_offHost _)⟩
  case locks =>
    exact ⟨_, regWrite_of_reached ⟨halive, hhost⟩ t _, rfl, rfl, datapathKept_of_offHost rfl⟩
  case pinLow =>
    have hpin := gpio15_unlocks (p := advance t s.m) hlow (hdue.trans hnow.ge) hlocked
    refine ⟨_, onPart_timed_guarded halive (by simp [advance_sys, hbare]), ?_⟩
    rw [hpin, unlockMaint_maint]
    exact ⟨rfl, rfl, datapathKept_of_offHost (unlockMaint_offHost ..)⟩
  case pinHigh =>
    obtain ⟨hlocked, hleft, hoff⟩ := gpio15_locks (advance t s.m)
    exact ⟨_, onPart_timed_guarded halive (by simp [advance_sys, hbare]), hlocked, hleft, datapathKept_of_offHost hoff⟩

/-- Settles O33: `perst` resets the endpoint's registers, disables the event ring without raising anything, and locks. -/
theorem perstResets : Obligations.PerstResets := by
  unfold Obligations.PerstResets
  intro t s halive
  obtain ⟨hhost, ⟨level, hev⟩, hlock, hoff⟩ := perst_keeps (advance t s.m)
  exact ⟨_, onPart_timed halive, hhost, by rw [hev], by rw [hev], by rw [hev], by rw [hev]; rfl, by rw [hev]; rfl, by rw [hev]; rfl, hlock,
    datapathKept_of_offHost hoff⟩

end

section
/-! Remaps of the HBM's pseudo-channels (R387, R396, R398, R399). -/

namespace Sys2Proof.Machine

open Sys2Proof

/-! ### Pseudo-channels -/

theorem updPc_pc (n k : Nat) (f : PcRt → PcRt) (p : Part) : (updPc n f p).pc k = if k = n then f (p.pc n) else p.pc k :=
  Tab.getD_set ..

theorem updPc_remap (n : Nat) (f : PcRt → PcRt) (p : Part) : (updPc n f p).fab.remap = p.fab.remap := rfl

theorem pcState_updPc (n k : Nat) (f : PcRt → PcRt) (p : Part) :
    pcState (updPc n f p) k = if k = n then (f (p.pc n)).state else pcState p k := by
  unfold pcState
  rw [updPc_pc, apply_ite PcRt.state]

theorem Part.pc_of_pcs {p q : Part} (h : p.fab.pcs = q.fab.pcs) (k : Nat) : p.pc k = q.pc k := by unfold Part.pc; rw [h]

/-- The target of a remap depends on the table and the states of the channels alone (R398). -/
theorem remapTarget_congr {p q : Part} (hremap : q.fab.remap = p.fab.remap) (hstate : ∀ k, pcState q k = pcState p k) (l : Nat) :
    remapTarget q l = remapTarget p l := by
  have hfallow : fallowPcs q = fallowPcs p := by simp only [fallowPcs, hstate]
  simp only [remapTarget, remapOf, hremap, hfallow]

/-! ### An uncorrectable error -/

/-- The error counted on its channel and reported (R396). -/
def faultSeen (l seg : Nat) (p : Part) : Part :=
  raise evMemFault l seg (updPc (remapOf p l) (fun x => { x with ue := x.ue + 1 }) p)

theorem faultSeen_fab (l seg : Nat) (p : Part) :
    (faultSeen l seg p).fab = (updPc (remapOf p l) (fun x => { x with ue := x.ue + 1 }) p).fab := raise_fab ..

theorem faultSeen_cfg (l seg : Nat) (p : Part) : (faultSeen l seg p).cfg = p.cfg := raise_cfg ..

theorem faultSeen_remap (l seg : Nat) (p : Part) : (faultSeen l seg p).fab.remap = p.fab.remap :=
  (congrArg Fabric.remap (faultSeen_fab l seg p) :)

theorem faultSeen_running (l seg : Nat) (p : Part) : (faultSeen l seg p).fab.running = p.fab.running :=
  (congrArg Fabric.running (faultSeen_fab l seg p) :)

theorem faultSeen_queue (l seg : Nat) (p : Part) : (faultSeen l seg p).fab.queue = p.fab.queue :=
  (congrArg Fabric.queue (faultSeen_fab l seg p) :)

theorem faultSeen_pcState (l seg k : Nat) (p : Part) : pcState (faultSeen l seg p) k = pcState p k := by
  rw [pcState, Part.pc_of_pcs (congrArg Fabric.pcs (faultSeen_fab l seg p)), ← pcState, pcState_updPc]
  split
  next h => rw [h]; rfl
  · rfl

theorem faultSeen_target (l seg : Nat) (p : Part) : remapTarget (faultSeen l seg p) l = remapTarget p l :=
  remapTarget_congr (faultSeen_remap l seg p) (faultSeen_pcState l seg · p) l

/-- The part once an urgent remap has started: FAULT_N low, and the target being filled (R398). -/
def remapStarted (l target : Nat) (p : Part) : Part :=
  updPc target (fun x => { x with state := 2 }) ((faultOn p).updFab fun f => { f with
    running := some { logical := l, target := target, urgent := true, tag := none } })

theorem remapStarted_target (l target : Nat) (p : Part) : pcState (remapStarted l target p) target = 2 :=
  (pcState_updPc ..).trans (if_pos rfl)

/-- With no remap open and a fallow channel free, the channel's urgent remap starts at once (R398). -/
theorem urgentRemap_starts {l target : Nat} {p : Part} (hidle : p.fab.running = none) (hqueue : p.fab.queue = [])
    (htarget : remapTarget p l = some target) : urgentRemap l p = remapStarted l target p := by
  have htarget' : remapTarget (faultOn p) l = some target := htarget
  simp [urgentRemap, urgentOpen, remapOpen, startRemap, hidle, hqueue, htarget, htarget', remapStarted]

/-- A segment of the canvas buffers costs the checksums of the bands that lie in it, and nothing of the stores (Table 12.4). -/
theorem segmentLost_canvas {seg : Nat} (hseg : 256 * seg + 256 ≤ 0x80000000) (s : State) :
    ∃ c, segmentLost seg s = { s with m := s.m.updComp c } := ⟨_, if_pos hseg⟩

theorem exec_memFault {t l seg : Nat} {s : State} (halive : s.m.alive = true) (hon : segmentOn l seg = true) :
    exec (.memFault t l seg) s = .next (segmentLost seg { s with m := urgentRemap l (faultSeen l seg (advance t s.m)) }) :=
  if_pos (by simp [halive, hon])

/-! ### A remap that completes -/

/-- The table and the channels after a remap: the logical channel at its target, the old channel retired (R399). -/
def remapSwitched (r : Remap) (p : Part) : Part :=
  (updPc r.target (fun x => { x with state := 0 }) (updPc (remapOf p r.logical) (fun x => { x with state := 3 }) p)).updFab fun f => { f with
    running := none, remap := f.remap.set r.logical r.target }

theorem remapSwitched_remapOf (r : Remap) (p : Part) (l : Nat) :
    remapOf (remapSwitched r p) l = if l = r.logical then r.target else remapOf p l :=
  Tab.getD_set ..

theorem remapSwitched_pcState (r : Remap) (p : Part) (k : Nat) :
    pcState (remapSwitched r p) k = if k = r.target then 0 else if k = remapOf p r.logical then 3 else pcState p k := by
  have houter := pcState_updPc r.target k (fun x => { x with state := 0 })
    (updPc (remapOf p r.logical) (fun x => { x with state := 3 }) p)
  exact houter.trans (by rw [pcState_updPc])

theorem finalReply_fab (tag : Word) (st : Nat) (params : List Byte) (p : Part) : (finalReply tag st params p).fab = p.fab := by
  obtain ⟨-, -, -, -, -, -, -, -, hfab⟩ := Part.groups_of_offAnswer (finalReply_offAnswer tag st params p)
  exact hfab

/-- The end of a remap as it is reported, before its command is answered. -/
def remapReported (r : Remap) (p : Part) : Part := raise evMemRemap r.logical r.target (remapSwitched r p)

theorem remapReported_groups (r : Remap) (p : Part) :
    (remapReported r p).fab = (remapSwitched r p).fab ∧ (remapReported r p).cfg = p.cfg :=
  ⟨raise_fab .., raise_cfg ..⟩

/-- With no remap waiting, that is what the end of a remap does to the fabric. -/
theorem remapDone_fab {r : Remap} {p : Part} (hrun : p.fab.running = some r) (hqueue : p.fab.queue = []) :
    (remapDone p).fab = (remapSwitched r p).fab ∧ (remapDone p).cfg = p.cfg := by
  have hlast {q : Part} (h : q.fab = (remapSwitched r p).fab) : nextRemap q = q := by
    rw [nextRemap, h, show (remapSwitched r p).fab.queue = [] from hqueue]
  have hends {q : Part} (hfab : q.fab = (remapSwitched r p).fab) (hcfg : q.cfg = p.cfg) :
      (nextRemap (if r.urgent then faultOff q else q)).fab = (remapSwitched r p).fab ∧
        (nextRemap (if r.urgent then faultOff q else q)).cfg = p.cfg := by
    have hsettled : (if r.urgent then faultOff q else q).fab = (remapSwitched r p).fab ∧
        (if r.urgent then faultOff q else q).cfg = p.cfg := by split <;> exact ⟨hfab, hcfg⟩
    rw [hlast hsettled.1]; exact hsettled
  obtain ⟨hfab, hcfg⟩ := remapReported_groups r p
  simp only [remapDone, hrun]
  cases r.tag with
  | none => exact hends hfab hcfg
  | some g =>
    exact hends ((finalReply_fab g stOk [] (remapReported r p)).trans hfab) ((finalReply_cfg g stOk [] (remapReported r p)).trans hcfg)

end Sys2Proof.Machine

open Sys2Proof Sys2Proof.Machine

/-- Settles O20: the error's remap takes the target chosen before it, and the end of a remap is `remapSwitched`. -/
theorem memFaultRemaps : Obligations.MemFaultRemaps := by
  unfold Obligations.MemFaultRemaps
  refine ⟨fun t l seg target s halive hon hidle hqueue htarget hseg => ?fault, fun t r s halive hrun hqueue hmoves hl htarget => ?done⟩
  case fault =>
    have htaken := urgentRemap_starts ((faultSeen_running l seg (advance t s.m)).trans hidle)
      ((faultSeen_queue l seg (advance t s.m)).trans hqueue) ((faultSeen_target l seg (advance t s.m)).trans htarget)
    obtain ⟨c, hlost⟩ := segmentLost_canvas hseg { s with m := urgentRemap l (faultSeen l seg (advance t s.m)) }
    refine ⟨_, (exec_memFault halive hon).trans (congrArg Host.Outcome.next hlost), ?_⟩
    rw [htaken]
    exact ⟨faultLow_of_faultOn rfl, rfl, remapStarted_target l target (faultSeen l seg (advance t s.m)),
      faultSeen_remap l seg (advance t s.m), rfl, rfl, faultSeen_cfg l seg (advance t s.m)⟩
  case done =>
    obtain ⟨hfab, hcfg⟩ := remapDone_fab (p := advance t s.m) hrun hqueue
    have hmapped (l) : remapOf (remapDone (advance t s.m)) l = if l = r.logical then r.target else remapOf s.m l :=
      (congrArg (·.remap.getD l (16 * (l % 8) + l / 8)) hfab).trans (remapSwitched_remapOf r (advance t s.m) l)
    have hstate (k) : pcState (remapDone (advance t s.m)) k =
        if k = r.target then 0 else if k = remapOf s.m r.logical then 3 else pcState s.m k :=
      (congrArg PcRt.state (Part.pc_of_pcs (congrArg Fabric.pcs hfab) k)).trans (remapSwitched_pcState r (advance t s.m) k)
    exact ⟨_, onPart_timed halive, by simp [hmapped], by simp [hstate], by simp [hstate, hmoves],
      (congrArg Fabric.running hfab :), fun l hne => by simp [hmapped, hne], storesKept_of_cfg hcfg⟩

end

section
/-! Error responses of the fabric (R388), patrol scrub (R397) and wear trends (R318). -/

namespace Sys2Proof.Machine

open Sys2Proof

/-! ### What an error response leaves -/

/-- The configuration, the fabric and the error target's counter of a master channel. -/
def Part.fabricView (ch : Nat) (p : Part) : Cfg × Fabric × Word := (p.cfg, p.fab, counter blkFabric ch 0 p)

section FabricView

variable {ch : Nat} (hch : ch < 177)
include hch

theorem counterApart_fabric (source : Nat) : counterApart source (cntKey blkFabric ch 0) := by
  constructor <;> (simp only [cntKey, blkFabric, blkEvent, blkLog]; omega)

theorem raise_fabricView (n i a : Nat) (p : Part) : (raise n i a p).fabricView ch = p.fabricView ch := by
  simp only [Part.fabricView, raise_cfg, raise_fab, counter, raise_cnt (counterApart_fabric hch _)]

theorem report_fabricView (s i c v w a : Nat) (p : Part) : (report s i c v w a p).fabricView ch = p.fabricView ch := by
  simp only [Part.fabricView, Part.cfg_of_rest (report_rest s i c v w a p), Part.fab_of_rest (report_rest s i c v w a p), counter,
    report_cnt (counterApart_fabric hch _)]

theorem setLevel_fabricView (n i : Nat) (on : Bool) (p : Part) : (setLevel n i on p).fabricView ch = p.fabricView ch := by
  unfold setLevel; dsimp only; split
  · split
    · rfl
    · exact raise_fabricView hch ..
  · rfl

omit hch in
theorem count_fabricView {b i x : Nat} (h : cntKey blkFabric ch 0 ≠ cntKey b i x) (p : Part) :
    (count b i x p).fabricView ch = p.fabricView ch :=
  congrArg (fun w => (p.cfg, p.fab, w)) (count_cnt_of_ne h p)

theorem yieldHead_fabricView (p : Part) : (yieldHead p).fabricView ch = p.fabricView ch := by
  unfold yieldHead; split
  · rfl
  · split
    · exact setLevel_fabricView hch ..
    · split
      · rfl
      · exact raise_fabricView hch ..

omit hch in
theorem perfSync_fabricView (p : Part) : (perfSync p).fabricView ch = p.fabricView ch := by
  have hfab : (perfSync p).fab = p.fab := (congrArg Part.fab (perfSync_quiet p) :)
  simp only [Part.fabricView, counter, perfSync_cnt, perfSync_cfg, hfab]

omit hch in
theorem abortFrame_fabricView (n : Nat) (p : Part) : (abortFrame n p).fabricView ch = p.fabricView ch := by
  unfold abortFrame; split <;> rfl

omit hch in
theorem degradedUnit_fabricView (k : UnitKind) (l : Nat) (p : Part) : (degradedUnit k l p).fabricView ch = p.fabricView ch := by
  have hcharged : ((perfSync p).updHrt fun h => { h with degradedUnits := h.degradedUnits ++ [(k, l)] }).fabricView ch =
      p.fabricView ch := perfSync_fabricView p
  unfold degradedUnit; dsimp only
  generalize ((perfSync p).updHrt fun h => { h with degradedUnits := h.degradedUnits ++ [(k, l)] }) = q at hcharged ⊢
  split
  · exact (abortFrame_fabricView l q).trans hcharged
  all_goals exact hcharged

theorem irreplaceable_fabricView (k : UnitKind) (l : Nat) (p : Part) : (irreplaceable k l p).fabricView ch = p.fabricView ch := by
  unfold irreplaceable; dsimp only; split
  · exact yieldHead_fabricView hch p
  · exact (degradedUnit_fabricView ..).trans (yieldHead_fabricView hch p)

omit hch in
theorem startSwap_fabricView (x : Swap) (p : Part) : (startSwap x p).fabricView ch = p.fabricView ch := by
  unfold startSwap swapCost; split
  · rfl
  · split
    · rfl
    · split
      · exact abortFrame_fabricView ..
      all_goals rfl

/-- A unit's fault costs the fabric nothing (R306, R311). -/
theorem unitFault_fabricView (k : UnitKind) (l : Nat) (single : Bool) (p : Part) :
    (unitFault k l single p).fabricView ch = p.fabricView ch := by
  unfold unitFault; dsimp only; split
  · rfl
  · split
    · exact count_fabricView (b := blkHearth) (i := 0) (x := 1) (by simp only [cntKey, blkFabric, blkHearth]; omega) p
    · split
      · rfl
      · split
        · exact (startSwap_fabricView ..).trans (raise_fabricView hch ..)
        · exact (irreplaceable_fabricView hch ..).trans (raise_fabricView hch ..)

/-- The links of a furrow keep the Hearth beside that. -/
theorem fabricView_keptOnLink (f : Nat) (v : Hearth × Cfg × Fabric × Word) : KeptOnLink f fun q => (q.hrt, q.fabricView ch) = v :=
  keptOnLink_of_eq (fun _ _ _ => rfl) (fun _ _ _ _ => rfl) (fun _ _ => rfl) (fun _ _ => rfl)
    (fun p => congrArg (Prod.mk p.hrt) (count_fabricView (b := blkKlink) (i := f) (x := 15) (by simp only [cntKey, blkFabric, blkKlink]; omega) p))
    (fun n i a p => by rw [raise_hrt, raise_fabricView hch])

omit hch in
theorem toState_fabricView (f st : Nat) (p : Part) : ((toState f st p).hrt, (toState f st p).fabricView ch) = (p.hrt, p.fabricView ch) := by
  rw [toState_eq]; rfl

/-- A furrow's fault costs the Hearth and the fabric nothing (R300). -/
theorem furrowFault_fabricView (f : Nat) (serdes : Bool) (p : Part) :
    ((furrowFault f serdes p).hrt, (furrowFault f serdes p).fabricView ch) = (p.hrt, p.fabricView ch) := by
  have hkept := fabricView_keptOnLink hch f (p.hrt, p.fabricView ch)
  have hstate (st : Nat) {q : Part} (hq : (q.hrt, q.fabricView ch) = (p.hrt, p.fabricView ch)) :
      ((toState f st q).hrt, (toState f st q).fabricView ch) = (p.hrt, p.fabricView ch) := (toState_fabricView f st q).trans hq
  have hraised (c : Prop) [Decidable c] (q : Part) : ((if c then q else faultOn q).hrt, (if c then q else faultOn q).fabricView ch) =
      (q.hrt, q.fabricView ch) := by split <;> rfl
  unfold furrowFault laneFollows; dsimp only
  generalize hfailed : raise evFurrowFault f 0 _ = q
  have hq : (q.hrt, q.fabricView ch) = (p.hrt, p.fabricView ch) := by
    rw [← hfailed]; exact hkept.raised _ _ _ (hraised ..)
  split
  · exact hstate 1 hq
  · split
    · split
      · exact laneLeaves_of_down hkept (hkept.raised _ _ _ (hkept.lane (hstate 0 hq)))
      · exact hstate 0 hq
    · exact hq

theorem errorResponse_fabricView (furrow : Nat) (p : Part) : (errorResponse ch furrow p).fabricView ch = p.fabricView ch := by
  unfold errorResponse; split
  · split
    · exact unitFault_fabricView hch ..
    · rfl
  · split
    · dsimp only; split
      · rfl
      · exact congrArg Prod.snd (furrowFault_fabricView hch ..)
    · split
      · exact report_fabricView hch ..
      · rfl

end FabricView

/-! ### The three kinds of master channel -/

theorem channelUnit_none {ch : Nat} (h : 121 ≤ ch) : channelUnit ch = none := by
  rw [channelUnit, if_neg (by omega), if_neg (by omega), if_neg (by omega), if_neg (by omega)]

/-- Past the furrows' channels no unit and no lane receives the error: at most it is logged (R388). -/
theorem errorResponse_other {ch : Nat} (h : 153 ≤ ch) (furrow : Nat) (p : Part) : (errorResponse ch furrow p).rest = p.rest := by
  simp only [errorResponse, channelUnit_none (show 121 ≤ ch by omega), if_neg (show ¬ch ≤ 152 by omega)]
  split
  · exact report_rest ..
  · rfl

/-- A furrow's channel: the furrow is FAULTED from then on, and the Hearth stands (R388, R300). -/
theorem errorResponse_furrow {ch : Nat} (hlo : 121 ≤ ch) (hhi : ch ≤ 152) (furrow : Nat) (p : Part) :
    ((errorResponse ch furrow p).lane ((ch - 121) % 16 * 8 + furrow)).faulted = true ∧ (errorResponse ch furrow p).hrt = p.hrt := by
  simp only [errorResponse, channelUnit_none hlo, if_pos hhi]
  split
  next hfaulted => exact ⟨hfaulted, rfl⟩
  · exact ⟨congrArg Prod.fst (furrowFault_isolates ..).1, congrArg Prod.fst (furrowFault_fabricView (show ch < 177 by omega) ..)⟩

/-- A logical unit that some physical unit serves has a physical one. -/
theorem physOf_of_logicalOf {p : Part} {k : UnitKind} {phys l : Nat} (h : logicalOf p k phys = some l) : ∃ n, physOf p k l = some n := by
  obtain ⟨v, hv, hserves⟩ := Option.bind_eq_some_iff.mp h
  have hstate : v.state = .service l := by
    cases hvs : v.state with
    | service m => rw [hvs] at hserves; rw [Option.some.inj hserves]
    | fallow => rw [hvs] at hserves; cases hserves
    | retired => rw [hvs] at hserves; cases hserves
  have hplace : v.kind = k ∧ v.phys = phys := by simpa using List.find?_some hv
  rw [physOf, ← Option.isSome_iff_exists, Option.isSome_map, List.find?_isSome]
  exact ⟨v, List.mem_of_find?_eq_some hv, by simp [serving, hplace.1, hstate]⟩

/-- A unit's channel: with a spare free its swap starts (R388, R306). -/
theorem errorResponse_unit {ch phys logical spare : Nat} {k : UnitKind} {p : Part} (hunit : channelUnit ch = some (k, phys))
    (hserves : logicalOf p k phys = some logical) (hidle : p.hrt.running = none) (hqueue : p.hrt.queue = [])
    (hwhole : p.hrt.split = false) (hserved : p.hrt.degradedUnits = []) (hspare : spareFor p k = some spare) (furrow : Nat) :
    (errorResponse ch furrow p).hrt.running =
      some { kind := k, logical := logical, spare := spare, single := true, wear := false, tag := none } := by
  obtain ⟨n, hphys⟩ := physOf_of_logicalOf hserves
  have hfault : errorResponse ch furrow p = unitFault k logical true p := by simp only [errorResponse, hunit, hserves]
  rw [hfault, unitFault_swaps hphys hidle hqueue hwhole hserved hspare]
  obtain ⟨-, -, -, hhrt⟩ := startSwap_starts (p := raise evUnitFault logical n (faultOn p)) (by simpa using hidle)
    { kind := k, logical := logical, spare := spare, single := true, wear := false, tag := none }
  rw [hhrt]

/-! ### Wear trends -/

theorem trendStep_cfg (key : Nat × Nat × Nat) (past : Bool) (p : Part) : (trendStep key past p).1.cfg = p.cfg := rfl

theorem trend_cfg {act : Part → Part} (hact : ∀ q, (act q).cfg = q.cfg) (key : Nat × Nat × Nat) (past : Bool) (p : Part) :
    (trend key past act p).cfg = p.cfg := by
  unfold trend; dsimp only; split
  · rw [hact, raiseAs_cfg, trendStep_cfg]
  · exact trendStep_cfg ..

theorem wearSwap_cfg (k : UnitKind) (phys : Nat) (p : Part) : (wearSwap k phys p).cfg = p.cfg := by
  unfold wearSwap; split
  · rfl
  · split
    · unfold planSwap; split <;> rfl
    · rfl

theorem wearRemap_cfg (phys : Nat) (p : Part) : (wearRemap phys p).cfg = p.cfg := by
  unfold wearRemap; dsimp only; split
  · rfl
  · unfold startRemap; split
    · rfl
    · split <;> rfl

/-- A wear sample changes no configuration: it plans swaps and remaps only (R318). -/
theorem wearTrends_cfg (x : TrendSample) (p : Part) : (wearTrends x p).cfg = p.cfg := by
  unfold wearTrends; dsimp only
  refine (foldl_keeps Part.cfg (fun q e => trend_cfg (fun _ => rfl) _ _ q) x.eye _).trans ?_
  refine (foldl_keeps Part.cfg (fun q e => trend_cfg (wearSwap_cfg _ _) _ _ q) x.rows _).trans ?_
  refine (foldl_keeps Part.cfg (fun q e => trend_cfg (wearRemap_cfg _) _ _ q) x.ce _).trans ?_
  exact foldl_keeps Part.cfg (fun q e => trend_cfg (wearSwap_cfg _ _) _ _ q) x.slow p

/-! ### Patrol scrub -/

theorem correctable_ce (phys n : Nat) (p : Part) : ((correctable phys n p).pc phys).ce = (p.pc phys).ce + n := by
  rw [correctable, updPc_pc, if_pos rfl]

end Sys2Proof.Machine

open Sys2Proof Sys2Proof.Machine

/-- Settles O21: the error response by the kind of its master channel, each beside the counter and the fabric it leaves. -/
theorem scrubAndErrors : Obligations.ScrubAndErrors := by
  unfold Obligations.ScrubAndErrors
  intro t l n ch furrow s halive hl hch hfurrow
  refine ⟨⟨_, onPart_timed_guarded halive (by simpa using hl), correctable_ce (remapOf s.m l) n (advance t s.m),
      rfl, rfl, rfl, storesKept_of_cfg rfl⟩,
    ⟨_, onPart_timed_guarded halive (by simp [hch, hfurrow]), ?_⟩,
    fun sample => ⟨_, onPart_timed halive, rfl, rfl, storesKept_of_cfg (wearTrends_cfg sample (advance t s.m))⟩⟩
  have hview := errorResponse_fabricView hch furrow (count blkFabric ch 0 (advance t s.m))
  simp only [Part.fabricView, Prod.mk.injEq] at hview
  obtain ⟨hcfg, hfab, hcounter⟩ := hview
  refine ⟨hcounter.trans (count_counter ..), hfab, storesKept_of_cfg hcfg, fun hother => ?_, fun hlo hhi => ?_, ?_⟩
  · have hrest := errorResponse_other hother furrow (count blkFabric ch 0 (advance t s.m))
    exact ⟨(Part.hrt_of_rest hrest :), (Part.kl_of_rest hrest :), (Part.pair_of_rest hrest :)⟩
  · exact errorResponse_furrow hlo hhi furrow (count blkFabric ch 0 (advance t s.m))
  · intro k phys logical spare hunit hserves hidle hqueue hwhole hserved hspare
    exact errorResponse_unit (p := count blkFabric ch 0 (advance t s.m)) hunit hserves hidle hqueue hwhole hserved hspare furrow

end

section
/-! Event banks and performance counters over BAR0 (R370, R371, R377 to R382), and shadow registers (R422). -/

namespace Sys2Proof.Machine

open Sys2Proof

/-! ### Event banks -/

theorem signalVector_banks (v : Nat) (p : Part) :
    (signalVector v p).ev.pend = p.ev.pend ∧ (signalVector v p).ev.mask = p.ev.mask ∧ (signalVector v p).ev.ring = p.ev.ring := by
  unfold signalVector; split <;> exact ⟨rfl, rfl, rfl⟩

/-- Signalling a bank again moves no pending bit, no mask bit and no ring bit (R371). -/
theorem resignalBank_banks (b : Nat) (p : Part) :
    (resignalBank b p).ev.pend = p.ev.pend ∧ (resignalBank b p).ev.mask = p.ev.mask ∧ (resignalBank b p).ev.ring = p.ev.ring := by
  unfold resignalBank; split
  · exact ⟨rfl, rfl, rfl⟩
  · exact signalVector_banks ..

theorem resignalBank_offHost (b : Nat) (p : Part) : (resignalBank b p).offHost = p.offHost := Part.offHost_of_rest (resignalBank_rest ..)
theorem resignalBank_host (b : Nat) (p : Part) : (resignalBank b p).host = p.host := Part.host_of_rest (resignalBank_rest ..)

/-- With no level held, clearing pending bits raises none of them again (R370). -/
theorem clearPend_idle {p : Part} (hlevel : p.ev.level = []) (b : BitVec 384) (again : Part → Part) :
    clearPend b again p = again (p.updEv fun e => { e with pend := e.pend &&& ~~~b }) := by
  rw [clearPend, hlevel]; rfl

/-! ### Performance counters -/

theorem perfSync_offHost (p : Part) : (perfSync p).offHost = p.offHost := Part.offHost_of_quiet (perfSync_quiet p)
theorem perfSync_host (p : Part) : (perfSync p).host = p.host := (congrArg Part.host (perfSync_quiet p) :)

theorem takeSnapshot_perf (p : Part) : (takeSnapshot p).perf.snapCfn = p.fr.cfn ∧ (takeSnapshot p).perf.snapTime = p.sys.now := by
  unfold takeSnapshot; dsimp only
  rw [raise_perf]
  exact ⟨congrArg Frames.cfn (perfSync_fr p), congrArg Sys.now (perfSync_sys p)⟩

theorem takeSnapshot_keeps (p : Part) : (takeSnapshot p).host = p.host ∧ (takeSnapshot p).offHost = p.offHost := by
  unfold takeSnapshot; dsimp only
  rw [raise_host, raise_offHost]
  exact ⟨perfSync_host p, perfSync_offHost p⟩

/-- A group reads as it was written. -/
theorem updGroup_group (g : Nat) (f : PerfGroup → PerfGroup) (p : Part) :
    (updGroup g f p).perf.groups.getD g ⟨0, [], [], 0, 0, []⟩ = f (p.perf.groups.getD g ⟨0, [], [], 0, 0, []⟩) :=
  (Tab.getD_upd ..).trans (if_pos rfl)

theorem perfVal_write (g c : Nat) (v : Word) (p : Part) :
    perfVal g c (updGroup g (fun q => { q with cnt := q.cnt.set c v }) p) = v := by
  rw [perfVal, updGroup_group, Tab.getD_set, if_pos rfl]

/-! ### A counter that wraps -/

/-- Counters that are up to date stand (R378). -/
theorem perfSync_current {p : Part} (h : p.perf.since = p.sys.now) : perfSync p = p := by
  have hgroup (g : Nat) : perfSyncGroup p g = p := by simp [perfSyncGroup, h]
  have hgroups : ∀ l : List Nat, l.foldl perfSyncGroup p = p := fun l => by
    induction l with
    | nil => rfl
    | cons g l ih => rw [List.foldl_cons, hgroup, ih]
  rw [perfSync, hgroups, ← h]; rfl

/-- The overflow bit of a counter set (R379). -/
def overflowed (g c : Nat) (p : Part) : Part := updGroup g (fun x => { x with ovf := x.ovf ||| BitVec.ofNat 8 (2 ^ c) }) p

theorem overflowed_group (g c : Nat) (p : Part) : (overflowed g c p).perf.groups.getD g ⟨0, [], [], 0, 0, []⟩ =
    { p.perf.groups.getD g ⟨0, [], [], 0, 0, []⟩ with
      ovf := (p.perf.groups.getD g ⟨0, [], [], 0, 0, []⟩).ovf ||| BitVec.ofNat 8 (2 ^ c) } :=
  updGroup_group ..

theorem perfSel_overflowed (g c i : Nat) (p : Part) : perfSel g i (overflowed g c p) = perfSel g i p := by
  rw [perfSel, overflowed_group]; rfl

theorem perfVal_raise (n i a g c : Nat) (p : Part) : perfVal g c (raise n i a p) = perfVal g c p := by rw [perfVal, raise_perf]; rfl

theorem perfVal_overflowed (g c i : Nat) (p : Part) : perfVal g i (overflowed g c p) = perfVal g i p := by
  rw [perfVal, overflowed_group]; rfl

/-- A counter that counts no pulses, chained to none and with none chained to it, leaves its overflow bit and the event (R379). -/
theorem counterWraps_overflows {g c : Nat} {p : Part} (hcurrent : p.perf.since = p.sys.now) (hruns : p.perf.freeze = false)
    (henable : selEnable (perfSel g c p) = true) (hlevel : pulsed g (selCode (perfSel g c p)) = false)
    (hchain : selChain (perfSel g c p) = false) (hfreeze : selFreeze (perfSel g c p) = false)
    (hnext : (selEnable (perfSel g (c + 1) p) && selChain (perfSel g (c + 1) p)) = false) :
    counterWraps g c p = raise evPerfOverflow g c (overflowed g c p) := by
  have hwrapped : perfWrapped g c p = overflowed g c p := by simp [perfWrapped, hfreeze, overflowed]
  rw [counterWraps, perfSync_current hcurrent]
  simp only [henable, hruns, hlevel, hchain, Bool.not_true, Bool.or_false, Bool.false_and, Bool.false_eq_true, if_false]
  rw [hwrapped, perfCarry, perfSel_overflowed, Bool.and_assoc, hnext, Bool.and_false]
  rfl

/-! ### Shadow registers -/

theorem latchShadow_shadow {path : Bool} {off : Nat} {v : DWord} {p : Part} (h : read64 p off = some v) :
    shadowOf (latchShadow path off p) path = v ∧ shadowOf (latchShadow path off p) (!path) = shadowOf p (!path) ∧
      (latchShadow path off p).offHost = p.offHost := by
  rw [latchShadow, h]
  cases path <;> exact ⟨rfl, rfl, rfl⟩

end Sys2Proof.Machine

open Sys2Proof Sys2Proof.Machine

/-- Settles O32: each register write through the equation of what it writes; a counter that wraps is up to date first. -/
theorem eventAndCounterRegisters : Obligations.EventAndCounterRegisters := by
  unfold Obligations.EventAndCounterRegisters
  refine ⟨fun t s hs => ?registers, fun t s g c halive hg hc hruns _ hsince ht henable hlevel hchain hfreeze hnext => ?wraps⟩
  case registers =>
    have hwrite := regWrite_of_reached hs t
    refine ⟨fun bank value hbank hlevel => ⟨_, hwrite _, ?_⟩, fun bank value hbank => ⟨_, hwrite _, ?_⟩, fun on => ⟨_, hwrite _, ?_⟩,
      ⟨_, hwrite _, ?_⟩, fun on => ⟨_, hwrite _, rfl, rfl, datapathKept_of_offHost rfl⟩, fun g b hg => ⟨_, hwrite _, ?_⟩,
      fun g c v hg hc => ⟨_, hwrite _, ?_⟩, fun path off v hread => ?_⟩
    · rw [guarded_on (by simpa using hbank), clearPend_idle (p := advance t s.m) hlevel]
      obtain ⟨hpend, hmask, -⟩ := resignalBank_banks bank ((advance t s.m).updEv fun e => { e with pend := e.pend &&& ~~~bankBits bank value })
      exact ⟨hpend, hmask, resignalBank_host .., datapathKept_of_offHost (resignalBank_offHost ..)⟩
    · rw [guarded_on (by simpa using hbank)]
      obtain ⟨hpend, hmask, -⟩ := resignalBank_banks bank ((advance t s.m).updEv fun e => { e with mask := putBank bank value e.mask })
      exact ⟨hmask, hpend, resignalBank_host .., datapathKept_of_offHost (resignalBank_offHost ..)⟩
    · exact ⟨rfl, perfSync_host _, datapathKept_of_offHost (perfSync_offHost (advance t s.m))⟩
    · obtain ⟨hcfn, htime⟩ := takeSnapshot_perf (advance t s.m)
      obtain ⟨hhost, hoff⟩ := takeSnapshot_keeps (advance t s.m)
      exact ⟨hcfn, htime, hhost, datapathKept_of_offHost hoff⟩
    · rw [guarded_on (by simpa using hg)]
      exact ⟨congrArg PerfGroup.ovf (updGroup_group ..), rfl, datapathKept_of_offHost rfl⟩
    · rw [guarded_on (by simp [hg, hc])]
      exact ⟨perfVal_write .., perfSync_host _, datapathKept_of_offHost (perfSync_offHost (advance t s.m))⟩
    · obtain ⟨hown, hother, hoff⟩ := latchShadow_shadow (path := path) hread
      exact ⟨_, onPart_timed_guarded hs.1 (by simp [Part.bar0, advance_sys, hs.1, hs.2]), hown, hother, datapathKept_of_offHost hoff⟩
  case wraps =>
    have hwraps := counterWraps_overflows (p := advance t s.m) (hsince.trans (max_eq_left ht).symm) hruns henable hlevel hchain hfreeze hnext
    refine ⟨_, onPart_timed_guarded halive (by simp [hg, hc]), ?_⟩
    rw [hwraps]
    have hgroup := overflowed_group g c (advance t s.m)
    exact ⟨(perfVal_raise ..).trans (perfVal_overflowed ..), by rw [raise_perf, hgroup]; rfl, raise_sets_pend (by decide),
      raise_host .., datapathKept_of_offHost (raise_offHost ..)⟩

end

section
/-! Power and temperature: the tick, PMBus, the cap and the thermal limits (R413 to R419, Table 17.9). -/

namespace Sys2Proof.Machine

open Sys2Proof

/-! ### Temperature -/

/-- The head's system state once a temperature is seen (R419). -/
def Sys.heated (tj : Int) (sensor : Nat) (y : Sys) : Sys := { y with
  tj := tj, tjSensor := sensor
  tjWarn := decide (tMax - 40 ≤ tj)
  tjCrit := y.tjCrit && decide (tMax ≤ tj)
  tjHot := if tMax ≤ tj then some (y.tjHot.getD y.now) else none
  tjCool := if tj < tMax - 40 then some (y.tjCool.getD y.now) else none }

theorem tjSeen_rest (tj : Int) (sensor : Nat) (p : Part) : (tjSeen tj sensor p).rest = (p.updSys (Sys.heated tj sensor)).rest :=
  setLevel_rest ..

theorem tjSeen_sys (tj : Int) (sensor : Nat) (p : Part) : (tjSeen tj sensor p).sys = p.sys.heated tj sensor :=
  Part.sys_of_rest (tjSeen_rest tj sensor p)

theorem tjSeen_pwr (tj : Int) (sensor : Nat) (p : Part) : (tjSeen tj sensor p).pwr = p.pwr :=
  (Part.pwr_of_rest (tjSeen_rest tj sensor p) :)
theorem tjSeen_pair (tj : Int) (sensor : Nat) (p : Part) : (tjSeen tj sensor p).pair = p.pair :=
  (Part.pair_of_rest (tjSeen_rest tj sensor p) :)
theorem tjSeen_cfg (tj : Int) (sensor : Nat) (p : Part) : (tjSeen tj sensor p).cfg = p.cfg :=
  (Part.cfg_of_rest (tjSeen_rest tj sensor p) :)

theorem tjSeen_nextSeq (tj : Int) (sensor : Nat) (p : Part) : (tjSeen tj sensor p).log.nextSeq = p.log.nextSeq :=
  (congrArg Log.nextSeq (setLevel_stored ..) :)

/-! ### Shedding -/

/-- What shedding leaves: all but the reports, the monitor outputs and the power manager, and of that the estimate, the cap and the
samples. -/
def Part.offShed (p : Part) : Part × Nat × Nat × List Nat := ({ p.rest with comp := {}, pwr := {} }, p.pwr.chip, p.pwr.cap, p.pwr.samples)

theorem Part.offShed_of_rest {p q : Part} (h : p.rest = q.rest) : p.offShed = q.offShed :=
  congrArg (fun r : Part => ({ r with comp := {}, pwr := {} }, r.pwr.chip, r.pwr.cap, r.pwr.samples)) h

theorem Part.groups_of_offShed {p q : Part} (h : p.offShed = q.offShed) :
    p.sys = q.sys ∧ p.cfg = q.cfg ∧ p.tb = q.tb ∧ p.pair = q.pair ∧
      p.pwr.chip = q.pwr.chip ∧ p.pwr.cap = q.pwr.cap ∧ p.pwr.samples = q.pwr.samples := by
  simp only [Part.offShed, Part.rest, Prod.mk.injEq, Part.mk.injEq] at h
  tauto

@[simp] theorem raise_offShed (n i a : Nat) (p : Part) : (raise n i a p).offShed = p.offShed := Part.offShed_of_rest (raise_rest ..)
@[simp] theorem setLevel_offShed (n i : Nat) (on : Bool) (p : Part) : (setLevel n i on p).offShed = p.offShed :=
  Part.offShed_of_rest (setLevel_rest ..)

theorem monitorsFollow_keeps (p : Part) : (monitorsFollow p).offShed = p.offShed ∧ (monitorsFollow p).pwr = p.pwr := by
  unfold monitorsFollow; dsimp only; split
  · exact ⟨rfl, rfl⟩
  · exact ⟨raise_offShed .., raise_pwr ..⟩

@[simp] theorem setShed_offShed (n : Nat) (p : Part) : (setShed n p).offShed = p.offShed :=
  (raise_offShed ..).trans (monitorsFollow_keeps _).1

@[simp] theorem setShed_shed (n : Nat) (p : Part) : (setShed n p).pwr.shed = n := by
  rw [setShed, raise_pwr, (monitorsFollow_keeps _).2]; rfl

@[simp] theorem shedDecide_offShed (p : Part) : (shedDecide p).offShed = p.offShed := by
  unfold shedDecide; dsimp only; split
  · exact setShed_offShed ..
  · split
    · split <;> exact setShed_offShed ..
    · rfl

/-- P10 above 0.98 of the cap sheds the next step where none was shed within 100 ms (R416). -/
theorem shedDecide_sheds {p : Part} (hover : 98 * capMw p < 100 * p10 p) (hchange : p.pwr.lastChange = none) (hshed : p.pwr.shed < 3) :
    (shedDecide p).pwr.shed = p.pwr.shed + 1 := by
  have hnext : shedDecide p = shedNext p := if_pos (by simp [hover, hchange, hshed])
  rw [hnext]; exact setShed_shed ..

@[simp] theorem overCap_keeps (p : Part) : (overCap p).offShed = p.offShed ∧ (overCap p).pwr.shed = p.pwr.shed := by
  unfold overCap; split <;> exact ⟨rfl, rfl⟩

@[simp] theorem mismatchCheck_keeps (p : Part) : (mismatchCheck p).offShed = p.offShed ∧ (mismatchCheck p).pwr.shed = p.pwr.shed := by
  unfold mismatchCheck
  extract_lets a b far q
  split
  · exact ⟨raise_offShed .., (congrArg Power.shed (raise_pwr ..) :)⟩
  · exact ⟨rfl, rfl⟩

theorem setSheds_shed (k n : Nat) (p : Part) :
    ((List.range (n + 1)).foldl (fun r j => setShed (k + j + 1) r) p).pwr.shed = k + n + 1 := by
  rw [List.range_succ, List.foldl_append]
  exact setShed_shed ..

/-- All steps are shed, one after the other (R419). -/
theorem shedAll_keeps (p : Part) : (shedAll p).offShed = p.offShed ∧ (p.pwr.shed ≤ 3 → (shedAll p).pwr.shed = 3) := by
  unfold shedAll; dsimp only
  refine ⟨foldl_keeps Part.offShed (fun q j => setShed_offShed ..) _ _, fun hle => ?_⟩
  obtain hshed | ⟨n, hn⟩ : p.pwr.shed = 3 ∨ ∃ n, 3 - p.pwr.shed = n + 1 := by
    rcases Nat.eq_or_lt_of_le hle with h | h
    · exact .inl h
    · exact .inr ⟨2 - p.pwr.shed, by omega⟩
  · rw [hshed]; exact hshed
  · rw [hn, setSheds_shed]; omega

/-! ### The tick -/

/-- The power manager's samples of this millisecond, before it acts on them (R413, R416). -/
def tickSampled (estimate : Nat) (tj : Int) (sensor : Nat) (p : Part) : Part :=
  let p1 := tjSeen tj sensor (p.updPwr fun w => { w with chip := estimate })
  p1.updPwr fun w => { w with
    samples := (measuredPower p1 :: w.samples).take 1000
    chipSamples := (estimate :: w.chipSamples).take 1000
    telemSamples := (w.telem :: w.telemSamples).take 1000 }

theorem energyTick_eq (estimate : Nat) (tj : Int) (sensor : Nat) (p : Part) :
    ∃ q, energyTick estimate tj sensor p = mismatchCheck (overCap (shedDecide q)) ∧
      q.offShed = (tickSampled estimate tj sensor p).offShed ∧ q.pwr.shed = p.pwr.shed ∧ q.pwr.lastChange = p.pwr.lastChange := by
  refine ⟨_, rfl, setLevel_offShed .., ?_, ?_⟩
  · exact (congrArg Power.shed (setLevel_pwr ..)).trans (congrArg Power.shed (tjSeen_pwr ..) :)
  · exact (congrArg Power.lastChange (setLevel_pwr ..)).trans (congrArg Power.lastChange (tjSeen_pwr ..) :)

theorem tick_offShed (p : Part) : (mismatchCheck (overCap (shedDecide p))).offShed = p.offShed := by simp
theorem tick_shed (p : Part) : (mismatchCheck (overCap (shedDecide p))).pwr.shed = (shedDecide p).pwr.shed := by simp

/-- With no regulator that answers, the estimate is the measured power (R416). -/
theorem measuredPower_unmetered {p : Part} (h : p.sys.regulators = []) : measuredPower p = p.pwr.chip := by
  simp [measuredPower, telemValid, h]

theorem tickSampled_groups (estimate : Nat) (tj : Int) (sensor : Nat) (p : Part) :
    (tickSampled estimate tj sensor p).sys = p.sys.heated tj sensor ∧ (tickSampled estimate tj sensor p).cfg = p.cfg ∧
      (tickSampled estimate tj sensor p).tb = p.tb ∧ (tickSampled estimate tj sensor p).pair = p.pair ∧
      (tickSampled estimate tj sensor p).pwr.chip = estimate ∧ (tickSampled estimate tj sensor p).pwr.cap = p.pwr.cap ∧
      (tickSampled estimate tj sensor p).pwr.samples.length ≤ 1000 := by
  have hrest := tjSeen_rest tj sensor (p.updPwr fun w => { w with chip := estimate })
  have hpwr := tjSeen_pwr tj sensor (p.updPwr fun w => { w with chip := estimate })
  exact ⟨(Part.sys_of_rest hrest :), (Part.cfg_of_rest hrest :), (Part.tb_of_rest hrest :), (Part.pair_of_rest hrest :),
    (congrArg Power.chip hpwr :), (congrArg Power.cap hpwr :), List.length_take_le ..⟩

/-- The first sample, with no regulator, is the estimate. -/
theorem tickSampled_first {estimate sensor : Nat} {tj : Int} {p : Part} (hnone : p.sys.regulators = []) (hfirst : p.pwr.samples = []) :
    (tickSampled estimate tj sensor p).pwr.samples = [estimate] := by
  have hpwr := tjSeen_pwr tj sensor (p.updPwr fun w => { w with chip := estimate })
  have hregs : (tjSeen tj sensor (p.updPwr fun w => { w with chip := estimate })).sys.regulators = [] := by rw [tjSeen_sys]; exact hnone
  have hmeasured : measuredPower (tjSeen tj sensor (p.updPwr fun w => { w with chip := estimate })) = estimate :=
    (measuredPower_unmetered hregs).trans (congrArg Power.chip hpwr)
  show (measuredPower _ :: (tjSeen tj sensor (p.updPwr fun w => { w with chip := estimate })).pwr.samples).take 1000 = [estimate]
  rw [hmeasured, hpwr]
  exact congrArg (fun l => (estimate :: l).take 1000) hfirst

/-- An estimate above 0.98 of the cap sheds the first step (R416). -/
theorem energyTick_sheds {estimate sensor : Nat} {tj : Int} {p : Part} (hnone : p.sys.regulators = []) (hchange : p.pwr.lastChange = none)
    (hfirst : p.pwr.samples = []) (hover : 980 * p.pwr.cap < estimate) (hshed : p.pwr.shed = 0) :
    (energyTick estimate tj sensor p).pwr.shed = 1 := by
  obtain ⟨q, hq, hoff, hqshed, hqchange⟩ := energyTick_eq estimate tj sensor p
  obtain ⟨-, -, -, -, -, hcap, hsamples⟩ := Part.groups_of_offShed hoff
  obtain ⟨-, -, -, -, -, htickCap, -⟩ := tickSampled_groups estimate tj sensor p
  have hp10 : p10 q = estimate := by simp [p10, meanOf, hsamples, tickSampled_first hnone hfirst]
  have hcapMw : capMw q = 1000 * p.pwr.cap := by rw [capMw, hcap, htickCap]
  rw [hq, tick_shed, shedDecide_sheds (by omega) (hqchange.trans hchange) (by omega), hqshed, hshed]

/-! ### The thermal limits -/

/-- THERM_CRIT sheds every step and holds the excursion, whatever the pair does (R419). -/
theorem thermCrit_sheds {p : Part} (hshed : p.pwr.shed ≤ 3) :
    (thermCrit p).sys.tjCrit = true ∧ (thermCrit p).pwr.shed = 3 ∧ (thermCrit p).cfg = p.cfg := by
  obtain ⟨hoff, hall⟩ := shedAll_keeps (raise evThermCrit 0 0 (p.updSys fun y => { y with tjCrit := true }))
  obtain ⟨hsys, hcfg, -⟩ := Part.groups_of_offShed hoff
  have hall' := hall (by rw [raise_pwr]; exact hshed)
  have hyield (c : Prop) [Decidable c] (q : Part) : (if c then yieldHead q else q).sys = q.sys ∧
      (if c then yieldHead q else q).pwr = q.pwr ∧ (if c then yieldHead q else q).cfg = q.cfg := by
    split
    · exact ⟨yieldHead_sys q, (congrArg Part.pwr (yieldHead_offPair q) :), (congrArg Part.cfg (yieldHead_offPair q) :)⟩
    · exact ⟨rfl, rfl, rfl⟩
  unfold thermCrit; dsimp only
  generalize shedAll (raise evThermCrit 0 0 (p.updSys fun y => { y with tjCrit := true })) = q at hsys hcfg hall' ⊢
  obtain ⟨hysys, hypwr, hycfg⟩ := hyield (partnerInService q = true) q
  rw [hysys, hypwr, hycfg, hsys, hcfg, raise_sys, raise_cfg]
  exact ⟨rfl, hall', rfl⟩

theorem emberWrite_keeps (e : LogEntry) (p : Part) : (emberWrite e p).rest = p.rest ∧ (emberWrite e p).log.nextSeq = p.log.nextSeq + 1 := by
  unfold emberWrite; dsimp only; split <;> exact ⟨rfl, rfl⟩

/-- The part as it is damped: its entry is in the ember log, and its clocks stop (Table 17.9). -/
def dampedAt (p : Part) : Part := (emberWrite (dampedEntry p) p).updSys fun y => { y with damped := true }

theorem dampedAt_stops (p : Part) : (dampedAt p).alive = false ∧ (dampedAt p).sys.damped = true ∧ faultLow (dampedAt p) = true ∧
    (dampedAt p).log.nextSeq = p.log.nextSeq + 1 ∧ (dampedAt p).pair = p.pair ∧ (dampedAt p).cfg = p.cfg := by
  obtain ⟨hrest, hseq⟩ := emberWrite_keeps (dampedEntry p) p
  exact ⟨by simp [Part.alive, dampedAt], rfl, by simp [faultLow, dampedAt], hseq, (Part.pair_of_rest hrest :), (Part.cfg_of_rest hrest :)⟩

/-! ### PMBus -/

theorem pmbusReads_rest (r : Regulator) (cmds : List Nat) (p : Part) : (pmbusReads r cmds p).rest = p.rest := by
  unfold pmbusReads
  rw [foldl_keeps Part.rest (fun q c => emit_rest ..)]
  split
  · rfl
  · exact emit_rest ..

/-- The answer of the one regulator is the telemetry, and it is valid (R414). -/
theorem pmbusPoll_one {r : Regulator} {p : Part} (hone : p.sys.regulators = [r]) (mw : Nat) :
    (pmbusPoll [some mw] p).pwr.telem = mw ∧ telemValid (pmbusPoll [some mw] p) = true ∧ (pmbusPoll [some mw] p).cfg = p.cfg := by
  have hpolled := foldl_keeps Part.rest (fun q g => pmbusReads_rest g (pollReads g) q) p.sys.regulators p
  unfold pmbusPoll
  extract_lets p1 p2
  have hsys : p1.sys = p.sys := Part.sys_of_rest hpolled
  have hregs : p2.sys.regulators = [{ r with answered := some p.sys.now, mw := mw }] := by simp [p2, hsys, hone, storeReadings]
  have hnow : p2.sys.now = p.sys.now := (congrArg Sys.now hsys :)
  refine ⟨by simp [hregs], ?_, (Part.cfg_of_rest hpolled :)⟩
  simp [telemValid, hregs, hnow]

theorem pmbusAlert_keeps (low : Bool) (words : List Half) (p : Part) :
    (pmbusAlert low words p).rest = (p.updPwr fun w => { w with alertLow := low }).rest := by
  unfold pmbusAlert; dsimp only; split
  · exact setLevel_rest ..
  · rw [foldl_keeps Part.rest (fun q i => report_rest ..), foldl_keeps Part.rest (fun q g => pmbusReads_rest ..)]
    exact setLevel_rest ..

theorem capExceeded_due {p : Part} {c : Nat} (hfirst : p.pwr.exceeded = false) (hsince : p.pwr.overSince = some c)
    (hdue : c + 100 * msec ≤ p.sys.now) :
    (!p.pwr.exceeded && ((p.pwr.overSince.map fun c => decide (c + 100 * msec ≤ p.sys.now)).getD false)) = true := by
  simp [hfirst, hsince, hdue]

end Sys2Proof.Machine

open Sys2Proof Sys2Proof.Machine

/-- Settles O25: what a tick's decisions leave is its samples; each of the other commands through what it changes beside the reports. -/
theorem powerAndHeat : Obligations.PowerAndHeat := by
  unfold Obligations.PowerAndHeat
  refine ⟨fun t estimate sensor tj s halive => ?tick,
    fun t sensor tj s halive => ⟨?warn, fun htmax hcool hshed => ?crit, fun hdamp => ?damped⟩,
    fun t s hlives => ⟨fun r mw hstep hone => ?poll, fun low words hstep => ?alert, fun c hsince hdue hfirst => ?cap⟩⟩
  case tick =>
    obtain ⟨q, hq, hoff, -⟩ := energyTick_eq estimate tj sensor (advance t s.m)
    obtain ⟨hsys, hcfg, htb, hpair, hchip, hcap, hsamples⟩ := Part.groups_of_offShed ((tick_offShed q).trans hoff)
    obtain ⟨htsys, htcfg, httb, htpair, htchip, htcap, hlength⟩ := tickSampled_groups estimate tj sensor (advance t s.m)
    refine ⟨_, onPart_timed halive, ?_⟩
    dsimp only
    refine ⟨?_, ?_, ?_, ?_, ?_, fun hnone hchange hsample hover hshed =>
      energyTick_sheds (p := advance t s.m) hnone hchange hsample hover hshed, ?_, ?_, storesKept_of_cfg ?_⟩
    all_goals rw [hq]
    · exact hchip.trans htchip
    · rw [hsys, htsys]; rfl
    · rw [hsys, htsys]; rfl
    · exact hcap.trans htcap
    · rw [hsamples]; exact hlength
    · exact htb.trans httb
    · exact hpair.trans htpair
    · exact hcfg.trans htcfg
  case warn =>
    have hsys := tjSeen_sys tj sensor (advance t s.m)
    exact ⟨_, onPart_timed halive, congrArg Sys.tjWarn hsys, congrArg Sys.tj hsys, tjSeen_pwr tj sensor (advance t s.m),
      tjSeen_pair tj sensor (advance t s.m), storesKept_of_cfg (tjSeen_cfg tj sensor (advance t s.m))⟩
  case crit =>
    have hcold : (advance t s.m).sys.tjCrit = false := hcool
    have hexec := onPart_timed (f := fun p => if tMax ≤ tj && !(tjSeen tj sensor p).sys.tjCrit then thermCrit (tjSeen tj sensor p)
      else tjSeen tj sensor p) (t := t) halive
    rw [if_pos (by simp [tjSeen_sys, Sys.heated, htmax, hcold])] at hexec
    obtain ⟨hcrit, hall, hcfg⟩ := thermCrit_sheds (p := tjSeen tj sensor (advance t s.m)) (by rw [tjSeen_pwr]; exact hshed)
    exact ⟨_, hexec, hcrit, hall, storesKept_of_cfg (hcfg.trans (tjSeen_cfg tj sensor (advance t s.m)))⟩
  case damped =>
    have hexec := onPart_timed (f := fun p => if tMax + 80 ≤ tj then dampedAt (tjSeen tj sensor p) else tjSeen tj sensor p)
      (t := t) halive
    rw [if_pos hdamp] at hexec
    obtain ⟨hdead, hhalted, hlow, hseq, hpair, hcfg⟩ := dampedAt_stops (tjSeen tj sensor (advance t s.m))
    exact ⟨_, hexec, hdead, hhalted, hlow, hseq.trans (congrArg (· + 1) (tjSeen_nextSeq tj sensor (advance t s.m))),
      hpair.trans (tjSeen_pair tj sensor (advance t s.m)), storesKept_of_cfg (hcfg.trans (tjSeen_cfg tj sensor (advance t s.m)))⟩
  case poll =>
    obtain ⟨htelem, hvalid, hcfg⟩ := pmbusPoll_one (p := advance t s.m) hone mw
    exact ⟨_, onPart_timed_guarded hlives.1 (decide_eq_true hstep), htelem, hvalid, storesKept_of_cfg hcfg⟩
  case alert =>
    have hrest := pmbusAlert_keeps low words (advance t s.m)
    exact ⟨_, onPart_timed_guarded hlives.1 (decide_eq_true hstep), (congrArg Power.alertLow (Part.pwr_of_rest hrest) :),
      (Part.sys_of_rest hrest :), storesKept_of_cfg (Part.cfg_of_rest hrest :)⟩
  case cap =>
    have hnow : c + 100 * msec ≤ (advance t s.m).sys.now := hdue.trans_eq (advance_now_of_livesAt hlives).symm
    exact ⟨_, onPart_timed_guarded hlives.1 (capExceeded_due (p := advance t s.m) hfirst hsince hnow), raise_pwr .., raise_sys ..,
      storesKept_of_cfg (raise_cfg ..)⟩

end

section
/-! Commands that set a parameter at once: what each handler makes of the part its command meets, and that the answer leaves it so
(Tables 14.3 and 14.14 to 14.17). -/

namespace Sys2Proof.Machine

open Sys2Proof

/-! ### What an answer leaves -/

/-- What stands through the handler of every setter and its answer. -/
def Part.steady (p : Part) : Sys × Maint × Cfg × Frames × Tb × Inputs × Comp × Klink × List Commit :=
  (p.sys, p.maint, p.cfg, p.fr, p.tb, p.inp, p.comp, p.kl, p.txn.commits)

/-- The link and the pair's parameters: what an answer leaves of the groups that it may change. -/
def Part.linkSide (p : Part) : Klink × PairCfg := (p.kl, p.pair.cfg)

theorem sendReply_linkSide (r : Reply) (p : Part) : (sendReply r p).linkSide = p.linkSide := by
  unfold sendReply; dsimp only; split
  · rfl
  · split <;> rfl

theorem mirrorStale_linkSide (p : Part) : (mirrorStale p).linkSide = p.linkSide := by
  unfold mirrorStale; split
  · rfl
  · rw [Part.linkSide, raise_kl, raise_pair]; rfl

theorem sendAcked_linkSide (kind n : Nat) (x : PairBody) (p : Part) : (sendAcked kind n x p).linkSide = p.linkSide := by
  unfold sendAcked; exact foldl_keeps Part.linkSide (by intros; rfl) ..

theorem recordTag_linkSide (e : TagEntry) (p : Part) : (recordTag e p).linkSide = p.linkSide := by
  unfold recordTag; split <;> rfl

section Answered

variable (r : OpRule) (op : Nat) (k : CmdPkt) (a : Answer) (p : Part)

/-- Sent, held or mirrored, an answer leaves the link and the pair's parameters. -/
theorem answerWith_linkSide : (answerWith r op k a p).linkSide = p.linkSide := by
  refine Eq.trans ?_ (recordTag_linkSide (recordOf op k (settle p a.status) a) p)
  unfold answerWith mirrorOut configReply; dsimp only
  split
  · split
    · exact (sendReply_linkSide ..).trans (mirrorStale_linkSide _)
    · exact sendAcked_linkSide ..
  · split
    · split
      · rfl
      · exact sendReply_linkSide ..
    · exact sendReply_linkSide ..

theorem answerWith_steady : (answerWith r op k a p).steady = p.steady := by
  have hoff := answerWith_offAnswer r op k a p
  obtain ⟨hmaint, hcfg, hinp, hcomp, hfr, -, htb, -⟩ := Part.groups_of_offAnswer hoff
  have hkl : (answerWith r op k a p).kl = p.kl := congrArg Prod.fst (answerWith_linkSide r op k a p)
  simp only [Part.steady, Part.sys_of_offAnswer hoff, hmaint, hcfg, hfr, htb, hinp, hcomp, hkl, answerWith_txn]

theorem answerWith_pwr : (answerWith r op k a p).pwr = p.pwr := (congrArg Part.pwr (answerWith_offAnswer r op k a p) :)
theorem answerWith_fab : (answerWith r op k a p).fab = p.fab := (congrArg Part.fab (answerWith_offAnswer r op k a p) :)
theorem answerWith_baud : (answerWith r op k a p).host.newBaud = p.host.newBaud :=
  (congrArg (fun q : Part => q.host.newBaud) (answerWith_offAnswer r op k a p) :)

/-- An answer to a command that is not mirrored leaves the events and the performance counters, and over PCI Express every counter. -/
theorem answerWith_own_reports {r : OpRule} (hown : r.mirrored = false) (hcls : r.cls ≠ .config) :
    (answerWith r op k a p).ev = p.ev ∧ (answerWith r op k a p).perf = p.perf ∧
      (k.uart = false → (answerWith r op k a p).cnt = p.cnt) := by
  have hrecord (e : TagEntry) : (recordTag e p).ev = p.ev ∧ (recordTag e p).perf = p.perf ∧ (recordTag e p).cnt = p.cnt := by
    unfold recordTag; split <;> exact ⟨rfl, rfl, rfl⟩
  have hsend (x : Reply) (q : Part) : (sendReply x q).ev = q.ev ∧ (sendReply x q).perf = q.perf ∧
      (x.uart = false → (sendReply x q).cnt = q.cnt) := by
    unfold sendReply; dsimp only; split
    · exact ⟨rfl, rfl, fun _ => rfl⟩
    · split
      next hfull => exact ⟨rfl, rfl, fun hbar => by simp [hbar] at hfull⟩
      · exact ⟨rfl, rfl, fun _ => rfl⟩
  rw [answerWith_sent hown hcls]
  obtain ⟨hev, hperf, hcnt⟩ := hsend (replyOf op k (settle p a.status) a.params) (recordTag (recordOf op k (settle p a.status) a) p)
  obtain ⟨hev', hperf', hcnt'⟩ := hrecord (recordOf op k (settle p a.status) a)
  exact ⟨hev.trans hev', hperf.trans hperf', fun hbar => (hcnt hbar).trans hcnt'⟩

end Answered

/-! ### A setter answered -/

/-- The command of a row arrives as its rule and the row ask (Table 13.2). -/
def SetRow.asked (r : SetRow) (s : State) : Prop :=
  takesCommand r.op r.t r.k s ∧ classOk r.rule r.k = true ∧ (r.rule.cls = .maint true → s.m.maint.unlocked = true) ∧ r.fits = true

/-- The command of a row is done: the part holds what it set, and the answer stands under its tag. -/
def SetRow.done (c : Instr) (r : SetRow) (s : State) : Prop :=
  ∃ u, exec c s = .next u ∧ r.holds s.m u.m ∧
    (∃ e ∈ u.m.host.tags, e.tag = r.k.tag ∧ e.opcode = r.op ∧ e.owes = none ∧
      e.reply.map (·.1) = some (BitVec.ofNat 16 (okStatus s.m))) ∧
    u.m.cfg = s.m.cfg ∧ u.m.fr = s.m.fr ∧ u.m.tb = s.m.tb ∧ u.m.inp = s.m.inp ∧ u.m.comp = s.m.comp ∧ u.m.kl = s.m.kl ∧
    u.m.txn.commits = s.m.txn.commits ∧ u.m.maint = s.m.maint ∧ u.hbm = s.hbm ∧ u.flash = s.flash

/-- The part that a row's command meets. -/
def SetRow.met (r : SetRow) (s : State) : Part := commandAt r.op r.t r.k s

/-- The part once a row's command was answered OK. -/
def SetRow.answered (r : SetRow) (b : List Byte) (q : Part) : Part := answerWith r.rule r.op r.k (okAnswer b) q

theorem SetRow.met_steady (r : SetRow) (s : State) : (r.met s).steady = (advance r.t s.m).steady :=
  (congrArg Part.steady (commandAt_taken r.op r.t r.k s) :)

section Done

variable {c : Instr} {r : SetRow} {s : State} (h : r.asked s) (hpends : r.rule.pends = false) {hd : Handler} {b : List Byte} {q : Part}
  (hexec : exec c s = execHost r.rule r.op hd r.t r.k s) (hact : hd r.k (r.met s) = (okAnswer b, q))
  (hsteady : q.steady = (r.met s).steady) (hok : okStatus q = okStatus (r.met s))
include h hpends hexec hact hsteady hok

/-- A handler that answers OK and leaves what stands does its command, where what waits for the reply to leave moves neither. -/
theorem done_of_gone (hgone : (repliesGone (r.answered b q)).steady = (r.answered b q).steady ∧
    (repliesGone (r.answered b q)).host.tags = (r.answered b q).host.tags)
    (hholds : r.holds s.m (repliesGone (r.answered b q))) : r.done c s := by
  obtain ⟨htakes, hclass, hopen, -⟩ := h
  have hnext : exec c s = .next { s with m := repliesGone (r.answered b q) } := by
    rw [hexec, execHost_takes htakes hclass hopen (by simp [hpends])]
    show Host.Outcome.next { s with m := repliesGone (answerWith _ _ _ (hd r.k (r.met s)).1 (hd r.k (r.met s)).2) } = _
    rw [hact]; rfl
  have hmet : q.steady = (advance r.t s.m).steady := hsteady.trans (r.met_steady s)
  have hstands := hgone.1.trans ((answerWith_steady ..).trans hmet)
  have hsys : q.sys = (advance r.t s.m).sys := congrArg Prod.fst hmet
  obtain ⟨-, -, hstep, hruns, -⟩ := htakes
  have hrecorded := answerWith_recorded (p := q) (by simp [tagsKept, hsys, advance_sys, hstep, hruns]) r.rule r.op r.k (okAnswer b)
  have hstatus : settle q (okAnswer b).status = okStatus s.m := (if_pos rfl).trans (hok.trans (commandAt_okStatus ..))
  rw [hstatus] at hrecorded
  simp only [Part.steady, Prod.mk.injEq] at hstands
  obtain ⟨-, hmaint, hcfg, hfr, htb, hinp, hcomp, hkl, hcommits⟩ := hstands
  refine ⟨_, hnext, hholds, ⟨recordOf r.op r.k (okStatus s.m) (okAnswer b), ?_, rfl, rfl, rfl, rfl⟩, hcfg, hfr, htb, hinp, hcomp, hkl,
    hcommits, hmaint, rfl, rfl⟩
  show _ ∈ (repliesGone (r.answered b q)).host.tags
  rw [hgone.2]; exact hrecorded

/-- Where the handler sets neither a rate nor a firmware switch waiting, nothing waits. -/
theorem done_of_idle (hbaud : q.host.newBaud = (r.met s).host.newBaud) (htrial : q.hrt.pendingTrial = (r.met s).hrt.pendingTrial)
    (hholds : r.holds s.m (r.answered b q)) : r.done c s := by
  have ⟨htakes, _⟩ := h
  obtain ⟨-, -, -, -, -, -, -, -, -, -, -, -, hnone, hrate, -⟩ := htakes
  have hidle : repliesGone (r.answered b q) = r.answered b q := by
    refine repliesGone_idle ?_ ?_
    · exact (answerWith_baud ..).trans (hbaud.trans ((commandAt_unreplied ..).2.1.trans hrate))
    · exact (congrArg Hearth.pendingTrial ((answerWith_hrt ..).trans rfl)).trans
        (htrial.trans ((congrArg Hearth.pendingTrial (commandAt_hrt ..)).trans hnone))
  exact done_of_gone h hpends hexec hact hsteady hok (by rw [hidle]; exact ⟨rfl, rfl⟩) (by rw [hidle]; exact hholds)

end Done

/-- What a handler leaves that reports and counts at most: all that stands, the status, and nothing waits. -/
structure Part.calm (p q : Part) : Prop where
  steady : q.steady = p.steady
  okStatus : okStatus q = okStatus p
  newBaud : q.host.newBaud = p.host.newBaud
  pendingTrial : q.hrt.pendingTrial = p.hrt.pendingTrial

theorem Part.calm_of_quiet {p q : Part} (h : q.quiet = p.quiet) (hbanks : q.log.banks = p.log.banks) : p.calm q where
  steady := (congrArg Part.steady h :)
  okStatus := okStatus_congr (Part.kl_of_quiet h) (congrArg Part.hrt h :) (congrArg Part.fab h :) hbanks
  newBaud := (congrArg (fun r : Part => r.host.newBaud) h :)
  pendingTrial := (congrArg (fun r : Part => r.hrt.pendingTrial) h :)

theorem Part.calm_updEv (g : Ev → Ev) (p : Part) : p.calm (p.updEv g) := ⟨rfl, rfl, rfl, rfl⟩

theorem Part.calm.trans {p q q' : Part} (h : p.calm q) (h' : q.calm q') : p.calm q' :=
  ⟨h'.steady.trans h.steady, h'.okStatus.trans h.okStatus, h'.newBaud.trans h.newBaud, h'.pendingTrial.trans h.pendingTrial⟩

/-- A handler that leaves the part calm does its command. -/
theorem done_of_calm {c : Instr} {r : SetRow} {s : State} (h : r.asked s) (hpends : r.rule.pends = false) {hd : Handler} {b : List Byte}
    {q : Part} (hexec : exec c s = execHost r.rule r.op hd r.t r.k s) (hact : hd r.k (r.met s) = (okAnswer b, q))
    (hcalm : (r.met s).calm q) (hholds : r.holds s.m (r.answered b q)) : r.done c s :=
  done_of_idle h hpends hexec hact hcalm.steady hcalm.okStatus hcalm.newBaud hcalm.pendingTrial hholds

section Handlers

variable {t : Nat} {k : CmdPkt} {r : SetRow} {s : State}

/-! ### The pair, power, wear, the watchdog and the scrub -/

theorem pairSet_done (hrow : setRow (.pairSet t k) = some r) (h : r.asked s) : r.done (.pairSet t k) s := by
  obtain rfl := Option.some.inj hrow
  have ⟨_, _, _, hfits⟩ := h
  have hact := parsed_ok (act := pairSet) (k := k) (f := parsePairSet) (layout_of_passes hfits _) (commandAt 0x0A01 t k s)
  exact done_of_idle h rfl rfl hact rfl rfl rfl rfl (congrArg Prod.snd (answerWith_linkSide ..))

theorem powerCap_done (hrow : setRow (.powerCap t k) = some r) (h : r.asked s) : r.done (.powerCap t k) s := by
  obtain rfl := Option.some.inj hrow
  have ⟨_, _, _, hfits⟩ := h
  have hact := parsed_ok (act := powerCap) (k := k) (f := parsePowerCap) (layout_of_passes hfits _) (commandAt 0x0B07 t k s)
  have hpwr : (commandAt 0x0B07 t k s).pwr = s.m.pwr := (congrArg Part.pwr (commandAt_taken 0x0B07 t k s) :)
  refine done_of_idle h rfl rfl hact rfl rfl rfl rfl ((answerWith_pwr ..).trans ?_)
  rw [← hpwr]; rfl

theorem wearThresh_done (hrow : setRow (.wearThresh t k) = some r) (h : r.asked s) : r.done (.wearThresh t k) s := by
  obtain rfl := Option.some.inj hrow
  have ⟨_, _, _, hfits⟩ := h
  have hact := parsed_ok (act := wearThresh) (k := k) (f := parseWearThresh) (layout_of_passes hfits _) (commandAt 0x0B08 t k s)
  refine done_of_idle h rfl rfl hact rfl rfl rfl rfl ?_
  simp [SetRow.answered]

theorem watchdog_done (hrow : setRow (.watchdog t k) = some r) (h : r.asked s) : r.done (.watchdog t k) s := by
  obtain rfl := Option.some.inj hrow
  have ⟨_, _, _, hfits⟩ := h
  have hact := parsed_ok (act := watchdogSet) (k := k) (f := fun b => layout b 4 [within b 0 2 10 1000, zeros b 2 2] (leAt b 0 2))
    (layout_of_passes hfits _) (commandAt 0x0B0A t k s)
  refine done_of_idle h rfl rfl hact rfl rfl rfl rfl ?_
  simp [SetRow.answered]

theorem scrubSet_done (hrow : setRow (.scrubSet t k) = some r) (h : r.asked s) : r.done (.scrubSet t k) s := by
  obtain rfl := Option.some.inj hrow
  have ⟨_, _, _, hfits⟩ := h
  have hact := parsed_ok (act := scrubSet) (k := k) (f := fun b => layout b 4 [within b 0 1 1 168, zeros b 1 3] (byteAt b 0))
    (layout_of_passes hfits _) (commandAt 0x0B0E t k s)
  refine done_of_idle h rfl rfl hact rfl rfl rfl rfl ((answerWith_fab ..).trans ?_)
  simp

/-! ### The UART's rate -/

/-- The rate an UART_RATE names (Table 14.15). -/
def rateAsked (k : CmdPkt) : Nat := [115200, 921600, 3000000].getD (byteAt k.params 0) 115200

/-- The part with a rate that waits for its reply to leave. -/
def rateWaiting (tag : Word) (rate : Nat) (p : Part) : Part := p.updHost fun x => { x with newBaud := some (tag, rate) }

/-- A rate that waits is taken once its reply has left, or waits on (R342). -/
theorem repliesGone_rate {p : Part} {tag : Word} {rate : Nat} (hbaud : p.host.newBaud = some (tag, rate))
    (htrial : p.hrt.pendingTrial = none) : (repliesGone p).steady = p.steady ∧ (repliesGone p).host.tags = p.host.tags ∧
      ((repliesGone p).host.newBaud = some (tag, rate) ∨ (repliesGone p).host.baud = rate) := by
  have hnoSwitch {q : Part} (h : q.hrt.pendingTrial = none) : switchStarts q = q := by rw [switchStarts, h]
  rw [repliesGone, uartSettles, hbaud]
  dsimp only
  split
  · rw [hnoSwitch htrial]; exact ⟨rfl, rfl, .inl hbaud⟩
  · rw [hnoSwitch (q := p.updHost _) htrial]; exact ⟨rfl, rfl, .inr rfl⟩

theorem uartRate_done (hrow : setRow (.uartRate t k) = some r) (h : r.asked s) : r.done (.uartRate t k) s := by
  obtain rfl := Option.some.inj hrow
  have ⟨htakes, _, _, hfits⟩ := h
  obtain ⟨-, -, -, -, -, -, -, -, -, -, -, -, hnone, -⟩ := htakes
  have hact : uartRate k (commandAt 0x0B09 t k s) = (okAnswer [], rateWaiting k.tag (rateAsked k) (commandAt 0x0B09 t k s)) := by
    rw [uartRate, layout_of_passes hfits]; rfl
  have htrial : (answerWith ruleMaint 0x0B09 k (okAnswer []) (rateWaiting k.tag (rateAsked k) (commandAt 0x0B09 t k s))).hrt.pendingTrial =
      none := by
    rw [answerWith_hrt, rateWaiting, Part.updHost_hrt, commandAt_hrt, hnone]
  obtain ⟨hsteady, htags, hset⟩ := repliesGone_rate (answerWith_baud ruleMaint 0x0B09 k (okAnswer [])
    (rateWaiting k.tag (rateAsked k) (commandAt 0x0B09 t k s))) htrial
  exact done_of_gone h rfl rfl hact rfl rfl ⟨hsteady, htags⟩ hset

/-! ### Events -/

theorem resignalAll_keeps (p : Part) : (resignalAll p).rest = p.rest ∧ (resignalAll p).log = p.log ∧
    (resignalAll p).ev.pend = p.ev.pend ∧ (resignalAll p).ev.mask = p.ev.mask ∧ (resignalAll p).ev.ring = p.ev.ring := by
  have hlog (b : Nat) (q : Part) : (resignalBank b q).log = q.log := by
    unfold resignalBank; split
    · rfl
    · exact signalVector_log ..
  unfold resignalAll
  exact ⟨foldl_keeps Part.rest (fun q b => resignalBank_rest b q) .., foldl_keeps Part.log (fun q b => hlog b q) ..,
    foldl_keeps (fun q : Part => q.ev.pend) (fun q b => (resignalBank_banks b q).1) ..,
    foldl_keeps (fun q : Part => q.ev.mask) (fun q b => (resignalBank_banks b q).2.1) ..,
    foldl_keeps (fun q : Part => q.ev.ring) (fun q b => (resignalBank_banks b q).2.2) ..⟩

theorem resignalAll_calm (p : Part) : p.calm (resignalAll p) := by
  obtain ⟨hrest, hlog, -⟩ := resignalAll_keeps p
  exact Part.calm_of_quiet (Part.quiet_of_rest hrest) (congrArg Log.banks hlog)

/-- The part with the mask and ring banks of an EV_MASK (R371). -/
def evMasked (k : CmdPkt) (p : Part) : Part :=
  p.updEv fun e => { e with mask := BitVec.ofNat 384 (leAt k.params 0 48), ring := BitVec.ofNat 384 (leAt k.params 48 48) }

theorem evMask_masks (hfits : (layout k.params 96 [] ()).toBool = true) (p : Part) :
    parsed (fun b => layout b 96 [] (BitVec.ofNat 384 (leAt b 0 48), BitVec.ofNat 384 (leAt b 48 48))) evMask k p =
      (okAnswer [], resignalAll (evMasked k p)) :=
  parsed_ok (f := fun b => layout b 96 [] (BitVec.ofNat 384 (leAt b 0 48), BitVec.ofNat 384 (leAt b 48 48))) (layout_of_passes hfits _) p

theorem evMasked_calm (k : CmdPkt) (p : Part) : p.calm (resignalAll (evMasked k p)) :=
  (Part.calm_updEv _ p).trans (resignalAll_calm _)

theorem evMasked_sets (k : CmdPkt) (p : Part) : (resignalAll (evMasked k p)).ev.mask = BitVec.ofNat 384 (leAt k.params 0 48) ∧
    (resignalAll (evMasked k p)).ev.ring = BitVec.ofNat 384 (leAt k.params 48 48) := by
  obtain ⟨-, -, -, hmask, hring⟩ := resignalAll_keeps (evMasked k p)
  rw [hmask, hring, evMasked, Part.updEv_ev]
  exact ⟨rfl, rfl⟩

theorem evMask_done (hrow : setRow (.evMask t k) = some r) (h : r.asked s) : r.done (.evMask t k) s := by
  obtain rfl := Option.some.inj hrow
  have ⟨_, _, _, hfits⟩ := h
  have hcalm := evMasked_calm k (commandAt 0x0C07 t k s)
  obtain ⟨hmask, hring⟩ := evMasked_sets k (commandAt 0x0C07 t k s)
  obtain ⟨hev, -⟩ := answerWith_own_reports 0x0C07 k (okAnswer []) (resignalAll (evMasked k (commandAt 0x0C07 t k s))) (r := ruleOwn)
    rfl (by nofun)
  exact done_of_calm h rfl rfl (evMask_masks hfits (commandAt 0x0C07 t k s)) hcalm
    ⟨(congrArg Ev.mask hev).trans hmask, (congrArg Ev.ring hev).trans hring⟩

/-- While the performance counters are frozen a command's arrival moves no event (R381). -/
theorem commandAt_ev (hfrozen : s.m.perf.freeze = true) (op : Nat) : (commandAt op t k s).ev = s.m.ev := by
  have hpopped : (popped k.uart (cmdBytes op k) (advance t s.m)).ev = s.m.ev ∧
      (popped k.uart (cmdBytes op k) (advance t s.m)).perf = s.m.perf := by
    unfold popped; split
    · split <;> exact ⟨rfl, rfl⟩
    · exact ⟨rfl, rfl⟩
  rw [commandAt, Part.updHost_ev, perfSignal, if_pos (by rw [hpopped.2]; exact hfrozen), hpopped.1]

theorem resignalAll_log (p : Part) : (resignalAll p).log = p.log := (resignalAll_keeps p).2.1

theorem resignalAll_pend (p : Part) : (resignalAll p).ev.pend = p.ev.pend := by
  obtain ⟨-, -, hpend, -⟩ := resignalAll_keeps p
  exact hpend

theorem clearPend_calm (w : BitVec 384) (p : Part) : p.calm (clearPend w resignalAll p) := by
  refine Part.calm_of_quiet (Part.quiet_of_rest (clearPend_rest w resignalAll (fun q => (resignalAll_keeps q).1) p)) ?_
  unfold clearPend
  rw [foldl_keeps (fun q : Part => q.log.banks) (fun q n => raise_banks ..), resignalAll_log, Part.updEv_log]

theorem evClear_clears (hfits : (layout k.params 48 [] ()).toBool = true) (p : Part) :
    parsed (fun b => layout b 48 [] (BitVec.ofNat 384 (leAt b 0 48))) evClear k p =
      (okAnswer [], clearPend (BitVec.ofNat 384 (leAt k.params 0 48)) resignalAll p) :=
  parsed_ok (f := fun b => layout b 48 [] (BitVec.ofNat 384 (leAt b 0 48))) (layout_of_passes hfits _) p

theorem evClear_done (hrow : setRow (.evClear t k) = some r) (h : r.asked s) : r.done (.evClear t k) s := by
  obtain rfl := Option.some.inj hrow
  have ⟨_, _, _, hfits⟩ := h
  have hcalm := clearPend_calm (BitVec.ofNat 384 (leAt k.params 0 48)) (commandAt 0x0C02 t k s)
  refine done_of_calm h rfl rfl (evClear_clears hfits (commandAt 0x0C02 t k s)) hcalm fun hlevel hfrozen => ?_
  obtain ⟨hev, -⟩ := answerWith_own_reports 0x0C02 k (okAnswer [])
    (clearPend (BitVec.ofNat 384 (leAt k.params 0 48)) resignalAll (commandAt 0x0C02 t k s)) (r := ruleOwn) rfl (by nofun)
  have harrived := commandAt_ev (t := t) (k := k) hfrozen 0x0C02
  refine (congrArg Ev.pend hev).trans ?_
  rw [clearPend_idle (by rw [harrived]; exact hlevel), resignalAll_pend, Part.updEv_ev, harrived]

/-! ### Counters -/

theorem counterRange_of_passes {b : List Byte} (h : (counterRange b).toBool = true) :
    counterRange b = .ok (byteAt b 0, leAt b 2 2, leAt b 4 2, leAt b 6 2) := by
  unfold counterRange at h ⊢
  dsimp only at h ⊢
  split at h
  · cases h
  · cases h
  · split_ifs at h ⊢
    · cases h
    · cases h
    · cases h
    · rfl

/-- The part with a range of counters cleared (R376). -/
def cntCleared (k : CmdPkt) (p : Part) : Part :=
  p.updCnt fun m => (List.range (leAt k.params 6 2)).foldl (fun m i =>
    m.erase (cntKey (byteAt k.params 0) (leAt k.params 2 2) (leAt k.params 4 2 + i))) m

theorem Part.calm_updCnt (g : Tab Word → Tab Word) (p : Part) : p.calm (p.updCnt g) := ⟨rfl, rfl, rfl, rfl⟩

/-- Each entry of a range that is erased is gone. -/
theorem foldl_erase_get? {α : Type} (key : Nat → Nat) (l : List Nat) {i : Nat} (hi : i ∈ l) (m : Tab α) :
    (l.foldl (fun m i => m.erase (key i)) m).get? (key i) = none := by
  have hstays : ∀ (l : List Nat) (m : Tab α), m.get? (key i) = none → (l.foldl (fun m i => m.erase (key i)) m).get? (key i) = none := by
    intro l
    induction l with
    | nil => exact fun m h => h
    | cons j l ih => exact fun m h => ih _ (by rw [Tab.get?_erase, h, ite_self])
  induction l generalizing m with
  | nil => cases hi
  | cons j l ih =>
    obtain rfl | hi := List.mem_cons.mp hi
    · exact hstays l _ (by rw [Tab.get?_erase, if_pos rfl])
    · exact ih hi _

theorem cntCleared_counter {i : Nat} (hi : i < leAt k.params 6 2) (p : Part) :
    counter (byteAt k.params 0) (leAt k.params 2 2) (leAt k.params 4 2 + i) (cntCleared k p) = 0 := by
  rw [counter, Tab.getD, cntCleared, Part.updCnt_cnt, foldl_erase_get? (fun i => cntKey _ _ (leAt k.params 4 2 + i)) _ (List.mem_range.mpr hi)]
  rfl

theorem cntClear_done (hrow : setRow (.cntClear t k) = some r) (h : r.asked s) : r.done (.cntClear t k) s := by
  obtain rfl := Option.some.inj hrow
  have ⟨_, _, _, hfits⟩ := h
  have hact : parsed counterRange cntClear k (commandAt 0x0C04 t k s) = (okAnswer [], cntCleared k (commandAt 0x0C04 t k s)) :=
    parsed_ok (counterRange_of_passes hfits) _
  refine done_of_calm h rfl rfl hact (Part.calm_updCnt _ _) fun hbar i hi => ?_
  obtain ⟨-, -, hcnt⟩ := answerWith_own_reports 0x0C04 k (okAnswer []) (cntCleared k (commandAt 0x0C04 t k s)) (r := ruleOwn) rfl
    (by nofun)
  exact (congrArg (fun m : Tab Word => m.getD _ 0) (hcnt hbar)).trans (cntCleared_counter hi _)

/-! ### Performance counters -/

theorem takeSnapshot_calm (p : Part) : p.calm (takeSnapshot p) := by
  unfold takeSnapshot; dsimp only
  refine Part.calm_of_quiet ((raise_quiet ..).trans (perfSync_quiet p)) ?_
  rw [raise_banks, Part.updPerf_log, perfSync_log]

theorem perfSnapshot_done (hrow : setRow (.perfSnapshot t k) = some r) (h : r.asked s) : r.done (.perfSnapshot t k) s := by
  obtain rfl := Option.some.inj hrow
  have ⟨htakes, _, _, hfits⟩ := h
  generalize hb : le 6 (takeSnapshot (commandAt 0x0C05 t k s)).perf.snapCfn ++ [0, 0] ++
    le 8 (takeSnapshot (commandAt 0x0C05 t k s)).perf.snapTime = b
  have hact : parsed (fun b => layout b 0 [] ()) perfSnapshot k (commandAt 0x0C05 t k s) =
      (okAnswer b, takeSnapshot (commandAt 0x0C05 t k s)) := by
    rw [← hb]
    exact parsed_ok (f := fun b => layout b 0 [] ()) (layout_of_passes hfits ()) _
  obtain ⟨-, hperf, -⟩ := answerWith_own_reports 0x0C05 k (okAnswer b) (takeSnapshot (commandAt 0x0C05 t k s)) (r := ruleOwn) rfl
    (by nofun)
  obtain ⟨hcfn, htime⟩ := takeSnapshot_perf (commandAt 0x0C05 t k s)
  refine done_of_calm h rfl rfl hact (takeSnapshot_calm _)
    ⟨(congrArg Perf.snapCfn hperf).trans ?_, (congrArg Perf.snapTime hperf).trans ?_⟩
  · rw [hcfn, commandAt_fr]
  · rw [htime, commandAt_now htakes]

/-- What stands of the counters as they count: the selectors, and the two bits of PERF_CTRL (R377 to R381). -/
def Part.perfCtrl (p : Part) : (Nat → Nat → Word) × Bool × Bool := (fun g c => perfSel g c p, p.perf.freeze, p.perf.snapFe)

theorem updGroup_perfCtrl {f : PerfGroup → PerfGroup} (hf : ∀ x, (f x).sel = x.sel) (g : Nat) (p : Part) :
    (updGroup g f p).perfCtrl = p.perfCtrl := by
  have hsel (j c : Nat) : perfSel j c (updGroup g f p) = perfSel j c p := by
    simp only [perfSel, updGroup, Part.updPerf_perf, Tab.getD_upd]
    split
    next h => rw [hf, h]
    · rfl
  exact congrArg (·, p.perf.freeze, p.perf.snapFe) (funext fun j => funext (hsel j))

theorem perfSync_perfCtrl (p : Part) : (perfSync p).perfCtrl = p.perfCtrl := by
  refine foldl_keeps Part.perfCtrl (fun q g => ?_) (List.range 10) p
  unfold perfSyncGroup; dsimp only; split
  · rfl
  · exact updGroup_perfCtrl (by intro; rfl) g q

theorem Part.perfCtrl_of_perf {p q : Part} (h : p.perf = q.perf) : p.perfCtrl = q.perfCtrl := by
  simp only [Part.perfCtrl, perfSel, h]

theorem takeSnapshot_perfCtrl (p : Part) : (takeSnapshot p).perfCtrl = p.perfCtrl := by
  refine Eq.trans ?_ (perfSync_perfCtrl p)
  unfold takeSnapshot; dsimp only
  rw [Part.perfCtrl_of_perf (raise_perf ..)]
  generalize perfSync p = q
  have hgroup (g : Nat) : ((q.perf.groups.mapVals fun _ y => { y with snapCycles := y.cycles, snapCnt := y.cnt }).getD g
      ⟨0, [], [], 0, 0, []⟩).sel = (q.perf.groups.getD g ⟨0, [], [], 0, 0, []⟩).sel := by
    simp only [Tab.getD, Tab.get?_mapVals]
    cases q.perf.groups.get? g <;> rfl
  exact congrArg (·, q.perf.freeze, q.perf.snapFe) (funext fun g => funext fun c => congrArg (·.getD c 0) (hgroup g))

/-- The part with a selector written (R377). -/
def selectorSet (b : List Byte) (p : Part) : Part :=
  updGroup (byteAt b 0) (fun x => { x with sel := x.sel.set (byteAt b 1) (BitVec.ofNat 32 (leAt b 4 4)) }) (perfSync p)

/-- Then with PERF_CTRL written, but for its snapshot (R380, R381). -/
def perfCtrlSet (b : List Byte) (p : Part) : Part :=
  (setFreeze (bit (leAt b 8 4) 0) (selectorSet b p)).updPerf fun x => { x with snapFe := bit (leAt b 8 4) 2 }

theorem perfCtrlSet_calm (b : List Byte) (p : Part) : p.calm (perfCtrlSet b p) := by
  refine Part.calm_of_quiet ?_ ?_
  · rw [perfCtrlSet, updPerf_quiet, setFreeze, updPerf_quiet, perfSync_quiet, selectorSet, updGroup_quiet, perfSync_quiet]
  · rw [perfCtrlSet, Part.updPerf_log, setFreeze, Part.updPerf_log, perfSync_log, selectorSet, updGroup, Part.updPerf_log, perfSync_log]

theorem perfCtrlSet_sets (b : List Byte) (p : Part) : perfSel (byteAt b 0) (byteAt b 1) (perfCtrlSet b p) = BitVec.ofNat 32 (leAt b 4 4) ∧
    (perfCtrlSet b p).perf.freeze = bit (leAt b 8 4) 0 ∧ (perfCtrlSet b p).perf.snapFe = bit (leAt b 8 4) 2 := by
  have hsynced := congrArg (fun x : (Nat → Nat → Word) × Bool × Bool => x.1 (byteAt b 0) (byteAt b 1))
    (perfSync_perfCtrl (selectorSet b p))
  refine ⟨Eq.trans hsynced ?_, rfl, rfl⟩
  show perfSel _ _ (selectorSet b p) = _
  rw [selectorSet, perfSel, updGroup_group, Tab.getD_set, if_pos rfl]

theorem perfSet_done (hrow : setRow (.perfSet t k) = some r) (h : r.asked s) : r.done (.perfSet t k) s := by
  obtain rfl := Option.some.inj hrow
  have ⟨_, _, _, hfits⟩ := h
  generalize hq : (if bit (leAt k.params 8 4) 1 then takeSnapshot (perfCtrlSet k.params (commandAt 0x0C08 t k s))
    else perfCtrlSet k.params (commandAt 0x0C08 t k s)) = q
  have hact : parsed (fun b => layout b 12 [below b 0 10, below b 1 8, zeros b 2 2,
      (bits (leAt b 4 4) 15 13 == 0 && bits (leAt b 4 4) 31 24 == 0, 4), (decide (leAt b 8 4 < 8), 8)] b) perfSet k
      (commandAt 0x0C08 t k s) = (okAnswer [], q) := by
    rw [← hq]
    exact parsed_ok (f := fun b => layout b 12 [below b 0 10, below b 1 8, zeros b 2 2,
      (bits (leAt b 4 4) 15 13 == 0 && bits (leAt b 4 4) 31 24 == 0, 4), (decide (leAt b 8 4 < 8), 8)] b) (layout_of_passes hfits _) _
  have hset := perfCtrlSet_calm k.params (commandAt 0x0C08 t k s)
  have hkept : (commandAt 0x0C08 t k s).calm q ∧ q.perfCtrl = (perfCtrlSet k.params (commandAt 0x0C08 t k s)).perfCtrl := by
    rw [← hq]; split
    · exact ⟨hset.trans (takeSnapshot_calm _), takeSnapshot_perfCtrl _⟩
    · exact ⟨hset, rfl⟩
  obtain ⟨-, hperf, -⟩ := answerWith_own_reports 0x0C08 k (okAnswer []) q (r := ruleOwn) rfl (by nofun)
  have hctrl := (Part.perfCtrl_of_perf hperf).trans hkept.2
  simp only [Part.perfCtrl, Prod.mk.injEq] at hctrl
  obtain ⟨hsel, hfreeze, hsnapFe⟩ := hctrl
  obtain ⟨hselector, hfrozen, hsnaps⟩ := perfCtrlSet_sets k.params (commandAt 0x0C08 t k s)
  exact done_of_calm h rfl rfl hact hkept.1 ⟨hfreeze.trans hfrozen, hsnapFe.trans hsnaps,
    (congrFun (congrFun hsel _) _).trans hselector⟩

end Handlers

end Sys2Proof.Machine

open Sys2Proof Sys2Proof.Machine

/-- Settles O38: each setter by what its handler makes of the part it meets; the answer leaves that. -/
theorem settersSet : Obligations.SettersSet := by
  unfold Obligations.SettersSet
  intro c r s hrow htakes hclass hopen hfits
  have h : r.asked s := ⟨htakes, hclass, hopen, hfits⟩
  show r.done c s
  clear htakes hclass hopen hfits
  match c, hrow with
  | .pairSet .., hrow => exact pairSet_done hrow h
  | .powerCap .., hrow => exact powerCap_done hrow h
  | .wearThresh .., hrow => exact wearThresh_done hrow h
  | .uartRate .., hrow => exact uartRate_done hrow h
  | .watchdog .., hrow => exact watchdog_done hrow h
  | .scrubSet .., hrow => exact scrubSet_done hrow h
  | .evMask .., hrow => exact evMask_done hrow h
  | .evClear .., hrow => exact evClear_done hrow h
  | .cntClear .., hrow => exact cntClear_done hrow h
  | .perfSnapshot .., hrow => exact perfSnapshot_done hrow h
  | .perfSet .., hrow => exact perfSet_done hrow h

end
